-- ==== Sys2Proof/Word.lean ====
section
/-! DEFINITION. The word types of the device: registers are 32 bits wide (R5), memories are bytes. -/

namespace Sys2Proof

/-- A register or table word (R5). -/
abbrev Word := BitVec 32

/-- A byte of DRAM, of an image, of a packet. -/
abbrev Byte := BitVec 8

end Sys2Proof
end

