-- ==== Sys2Proof/Syntax.lean ====
section
/-! DEFINITION. The commands of the block: one constructor of `Instr` for each row of spec/opcode_table.json,
in the table's order. The table gives the rows no operands; the operands here are what the outside world supplies
when the step happens: an index, a payload, data received, a measured count, the outcome of a physical check. -/

namespace Sys2Proof

/-- A 10-bit group received on a lane, and the lane's running disparity before it, which counts only where the lane has
shown none of its own yet (R272). [log 140] -/
structure RxGroup where
  lane : Fin 4
  group : BitVec 10
  positive : Bool
deriving DecidableEq, Repr

/-- How a received packet or Clasp frame ended: with END, with ABT, or at a group that is a code error (R272, R285, R308). [log 133] -/
inductive PktEnd where
  | good | abort
  | codeError (rx : RxGroup)
deriving DecidableEq, Repr

/-- A video packet as received (R283): the lane of its start symbol (R273) and how many cycles of REF ago that symbol
arrived (R296). [log 133] -/
structure VideoPkt where
  startLane : Nat
  streamId : BitVec 16
  fseq : BitVec 32
  line : BitVec 16
  npix : BitVec 16
  fmt : Byte
  rsv : Byte
  payload : List Byte
  crc : BitVec 32
  ending : PktEnd
  age : Nat
deriving DecidableEq, Repr

/-- A Weandi control packet (R298): the lane of its start symbol (R273), the twelve header bytes, the data words, the CRC,
and how many cycles of REF ago the start symbol arrived (R296). [log 133] -/
structure CtlPkt where
  startLane : Nat
  hdr : List Byte
  words : List Word
  crc : BitVec 32
  ending : PktEnd
  age : Nat
deriving DecidableEq, Repr

/-- A Spine general frame (R309): the sixteen header bytes, the data words and the CRC. -/
structure SpnFrame where
  hdr : List Byte
  words : List Word
  crc : BitVec 32
deriving DecidableEq, Repr

/-- The outcome of one PMBus transaction (R235, R236). -/
inductive PmbOutcome where
  | ok (data : BitVec 16)
  | nack | pecError | sclTimeout
deriving DecidableEq, Repr

/-- A request that a requester places in its hardware queue (R253, R254). `bytes` holds one entry for each byte of
the line from `flat` on that a write carries; a read asks for the line that holds `flat`. -/
structure MemReq where
  write : Bool
  flat : Nat
  bytes : List Byte
deriving DecidableEq, Repr

/-- The differences between what was stored and what a read brings back: for each of the eight words the data bits
and the check bits that differ, and the line address reached when it is not the one named (R249, R250). -/
structure ReadNoise where
  data : List (BitVec 64)
  check : List Byte
  reached : Option (BitVec 26)
deriving DecidableEq, Repr

/-- What a controller finds of one rank in MR8 and in training (R241). -/
structure RankFound where
  populated : Bool
  density : Fin 3
  trained : Bool
deriving DecidableEq, Repr

/-- What stands at a block-header position of a lane (R274, R277): the eight symbols (true = K-code), or something
that is no header; `atExpected` says whether it stands at the expected position, `timeNs` is when its first bit came at the
pins, in ns since a moment common to the port's lanes. [log 83, 133] -/
structure HeaderRx where
  syms : List (Bool × Byte)
  codeError : Bool
  atExpected : Bool
  timeNs : Nat
deriving DecidableEq, Repr

/-- A training set as received: sixteen symbols, true marks a K-code (R279). [log 133] -/
structure TrainSet where
  syms : List (Bool × Byte)
  codeError : Bool
  inverted : Bool
deriving DecidableEq, Repr

/-- Direction of an overrange conversion (R394). -/
inductive Overrange where
  | none | low | high
deriving DecidableEq, Repr

/-- The clock selectors of R366. -/
inductive ClockSel where
  | ref | hub | mem | eng0 | eng1
deriving DecidableEq, Repr

/-- What one run of a calibration brought for a DRAM byte lane (R400): coarse write leveling and read gate, the fine
ones, and for each of its eight read bits and then of its eight write bits, tap by tap, which of the sixteen read samples
match the patterns. -/
structure ByteRun where
  codes : List Nat
  fines : List Nat
  samples : List (List (BitVec 16))
deriving DecidableEq, Repr

/-- A readback at one tap (R401): its records, and the first eight bits of the extra record. -/
structure TapRead where
  records : List (BitVec 512)
  extra : Byte
deriving DecidableEq, Repr

/-- What one run of a calibration brought for a chain port at bring-up (R401): the first record as it reads at each offset
of DCLK half-periods in the capture at TAP = 16, and the readbacks at the taps. -/
structure SdoRun where
  capture : List (BitVec 512)
  taps : List TapRead
deriving DecidableEq, Repr

/-- What one run of a calibration brought for a receive lane (R402): the number of passing phases of each EQ code, and at
the code that is kept which of the 64 phases and of the 64 thresholds pass. -/
structure LaneRun where
  counts : List Nat
  phases : List Bool
  thresholds : List Bool
deriving DecidableEq, Repr

/-- The two runs of a calibration pair for one item (R399 to R403): byte lane 4 × rank + byte, chain port, lane of
CAL_LANEi. -/
inductive CalPair where
  | byteLane (item : Nat) (run1 run2 : ByteRun)
  | sdo (port : Nat) (run1 run2 : SdoRun)
  | lane (item : Nat) (run1 run2 : LaneRun)
deriving DecidableEq, Repr

/-- The straps and fuses as they are at the release of RESET_N (R454, R464 step 3). -/
structure Straps where
  mgr : Bool
  bootsrc : BitVec 2
  testmode : Bool
  sec : Bool
  testUnlock : Bool
  keyHash : BitVec 256
  diodes : List Word
deriving DecidableEq, Repr

/-- What BEAD_CONTEXT_SELECT finds at a bead from outside it: for each of its contexts whether its input is there in time,
and whether its output line has room (R20, R89). [log 20] -/
structure BeadInputs where
  ready : BitVec 8
  room : BitVec 8
deriving DecidableEq, Repr

/-- The controller whose buffered write reaches the DRAM, what the read of a partial write meets and what the write leaves
wrong (R251, R256). [log 137] -/
structure WriteIssue where
  ctl : Fin 2
  read : ReadNoise
  written : ReadNoise
deriving DecidableEq, Repr

/-- A DOWN flag that is cleared, and whether VDD_CORE is at 0.70 V or more (R462). [log 46] -/
structure DownClear where
  die : Fin 2
  supply : Bool
deriving DecidableEq, Repr

/-- The commands. Every constructor is a row of spec/opcode_table.json; the docstring names the rule of the row. [log 16] -/
inductive Instr where
  | straitFlitReceive (die : Fin 2) (toEngine : Bool) (flit : BitVec 256) (crc : BitVec 16)  -- R28
  | straitRetrainDone (die : Fin 2) (ok : Bool)  -- R28
  | downClear (clear : DownClear)  -- R30
  | straitTrainingDone (die : Fin 2) (ok : Bool)  -- R30
  | beadContextSelect (isle : Fin 8) (strand : Fin 4) (bead : Fin 8) (inputs : BeadInputs)  -- R20
  | load (src : BitVec 2) (dryrun : Bool)  -- R52
  | abort  -- R52
  | revert  -- R56
  | fetchDone (image : Option (List Byte))  -- R52; none = flash read error
  | checkDone  -- R468
  | authDone  -- R49
  | admissionDone  -- R60
  | apply  -- R52
  | commit  -- R172
  | commitWindowOpen  -- R171
  | commitWindowClose  -- R171
  | videoPacketReceive (port : Fin 3) (pkt : VideoPkt)  -- R285
  | publish (layer : Fin 8)  -- R83
  | bankLoadStart (feed : Fin 4)  -- R164
  | bankLoadComplete (feed : Fin 4)  -- R164
  | tableCopyDone  -- R105
  | coefRewrite (table : Nat)  -- R106
  | writebackLine (feed : Fin 4) (line : Fin 1024) (straitRoom : Bool)  -- R112
  | writebackPublish (feed : Fin 4)  -- R109
  | monitorPacketSend (feed : Fin 4)  -- R110
  | guardSumsComplete (feed : Fin 4)  -- R150
  | agePoisonClear  -- R140
  | frameStart  -- R155
  | rowBoundary (port : Fin 64)  -- R196
  | genlockEdge (rising : Bool) (refCycles : Nat)  -- R167
  | genlockVirtualInstant  -- R167
  | pllScanLocked  -- R177
  | chainLineShift (port : Fin 64) (missing : List Nat)  -- R191; value slots found empty, SD0 slots 2n, SD1 slots 2n+1
  | strb (port : Fin 64)  -- R193
  | row (port : Fin 64) (payload : BitVec 20) (complete : Bool)  -- R194
  | bwr (port : Fin 64) (payload : BitVec 20) (complete : Bool)  -- R194
  | bsel (port : Fin 64) (payload : BitVec 20) (complete : Bool)  -- R194
  | rdbk (port : Fin 64) (payload : BitVec 20) (complete : Bool)  -- R202
  | glnt (port : Fin 64) (payload : BitVec 20) (complete : Bool)  -- R201
  | cur (port : Fin 64) (payload : BitVec 20) (complete : Bool)  -- R194
  | pwm (port : Fin 64) (payload : BitVec 20) (complete : Bool)  -- R194
  | gdly (port : Fin 64) (payload : BitVec 20) (complete : Bool)  -- R194
  | blnk (port : Fin 64) (payload : BitVec 20) (complete : Bool)  -- R199
  | sync (port : Fin 64) (complete : Bool)  -- R194
  | win (port : Fin 64) (payload : BitVec 20) (complete : Bool)  -- R194
  | readbackReceive (port : Fin 64) (records : List (BitVec 512)) (extra : Byte) (monitor : List Bool)  -- R207
  | forceBlank (on : Bool)  -- R199
  | pmbusTransactionDone (bus : Fin 2) (outcome : PmbOutcome)  -- R235
  | pmbusRetry (domain : Fin 16)  -- R236
  | memRequest (queue : Fin 32) (req : MemReq)  -- R254
  | memAccept (ctl : Fin 2)  -- R255
  | memReadComplete (ctl : Fin 2) (noise : ReadNoise)  -- R250
  | memWriteComplete (write : WriteIssue)  -- R256
  | refreshDue (rank : Fin 4) (bank : Fin 8) (busy : Bool)  -- R257
  | mr4Poll (code0 code1 code2 code3 : BitVec 3)  -- R257
  | refreshWindowStart  -- R267
  | ceWindowEnd  -- R259
  | scrubStep (noise : ReadNoise)  -- R261
  | spareStart (rank : Fin 4)  -- R262
  | migrationLineCopy (noise : ReadNoise)  -- R263
  | timingRecal (rank : Fin 4)  -- R258
  | memReconfigDone  -- R244
  | dramTrainingDone (r0 r1 r2 r3 : RankFound)  -- R241
  | hostLineBufferFlush  -- R269
  | receiverDetect (port : Fin 8) (lanes : BitVec 4)  -- R280
  | linkStateTimeout (port : Fin 8)  -- R280
  | roleHoldoffEnd (port : Fin 8)  -- R281
  | ts1Receive (port : Fin 8) (lane : Fin 4) (ts : TrainSet)  -- R279
  | ts2Receive (port : Fin 8) (lane : Fin 4) (ts : TrainSet)  -- R281
  | blockHeaderReceive (port : Fin 8) (lane : Fin 4) (hdr : HeaderRx)  -- R277
  | skpReceive (port : Fin 8) (lane : Fin 4) (fill : Nat)  -- R276
  | videoTimeout  -- R295
  | revertHoldExpiry  -- R297
  | foSwitch  -- R297
  | retrain (port : Fin 3)  -- R280
  | clrfail (port : Fin 3)  -- R281
  | packetSelect (port : Fin 8)  -- R292, R312
  | lnkRd (port : Fin 3) (pkt : CtlPkt)  -- R299
  | lnkWr (port : Fin 3) (pkt : CtlPkt)  -- R299
  | lnkRdr (port : Fin 3) (pkt : CtlPkt)  -- R300
  | lnkWrr (port : Fin 3) (pkt : CtlPkt)  -- R300
  | cmSend  -- R300
  | cmTimeout (tag : Fin 64)  -- R300
  | quarantineExpiry (spine : Bool) (tag : Fin 64)  -- R300, R320
  | cmRspRead  -- R304
  | hb (port : Fin 5) (bytes : List Byte) (ending : PktEnd)  -- R350
  | cmd (port : Fin 5) (bytes : List Byte) (ending : PktEnd)  -- R351
  | req (port : Fin 5) (bytes : List Byte) (ending : PktEnd)  -- R352
  | rst (port : Fin 5) (bytes : List Byte) (ending : PktEnd)  -- R350
  | spnRd (port : Fin 5) (frame : SpnFrame)  -- R319
  | spnWr (port : Fin 5) (frame : SpnFrame)  -- R319
  | spnRdr (port : Fin 5) (frame : SpnFrame)  -- R320
  | spnWrr (port : Fin 5) (frame : SpnFrame)  -- R320
  | img (port : Fin 5) (frame : SpnFrame)  -- R322
  | imge (port : Fin 5) (frame : SpnFrame)  -- R322
  | imgr (port : Fin 5) (frame : SpnFrame)  -- R323
  | flt (port : Fin 5) (frame : SpnFrame)  -- R324
  | fsync (port : Fin 5) (frame : SpnFrame)  -- R318
  | time (port : Fin 5) (frame : SpnFrame)  -- R317
  | walk (port : Fin 5) (frame : SpnFrame)  -- R314
  | done (port : Fin 5) (frame : SpnFrame)  -- R314
  | walkStart  -- R314
  | autowalkTimer  -- R314
  | doneTimeout (sdn : Fin 4)  -- R314
  | timeHoldTimeout  -- R317
  | tsetWrite (hi : Word)  -- R315
  | timeLoRead (requester : Fin 3)  -- R439
  | raSend  -- R320
  | raTimeout (tag : Fin 64)  -- R320
  | mcStart  -- R321
  | mcChunkSend  -- R321
  | imgrWaitTimeout  -- R323
  | finRead  -- R328
  | claspCycle (gclkActive : Bool)  -- R340
  | clsFilterAccept (line : Fin 4)  -- R334
  | discTimeout (pair : Fin 2)  -- R336
  | clsKey (key : Word)  -- R342
  | keyTimeout  -- R342
  | arm  -- R343
  | sdkReq (on : Bool)  -- R339
  | heartbeatSend  -- R351
  | heartbeatTimeout  -- R351
  | reqResend  -- R352
  | offPulseTest (lineB : Bool) (readback : Bool)  -- R346
  | outputReadbackCheck (a b : Bool)  -- R346
  | selfTest (logicOk : Bool)  -- R347
  | clsClockCheck (clsCycles : Nat)  -- R347
  | lkWrite (addr : BitVec 24) (value : Word)  -- R9
  | xtalQualWindow (cycles : Nat) (swing : Bool)  -- R361
  | xtalQualTimeout  -- R361
  | xtalLoss  -- R362
  | srcfailClear  -- R362
  | pllLock (loop : Fin 6)  -- R363
  | pllUnlock (loop : Fin 6)  -- R363
  | clockSwitch (sel : ClockSel) (edge : Nat)  -- R366; edge: cycles of the new clock until the old one made its next edge
  | gateRequest (gate : BitVec 6)  -- R367
  | gateQuiesce (block : Fin 19)  -- R367
  | gateTimeout (block : Fin 19)  -- R367
  | pwrReq (code : BitVec 3)  -- R371
  | idleTick  -- R371
  | pwrWake  -- R374
  | wakeSource (source : Fin 5) (lost : BitVec 16)  -- R374; 0 Spine, 1 host, 2 GENLOCK, 3 Clasp input, 4 timer; lost: banks
  | wakeStep (ready : Bool) (lost : BitVec 16)  -- R375; lost: retained banks that did not keep their contents (R381)
  | wakeReadyRetry (ready : Bool)  -- R376
  | wakeout (sdn : BitVec 4)  -- R374
  | diodeReading (die : Fin 3) (code : BitVec 12) (clamped : Overrange)  -- R383
  | diodeService  -- R390
  | adcStart  -- R392
  | adcTimer  -- R392
  | adcPinTrigger (rising : Bool)  -- R392
  | adcConversionDone (vin : Int) (vref : Nat)  -- R388, R394
  | scalZero  -- R396
  | scalFull  -- R396
  | scalCaptureDone (sum : Nat) (ovr : Nat)  -- R396
  | calRun (groups : BitVec 4)  -- R405
  | calRunDone (group : Fin 4) (items : List CalPair)  -- R403
  | chkStart (unit : Fin 8)  -- R409
  | chkStop (unit : Fin 8)  -- R412
  | eventTake  -- R417
  | promoWindowExpiry (source : Fin 192)  -- R418
  | promoClear (source : Fin 192)  -- R418
  | srcWrite (source : Fin 192) (value : Word)  -- R418
  | faultNPulseEnd  -- R420
  | holdClear  -- R420
  | injGo (index : Byte)  -- R429
  | logClear  -- R426
  | hostRd (addr : BitVec 24) (count : Byte) (cut : Bool)  -- R432
  | hostWr (addr : BitVec 24) (count : Byte) (words : List Word) (cut : Bool)  -- R433
  | qrd (addr : BitVec 24) (count : Byte) (cut : Bool)  -- R432
  | qwr (addr : BitVec 24) (count : Byte) (words : List Word) (cut : Bool)  -- R433
  | rdsr  -- R431
  | hostReadTimeout  -- R434
  | registerWrite (addr : BitVec 24) (value : Word)  -- R442
  | flcmdGo (value : Word)  -- R447
  | flashTransferDone (data : List Byte)  -- R447
  | flashPoll (busy : Bool) (expired : Bool)  -- R447
  | resetAssert (cycles : Nat)  -- R463
  | resetRelease (straps : Straps)  -- R464
  | internalPor  -- R462
  | vddCoreLow  -- R462
  | raRspRead  -- R327
  | blockHeaderSend (port : Fin 8) (timeNs : Nat)  -- R316
  | clsInChange (line : Fin 4) (level : Bool)  -- R334
  | claspWatchdogExpiry  -- R347
  | pllLockTimeout (loop : Fin 6)  -- R363
  | laneWidthTimeout (port : Fin 8)  -- R280
  | chkOnchipScanDone (unit : Fin 8)  -- R410
  | timingRecalDone (rank : Fin 4)  -- R258
  | codeError (port : Fin 8) (rx : RxGroup)  -- R272
  | elasticBufferSlip (port : Fin 8) (lane : Fin 4)  -- R276
  | hostUnknownOpcode (opcode : Byte)  -- R431
  | spnInvalidFrame (port : Fin 5) (crcFailed : Bool)  -- R310
  | lnkInvalidControl (port : Fin 3)  -- R298
deriving DecidableEq, Repr

end Sys2Proof
end

