-- ==== Sys2Proof/Decode.lean ====
section
/-! DEFINITION. The table gives no row any bits: no word spells a command. -/

namespace Sys2Proof

/-- The command that the low `nbits` bits of a word spell by the table's bits: none, since every row of
spec/opcode_table.json has an empty list of fields. [log 1] -/
def decodeTableWord (_nbits _w : Nat) : Option Instr := none

end Sys2Proof
end

