-- ==== Sys2Proof/Config.lean ====
section
/-! DEFINITION. What the manual leaves open: free values. Each constant here has no body, so nothing can be proved of
its value and every claim holds for every value. -/

namespace Sys2Proof.Config

/-- The n-th word that the manual leaves open: `State.freeCtr` counts them (log entry 4). -/
opaque freeWord : Nat → Word

/-- A byte of DRAM after a reconfiguration made the contents undefined (R244): by epoch and address (log entry 6). -/
opaque freeDramByte : Nat → Nat → Byte

/-- A word of a locket bank whose contents the manual leaves open: by epoch and address (log entry 13). -/
opaque freeLocket : Nat → Nat → Word

/-- The column of a data bit in the (72,64) Hsiao code of R249, before its weight is made odd: the manual names the code
and not its matrix (log entry 8). -/
opaque hsiaoColumn : Nat → Byte

end Sys2Proof.Config
end

