-- ==== Sys2Proof/Machine/State.lean ====
section
/-! DEFINITION. The state of the block as plain data, the reasons a step can stop, and the state after reset.
A `Tab` is a sparse table: entries with rising keys, an unlisted key reads as the table's default. -/

namespace Sys2Proof.Machine

/-- Why a step stops with a fault. The manual gives the block no condition in which it stops: every abnormal
condition sets flags, counts and raises an event. So there is no constructor, and no command faults (safe). -/
inductive Fault where
deriving DecidableEq, Repr

/-- Why a step has no meaning. -/
inductive Refusal where
  /-- Raised by `exec` for a row of the table that has no meaning yet (safe: nothing is claimed of it). -/
  | notModelled (mnemonic : String)
deriving DecidableEq, Repr

/-- A field of a register: the register's byte address and the field's bits. -/
structure Fld where
  addr : Nat
  msb : Nat
  lsb : Nat
deriving DecidableEq, Repr

/-- A sparse table by index. -/
abbrev Tab (α : Type) := List (Nat × α)

/-- One occurrence of an event in its source's pending count (R417). -/
structure Occ where
  data : Word
  inj : Bool
deriving DecidableEq, Repr

/-- One entry of the event log (R425), its four words. -/
structure LogEntry where
  time : BitVec 64
  data : Word
  info : Word
deriving DecidableEq, Repr

/-- An entry of a hardware queue (R254): a read or write of one flat line with the bytes a write carries, and the MEM
cycles it has waited at the head (R255). -/
structure MemEntry where
  write : Bool
  flat : Nat
  bytes : List (Option Byte)
  waited : Nat
deriving DecidableEq, Repr

/-- An accepted read that has not been delivered (R255): its queue, its flat line address, the rank line it goes to,
its age in MEM cycles, its data as the memory accepted it, whether they stand poisoned, whether they came from the
write buffer, whether a later write to the line was accepted (R259), and whether the data have come; `seq` numbers the
accepted reads of both controllers. -/
structure InFlight where
  seq : Nat
  queue : Nat
  flat : Nat
  line : Nat
  age : Nat
  data : List Byte
  poisoned : Bool
  forwarded : Bool
  overtaken : Bool
  done : Bool
deriving DecidableEq, Repr

/-- An entry of a controller's write buffer (R256): the rank line, the bytes it carries, the queues whose operations
it merges. -/
structure WEntry where
  line : Nat
  bytes : List (Option Byte)
  queues : List Nat
deriving DecidableEq, Repr

/-- An entry of a bank's row tracker (R267). -/
structure HotEntry where
  row : Nat
  total : Nat
  counts : Tab Nat
deriving DecidableEq, Repr

/-- A line delivered to a queue: its flat line address, bytes and poison mark. -/
structure Delivered where
  flat : Nat
  data : List Byte
  poisoned : Bool
deriving DecidableEq, Repr

/-- A host read that still waits for words (R432): those fetched, the address of the next one, how many are missing,
whether a word brought error 6, and whether the line of the next word has been asked of Q25. -/
structure HostRead where
  got : List Word
  addr : Nat
  left : Nat
  bad : Bool
  asked : Bool
deriving DecidableEq, Repr

/-- What the host has asked for and has not been done (R435): a written word, or a read that it has abandoned, whose
accesses still come (R436). [log 103] -/
inductive HostJob where
  | write (addr : Nat) (word : Word)
  | dropped (r : HostRead)
deriving DecidableEq, Repr

/-- What the flash master is doing (R446, R447); `dropped` is a transfer of FETCH that started before its load was
aborted. -/
inductive FlashJob where
  | sfdp | fetch | dropped | host | poll | locket (bank : Nat)
deriving DecidableEq, Repr

/-- Where a commit stands (R54, R70 to R73): none, held behind an image in ADMIT, under admission, or arrived and
waiting for a window. -/
inductive CommitPhase where
  | idle | held | admitting | arrived
deriving DecidableEq, Repr

/-- Where a restructure stands (R72): none; admitted, waiting for its frame start; blanked while tables are written;
the new pipeline runs blank; and whether the controllers are done (R244) is in `MemState.reconfig`. -/
inductive Restructure where
  | none | waiting | writing | running
deriving DecidableEq, Repr

/-- A working pixel (R81): three components and the key weight. -/
structure Px where
  c0 : Nat
  c1 : Nat
  c2 : Nat
  w : Nat
deriving DecidableEq, Repr

/-- The source that a layer selects at the start of a bank load (R83, R84): format, first byte, pitch in bytes, and the
slot and buffer it pins. -/
structure LaySource where
  fmt : Nat
  base : Nat
  pitch : Nat
  slot : Option (Nat × Nat)
deriving DecidableEq, Repr

/-- A bank load of a feed (R84, R124, R164): the values it uses throughout and how far it has come. -/
structure Load where
  /-- bank it writes in the drivers of E0 -/
  bank : Nat
  /-- bank it writes in the drivers of E1 -/
  bankE1 : Nat
  /-- register values in force at its start -/
  regs : Tab Word
  /-- tables in the beads at its start -/
  tables : Tab Word
  /-- front copies at its start, for palettes -/
  front : Tab Word
  /-- source of each of the eight layers; none is transparent -/
  srcs : List (Option LaySource)
  /-- zone gains, key 3 * zone + colour -/
  gains : Tab Nat
  /-- GUARD attenuation -/
  att : Nat
  /-- dither phase -/
  phase : Nat
  /-- grey cap of Luminance Ceiling (R332) -/
  cap : Option Nat
  /-- rows finished, by TOPO record -/
  done : Tab Nat
  /-- output lines, key 8192 * record + row -/
  lines : Tab (List Px)
  /-- values that PACK has emitted for a band row, key 128 * isle + row, three per column -/
  packed : Tab (List Nat)
  /-- sums at the DITH input, key 3 * zone + colour (R139) -/
  dose : Tab Nat
  /-- GUARD sums, key 3 * zone + (0 Y, 1 R, 2 R + G + B) (R144) -/
  sums : Tab Nat
  /-- lines shifted per port -/
  shifted : Tab Nat
  /-- input signatures of the feed's enabled layers at its start (R184) -/
  sigs : List Word
  /-- its GUARD sums have reached H (R150) -/
  sent : Bool
  /-- engine dies whose underrun event has been raised (R181) -/
  under : Tab Bool
  /-- layers whose line buffer has run empty, 8 for the facet map (R89, R132) -/
  empty : Tab Bool
  /-- rows that the fetchers have delivered to an isle, key 8192 * (8 * isle + layer) + row (R87) -/
  rowsIn : Tab (List Px)
  /-- how many, key 8 * isle + layer -/
  rowCount : Tab Nat
deriving DecidableEq, Repr

/-- A frame that a slot is writing (R75, R76): its sequence number, its buffer (none where the frame is discarded), the
lines stored, and whether it has ended. -/
structure InFrame where
  seq : Nat
  buf : Option Nat
  lines : Tab Bool
  ended : Bool
deriving DecidableEq, Repr

/-- A capture in progress (R107 to R112): its buffer, ring base and decimation, coding, the
tile rows that have come, the tile rows accounted for, and whether a line was dropped. -/
structure Capture where
  buf : Nat
  base : Nat
  dec : Nat
  enc : Bool
  rows : Tab (List Px)
  written : Tab Bool
  dropped : Bool
deriving DecidableEq, Repr

/-- A monitor stream being sent (R110): buffer, next line, decimation, stream ID, port code, frame sequence. -/
structure Monitor where
  buf : Nat
  line : Nat
  base : Nat
  dec : Nat
  stream : Nat
  port : Nat
  seq : Nat
deriving DecidableEq, Repr

/-- One frame in the GUARD window (R146): whether a luminance and a red transition were counted, and whether upward. -/
structure GuardFrame where
  lum : Option Bool
  red : Option Bool
deriving DecidableEq, Repr

/-- Where a relock stands (R177): none; blanked and waiting for PLL_SCAN; locked and waiting for the first frame start
of the new set; its loads run blank. -/
inductive Relock where
  | none | locking | locked | loading
deriving DecidableEq, Repr

/-- A command frame that waits on a port (R208, R209): its width and payload, whether it belongs to a resync, whether it
goes in class 0 (R332), and whether its deferral has been counted. -/
structure Frame where
  w : Nat
  payload : Nat
  resync : Bool
  urgent : Bool
  deferred : Bool
deriving DecidableEq, Repr

/-- A glint that the planner has placed (R225, R226). -/
structure Glint where
  all : Bool
  driver : Nat
  channel : Nat
  line : Nat
  deferred : Bool
deriving DecidableEq, Repr

/-- The drivers of one chain, which hear the same frames (R193 to R201). -/
structure Drivers where
  cmdcnt : Nat
  frameErr : Bool
  por : Bool
  blank : Bool
  /-- a release waits for the next STRB -/
  release : Bool
  bank : Nat
  bankNext : Option Nat
  /-- ROW in force: payload, none before the first -/
  row : Option Nat
  rowNext : Option Nat
  cur : List Nat
  curNext : List (Option Nat)
  delta : List Nat
  deltaNext : List (Option Nat)
  /-- PWM payload in force: GMUL and S - 1 -/
  pwm : Nat
  pwmNext : Option Nat
  on : Nat
  onNext : Option Nat
  /-- part in the readback register -/
  part : Option Nat
  /-- shift registers: the values last shifted in on SD0 and SD1, latest first, at most 24 per driver -/
  sd0 : List Nat
  sd1 : List Nat
  /-- lines latched, key 64 * bank + line: for each driver its 48 channels -/
  banks : Tab (List Nat)
  /-- armed glints (driver, channel, line), at most four per driver -/
  glints : List (Nat × Nat × Nat)
  /-- glints that have fired since the last RDBK of their part -/
  fired : List (Nat × Nat × Nat)
deriving DecidableEq, Repr

/-- A chain after power-up (R200). -/
def Drivers.powerUp : Drivers :=
  ⟨0, false, true, true, false, 0, none, none, none, [0, 0, 0], [none, none, none], [0, 0, 0, 0, 0, 0, 0, 0],
    [none, none, none, none, none, none, none, none], 0, none, 0, none, none, [], [], [], [], []⟩

/-- How far a port's bring-up has come (R200): not begun, its SDO calibration, its readbacks, up, or failed. -/
inductive Bringup where
  | none | calibrating | reading | up | failed
deriving DecidableEq, Repr

/-- One chain port and its sequencer (R187 to R209). -/
structure Port where
  drv : Drivers
  bringup : Bringup
  /-- frames waiting -/
  queue : List Frame
  /-- CMDCNT that the sequencer expects (R206) -/
  count : Nat
  /-- counted frames sent in this frame (R209) -/
  sent : Nat
  /-- EV_CHN_DEFER raised in this frame -/
  deferRaised : Bool
  /-- row period of the frame that is running -/
  row : Option Nat
  /-- next part to read in this frame (R202) -/
  part : Nat
  /-- a readback is being shifted: its part -/
  reading : Option Nat
  /-- CMDCNT expected of the readback being shifted (R206) -/
  rbCount : Nat
  /-- readbacks in a row without an accepted record (R207) -/
  silent : Nat
  /-- readbacks since row timing began in this frame that brought an accepted record (R348) -/
  heard : Bool
  /-- frames in a row without an accepted record (R348) -/
  unheard : Nat
  /-- codes last sent (R207) -/
  codes : List Nat
  /-- the values last shifted on SD0 and SD1 (R181) -/
  last : List Nat
  /-- feeds whose loads wait on this port, in the order of their start (R164) -/
  loads : List Nat
  /-- R33 pointers by class -/
  ptr : Tab Nat
  /-- planned glints -/
  glints : List Glint
  /-- blank was in force since the previous RDBK of a part (R220) -/
  dark : Tab Bool
  /-- pulses were sent since the previous RDBK of a part (R231) -/
  lit : Tab Bool
  /-- the RDBK was sent after the capped codes had been applied (R348) -/
  capped : Bool
  /-- SDK was in force when the RDBK was sent (R347) -/
  sdk : Bool
  /-- parts in whose last readback a code stood above its cap (R348) -/
  past : Tab Bool
  /-- planner pointers by part (R225) -/
  plan : Tab Nat
  /-- glints sent to a driver for lines of a part since the last RDBK of the part, key 32 * part + driver (R201) -/
  probes : Tab Nat
  /-- the timing set whose PWM and WIN it sent last (R176) -/
  set : List Word
deriving DecidableEq, Repr

/-- A port before its first bring-up. -/
def Port.idle : Port :=
  ⟨.powerUp, .none, [], 0, 0, false, none, 0, none, 0, 0, false, 0, [0, 0, 0], [0, 0], [], [], [], [], [], false, false, [], [], [], []⟩

/-- A PMBus transaction (R235): its domain and kind: 0 OPERATION, 1 VOUT_COMMAND, 2 STATUS_WORD, 3 READ_VOUT,
4 READ_IOUT; its class; its data in mV or the OPERATION byte; the data word on the bus, once it has started; failures so
far; whether it waits for its retry. -/
structure PmbTxn where
  domain : Nat
  kind : Nat
  cls : Nat
  data : Nat
  wire : Nat
  fails : Nat
  waiting : Bool
deriving DecidableEq, Repr

/-- The loop of one supply domain (R231 to R236). -/
structure PmbLoop where
  running : Bool
  trim : Int
  frame : Nat
  low : Bool
  seen : Bool
  notHigh : Bool
  ipredMax : Nat
  ipred : Nat
  held : Bool
  vmisOnce : Bool
  regBits : Nat
  failed : Bool
  round : Nat
  spoiled : Bool
deriving DecidableEq, Repr

/-- One receive lane (R276 to R279). -/
structure Lane where
  /-- valid training sets TS1 in a row, at most 8 -/
  ts1 : Nat
  /-- of those, sets with LOCKED in a row -/
  lockedTs1 : Nat
  /-- the lane inverts its input (R278) -/
  inv : Bool
  /-- 0 while the lane hunts; else 1 + valid headers at their expected positions before lock -/
  headers : Nat
  /-- block-locked -/
  locked : Bool
  /-- the last 32 judged positions, latest first: true is a bad header (R277) -/
  judged : List Bool
  /-- SEQ, lane number and time in ns of the latest valid header -/
  last : Option (Nat × Nat × Nat)
  /-- fill of the elastic buffer as of the latest SKP ordered set -/
  fill : Nat
deriving DecidableEq, Repr

/-- A lane that has received nothing. -/
def Lane.idle : Lane := ⟨0, 0, false, 0, false, [], none, 16⟩

/-- The bring-up of one link port (R280, R281); its state code and rate stand in its STAT register. -/
structure LinkPort where
  lanes : Tab Lane
  /-- lanes that detected a receiver -/
  detected : Nat
  /-- W in lanes; 0 until it is fixed -/
  width : Nat
  /-- the attempt was entered from CAPS at a new rate -/
  attempt : Bool
  /-- hold-off after a role error -/
  holdoff : Bool
  /-- the last TS2 on lane 0, its symbol values -/
  ts2 : List Nat
  /-- the port sends ACK -/
  ack : Bool
  /-- TS2 sent with ACK, at most 8 -/
  ackSent : Nat
  /-- TS2 received with ACK, at most 2 -/
  ackGot : Nat
  /-- valid headers on lane 0 in a row with UPOK, at most 16 -/
  upok : Nat
  /-- and without -/
  upoff : Nat
  /-- SEQ of the next header sent -/
  seq : Nat
  /-- a Spine port keeps to rate 0 (R306) -/
  slow : Bool
  /-- training sets sent since the last SKP ordered set, below 32 (R275) -/
  sets : Nat
  /-- the block being sent has an odd SEQ: a SKP ordered set follows it (R275) -/
  odd : Bool
deriving DecidableEq, Repr

/-- A port in DETECT. -/
def LinkPort.idle : LinkPort := ⟨[], 0, 0, false, false, [], false, 0, 0, 0, 0, 0, false, 0, false⟩

/-- A packet in a transmit or forward queue (R290): whether it is a control packet, its bytes from the header to the CRC,
and whether it ends with ABT. -/
structure TxPkt where
  control : Bool
  bytes : List Byte
  abort : Bool
deriving DecidableEq, Repr

/-- A request of the control or remote access requester (R300, R320). -/
structure AccessReq where
  op : Nat
  port : Nat
  cnt : Nat
  dst : Nat
  addr : Nat
  page : Nat
  words : List Word
deriving DecidableEq, Repr

/-- A result in a response queue (R300, R320). -/
structure AccessRes where
  status : Nat
  tag : Nat
  cnt : Nat
  src : Nat
  words : List Word
deriving DecidableEq, Repr

/-- A requester (R300, R320): the state of each tag, 0 free, 1 outstanding, 2 in quarantine; the destination and word
count of what a tag asked; the response queue, oldest first; the request that waits. -/
structure Requester where
  tags : Tab Nat
  asked : Tab (Nat × Nat)
  results : List AccessRes
  waiting : Option AccessReq
deriving DecidableEq, Repr

/-- A requester at rest. -/
def Requester.idle : Requester := ⟨[], [], [], none⟩

/-- A topology walk that runs in this device (R314): NEXT, DEPTH and OVER of the WALK, devices without an address so far,
and the SDN port whose DONE is awaited. -/
structure Walk where
  next : Nat
  depth : Nat
  past : Bool
  unaddr : Nat
  sdn : Nat
deriving DecidableEq, Repr

/-- The roll-up of a session in this device (R323): session, the SDN ports still awaited, the sums so far, the lowest
failed address with its reason, ports that timed out. -/
structure RollUp where
  session : Nat
  waits : List Nat
  ok : Nat
  fail : Nat
  first : Option (Nat × Nat)
  tmo : Nat
deriving DecidableEq, Repr

/-- A fault report in the manager's inbox (R324, R328). -/
structure FaultRep where
  src : Nat
  lost : Nat
  event : Nat
  cls : Nat
  words : List Word
deriving DecidableEq, Repr

/-- What the power controller does (R370 to R376): nothing; entry to a state; a wake from DOZE; a restart after an
abort. -/
inductive PwrPhase where
  | steady | entering (target : Nat) | waking | restarting
deriving DecidableEq, Repr

/-- Fault collector (R417 to R424) -/
structure FltState where
  /-- pending occurrences of a source, oldest first, at most 15 (R417) -/
  pend : Tab (List Occ) := []
  /-- occurrences of the source were lost since its last entry (R417) -/
  lost : Tab Bool := []
  /-- occurrences in the open window of a source; 0 is no window (R418) -/
  count : Tab Nat := []
  /-- highest class with which a source has set its FLT_PEND bit (R424) -/
  cls : Tab Nat := []
  /-- R33 pointers of the four classes, 0 = SEVERE -/
  ptr : Tab Nat := []
  /-- reports counted for the LOST field of the next FLT (R422, R312) -/
  unsent : Nat := 0
deriving DecidableEq, Repr

/-- Event log beside LB0 (R425 to R427) -/
structure LogState where
  /-- staging queue, at most 32 (R427) -/
  staged : List LogEntry := []
  /-- EV_LOG_FULL raised since the log filled (R426) -/
  fullRaised : Bool := false
deriving DecidableEq, Repr

/-- Host QSPI target (R430 to R439) -/
structure HostState where
  /-- accepted accesses that have not been executed, oldest first (R435, R436) -/
  jobs : List HostJob := []
  /-- a read that waits for words -/
  reading : Option HostRead := none
  /-- marker of the last read answered (R432) -/
  marker : Byte := 0
  /-- words of the last read answered -/
  words : List Word := []
  /-- the 32 bits the last RDSR sent (R431) -/
  status : Word := 0
  /-- latched SPN_TIME_HI per requester (R439): 0 host, 1 Spine, 2 Weandi -/
  timeHi : Tab Word := []
deriving DecidableEq, Repr

/-- Flash QSPI master (R445 to R447) -/
structure FlashState where
  /-- the transfer in progress -/
  running : Option FlashJob := none
  /-- transfers due -/
  waiting : List FlashJob := []
  /-- the SFDP table has been read since reset or wake (R446) -/
  parsed : Bool := false
  /-- opcode of boot reads (R446) -/
  readOp : Nat := 3
  /-- R33 pointers -/
  ptr : Tab Nat := []
deriving DecidableEq, Repr

/-- Check units beside their registers (R408 to R414) -/
structure ChkState where
  /-- a snoop waits for its first boundary (R411) -/
  armed : Tab Bool := []
  /-- the snoop was started with LEN 0 (R411) -/
  endless : Tab Bool := []
  /-- the unit that waits for the line asked of Q27 (R410) -/
  owner : Option Nat := none
  /-- R33 pointer of Q27 -/
  ptr : Tab Nat := []
  /-- a START of CHK7 waits for PWR to clear (R414) -/
  held : Bool := false
  /-- a scan was stopped and ends after its read in flight (R412) -/
  ending : Tab Bool := []
deriving DecidableEq, Repr

/-- Frame memory (R238 to R269) -/
structure MemState where
  /-- DRAM bytes by rank line and byte: key (rank * 2^25 + n) * 64 + offset (R245) -/
  cells : List Host.Cell := []
  /-- rank lines that stand poisoned (R250) -/
  poison : Tab Bool := []
  /-- what stands wrong in a rank line (R249, R250): data and check bits that differ from those written, and the line
  address whose fold its check bytes carry where that is not its own -/
  wrong : Tab (Option ReadNoise) := []
  /-- how often the contents became undefined (R244) -/
  epoch : Nat := 0
  /-- ranks found populated (R241) -/
  populated : Tab Bool := []
  /-- Q0 to Q31 (R254) -/
  queues : Tab (List MemEntry) := []
  /-- accepted reads per controller, oldest first -/
  inflight : Tab (List InFlight) := []
  /-- reads accepted so far -/
  accepted : Nat := 0
  /-- write buffer per controller, oldest first (R256) -/
  wbuf : Tab (List WEntry) := []
  /-- write drain in progress per controller (R256) -/
  drain : Tab Bool := []
  /-- R33 pointers, key 8 * controller + class -/
  ptr : Tab Nat := []
  /-- MEM cycles per controller -/
  cycle : Tab Nat := []
  /-- ECC line cache per controller: line and dirty flag, oldest first (R252) -/
  ecc : Tab (List (Nat × Bool)) := []
  /-- open row + 1 per bank, as the issued work left it, key 8 * rank + bank; 0 is closed -/
  row : Tab Nat := []
  /-- refreshes postponed per bank (R257) -/
  postponed : Tab Nat := []
  /-- ranks held by a timing recalibration (R258) -/
  hold : Tab Bool := []
  /-- runs that are left of a timing recalibration of a rank; they wait for commit windows (R258, R400) -/
  recalDue : Tab Nat := []
  /-- CE count of a rank in the running window (R259) -/
  ceCount : Tab Nat := []
  /-- the limit was reached in the running window (R259) -/
  ceHit : Tab Bool := []
  /-- rank line that the scrubber reads next (R261) -/
  scrub : Nat := 0
  /-- row trackers per bank, key 8 * rank + bank (R267) -/
  hot : Tab (List HotEntry) := []
  /-- 1 + MEM cycle from which a throttled queue may activate again, key 32 * (8 * rank + bank) + queue (R268) -/
  throttle : Tab Nat := []
  /-- the line last delivered to a queue -/
  got : Tab (Option Delivered) := []
  /-- ranks in self-refresh (R264, R266) -/
  asleep : Tab Bool := []
  /-- flat line of the host line buffer (R269) -/
  lineBase : Option Nat := none
  /-- bytes of the host line buffer -/
  lineBuf : List (Option Byte) := []
  /-- the line buffer waits for room in Q25 to be written to memory (R37) -/
  lineDue : Bool := false
  /-- DRAM section that the controllers are taking up (R244) -/
  reconfig : Option (List Byte) := none
  /-- writes of a stalled engine that wait for room in its queue, oldest first (R37) -/
  behind : Tab (List MemEntry) := []
  /-- a timing recalibration has been made in this commit window (R400) -/
  recalMade : Bool := false
  /-- start-up training has been run (R241, R464): the reset and clock-enable pins of the DRAM are no longer held low (R460) -/
  trained : Bool := false
deriving DecidableEq, Repr

/-- Tables of the LUT window (R104 to R106, R125), by byte address -/
structure TableState where
  /-- front copies -/
  front : Tab Word := []
  /-- back copies -/
  back : Tab Word := []
  /-- tables written since the last commit -/
  dirty : Tab Bool := []
  /-- tables whose new front is being copied to the back -/
  copying : List Nat := []
  /-- the copies that beads and strands hold (R106) -/
  beads : Tab Word := []
  /-- tables whose copies in beads and strands are out of date -/
  rewrite : Tab Bool := []
deriving DecidableEq, Repr

/-- Image loader beside its registers (R39 to R73) -/
structure LoaderState where
  /-- source of the load in progress: 0 host, 1 flash primary, 2 flash secondary, 3 Spine (R57) -/
  src : Nat := 0
  /-- the load is a boot load (R51) -/
  boot : Bool := false
  /-- the load is a dry run (R56) -/
  dry : Bool := false
  /-- the load is paused by the admission of a commit (R54) -/
  paused : Bool := false
  /-- the image as CHECK read it -/
  img : List Byte := []
  /-- its sections, key 16 * TYPE + INST -/
  secs : Tab (List Byte) := []
  /-- the commit in progress -/
  commit : CommitPhase := .idle
  /-- snapshot of the shadows (R70) -/
  snap : Tab Word := []
  /-- highest occupancy of the admitted image in 1/1024 and its bead: 256 * OCC + BEAD (R59) -/
  occ : Nat := 0
  /-- restructure in progress (R72) -/
  restruct : Restructure := .none
  /-- the image in WAIT is partial (R72) -/
  partialWait : Bool := false
  /-- BOOTSRC strap (R51) -/
  bootSrc : Nat := 0
  /-- SEC fuse (R49) -/
  sec : Bool := false
  /-- key hash fuses (R49) -/
  keyHash : BitVec 256 := 0
  /-- MGR strap (R32) -/
  mgr : Bool := false
  /-- factory test mode (R429) -/
  test : Bool := false
deriving DecidableEq, Repr

/-- Running configuration (R42) -/
structure ConfState where
  /-- sections in force, key 16 * TYPE + INST -/
  secs : Tab (List Byte) := []
deriving DecidableEq, Repr

/-- Locket banks and tables -/
structure LocketState where
  /-- locket banks LB0 to LB15 by byte address from 0x300000 (R378) -/
  words : Tab Word := []
  /-- per bank: 0 while an unlisted word reads as 0, else the number of the free values it reads as (R378, R379) -/
  epochs : Tab Nat := []
deriving DecidableEq, Repr

/-- Straits beside SYS_STRAIT (R28 to R30) -/
structure StraitState where
  /-- times in a row that the flit at hand has failed, key 2 * die + direction -/
  bad : Tab Nat := []
  /-- retrains in a row that have failed -/
  fails : Tab Nat := []
  /-- the engine die returns to scan at the next frame start (R30) -/
  expect : Tab Bool := []
  /-- the training follows the clearing of DOWN (R30) -/
  fromDown : Tab Bool := []
  /-- the engine dies have lost power-good: VDD_CORE fell below its limit, and no DOWN flag has been cleared since it came
  back (R462) -/
  noPower : Bool := false
deriving DecidableEq, Repr

/-- Input writer, pixel pipeline and writeback (R74 to R113) -/
structure PixelState where
  /-- frame in progress per slot -/
  inFrame : Tab (Option InFrame) := []
  /-- bank load in progress per feed -/
  loads : Tab (Option Load) := []
  /-- dither phase per feed (R153) -/
  phase : Tab Nat := []
  /-- R33 pointers of the beads, key 4 * bead + class (R20) -/
  beadPtr : Tab Nat := []
  /-- context that a bead runs or last ran, by bead (R441) -/
  beadCur : Tab Nat := []
  /-- beads without a runnable context (R20, R441) -/
  beadGated : Tab Bool := []
  /-- capture in progress per feed -/
  capture : Tab (Option Capture) := []
  /-- monitor stream in progress per feed -/
  monitor : Tab (Option Monitor) := []
  /-- a published capture waits to be sent (R110) -/
  monDue : Tab Bool := []
  /-- frame sequence number of the next monitor frame (R286) -/
  monSeq : Tab Nat := []
  /-- capture stopped by ONESHOT until EN is set again (R111) -/
  held : Tab Bool := []
  /-- lines that wait in the line buffers of the fetchers, 8 for the facet map reader (R86, R132) -/
  buf : Tab (List Delivered) := []
  /-- urgent flags of the fetchers (R86) -/
  urgent : Tab Bool := []
  /-- beads that have run a context since reset (R441) -/
  beadRan : Tab Bool := []
deriving DecidableEq, Repr

/-- Zone model and flash guard (R136 to R150) -/
structure CorState where
  /-- zone gains, key 3 * zone + colour -/
  gains : Tab Nat := []
  /-- latest zone temperature since APPLY -/
  tz : Tab (Option Int) := []
  /-- 1 + last ageing efficiency, key 3 * zone + colour; 0 is none (R140) -/
  eff : Tab Nat := []
  /-- sums of each feed's latest bank load (R139) -/
  dose : Tab (Tab Nat) := []
  /-- accumulator blocks that read poisoned (R140) -/
  stuck : Tab Bool := []
  /-- the next gain update is the first: no slew limit (R136) -/
  fresh : Bool := false
  /-- EN at the last frame start -/
  ran : Bool := false
  /-- 1 + TEMP code last reported by a driver, key 32 * port + driver -/
  temp : Tab Nat := []
  /-- frames since a driver reported (R137) -/
  tempAge : Tab Nat := []
  /-- zone means of the latest bank load per feed: Y, R, S of each zone -/
  means : Tab (List Nat) := []
  /-- zone means of the frame before -/
  prev : Tab (List Nat) := []
  /-- all isles' sums of a bank load have arrived and wait for the frame's classification -/
  sumsIn : Tab Bool := []
  /-- GUARD window per feed, latest frame first -/
  window : Tab (List GuardFrame) := []
  /-- direction of the latest counted luminance transition: 0 none, 1 down, 2 up -/
  lastLum : Tab Nat := []
  /-- 1 + ATT decided for the next bank load; 0 is unchanged (R150) -/
  attNext : Tab Nat := []
  /-- the sums came after the next bank load had started (R150) -/
  decide : Tab Bool := []
  /-- GUARD sums of completed bank loads that have not reached H, oldest first (R150) -/
  waiting : Tab (List (Tab Nat)) := []
  /-- the frame has been classified since the last frame start -/
  judged : Tab Bool := []
  /-- how many of the waiting sums, the oldest first, were overtaken by the start of a bank load (R150) -/
  overdue : Tab Nat := []
  /-- passes over the accumulators that wait for the memory, oldest first: whether efficiencies and gains are due, whether
  they are the first, and the doses (R37, R136, R140) -/
  passes : List (Bool × Bool × Tab Nat) := []
deriving DecidableEq, Repr

/-- Timing, genlock and feeds (R155 to R185) -/
structure TimState where
  /-- frames run -/
  running : Bool := false
  /-- timing set in force: RATE, SCAN, then OFS and LEN of the four feeds (R161) -/
  set : List Word := []
  /-- CLK_ENG in force (R364) -/
  clkEng : Word := 0
  /-- the commit window of this frame has closed -/
  winClosed : Bool := false
  /-- a commit was applied since the last frame start (R178) -/
  commitSince : Bool := false
  /-- input signatures at the last frame start: 0 to 7 slots, 8 to 15 layers -/
  sigs : Tab Word := []
  /-- content refresh divider in force (R179) -/
  m : Nat := 1
  /-- frames since it changed -/
  mFrame : Nat := 0
  /-- the still-picture divider of this frame (R179) -/
  ms : Nat := 1
  /-- this frame is a skip frame -/
  skip : Bool := false
  /-- relock in progress (R177) -/
  relock : Relock := .none
  /-- in-range periods, latest first, at most 16 (R168) -/
  periods : List Nat := []
  /-- REF cycle of the last edge of GENLOCK of the selected polarity (R374) -/
  lastEdge : Option Nat := none
  /-- system time in ns of the last reference instant, real or virtual (R167) -/
  lastRef : Nat := 0
  /-- the last in-range period in REF cycles -/
  refLen : Nat := 0
  /-- how far the frame starts lie behind the reference, in 2^-24 ns, while a slew closes it (R169) -/
  phase : Int := 0
  /-- system time of the last frame start, in 2^-24 ns -/
  frameAt : Nat := 0
  /-- consecutive in-range periods -/
  good : Nat := 0
  /-- consecutive out-of-range periods -/
  poor : Nat := 0
  /-- 1 + bank last completed in the drivers of a die, key 4 * die + feed; 0 none (R164) -/
  shown : Tab Nat := []
  /-- 1 + bank that a feed shows in this frame where one or two feeds are active, key 4 * die + feed; 0 none (R164) -/
  front : Tab Nat := []
  /-- active feeds of the set in force, as of the last frame start -/
  active : List Nat := []
  /-- a feed whose load has not started in this frame (R164) -/
  due : Tab Bool := []
  /-- dies that skip a feed's load, key 4 * die + feed (R28) -/
  skipped : Tab Bool := []
  /-- output signatures of the latest bank loads per feed, latest first (R184) -/
  sigHist : Tab (List Word) := []
  /-- input signatures of the feed at its previous bank load (R184) -/
  inHist : Tab (List Word) := []
  /-- freeze raised and not yet back to 0 (R184) -/
  fzRaised : Tab Bool := []
deriving DecidableEq, Repr

/-- Chain ports (R186 to R216) -/
structure ChainState where
  /-- ports, an unlisted one is idle -/
  ports : Tab Port := []
  /-- status word of the last accepted record, key 32 * port + driver (R216) -/
  status : Tab (BitVec 128) := []
  /-- Clasp has stopped GCLK (R330) -/
  gclkStop : Bool := true
  /-- a relock gates GCLK (R177) -/
  gclkGate : Bool := false
  /-- a first lit frame has come since the last bring-up (R200) -/
  lit : Bool := false
  /-- frame starts left until the first lit frame, 0 none (R72, R200) -/
  lightAt : Nat := 0
  /-- the bring-up of start-up step 8 waits for the steps before it (R464) -/
  bringDue : Bool := false
deriving DecidableEq, Repr

/-- LED diagnosis (R217 to R229) -/
structure DiagState where
  /-- DIA_CTRL in force (R230) -/
  ctrl : Word := 0
  /-- per isle, since the last frame start -/
  obs : Tab Nat := []
  /-- per isle -/
  due : Tab Nat := []
  /-- per isle -/
  sat : Tab Nat := []
  /-- per isle -/
  glint : Tab Nat := []
  /-- EV_DIA_DEAD raised in this frame -/
  deadRaised : Bool := false
  /-- EV_DIA_STUCK raised in this frame -/
  stuckRaised : Bool := false
  /-- isles in which an age reached 4,095 in this frame -/
  uncovered : Tab Bool := []
deriving DecidableEq, Repr

/-- Headroom loops and PMBus masters (R231 to R237) -/
structure PmbState where
  /-- loops, an unlisted one is stopped -/
  loops : Tab PmbLoop := []
  /-- transactions that wait, per bus -/
  waiting : Tab (List PmbTxn) := []
  /-- transaction in progress per bus -/
  running : Tab (Option PmbTxn) := []
  /-- R33 pointers, key 4 * bus + class -/
  ptr : Tab Nat := []
  /-- the CFG words of the domains in force, as they stood at the last frame start (R237) -/
  cfg : Tab Word := []
deriving DecidableEq, Repr

/-- Clasp beside its registers (R329 to R356) -/
structure ClaspState where
  /-- Clasp's copy of the section (R343) -/
  copy : List Byte := []
  /-- Clasp cycles of the changes of a pair in the last 100 ms (R337) -/
  changes : Tab (List Nat) := []
  /-- Clasp cycles counted -/
  cycle : Nat := 0
  /-- the first word of a sequence has been written (R342) -/
  key : Bool := false
  /-- demand of the fault collector, until an accepted reset (R339) -/
  intDem : Bool := false
  /-- D at the last Clasp cycle (R345) -/
  lastD : Nat := 2
  /-- the state follows D once, just after arming with START = 0 (R341) -/
  follow : Bool := false
  /-- the level at which the pad of SAFE_OUT_A was last seen stuck; none where it read back as driven (R346) -/
  padA : Option Bool := none
  /-- the same of SAFE_OUT_B (R346) -/
  padB : Option Bool := none
  /-- the logic does not pass its test vectors, as last observed (R347) -/
  logicBad : Bool := false
  /-- level carried by the last accepted HB or CMD (R339) -/
  arch : Nat := 0
  /-- heartbeat lost (R339) -/
  lost : Bool := false
  /-- frames accepted in a row since the loss -/
  hbRun : Nat := 0
  /-- the heartbeat timer runs: a frame has restarted it since the last loss (R351) -/
  hbTimer : Bool := false
  /-- a HB or CMD was accepted in this Clasp cycle (R345) -/
  hbIn : Bool := false
  /-- SEQ last accepted; none takes the next as base (R350) -/
  seqIn : Option Nat := none
  /-- SEQ of the next frame sent by the manager -/
  seqOut : Nat := 0
  /-- SEQ of the next REQ of a worker -/
  reqSeq : Nat := 0
  /-- level of the last REQ sent -/
  reqLevel : Nat := 0
  /-- REQ frames with level 0 still to be sent (R352) -/
  reqLeft : Nat := 0
  /-- level held for a source address (R352) -/
  held : Tab Nat := []
  /-- 1 + SEQ last accepted from an address -/
  heldSeq : Tab Nat := []
  /-- archipelago level in force (R352) -/
  archA : Nat := 0
  /-- SAFE_OUT_A is driven high -/
  outA : Bool := false
  /-- SAFE_OUT_B is driven high -/
  outB : Bool := true
  /-- steps of R331 left: 2 before its first frame start, 1 before its second, 0 none -/
  exit : Nat := 0
  /-- Luminance Ceiling is in force (R332) -/
  lce : Bool := false
  /-- Safe Dark is in force (R330) -/
  sdk : Bool := true
  /-- Clasp frames that wait to be sent: Spine port, source index of R308, bytes -/
  sent : List (Nat × Nat × List Byte) := []
deriving DecidableEq, Repr

/-- Weandi and Spine lanes, Weandi queues (R270 to R304); ports 0 U, 1 D, 2 B, 3 SUP, 4 to 7 SDN0 to SDN3 -/
structure LinkState where
  /-- ports, an unlisted one is idle -/
  ports : Tab LinkPort := []
  /-- Q32 to Q42, oldest first -/
  queues : Tab (List TxPkt) := []
  /-- Q43 and Q44, key the port: video packets that the input writer has not taken, with the PORT codes of their slots -/
  rxVideo : Tab (List (List Nat × VideoPkt)) := []
  /-- Q45 to Q47, key the port: control packets that the device has not taken -/
  rxCtl : Tab (List CtlPkt) := []
  /-- symbols (true is a K-code) that a lane sent last: a packet, a block header or a training set, with its SKP ordered
  set; key 4 * port + lane (R273 to R275, R279) -/
  sent : Tab (List (Bool × Byte)) := []
  /-- packet that a Weandi port sends -/
  tx : Tab (Option TxPkt) := []
  /-- 1 + port it was received on; 0 is its own -/
  txFrom : Tab Nat := []
  /-- R33 pointers, key 4 * port + class -/
  ptr : Tab Nat := []
  /-- a good video packet came on B since the last on U (R295) -/
  bSince : Bool := false
  /-- the REF cycle since which the return to U waits for a line 0 on U (R297) -/
  revert : Option Nat := none
  /-- REF cycle of the last EV_LNK_DROP (R291) -/
  dropAt : Option Nat := none
  /-- cycles of REF counted -/
  cycle : Nat := 0
  /-- cycle of the last switch of UPSEL, and the upstream before it, 3 for none (R296, R297) -/
  switchAt : Option (Nat × Nat) := none
  /-- control requester (R300) -/
  cm : Requester := .idle
  /-- whether the running disparity of what a lane receives is positive, key 4 * port + lane; none until a group has shown
  it (R272) -/
  rxRd : Tab (Option Bool) := []
  /-- whether the running disparity of a sending lane was positive before `sent`, same keys (R272) -/
  txRd : Tab Bool := []
  /-- the 10-bit groups of `sent`, same keys (R272) -/
  coded : Tab (List Nat) := []
  /-- what has left Q32 to Q37 and Q43 to Q47 of late, key the queue: REF cycle and bytes (R291) -/
  drained : Tab (List (Nat × Nat)) := []
deriving DecidableEq, Repr

/-- Spine and archipelago (R305 to R328) -/
structure SpineState where
  /-- system time in units of 2^-24 ns (R315) -/
  clock : Nat := 0
  /-- rate correction in ppm (R317) -/
  rate : Int := 0
  /-- exchanges in a row with |o| at most 4 ns -/
  within : Nat := 0
  /-- exchanges in a row with |o| above 8 ns -/
  beyond : Nat := 0
  /-- 1 + receive time of the parent header by SEQ (R316) -/
  t2 : Tab Nat := []
  /-- 1 + send time of the own header by SEQ -/
  t3 : Tab Nat := []
  /-- SEQ and receive time of the latest child header per SDN port -/
  t4 : Tab (Option (Nat × Nat)) := []
  /-- exchanges since it came -/
  t4Age : Tab Nat := []
  /-- general frames that wait, with their source index: key 4 * port + class (R312) -/
  queues : Tab (List (Nat × SpnFrame)) := []
  /-- local general frames that wait for room in a class buffer, same keys (R312) -/
  stalled : Tab (List SpnFrame) := []
  /-- R33 pointers, key 4 * port + class; class 3 is that of Clasp frames (R308) -/
  ptr : Tab Nat := []
  /-- general frame that a port sends -/
  tx : Tab (Option SpnFrame) := []
  /-- Clasp frame that a port sent last -/
  txClasp : Tab (List Byte) := []
  /-- REF cycle of the last EV_SPN_DROP (R312) -/
  dropAt : Option Nat := none
  /-- walk that runs in this device -/
  walk : Option Walk := none
  /-- a walk has reached this device since reset -/
  walked : Bool := false
  /-- an SDN port has entered ACTIVE since reset -/
  sdnSeen : Bool := false
  /-- the automatic walk has been started -/
  autoDone : Bool := false
  /-- remote access requester (R320) -/
  ra : Requester := .idle
  /-- offset of the next chunk of the multicast engine -/
  mcNext : Option Nat := none
  /-- running CRC-32C of the bytes that it has sent (R321) -/
  mcCrc : Word := 0xFFFFFFFF
  /-- offset that the session being received expects (R322) -/
  rxNext : Nat := 0
  /-- roll-up that waits for IMGR frames -/
  roll : Option RollUp := none
  /-- fault reports, oldest first, at most 64 -/
  inbox : List FaultRep := []
  /-- RD and WR for the device that have not been done, oldest first: those of its own requester, and what waits for the
  frame memory (R37, R319) -/
  self : List SpnFrame := []
  /-- IMG and IMGE of which the device is a member and that have not been taken, oldest first, with their port: an IMGE
  whose staging area cannot be read yet, and what came after it (R37, R322) -/
  held : List (Nat × SpnFrame) := []
deriving DecidableEq, Repr

/-- Clocks (R360 to R369) -/
structure ClockState where
  /-- windows in a row that qualify (R361) -/
  windows : Nat := 0
  /-- relock failures in a row per loop (R363) -/
  fails : Tab Nat := []
  /-- loops that coast -/
  coast : Tab Bool := []
  /-- loops that have been started -/
  started : Tab Bool := []
  /-- input of each selector of R366, 0 REF to 4 ENG1: REF 0 RC, 1 crystal; HUB and MEM 0 before the loop, 1 the loop; ENG the four bits of CLK_ENG -/
  sel : Tab Nat := []
  /-- input that each selector has been asked for -/
  want : Tab Nat := []
  /-- blocks that have been asked to stop (R367) -/
  asked : Tab Bool := []
  /-- loops that relock after they lost lock (R363) -/
  relocking : Tab Bool := []
  /-- the crystal makes no edge (R362, R366) -/
  dead : Bool := false
deriving DecidableEq, Repr

/-- Power states (R370 to R382) -/
structure PowerState where
  /-- entry, wake or restart in progress -/
  phase : PwrPhase := .steady
  /-- what is left, in order: in an entry the blocks still to be stopped, 31 for the locket banks, 30 for PLL_MEM (R372); in a wake or restart the steps of the wake table still to be started (R373, R375) -/
  todo : List Nat := []
  /-- step of the wake table that was started last -/
  step : Nat := 0
  /-- 0, or 1 + repeats of a ready check that has failed (R376) -/
  retries : Nat := 0
  /-- IDLE was entered by REQ (R371) -/
  forced : Bool := false
  /-- IDLE is left at the next frame start (R371) -/
  leave : Bool := false
  /-- the blank request is kept after a failed wake (R376) -/
  failed : Bool := false
  /-- banks that the check found lost (R381) -/
  lostBanks : Tab Bool := []
  /-- LB0 is not usable: entries go to the staging queue (R427) -/
  lockLog : Bool := false
  /-- the device is in DEEP -/
  deep : Bool := false
  /-- wake tones sent per SDN port (R374) -/
  tones : Tab Nat := []
  /-- a wake has ended and no frame has started since: the first bank loads wait for that start (R375) -/
  firstLoads : Bool := false
deriving DecidableEq, Repr

/-- Die diodes (R383 to R386) -/
structure ThermState where
  /-- clamped readings in a row -/
  clamped : Tab Nat := []
  /-- readings in range in a row while the diode counts as failed -/
  fine : Tab Nat := []
  /-- readings at or above 130 degrees in a row -/
  hot : Tab Nat := []
deriving DecidableEq, Repr

/-- Converter and sequencer (R388 to R397) -/
structure AdcState where
  /-- class of the conversion being made (R393): 0 diode, 1 capture, 2 sequence -/
  owner : Option Nat := none
  /-- a sequence runs -/
  running : Bool := false
  /-- slot being converted -/
  slot : Nat := 0
  /-- conversions of the slot that counted -/
  count : Nat := 0
  /-- sum so far -/
  sum : Nat := 0
  /-- the slot had an overrange conversion -/
  ovr : Bool := false
  /-- direction of its last one -/
  high : Bool := false
  /-- EV_ADC_OVR raised in this sequence -/
  ovrRaised : Bool := false
  /-- EV_ADC_TRIG_OVR raised in this sequence -/
  trigRaised : Bool := false
  /-- a sequence is pending -/
  pending : Bool := false
  /-- the next conversion is discarded (R394) -/
  discard : Bool := false
  /-- diode conversions due (R390) -/
  diodes : List Nat := []
  /-- capture running: false zero, true full (R396) -/
  capture : Option Bool := none
  /-- conversions left in the capture -/
  capLeft : Nat := 0
  /-- its sum -/
  capSum : Nat := 0
  /-- it had an overrange conversion -/
  capOvr : Bool := false
  /-- its channel -/
  scalCh : Nat := 0
  /-- R33 pointers -/
  ptr : Tab Nat := []
  /-- ADC_SLOTs of the slot as the conversion began (R391) -/
  slotWord : Word := 0
  /-- ADC_CALn of its channel as the conversion began (R391) -/
  calWord : Word := 0
  /-- the sequence ends at the next conversion boundary (R398, R423) -/
  ending : Bool := false
  /-- the block has stopped: the sequence ends at its slot boundary (R368) -/
  halting : Bool := false
deriving DecidableEq, Repr

/-- Timing calibration (R399 to R407) -/
structure CalState where
  /-- pairs tried at a first calibration, key 64 * group + item -/
  first : Tab Nat := []
  /-- read deskew, key 32 * rank + 8 * byte + bit -/
  rdTap : Tab Nat := []
  /-- write deskew -/
  wrTap : Tab Nat := []
  /-- read eye width -/
  rdEye : Tab Nat := []
  /-- write eye width -/
  wrEye : Tab Nat := []
  /-- write leveling and read gate, key 4 * rank + byte, laid out as CAL_PROBE_BY -/
  byte : Tab Word := []
  /-- 1 + REF cycle until which a group is not due again after a bad rerun (R405); 0 none -/
  wait : Tab Nat := []
  /-- group 0 waits for the controllers (R406) -/
  held : Bool := false
  /-- in-service SDO runs: whether each monitor tap passed, in order, 64 for the two runs, per port (R401) -/
  mon : Tab (List Bool) := []
  /-- readbacks in a row without an accepted record while a port waits at a tap; 4 ends the run -/
  monEmpty : Tab Nat := []
  /-- THR that a lane takes at its next SKP ordered set, by lane index of CAL_LANEi (R402) -/
  thr : Tab (Option Nat) := []
  /-- lanes that have left ACTIVE since the rerun of group 3 began, by the same index (R406) -/
  left : Tab Bool := []
deriving DecidableEq, Repr

/-- The whole state of the block. -/
structure State where
  /-- commands waiting, first in first out -/
  pending : List Instr
  /-- RESET_N is held (R463) -/
  inReset : Bool
  /-- the model's own counter of free values (log entry 4) -/
  freeCtr : Nat
  /-- active registers: an unlisted address holds its reset word (R10) -/
  regs : Tab Word
  /-- shadow copies of the shadowed fields (R442): an unlisted address holds its reset word -/
  shad : Tab Word
  /-- Fault collector (R417 to R424) -/
  flt : FltState
  /-- Event log beside LB0 (R425 to R427) -/
  log : LogState
  /-- Host QSPI target (R430 to R439) -/
  host : HostState
  /-- Flash QSPI master (R445 to R447) -/
  flash : FlashState
  /-- Check units beside their registers (R408 to R414) -/
  chk : ChkState
  /-- Frame memory (R238 to R269) -/
  mem : MemState
  /-- Tables of the LUT window (R104 to R106, R125), by byte address -/
  tabs : TableState
  /-- Image loader beside its registers (R39 to R73) -/
  ldr : LoaderState
  /-- Running configuration (R42) -/
  conf : ConfState
  /-- Locket banks and tables -/
  locket : LocketState
  /-- Straits beside SYS_STRAIT (R28 to R30) -/
  strait : StraitState
  /-- Input writer, pixel pipeline and writeback (R74 to R113) -/
  pix : PixelState
  /-- Zone model and flash guard (R136 to R150) -/
  cor : CorState
  /-- Timing, genlock and feeds (R155 to R185) -/
  tim : TimState
  /-- Chain ports (R186 to R216) -/
  chn : ChainState
  /-- LED diagnosis (R217 to R229) -/
  diag : DiagState
  /-- Headroom loops and PMBus masters (R231 to R237) -/
  pmb : PmbState
  /-- Clasp beside its registers (R329 to R356) -/
  clasp : ClaspState
  /-- Weandi and Spine lanes, Weandi queues (R270 to R304); ports 0 U, 1 D, 2 B, 3 SUP, 4 to 7 SDN0 to SDN3 -/
  lnk : LinkState
  /-- Spine and archipelago (R305 to R328) -/
  spn : SpineState
  /-- Clocks (R360 to R369) -/
  clk : ClockState
  /-- Power states (R370 to R382) -/
  pwr : PowerState
  /-- Die diodes (R383 to R386) -/
  therm : ThermState
  /-- Converter and sequencer (R388 to R397) -/
  adc : AdcState
  /-- Timing calibration (R399 to R407) -/
  cal : CalState
deriving DecidableEq, Repr

/-- The state after power-on reset (R10, R463): registers at their reset values, everything else empty, off or zero
(log entries 2 and 3), RESET_N still held. [log 1] -/
def State.reset : State where
  pending := []
  inReset := true
  freeCtr := 0
  regs := []
  shad := []
  flt := .mk [] [] [] [] [] 0
  log := .mk [] false
  host := .mk [] (none) 0 [] 0 []
  flash := .mk (none) [] false 3 []
  chk := .mk [] [] (none) [] false []
  mem := .mk [] [] [] 0 [] [] [] 0 [] [] [] [] [] [] [] [] [] [] [] 0 [] [] [] [] (none) [] false (none) [] false false
  tabs := .mk [] [] [] [] [] []
  ldr := .mk 0 false false false [] [] (.idle) [] 0 (.none) false 0 false 0 false false
  conf := .mk []
  locket := .mk [] []
  strait := .mk [] [] [] [] false
  pix := .mk [] [] [] [] [] [] [] [] [] [] [] [] [] []
  cor := .mk [] [] [] [] [] false false [] [] [] [] [] [] [] [] [] [] [] [] []
  tim := .mk false [] 0 false false [] 1 0 1 false (.none) [] (none) 0 0 0 0 0 0 [] [] [] [] [] [] [] []
  chn := .mk [] [] true false false 0 false
  diag := .mk 0x20400811 [] [] [] [] false false []
  pmb := .mk [] [] [] [] []
  clasp := .mk [] [] 0 false false 2 false (none) (none) false 0 false 0 false false (none) 0 0 0 0 [] [] 0 false true 0 false true []
  lnk := .mk [] [] [] [] [] [] [] [] false (none) (none) 0 (none) (.idle) [] [] [] []
  spn := .mk 0 0 0 0 [] [] [] [] [] [] [] [] [] (none) (none) false false false (.idle) (none) 0xFFFFFFFF 0 (none) [] [] []
  clk := .mk 0 [] [] [] [] [] [] [] false
  pwr := .mk (.steady) [] 0 0 false false false [] false false [] false
  therm := .mk [] [] []
  adc := .mk (none) false 0 0 0 false false false false false false [] (none) 0 0 false 0 [] 0 0 false false
  cal := .mk [] [] [] [] [] [] [] false [] [] [] []

end Sys2Proof.Machine
end

