-- ==== Sys2Proof/Machine/Bits.lean ====
section
/-! DEFINITION. Sparse tables, bit fields, byte order, fixed-point helpers, CRCs and the tie rule R33. -/

namespace Sys2Proof.Machine

/-! ## Sparse tables -/

/-- The entry with key `k`, the default where there is none. -/
def Tab.get {α : Type} (d : Nat → α) : Tab α → Nat → α
  | [], k => d k
  | (j, v) :: t, k => if j = k then v else Tab.get d t k

/-- Sets or replaces the entry with key `k`, keeping the keys rising. -/
def Tab.ins {α : Type} (k : Nat) (v : α) : Tab α → Tab α
  | [] => [(k, v)]
  | (j, w) :: t => if k < j then (k, v) :: (j, w) :: t else if j = k then (k, v) :: t else (j, w) :: Tab.ins k v t

/-- Removes every entry with key `k`. -/
def Tab.erase {α : Type} (k : Nat) : Tab α → Tab α
  | [] => []
  | (j, w) :: t => if j = k then Tab.erase k t else (j, w) :: Tab.erase k t

/-- Sets the value at key `k`; a value equal to the default is not listed. -/
def Tab.put {α : Type} [DecidableEq α] (d : Nat → α) (t : Tab α) (k : Nat) (v : α) : Tab α :=
  if v = d k then Tab.erase k t else Tab.ins k v t

/-- Table of flags: false where unlisted. -/
def Tab.on (t : Tab Bool) (k : Nat) : Bool := Tab.get (fun _ => false) t k

/-- Sets a flag of a table of flags. -/
def Tab.setOn (t : Tab Bool) (k : Nat) (v : Bool) : Tab Bool := Tab.put (fun _ => false) t k v

/-- Table of numbers: 0 where unlisted. -/
def Tab.num (t : Tab Nat) (k : Nat) : Nat := Tab.get (fun _ => 0) t k

/-- Sets a number of a table of numbers. -/
def Tab.setNum (t : Tab Nat) (k v : Nat) : Tab Nat := Tab.put (fun _ => 0) t k v

/-- Table of words: 0 where unlisted. -/
def Tab.word (t : Tab Word) (k : Nat) : Word := Tab.get (fun _ => 0) t k

/-- Sets a word of a table of words. -/
def Tab.setWord (t : Tab Word) (k : Nat) (v : Word) : Tab Word := Tab.put (fun _ => 0) t k v

/-- Table of lists: empty where unlisted. -/
def Tab.lst {α : Type} (t : Tab (List α)) (k : Nat) : List α := Tab.get (fun _ => []) t k

/-- Sets a list of a table of lists. -/
def Tab.setLst {α : Type} [DecidableEq α] (t : Tab (List α)) (k : Nat) (v : List α) : Tab (List α) :=
  Tab.put (fun _ => []) t k v

/-- Table of options: none where unlisted. -/
def Tab.opt {α : Type} (t : Tab (Option α)) (k : Nat) : Option α := Tab.get (fun _ => none) t k

/-- Sets an option of a table of options. -/
def Tab.setOpt {α : Type} [DecidableEq α] (t : Tab (Option α)) (k : Nat) (v : Option α) : Tab (Option α) :=
  Tab.put (fun _ => none) t k v

/-- Keys rise strictly and no entry equals its default: the canonical form. -/
def Tab.wf {α : Type} [DecidableEq α] (d : Nat → α) : Tab α → Bool
  | [] => true
  | [(k, v)] => v != d k
  | (k, v) :: (j, w) :: t => v != d k && decide (k < j) && Tab.wf d ((j, w) :: t)

/-! ## Bit fields -/

/-- Bits lsb to msb of a number. -/
def bits (msb lsb : Nat) (n : Nat) : Nat := n / 2 ^ lsb % 2 ^ (msb + 1 - lsb)

/-- A field of a word, as a number. -/
def Fld.of (f : Fld) (w : Word) : Nat := bits f.msb f.lsb w.toNat

/-- A word with a field replaced by the low bits of `v`. -/
def Fld.put (f : Fld) (w : Word) (v : Nat) : Word :=
  BitVec.ofNat 32 (w.toNat / 2 ^ (f.msb + 1) * 2 ^ (f.msb + 1) + v % 2 ^ (f.msb + 1 - f.lsb) * 2 ^ f.lsb
    + w.toNat % 2 ^ f.lsb)

/-- The largest value of a field. -/
def Fld.max (f : Fld) : Nat := 2 ^ (f.msb + 1 - f.lsb) - 1

/-- One bit of a word. -/
def bitOf (w : Word) (i : Nat) : Bool := w.toNat / 2 ^ i % 2 == 1

/-- A word with bits lsb to msb replaced. -/
def putBits (w : Word) (msb lsb v : Nat) : Word := Fld.put ⟨0, msb, lsb⟩ w v

/-- Two's complement reading of the low `n` bits. -/
def signed (n v : Nat) : Int :=
  let x := v % 2 ^ n
  if x < 2 ^ (n - 1) then (x : Int) else (x : Int) - 2 ^ n

/-- The `n` low bits of an integer in two's complement. -/
def unsigned (n : Nat) (v : Int) : Nat := (v % 2 ^ n).toNat

/-- An integer held within two bounds. -/
def clampI (lo hi v : Int) : Int := if v < lo then lo else if hi < v then hi else v

/-- An integer held within 0 and a largest value, as a natural number. -/
def clampN (hi : Nat) (v : Int) : Nat := (clampI 0 hi v).toNat

/-- round(a / b) of R467 for a positive divisor: an exact half goes up. -/
def roundDiv (a : Int) (b : Nat) : Int := (2 * a + b) / (2 * b)

/-- Ceiling of a / b. -/
def ceilDiv (a b : Nat) : Nat := (a + b - 1) / b

/-- The number 1 or 0 of a flag. -/
def b2n (b : Bool) : Nat := if b then 1 else 0

/-! ## Bytes -/

/-- A little-endian number. -/
def leNat : List Byte → Nat
  | [] => 0
  | b :: bs => b.toNat + 256 * leNat bs

/-- A big-endian number. -/
def beNat (bs : List Byte) : Nat := bs.foldl (fun n b => 256 * n + b.toNat) 0

/-- `n` bytes of a number, little-endian. -/
def leBytes : Nat → Nat → List Byte
  | 0, _ => []
  | n + 1, v => BitVec.ofNat 8 v :: leBytes n (v / 256)

/-- `n` bytes of a number, big-endian. -/
def beBytes (n v : Nat) : List Byte := (leBytes n v).reverse

/-- A word of four little-endian bytes. -/
def leWord (bs : List Byte) : Word := BitVec.ofNat 32 (leNat (bs.take 4))

/-- A word of four big-endian bytes. -/
def beWord (bs : List Byte) : Word := BitVec.ofNat 32 (beNat (bs.take 4))

/-- `n` bytes of a list from an offset; bytes past its end read 0. -/
def slice (bs : List Byte) (off n : Nat) : List Byte :=
  let t := (bs.drop off).take n
  t ++ List.replicate (n - t.length) 0

/-- A little-endian field of `n` bytes at an offset. -/
def leAt (bs : List Byte) (off n : Nat) : Nat := leNat ((bs.drop off).take n)

/-- A big-endian field of `n` bytes at an offset. -/
def beAt (bs : List Byte) (off n : Nat) : Nat := beNat ((bs.drop off).take n)

/-- The byte at an offset, 0 past the end. -/
def byteOf (bs : List Byte) (off : Nat) : Nat := (bs.getD off 0).toNat

/-- A list cut into runs of `n` (by fuel: at most the list's length). -/
def chunksF {α : Type} (n : Nat) : Nat → List α → List (List α)
  | 0, _ => []
  | fuel + 1, l => if l.isEmpty then [] else l.take n :: chunksF n fuel (l.drop n)

/-- A list cut into runs of `n`. -/
def chunks {α : Type} (n : Nat) (l : List α) : List (List α) := chunksF n l.length l

/-- The sum of a list. -/
def sumN (l : List Nat) : Nat := l.foldl (· + ·) 0

/-- The largest of a list, 0 for none. -/
def maxN (l : List Nat) : Nat := l.foldl Nat.max 0

/-- The smallest of a list. -/
def minN? : List Nat → Option Nat
  | [] => none
  | a :: t => match minN? t with
    | none => some a
    | some b => some (if a ≤ b then a else b)

/-- The numbers below `n` that satisfy a test. -/
def below (n : Nat) (p : Nat → Bool) : List Nat := (List.range n).filter p

/-- The number of one bits among the `k` low bits of a number. -/
def popcount (n : Nat) : Nat → Nat
  | 0 => 0
  | k + 1 => n % 2 + popcount (n / 2) k

/-! ## CRCs (R408) -/

/-- One bit of a reflected CRC. -/
def crcBitR (poly : Word) (c : Word) : Word := if c.toNat % 2 = 1 then (c >>> 1) ^^^ poly else c >>> 1

/-- One byte of a reflected CRC. -/
def crcByteR (poly : Word) (c : Word) (b : Byte) : Word :=
  (List.range 8).foldl (fun c _ => crcBitR poly c) (c ^^^ b.setWidth 32)

/-- One bit of a CRC of width `w` held in the low bits, most significant bit first. -/
def crcBitM (w : Nat) (poly : Word) (c : Word) : Word :=
  let d := c.toNat % 2 ^ (w - 1) * 2
  if c.toNat / 2 ^ (w - 1) % 2 = 1 then BitVec.ofNat 32 d ^^^ poly else BitVec.ofNat 32 d

/-- One byte of a CRC of width `w`, most significant bit first. -/
def crcByteM (w : Nat) (poly : Word) (c : Word) (b : Byte) : Word :=
  (List.range 8).foldl (fun c _ => crcBitM w poly c) (c ^^^ BitVec.ofNat 32 (b.toNat * 2 ^ (w - 8)))

/-- One byte of the CRC that POLY selects (R408). -/
def crcByte (poly : Nat) (c : Word) (b : Byte) : Word :=
  match poly with
  | 0 => crcByteR 0x82F63B78 c b
  | 1 => crcByteR 0xEDB88320 c b
  | 2 => crcByteM 16 0x1021 c b
  | _ => crcByteM 8 0x1D c b

/-- The standard initial value of a CRC (R408). -/
def crcInit (poly : Nat) : Word :=
  match poly with
  | 0 | 1 => 0xFFFFFFFF
  | 2 => 0xFFFF
  | _ => 0xFF

/-- VAL XOR the final XOR, masked to the width (R408, R409). -/
def crcFinal (poly : Nat) (c : Word) : Word :=
  match poly with
  | 0 | 1 => c ^^^ 0xFFFFFFFF
  | 2 => c &&& 0xFFFF
  | _ => c &&& 0xFF

/-- The running value after some bytes. -/
def crcRun (poly : Nat) (c : Word) (bs : List Byte) : Word := bs.foldl (crcByte poly) c

/-- The CRC of some bytes. -/
def crc (poly : Nat) (bs : List Byte) : Word := crcFinal poly (crcRun poly (crcInit poly) bs)

/-- CRC-32C. -/
def crc32c (bs : List Byte) : Word := crc 0 bs

/-- CRC-16-CCITT. -/
def crc16 (bs : List Byte) : Nat := (crc 2 bs).toNat

/-- CRC-8 with polynomial 0x1D. -/
def crc8 (bs : List Byte) : Nat := (crc 3 bs).toNat

/-! ## Ties (R33) -/

/-- The winner of one class: the lowest requester at or above the pointer, else the lowest. -/
def rrPick (reqs : List Nat) (ptr : Nat) : Option Nat :=
  match minN? (reqs.filter fun i => decide (ptr ≤ i)) with
  | some i => some i
  | none => minN? reqs

/-- The winning class and index over classes in order of priority, class `base` first; pointers by class. -/
def arbitrate (base : Nat) (ptrs : Tab Nat) : List (List Nat) → Option (Nat × Nat)
  | [] => none
  | reqs :: rest =>
    match rrPick reqs (Tab.num ptrs base) with
    | some i => some (base, i)
    | none => arbitrate (base + 1) ptrs rest

end Sys2Proof.Machine
end

