-- ==== Sys2Proof/Machine/RegTable.lean ====
section
/-! DEFINITION. The register table of the device: the rows and fields of the tables of the chapters (R449 is the
index), with access type (R6), reset value (R10), whether a field is shadowed (R442) and whether it is admitted
(R70, R449). `R.NAME` is a register's address, `F.NAME_FIELD` a field; an index of the manual's name is an argument. -/

namespace Sys2Proof.Machine

/-- The access types of R6. -/
inductive Acc where
  | rw | ro | w1c | w1s | wo | rc | lk
deriving DecidableEq, Repr

/-- One field of a register. -/
structure FieldRow where
  msb : Nat
  lsb : Nat
  acc : Acc
  rst : Nat
  shadow : Bool
  adm : Bool
deriving DecidableEq, Repr

/-- One register, or an array of registers: `dims` lists (stride, count), the largest stride first. -/
structure RegRow where
  base : Nat
  dims : List (Nat × Nat)
  fields : List FieldRow
deriving DecidableEq, Repr

def sysRows : List RegRow := [
  ⟨0x0, [], [⟨31, 16, .ro, 4168, false, false⟩, ⟨15, 8, .ro, 32, false, false⟩]⟩,
  ⟨0x20, [], [⟨31, 24, .rc, 0, false, false⟩, ⟨23, 16, .rc, 0, false, false⟩, ⟨5, 5, .w1c, 0, false, false⟩, ⟨4, 4, .w1c, 0, false, false⟩, ⟨3, 2, .ro, 0, false, false⟩, ⟨1, 0, .ro, 0, false, false⟩]⟩,
  ⟨0x40, [], [⟨15, 0, .rw, 64, false, false⟩]⟩,
  ⟨0x44, [], [⟨31, 24, .rc, 0, false, false⟩, ⟨23, 20, .ro, 0, false, false⟩, ⟨16, 16, .ro, 0, false, false⟩, ⟨4, 0, .ro, 16, false, false⟩]⟩,
  ⟨0x100, [], [⟨31, 31, .ro, 0, false, false⟩, ⟨30, 30, .ro, 0, false, false⟩, ⟨29, 29, .ro, 0, false, false⟩, ⟨12, 8, .ro, 0, false, false⟩, ⟨6, 0, .rw, 18, false, false⟩]⟩,
  ⟨0x104, [], [⟨31, 31, .w1s, 0, false, false⟩, ⟨30, 30, .ro, 0, false, false⟩, ⟨29, 29, .w1c, 0, false, false⟩, ⟨28, 28, .rw, 0, false, false⟩, ⟨27, 27, .rw, 0, false, false⟩, ⟨26, 26, .rw, 0, false, false⟩, ⟨25, 24, .rw, 0, false, false⟩, ⟨23, 19, .rw, 0, false, false⟩, ⟨16, 8, .rw, 0, false, false⟩, ⟨7, 0, .rw, 0, false, false⟩]⟩,
  ⟨0x108, [], [⟨31, 0, .rw, 0, false, false⟩]⟩,
  ⟨0x200, [(0x4, 64)], [⟨31, 0, .rw, 0, false, false⟩]⟩]

def clkRows : List RegRow := [
  ⟨0x10000, [], [⟨31, 31, .w1c, 0, false, false⟩, ⟨30, 30, .w1c, 0, false, false⟩, ⟨29, 29, .w1c, 0, false, false⟩, ⟨28, 28, .w1c, 0, false, false⟩, ⟨27, 27, .w1c, 0, false, false⟩, ⟨20, 16, .ro, 0, false, false⟩, ⟨13, 8, .ro, 0, false, false⟩, ⟨1, 1, .ro, 0, false, false⟩, ⟨0, 0, .ro, 0, false, false⟩]⟩,
  ⟨0x10004, [], [⟨3, 0, .rw, 2, false, false⟩]⟩,
  ⟨0x10008, [], [⟨11, 10, .rw, 0, true, true⟩, ⟨9, 8, .rw, 0, true, true⟩, ⟨3, 2, .rw, 0, true, true⟩, ⟨1, 0, .rw, 0, true, true⟩]⟩,
  ⟨0x1000c, [], [⟨5, 0, .rw, 0, false, false⟩]⟩,
  ⟨0x10010, [], [⟨18, 0, .ro, 0, false, false⟩]⟩]

def pwrRows : List RegRow := [
  ⟨0x20000, [], [⟨31, 31, .w1s, 0, false, false⟩, ⟨26, 24, .wo, 0, false, false⟩]⟩,
  ⟨0x20004, [], [⟨31, 16, .rw, 0, false, false⟩, ⟨15, 0, .rw, 0, false, false⟩]⟩,
  ⟨0x20008, [], [⟨31, 16, .rw, 0, false, false⟩, ⟨15, 0, .rw, 0, false, false⟩]⟩,
  ⟨0x2000c, [], [⟨4, 0, .rw, 31, false, false⟩]⟩,
  ⟨0x20010, [], [⟨31, 30, .ro, 0, false, false⟩, ⟨29, 29, .ro, 0, false, false⟩, ⟨28, 28, .w1c, 0, false, false⟩, ⟨27, 27, .w1c, 0, false, false⟩, ⟨26, 23, .ro, 0, false, false⟩, ⟨22, 22, .ro, 0, false, false⟩, ⟨10, 8, .ro, 0, false, false⟩]⟩,
  ⟨0x20014, [], [⟨31, 31, .w1c, 0, false, false⟩, ⟨30, 29, .ro, 0, false, false⟩, ⟨28, 24, .ro, 0, false, false⟩, ⟨23, 16, .rc, 0, false, false⟩]⟩,
  ⟨0x20018, [], [⟨31, 0, .ro, 0, false, false⟩]⟩,
  ⟨0x2001c, [], [⟨3, 0, .w1s, 0, false, false⟩]⟩,
  ⟨0x20100, [(0x4, 16)], [⟨31, 31, .rw, 0, false, false⟩, ⟨30, 30, .w1c, 0, false, false⟩, ⟨29, 28, .rw, 0, false, false⟩, ⟨20, 0, .rw, 0, false, false⟩]⟩,
  ⟨0x20140, [(0x4, 16)], [⟨31, 0, .ro, 0, false, false⟩]⟩]

def thmRows : List RegRow := [
  ⟨0x30000, [], [⟨31, 31, .rw, 1, false, false⟩, ⟨30, 29, .rw, 0, false, false⟩, ⟨19, 16, .rw, 5, false, false⟩, ⟨15, 0, .rw, 1760, false, false⟩]⟩,
  ⟨0x30004, [], [⟨31, 31, .ro, 0, false, false⟩, ⟨30, 30, .ro, 0, false, false⟩, ⟨29, 29, .ro, 0, false, false⟩, ⟨28, 28, .w1c, 0, false, false⟩, ⟨27, 27, .ro, 0, false, false⟩, ⟨26, 26, .ro, 0, false, false⟩, ⟨25, 25, .ro, 0, false, false⟩, ⟨15, 8, .rc, 0, false, false⟩, ⟨1, 0, .ro, 0, false, false⟩]⟩,
  ⟨0x30010, [(0x4, 3)], [⟨31, 16, .rc, 0, false, false⟩, ⟨15, 0, .ro, 0, false, false⟩]⟩]

def cfgRows : List RegRow := [
  ⟨0x40000, [], [⟨7, 7, .wo, 0, false, false⟩, ⟨6, 6, .w1s, 0, false, false⟩, ⟨5, 5, .rw, 0, false, false⟩, ⟨3, 2, .rw, 0, false, false⟩, ⟨0, 0, .w1s, 0, false, false⟩]⟩,
  ⟨0x40004, [], [⟨31, 24, .rc, 0, false, false⟩, ⟨19, 16, .ro, 0, false, false⟩, ⟨15, 14, .ro, 0, false, false⟩, ⟨13, 13, .ro, 0, false, false⟩, ⟨12, 12, .ro, 0, false, false⟩, ⟨10, 8, .ro, 0, false, false⟩]⟩,
  ⟨0x40008, [], [⟨31, 28, .ro, 0, false, false⟩, ⟨27, 20, .ro, 0, false, false⟩, ⟨19, 0, .ro, 0, false, false⟩]⟩,
  ⟨0x4000c, [], [⟨17, 8, .ro, 0, false, false⟩, ⟨7, 0, .ro, 0, false, false⟩]⟩,
  ⟨0x40010, [], [⟨31, 0, .ro, 0, false, false⟩]⟩,
  ⟨0x40014, [], [⟨15, 0, .rw, 1536, false, false⟩]⟩,
  ⟨0x40018, [], [⟨24, 0, .rw, 0, false, false⟩]⟩]

def lnkRows0 : List RegRow := [
  ⟨0x50000, [], [⟨31, 30, .rw, 0, true, true⟩, ⟨29, 29, .rw, 1, false, false⟩, ⟨28, 28, .rw, 0, false, false⟩, ⟨7, 0, .rw, 100, false, false⟩]⟩,
  ⟨0x50004, [], [⟨31, 31, .w1s, 0, false, false⟩, ⟨15, 0, .rw, 0, false, false⟩]⟩,
  ⟨0x50008, [], [⟨31, 30, .ro, 3, false, false⟩, ⟨29, 29, .w1c, 0, false, false⟩, ⟨28, 28, .w1c, 0, false, false⟩, ⟨15, 8, .rc, 0, false, false⟩]⟩,
  ⟨0x5000c, [], [⟨31, 19, .rw, 0, true, true⟩, ⟨15, 3, .rw, 0, true, true⟩, ⟨1, 1, .rw, 1, false, false⟩, ⟨0, 0, .rw, 1, false, false⟩]⟩,
  ⟨0x50400, [(0x4, 32)], [⟨31, 31, .rw, 0, true, true⟩, ⟨30, 30, .rw, 0, true, true⟩, ⟨29, 29, .rw, 0, true, true⟩, ⟨28, 16, .rw, 0, true, true⟩, ⟨15, 0, .rw, 0, true, true⟩]⟩,
  ⟨0x50100, [(0x40, 3)], [⟨31, 31, .rw, 1, false, false⟩, ⟨30, 30, .w1s, 0, false, false⟩, ⟨29, 29, .w1s, 0, false, false⟩, ⟨9, 8, .rw, 2, true, true⟩, ⟨5, 4, .rw, 3, true, true⟩]⟩,
  ⟨0x50104, [(0x40, 3)], [⟨31, 29, .ro, 0, false, false⟩, ⟨28, 27, .ro, 0, false, false⟩, ⟨26, 25, .ro, 0, false, false⟩, ⟨24, 24, .ro, 0, false, false⟩, ⟨23, 20, .ro, 0, false, false⟩, ⟨19, 16, .ro, 0, false, false⟩, ⟨15, 15, .w1c, 0, false, false⟩, ⟨14, 14, .ro, 0, false, false⟩, ⟨13, 13, .w1c, 0, false, false⟩, ⟨12, 12, .w1c, 0, false, false⟩, ⟨11, 8, .ro, 0, false, false⟩, ⟨7, 0, .rc, 0, false, false⟩]⟩,
  ⟨0x50108, [(0x40, 3)], [⟨31, 28, .ro, 0, false, false⟩, ⟨27, 26, .ro, 0, false, false⟩, ⟨25, 25, .ro, 0, false, false⟩, ⟨24, 24, .ro, 0, false, false⟩, ⟨15, 0, .ro, 0, false, false⟩]⟩,
  ⟨0x5010c, [(0x40, 3)], [⟨31, 24, .rc, 0, false, false⟩, ⟨23, 16, .rc, 0, false, false⟩, ⟨15, 8, .rc, 0, false, false⟩, ⟨7, 0, .rc, 0, false, false⟩]⟩,
  ⟨0x50110, [(0x40, 3)], [⟨31, 16, .rc, 0, false, false⟩, ⟨15, 8, .rc, 0, false, false⟩, ⟨7, 0, .rc, 0, false, false⟩]⟩,
  ⟨0x50114, [(0x40, 3), (0x4, 4)], [⟨31, 16, .rc, 0, false, false⟩, ⟨15, 8, .rc, 0, false, false⟩, ⟨7, 0, .rc, 0, false, false⟩]⟩,
  ⟨0x50800, [], [⟨31, 31, .w1s, 0, false, false⟩, ⟨15, 0, .rw, 100, false, false⟩]⟩,
  ⟨0x50804, [], [⟨31, 30, .rw, 0, false, false⟩, ⟨29, 28, .rw, 0, false, false⟩, ⟨27, 24, .rw, 0, false, false⟩, ⟨11, 0, .rw, 0, false, false⟩]⟩,
  ⟨0x50808, [], [⟨23, 0, .rw, 0, false, false⟩]⟩]

def lnkRows1 : List RegRow := [
  ⟨0x5080c, [], [⟨31, 31, .ro, 0, false, false⟩, ⟨30, 30, .ro, 0, false, false⟩, ⟨29, 23, .ro, 0, false, false⟩, ⟨22, 16, .ro, 0, false, false⟩, ⟨15, 8, .rc, 0, false, false⟩, ⟨7, 0, .rc, 0, false, false⟩]⟩,
  ⟨0x50810, [], [⟨31, 31, .rc, 0, false, false⟩, ⟨27, 24, .rc, 0, false, false⟩, ⟨21, 16, .rc, 0, false, false⟩, ⟨15, 12, .rc, 0, false, false⟩, ⟨11, 0, .rc, 0, false, false⟩]⟩,
  ⟨0x50814, [], [⟨31, 31, .ro, 0, false, false⟩, ⟨5, 0, .ro, 0, false, false⟩]⟩,
  ⟨0x50820, [(0x4, 16)], [⟨31, 0, .rw, 0, false, false⟩]⟩,
  ⟨0x50860, [(0x4, 16)], [⟨31, 0, .ro, 0, false, false⟩]⟩,
  ⟨0x50900, [(0x4, 16)], [⟨31, 0, .rw, 0, false, false⟩]⟩,
  ⟨0x50940, [], [⟨31, 31, .w1c, 0, false, false⟩, ⟨12, 12, .ro, 0, false, false⟩, ⟨11, 0, .ro, 0, false, false⟩]⟩]

def lnkRows : List RegRow := lnkRows0 ++ lnkRows1

def spnRows0 : List RegRow := [
  ⟨0x60000, [], [⟨31, 31, .w1s, 0, false, false⟩, ⟨30, 30, .rw, 1, false, false⟩, ⟨27, 24, .rw, 15, false, false⟩, ⟨0, 0, .rw, 1, false, false⟩]⟩,
  ⟨0x60004, [], [⟨31, 31, .ro, 0, false, false⟩, ⟨30, 30, .ro, 0, false, false⟩, ⟨29, 29, .w1c, 0, false, false⟩, ⟨28, 28, .w1c, 0, false, false⟩, ⟨27, 25, .ro, 0, false, false⟩, ⟨11, 0, .ro, 0, false, false⟩]⟩,
  ⟨0x60008, [], [⟨31, 31, .ro, 0, false, false⟩, ⟨30, 30, .w1c, 0, false, false⟩, ⟨29, 29, .w1c, 0, false, false⟩, ⟨28, 16, .ro, 0, false, false⟩, ⟨12, 0, .ro, 0, false, false⟩]⟩,
  ⟨0x6000c, [], [⟨15, 0, .rw, 1, false, false⟩]⟩,
  ⟨0x60010, [], [⟨31, 0, .ro, 0, false, false⟩]⟩,
  ⟨0x60014, [], [⟨31, 0, .ro, 0, false, false⟩]⟩,
  ⟨0x60018, [], [⟨31, 0, .rw, 0, false, false⟩]⟩,
  ⟨0x6001c, [], [⟨31, 0, .rw, 0, false, false⟩]⟩,
  ⟨0x60020, [], [⟨31, 30, .ro, 0, false, false⟩, ⟨29, 29, .w1c, 0, false, false⟩, ⟨15, 0, .ro, 0, false, false⟩]⟩,
  ⟨0x60024, [], [⟨15, 0, .ro, 0, false, false⟩]⟩,
  ⟨0x60028, [], [⟨7, 0, .rc, 0, false, false⟩]⟩,
  ⟨0x6002c, [], [⟨31, 0, .ro, 0, false, false⟩]⟩,
  ⟨0x60030, [], [⟨31, 24, .rc, 0, false, false⟩, ⟨23, 16, .rc, 0, false, false⟩, ⟨15, 8, .rc, 0, false, false⟩]⟩,
  ⟨0x60100, [(0x20, 5)], [⟨31, 29, .ro, 0, false, false⟩, ⟨28, 28, .ro, 0, false, false⟩, ⟨27, 27, .w1c, 0, false, false⟩, ⟨26, 26, .ro, 0, false, false⟩, ⟨23, 16, .rc, 0, false, false⟩, ⟨15, 0, .ro, 0, false, false⟩]⟩]

def spnRows1 : List RegRow := [
  ⟨0x60104, [(0x20, 5)], [⟨27, 16, .ro, 0, false, false⟩, ⟨11, 0, .ro, 0, false, false⟩]⟩,
  ⟨0x60108, [(0x20, 5)], [⟨31, 16, .rc, 0, false, false⟩, ⟨15, 8, .rc, 0, false, false⟩, ⟨7, 0, .rc, 0, false, false⟩]⟩,
  ⟨0x6010c, [(0x20, 5)], [⟨15, 8, .rc, 0, false, false⟩, ⟨7, 0, .rc, 0, false, false⟩]⟩,
  ⟨0x60800, [], [⟨31, 31, .w1s, 0, false, false⟩, ⟨15, 0, .rw, 200, false, false⟩]⟩,
  ⟨0x60804, [], [⟨31, 30, .rw, 0, false, false⟩, ⟨29, 24, .rw, 0, false, false⟩, ⟨21, 12, .rw, 0, false, false⟩, ⟨11, 0, .rw, 0, false, false⟩]⟩,
  ⟨0x60808, [], [⟨23, 0, .rw, 0, false, false⟩]⟩,
  ⟨0x6080c, [], [⟨31, 31, .ro, 0, false, false⟩, ⟨30, 30, .ro, 0, false, false⟩, ⟨29, 23, .ro, 0, false, false⟩, ⟨22, 16, .ro, 0, false, false⟩, ⟨15, 8, .rc, 0, false, false⟩, ⟨7, 0, .rc, 0, false, false⟩]⟩,
  ⟨0x60810, [], [⟨31, 31, .rc, 0, false, false⟩, ⟨30, 27, .rc, 0, false, false⟩, ⟨23, 18, .rc, 0, false, false⟩, ⟨17, 12, .rc, 0, false, false⟩, ⟨11, 0, .rc, 0, false, false⟩]⟩,
  ⟨0x60814, [], [⟨31, 31, .ro, 0, false, false⟩, ⟨5, 0, .ro, 0, false, false⟩]⟩,
  ⟨0x60900, [(0x4, 64)], [⟨31, 0, .rw, 0, false, false⟩]⟩,
  ⟨0x60a00, [(0x4, 64)], [⟨31, 0, .ro, 0, false, false⟩]⟩,
  ⟨0x60c00, [], [⟨31, 31, .w1s, 0, false, false⟩, ⟨30, 30, .ro, 0, false, false⟩, ⟨29, 28, .rw, 1, false, false⟩, ⟨27, 24, .rw, 0, false, false⟩, ⟨23, 12, .rw, 0, false, false⟩]⟩,
  ⟨0x60c04, [], [⟨15, 0, .rw, 1, false, false⟩]⟩,
  ⟨0x60c08, [], [⟨20, 0, .rw, 0, false, false⟩]⟩]

def spnRows2 : List RegRow := [
  ⟨0x60c0c, [], [⟨24, 0, .rw, 0, false, false⟩]⟩,
  ⟨0x60c10, [], [⟨15, 0, .rw, 2560, false, false⟩]⟩,
  ⟨0x60c14, [], [⟨28, 16, .ro, 0, false, false⟩, ⟨12, 0, .ro, 0, false, false⟩]⟩,
  ⟨0x60c18, [], [⟨31, 31, .ro, 0, false, false⟩, ⟨27, 20, .ro, 0, false, false⟩, ⟨19, 16, .ro, 0, false, false⟩, ⟨11, 0, .ro, 0, false, false⟩]⟩,
  ⟨0x60c1c, [], [⟨31, 31, .ro, 0, false, false⟩, ⟨19, 16, .ro, 0, false, false⟩, ⟨15, 0, .ro, 0, false, false⟩]⟩,
  ⟨0x60e00, [], [⟨31, 24, .rc, 0, false, false⟩, ⟨6, 0, .ro, 0, false, false⟩]⟩,
  ⟨0x60e04, [], [⟨31, 31, .rc, 0, false, false⟩, ⟨29, 28, .rc, 0, false, false⟩, ⟨27, 20, .rc, 0, false, false⟩, ⟨19, 12, .rc, 0, false, false⟩, ⟨11, 0, .rc, 0, false, false⟩]⟩,
  ⟨0x60e08, [], [⟨31, 0, .ro, 0, false, false⟩]⟩,
  ⟨0x60e0c, [], [⟨31, 0, .ro, 0, false, false⟩]⟩,
  ⟨0x60e10, [], [⟨31, 0, .ro, 0, false, false⟩]⟩]

def spnRows : List RegRow := spnRows0 ++ spnRows1 ++ spnRows2

def memRows0 : List RegRow := [
  ⟨0x70000, [], [⟨31, 30, .ro, 0, false, false⟩, ⟨29, 28, .ro, 0, false, false⟩, ⟨27, 27, .ro, 0, false, false⟩, ⟨26, 25, .ro, 0, false, false⟩, ⟨24, 24, .ro, 0, false, false⟩, ⟨23, 20, .ro, 0, false, false⟩, ⟨19, 16, .ro, 0, false, false⟩, ⟨7, 0, .rc, 0, false, false⟩]⟩,
  ⟨0x70004, [], [⟨26, 24, .ro, 0, false, false⟩, ⟨21, 20, .ro, 0, false, false⟩, ⟨17, 16, .ro, 0, false, false⟩, ⟨15, 0, .ro, 12576, false, false⟩]⟩,
  ⟨0x70008, [], [⟨9, 0, .rw, 0, false, false⟩]⟩,
  ⟨0x7000c, [], [⟨1, 1, .w1c, 0, false, false⟩, ⟨0, 0, .w1c, 0, false, false⟩]⟩,
  ⟨0x70010, [], [⟨31, 16, .rw, 256, false, false⟩, ⟨15, 0, .rw, 1000, false, false⟩]⟩,
  ⟨0x70014, [], [⟨31, 31, .rw, 0, false, false⟩, ⟨30, 30, .w1s, 0, false, false⟩, ⟨29, 28, .rw, 0, false, false⟩, ⟨7, 0, .rw, 16, false, false⟩]⟩,
  ⟨0x70018, [], [⟨24, 0, .ro, 0, false, false⟩]⟩,
  ⟨0x7001c, [], [⟨31, 16, .rc, 0, false, false⟩]⟩,
  ⟨0x70020, [], [⟨31, 31, .rw, 0, false, false⟩, ⟨15, 0, .rw, 3600, false, false⟩]⟩,
  ⟨0x70024, [], [⟨31, 16, .rw, 8192, false, false⟩, ⟨15, 0, .rw, 2000, false, false⟩]⟩,
  ⟨0x70028, [], [⟨31, 27, .ro, 0, false, false⟩, ⟨26, 25, .ro, 0, false, false⟩, ⟨24, 22, .ro, 0, false, false⟩, ⟨21, 6, .ro, 0, false, false⟩, ⟨5, 0, .rc, 0, false, false⟩]⟩,
  ⟨0x7002c, [], [⟨31, 0, .ro, 0, false, false⟩]⟩,
  ⟨0x70030, [(0x4, 2)], [⟨13, 8, .rw, 24, false, false⟩, ⟨5, 0, .rw, 8, false, false⟩]⟩,
  ⟨0x70040, [(0x10, 4)], [⟨31, 16, .rc, 0, false, false⟩, ⟨15, 8, .rc, 0, false, false⟩, ⟨7, 0, .rc, 0, false, false⟩]⟩]

def memRows1 : List RegRow := [
  ⟨0x70044, [(0x10, 4)], [⟨31, 31, .w1c, 0, false, false⟩, ⟨25, 0, .ro, 0, false, false⟩]⟩,
  ⟨0x70048, [(0x10, 4)], [⟨2, 0, .ro, 0, false, false⟩]⟩]

def memRows : List RegRow := memRows0 ++ memRows1

def layRows0 : List RegRow := [
  ⟨0x80600, [(0x20, 8)], [⟨31, 31, .rw, 0, true, true⟩, ⟨30, 30, .rw, 1, true, false⟩, ⟨29, 28, .rw, 0, true, true⟩, ⟨27, 24, .rw, 1, true, true⟩, ⟨23, 22, .rw, 1, true, false⟩, ⟨15, 0, .rw, 0, true, false⟩]⟩,
  ⟨0x80604, [(0x20, 8)], [⟨20, 0, .rw, 0, true, false⟩]⟩,
  ⟨0x80608, [(0x20, 8)], [⟨28, 16, .rw, 0, true, true⟩, ⟨12, 0, .rw, 0, true, true⟩]⟩,
  ⟨0x8060c, [(0x20, 8)], [⟨11, 0, .rw, 0, true, false⟩]⟩,
  ⟨0x80610, [(0x20, 8)], [⟨20, 0, .rw, 0, true, false⟩]⟩,
  ⟨0x80614, [(0x20, 8)], [⟨31, 16, .ro, 0, false, false⟩, ⟨11, 10, .ro, 0, false, false⟩, ⟨9, 8, .ro, 0, false, false⟩, ⟨7, 7, .ro, 1, false, false⟩]⟩,
  ⟨0x80618, [(0x20, 8)], [⟨31, 0, .ro, 0, false, false⟩]⟩,
  ⟨0x8061c, [(0x20, 8)], [⟨31, 24, .rc, 0, false, false⟩, ⟨23, 16, .rc, 0, false, false⟩, ⟨15, 8, .rc, 0, false, false⟩]⟩,
  ⟨0x80000, [(0x80, 4)], [⟨31, 31, .rw, 0, true, false⟩, ⟨30, 27, .rw, 8, true, true⟩, ⟨26, 23, .rw, 1, true, true⟩, ⟨22, 21, .rw, 0, true, false⟩, ⟨20, 20, .rw, 1, true, false⟩, ⟨19, 19, .rw, 0, true, false⟩, ⟨18, 18, .rw, 0, true, false⟩, ⟨17, 16, .rw, 0, true, false⟩, ⟨15, 14, .rw, 0, true, false⟩, ⟨6, 0, .rw, 0, true, false⟩]⟩,
  ⟨0x80200, [(0x80, 4)], [⟨31, 31, .rw, 0, true, false⟩, ⟨30, 27, .rw, 8, true, true⟩, ⟨26, 23, .rw, 1, true, true⟩, ⟨22, 21, .rw, 0, true, false⟩, ⟨18, 18, .rw, 0, true, false⟩, ⟨6, 0, .rw, 0, true, false⟩]⟩,
  ⟨0x80004, [(0x80, 4)], [⟨20, 0, .rw, 0, true, false⟩]⟩,
  ⟨0x80204, [(0x80, 4)], [⟨20, 0, .rw, 0, true, false⟩]⟩,
  ⟨0x80008, [(0x80, 4)], [⟨11, 0, .rw, 0, true, false⟩]⟩,
  ⟨0x80208, [(0x80, 4)], [⟨11, 0, .rw, 0, true, false⟩]⟩]

def layRows1 : List RegRow := [
  ⟨0x8000c, [(0x80, 4)], [⟨28, 16, .rw, 0, true, false⟩, ⟨12, 0, .rw, 0, true, false⟩]⟩,
  ⟨0x8020c, [(0x80, 4)], [⟨28, 16, .rw, 0, true, false⟩, ⟨12, 0, .rw, 0, true, false⟩]⟩,
  ⟨0x80010, [(0x80, 4)], [⟨28, 16, .rw, 1024, true, true⟩, ⟨12, 0, .rw, 1024, true, true⟩]⟩,
  ⟨0x80210, [(0x80, 4)], [⟨28, 16, .rw, 1024, true, true⟩, ⟨12, 0, .rw, 1024, true, true⟩]⟩,
  ⟨0x80014, [(0x80, 4)], [⟨28, 16, .rw, 0, true, true⟩, ⟨12, 0, .rw, 0, true, true⟩]⟩,
  ⟨0x80214, [(0x80, 4)], [⟨28, 16, .rw, 0, true, true⟩, ⟨12, 0, .rw, 0, true, true⟩]⟩,
  ⟨0x80018, [(0x80, 4)], [⟨28, 16, .rw, 1024, true, true⟩, ⟨12, 0, .rw, 1024, true, true⟩]⟩,
  ⟨0x80218, [(0x80, 4)], [⟨28, 16, .rw, 1024, true, true⟩, ⟨12, 0, .rw, 1024, true, true⟩]⟩,
  ⟨0x8001c, [(0x80, 4)], [⟨23, 0, .ro, 1048576, false, false⟩]⟩,
  ⟨0x8021c, [(0x80, 4)], []⟩,
  ⟨0x80020, [(0x80, 4)], [⟨23, 0, .ro, 1048576, false, false⟩]⟩,
  ⟨0x80220, [(0x80, 4)], []⟩,
  ⟨0x80024, [(0x80, 4)], [⟨24, 0, .rw, 0, true, false⟩]⟩,
  ⟨0x80224, [(0x80, 4)], []⟩]

def layRows2 : List RegRow := [
  ⟨0x80028, [(0x80, 4)], [⟨24, 0, .rw, 0, true, false⟩]⟩,
  ⟨0x80228, [(0x80, 4)], []⟩,
  ⟨0x8002c, [(0x80, 4)], [⟨27, 16, .rw, 4095, true, false⟩, ⟨11, 0, .rw, 0, true, false⟩]⟩,
  ⟨0x8022c, [(0x80, 4)], [⟨27, 16, .rw, 4095, true, false⟩, ⟨11, 0, .rw, 0, true, false⟩]⟩,
  ⟨0x80030, [(0x80, 4)], [⟨27, 16, .rw, 4095, true, false⟩, ⟨11, 0, .rw, 0, true, false⟩]⟩,
  ⟨0x80230, [(0x80, 4)], [⟨27, 16, .rw, 4095, true, false⟩, ⟨11, 0, .rw, 0, true, false⟩]⟩,
  ⟨0x80034, [(0x80, 4)], [⟨27, 16, .rw, 4095, true, false⟩, ⟨11, 0, .rw, 0, true, false⟩]⟩,
  ⟨0x80234, [(0x80, 4)], [⟨27, 16, .rw, 4095, true, false⟩, ⟨11, 0, .rw, 0, true, false⟩]⟩,
  ⟨0x80038, [(0x80, 4)], [⟨31, 16, .rw, 0, true, false⟩, ⟨15, 0, .rw, 8192, true, false⟩]⟩,
  ⟨0x80238, [(0x80, 4)], []⟩,
  ⟨0x8003c, [(0x80, 4)], [⟨31, 16, .rw, 0, true, false⟩, ⟨15, 0, .rw, 0, true, false⟩]⟩,
  ⟨0x8023c, [(0x80, 4)], []⟩,
  ⟨0x80040, [(0x80, 4)], [⟨31, 16, .rw, 0, true, false⟩, ⟨15, 0, .rw, 8192, true, false⟩]⟩,
  ⟨0x80240, [(0x80, 4)], []⟩]

def layRows3 : List RegRow := [
  ⟨0x80044, [(0x80, 4)], [⟨31, 16, .rw, 0, true, false⟩, ⟨15, 0, .rw, 0, true, false⟩]⟩,
  ⟨0x80244, [(0x80, 4)], []⟩,
  ⟨0x80048, [(0x80, 4)], [⟨15, 0, .rw, 8192, true, false⟩]⟩,
  ⟨0x80248, [(0x80, 4)], []⟩,
  ⟨0x8004c, [(0x80, 4), (0x4, 3)], [⟨17, 0, .rw, 0, true, false⟩]⟩,
  ⟨0x8024c, [(0x80, 4), (0x4, 3)], []⟩,
  ⟨0x80058, [(0x80, 4)], [⟨14, 8, .rw, 48, true, false⟩, ⟨6, 0, .rw, 16, true, false⟩]⟩,
  ⟨0x80258, [(0x80, 4)], [⟨14, 8, .rw, 48, true, false⟩, ⟨6, 0, .rw, 16, true, false⟩]⟩,
  ⟨0x8005c, [(0x80, 4)], [⟨31, 24, .rc, 0, false, false⟩, ⟨23, 16, .rc, 0, false, false⟩, ⟨2, 2, .w1c, 0, false, false⟩, ⟨0, 0, .w1c, 0, false, false⟩]⟩,
  ⟨0x8025c, [(0x80, 4)], [⟨31, 24, .rc, 0, false, false⟩, ⟨23, 16, .rc, 0, false, false⟩, ⟨2, 2, .w1c, 0, false, false⟩, ⟨0, 0, .w1c, 0, false, false⟩]⟩,
  ⟨0x80060, [(0x80, 4)], [⟨0, 0, .w1s, 0, false, false⟩]⟩,
  ⟨0x80260, [(0x80, 4)], [⟨0, 0, .w1s, 0, false, false⟩]⟩,
  ⟨0x80064, [(0x80, 4)], [⟨31, 0, .ro, 0, false, false⟩]⟩,
  ⟨0x80264, [(0x80, 4)], [⟨31, 0, .ro, 0, false, false⟩]⟩]

def layRows4 : List RegRow := [
  ⟨0x80400, [(0x40, 4)], [⟨31, 0, .rw, 4294967295, true, true⟩]⟩,
  ⟨0x80404, [(0x40, 4), (0x4, 3)], [⟨17, 0, .rw, 0, true, false⟩]⟩,
  ⟨0x80410, [(0x40, 4)], [⟨0, 0, .rw, 0, true, false⟩]⟩,
  ⟨0x80414, [(0x40, 4)], [⟨31, 31, .rw, 0, true, true⟩, ⟨30, 30, .rw, 0, true, false⟩, ⟨29, 29, .rw, 0, true, true⟩, ⟨28, 28, .rw, 0, true, true⟩, ⟨27, 26, .rw, 0, true, true⟩, ⟨25, 25, .rw, 0, true, false⟩, ⟨15, 0, .rw, 0, true, false⟩]⟩,
  ⟨0x80418, [(0x40, 4)], [⟨20, 0, .rw, 0, true, false⟩]⟩,
  ⟨0x8041c, [(0x40, 4)], [⟨31, 24, .rc, 0, false, false⟩, ⟨23, 16, .rc, 0, false, false⟩, ⟨11, 10, .ro, 3, false, false⟩, ⟨9, 8, .ro, 3, false, false⟩]⟩]

def layRows : List RegRow := layRows0 ++ layRows1 ++ layRows2 ++ layRows3 ++ layRows4

def corRows0 : List RegRow := [
  ⟨0x90000, [(0x100, 4)], [⟨31, 31, .rw, 0, true, false⟩, ⟨30, 30, .rw, 0, true, false⟩, ⟨29, 29, .rw, 0, true, false⟩, ⟨6, 0, .rw, 32, true, false⟩]⟩,
  ⟨0x90004, [(0x100, 4)], [⟨20, 0, .rw, 0, true, false⟩]⟩,
  ⟨0x90008, [(0x100, 4)], [⟨20, 0, .rw, 0, true, false⟩]⟩,
  ⟨0x9000c, [(0x100, 4)], [⟨31, 24, .rc, 0, false, false⟩, ⟨23, 16, .rc, 0, false, false⟩]⟩,
  ⟨0x90400, [], [⟨31, 31, .rw, 0, true, false⟩, ⟨30, 30, .rw, 1, true, false⟩, ⟨29, 29, .rw, 0, true, false⟩, ⟨23, 16, .rw, 64, true, false⟩, ⟨15, 8, .rw, 16, true, false⟩, ⟨7, 0, .rw, 8, true, false⟩]⟩,
  ⟨0x90404, [], [⟨15, 0, .rw, 400, true, false⟩]⟩,
  ⟨0x90408, [], [⟨31, 16, .rw, 0, true, false⟩, ⟨15, 0, .rw, 0, true, false⟩]⟩,
  ⟨0x9040c, [], [⟨15, 0, .rw, 0, true, false⟩]⟩,
  ⟨0x90410, [], [⟨31, 16, .rw, 32768, true, false⟩, ⟨15, 0, .rw, 32768, true, false⟩]⟩,
  ⟨0x90414, [], [⟨15, 0, .rw, 32768, true, false⟩]⟩,
  ⟨0x90418, [], [⟨31, 16, .rw, 65535, true, false⟩, ⟨15, 0, .rw, 64, true, false⟩]⟩,
  ⟨0x9041c, [], [⟨23, 16, .rw, 40, true, false⟩, ⟨15, 8, .rw, 40, true, false⟩, ⟨7, 0, .rw, 40, true, false⟩]⟩,
  ⟨0x90420, [], [⟨31, 16, .rw, 32768, true, false⟩, ⟨15, 0, .rw, 32768, true, false⟩]⟩,
  ⟨0x90424, [], [⟨15, 0, .rw, 32768, true, false⟩]⟩]

/-- Rows of block 9, COR_ZM_NTC0 and NTC1 (0x9_042C and 0x9_0430, R143) among them. [log 147] -/
def corRows1 : List RegRow := [
  ⟨0x90428, [], [⟨20, 0, .rw, 0, true, false⟩]⟩,
  ⟨0x9042c, [], [⟨31, 0, .rw, 0, true, false⟩]⟩,
  ⟨0x90430, [], [⟨31, 0, .rw, 0, true, false⟩]⟩,
  ⟨0x90434, [], [⟨31, 24, .rc, 0, false, false⟩, ⟨23, 16, .rc, 0, false, false⟩, ⟨15, 15, .w1c, 0, false, false⟩, ⟨7, 0, .rc, 0, false, false⟩]⟩,
  ⟨0x90438, [], [⟨11, 0, .rw, 0, false, false⟩]⟩,
  ⟨0x9043c, [], [⟨15, 0, .ro, 0, false, false⟩]⟩,
  ⟨0x90440, [], [⟨31, 16, .ro, 0, false, false⟩, ⟨15, 0, .ro, 0, false, false⟩]⟩,
  ⟨0x90444, [], [⟨15, 0, .ro, 0, false, false⟩]⟩,
  ⟨0x90040, [(0x100, 4)], [⟨31, 30, .rw, 0, true, false⟩, ⟨7, 4, .rw, 3, true, false⟩, ⟨3, 0, .rw, 3, true, false⟩]⟩,
  ⟨0x90044, [(0x100, 4)], [⟨31, 16, .rw, 46875, true, false⟩, ⟨15, 0, .rw, 13933, true, false⟩]⟩,
  ⟨0x90048, [(0x100, 4)], [⟨17, 0, .rw, 32768, true, false⟩]⟩,
  ⟨0x9004c, [(0x100, 4)], [⟨17, 0, .rw, 16384, true, false⟩]⟩,
  ⟨0x90050, [(0x100, 4)], [⟨17, 0, .rw, 65536, true, false⟩]⟩,
  ⟨0x90054, [(0x100, 4)], [⟨31, 24, .rw, 204, true, false⟩, ⟨23, 12, .rw, 1024, true, false⟩, ⟨11, 0, .rw, 1024, true, false⟩]⟩]

def corRows2 : List RegRow := [
  ⟨0x90058, [(0x100, 4)], [⟨31, 30, .ro, 0, false, false⟩, ⟨23, 16, .ro, 0, false, false⟩, ⟨15, 8, .ro, 0, false, false⟩, ⟨7, 0, .rc, 0, false, false⟩]⟩,
  ⟨0x9005c, [(0x100, 4)], [⟨16, 0, .ro, 65536, false, false⟩]⟩,
  ⟨0x90080, [(0x100, 4)], [⟨2, 2, .rw, 1, true, false⟩, ⟨1, 0, .rw, 0, true, false⟩]⟩]

def corRows : List RegRow := corRows0 ++ corRows1 ++ corRows2

def timRows0 : List RegRow := [
  ⟨0xa0100, [(0x40, 8)], [⟨31, 20, .rw, 0, true, true⟩, ⟨19, 0, .rw, 0, true, true⟩]⟩,
  ⟨0xa0104, [(0x40, 8)], [⟨31, 28, .rw, 0, true, true⟩, ⟨27, 26, .rw, 0, true, true⟩, ⟨25, 19, .rw, 0, true, true⟩, ⟨18, 11, .rw, 0, true, true⟩, ⟨10, 0, .rw, 0, true, true⟩]⟩,
  ⟨0xa0110, [(0x40, 8), (0x8, 4)], [⟨16, 0, .rw, 0, true, true⟩]⟩,
  ⟨0xa0114, [(0x40, 8), (0x8, 4)], [⟨16, 0, .rw, 0, true, true⟩]⟩,
  ⟨0xa0004, [], [⟨2, 0, .rw, 0, true, true⟩]⟩,
  ⟨0xa0008, [], [⟨31, 31, .ro, 0, false, false⟩, ⟨30, 30, .ro, 0, false, false⟩, ⟨29, 29, .w1c, 0, false, false⟩, ⟨28, 28, .w1c, 0, false, false⟩, ⟨23, 16, .rc, 0, false, false⟩, ⟨2, 0, .ro, 0, false, false⟩]⟩,
  ⟨0xa000c, [], [⟨31, 0, .ro, 0, false, false⟩]⟩,
  ⟨0xa0040, [], [⟨30, 16, .ro, 0, false, false⟩, ⟨14, 8, .ro, 0, false, false⟩]⟩,
  ⟨0xa0010, [], [⟨31, 30, .rw, 0, false, false⟩, ⟨29, 29, .rw, 0, false, false⟩, ⟨4, 0, .rw, 10, false, false⟩]⟩,
  ⟨0xa0014, [], [⟨19, 0, .rw, 0, false, false⟩]⟩,
  ⟨0xa0018, [], [⟨31, 30, .ro, 0, false, false⟩, ⟨29, 29, .w1c, 0, false, false⟩, ⟨28, 28, .ro, 0, false, false⟩, ⟨7, 0, .rc, 0, false, false⟩]⟩,
  ⟨0xa001c, [], [⟨27, 0, .ro, 0, false, false⟩]⟩,
  ⟨0xa0000, [], [⟨15, 8, .rc, 0, false, false⟩, ⟨1, 1, .ro, 0, false, false⟩, ⟨0, 0, .w1s, 0, false, false⟩]⟩,
  ⟨0xa0020, [], [⟨31, 31, .rw, 0, false, false⟩, ⟨9, 8, .rw, 1, false, false⟩, ⟨7, 0, .rw, 8, false, false⟩]⟩]

def timRows1 : List RegRow := [
  ⟨0xa0024, [], [⟨31, 30, .ro, 0, false, false⟩, ⟨29, 29, .ro, 0, false, false⟩, ⟨7, 0, .ro, 0, false, false⟩]⟩,
  ⟨0xa0400, [(0x4, 32)], [⟨31, 16, .rc, 0, false, false⟩, ⟨15, 0, .rc, 0, false, false⟩]⟩,
  ⟨0xa0028, [], [⟨31, 28, .rw, 0, false, false⟩, ⟨7, 0, .rw, 4, false, false⟩]⟩,
  ⟨0xa002c, [], [⟨31, 24, .ro, 0, false, false⟩, ⟨23, 16, .ro, 0, false, false⟩, ⟨15, 8, .ro, 0, false, false⟩, ⟨7, 0, .ro, 0, false, false⟩]⟩,
  ⟨0xa0030, [], [⟨3, 0, .w1c, 0, false, false⟩]⟩,
  ⟨0xa0050, [(0x4, 4)], [⟨31, 0, .ro, 0, false, false⟩]⟩]

def timRows : List RegRow := timRows0 ++ timRows1

def chnRows : List RegRow := [
  ⟨0xb0000, [], [⟨3, 3, .rw, 1, false, false⟩, ⟨2, 2, .rw, 0, true, true⟩, ⟨1, 1, .rw, 0, false, false⟩]⟩,
  ⟨0xb0004, [], [⟨15, 8, .ro, 65, false, false⟩, ⟨1, 1, .ro, 1, false, false⟩, ⟨0, 0, .ro, 1, false, false⟩]⟩,
  ⟨0xb0008, [], [⟨6, 4, .ro, 0, false, false⟩, ⟨2, 0, .ro, 0, false, false⟩]⟩,
  ⟨0xb000c, [], [⟨23, 16, .rw, 0, true, false⟩, ⟨15, 8, .rw, 0, true, false⟩, ⟨7, 0, .rw, 0, true, false⟩]⟩,
  ⟨0xb0100, [(0x10, 64)], [⟨21, 19, .ro, 0, false, false⟩, ⟨18, 16, .ro, 0, false, false⟩, ⟨15, 8, .ro, 0, false, false⟩, ⟨6, 6, .ro, 0, false, false⟩, ⟨5, 0, .ro, 0, false, false⟩]⟩,
  ⟨0xb0104, [(0x10, 64)], [⟨13, 8, .rw, 0, false, false⟩, ⟨4, 0, .rw, 0, false, false⟩]⟩,
  ⟨0xb0108, [(0x10, 64)], [⟨31, 24, .rc, 0, false, false⟩, ⟨23, 16, .rc, 0, false, false⟩, ⟨15, 8, .rc, 0, false, false⟩, ⟨5, 5, .w1c, 0, false, false⟩, ⟨4, 4, .w1c, 0, false, false⟩, ⟨3, 3, .w1c, 0, false, false⟩, ⟨2, 2, .w1c, 0, false, false⟩, ⟨1, 1, .w1c, 0, false, false⟩, ⟨0, 0, .w1c, 0, false, false⟩]⟩,
  ⟨0xb010c, [(0x10, 64)], [⟨20, 16, .ro, 0, false, false⟩, ⟨9, 0, .ro, 0, false, false⟩]⟩,
  ⟨0xb0010, [], [⟨13, 8, .rw, 0, false, false⟩, ⟨4, 0, .rw, 0, false, false⟩]⟩,
  ⟨0xb0014, [(0x4, 4)], [⟨31, 0, .ro, 0, false, false⟩]⟩]

def diaRows : List RegRow := [
  ⟨0xc0100, [(0x10, 8)], [⟨19, 0, .ro, 0, false, false⟩]⟩,
  ⟨0xc0104, [(0x10, 8)], [⟨19, 0, .ro, 0, false, false⟩]⟩,
  ⟨0xc0108, [(0x10, 8)], [⟨19, 0, .ro, 0, false, false⟩]⟩,
  ⟨0xc010c, [(0x10, 8)], [⟨15, 0, .ro, 0, false, false⟩]⟩,
  ⟨0xc0000, [], [⟨31, 31, .rw, 0, false, false⟩, ⟨30, 30, .rw, 0, false, false⟩, ⟨29, 28, .rw, 2, false, false⟩, ⟨27, 16, .rw, 64, false, false⟩, ⟨15, 8, .rw, 8, false, false⟩, ⟨5, 5, .rw, 0, false, false⟩, ⟨4, 0, .rw, 17, false, false⟩]⟩,
  ⟨0xc0004, [], [⟨20, 0, .rw, 0, false, false⟩]⟩,
  ⟨0xc0008, [], [⟨20, 0, .rw, 0, false, false⟩]⟩,
  ⟨0xc000c, [], [⟨20, 0, .rw, 0, false, false⟩]⟩,
  ⟨0xc0010, [], [⟨31, 24, .rc, 0, false, false⟩, ⟨23, 16, .rc, 0, false, false⟩, ⟨15, 8, .rc, 0, false, false⟩, ⟨7, 0, .rc, 0, false, false⟩]⟩,
  ⟨0xc0014, [], [⟨31, 31, .ro, 0, false, false⟩, ⟨21, 0, .ro, 0, false, false⟩]⟩,
  ⟨0xc0018, [], [⟨4, 0, .rw, 2, false, false⟩]⟩]

def clsRows : List RegRow := [
  ⟨0xd0100, [], [⟨23, 16, .lk, 0, false, false⟩, ⟨15, 8, .lk, 0, false, false⟩, ⟨7, 0, .lk, 0, false, false⟩]⟩,
  ⟨0xd0104, [], [⟨31, 24, .lk, 20, false, false⟩, ⟨23, 16, .lk, 20, false, false⟩, ⟨15, 8, .lk, 10, false, false⟩, ⟨7, 0, .lk, 10, false, false⟩]⟩,
  ⟨0xd0108, [], [⟨23, 16, .lk, 0, false, false⟩, ⟨15, 8, .lk, 0, false, false⟩, ⟨7, 0, .lk, 0, false, false⟩]⟩,
  ⟨0xd010c, [], [⟨15, 0, .lk, 0, false, false⟩]⟩,
  ⟨0xd0110, [], [⟨15, 8, .lk, 25, false, false⟩, ⟨2, 0, .lk, 7, false, false⟩]⟩,
  ⟨0xd0000, [], [⟨31, 31, .w1s, 0, false, false⟩, ⟨30, 30, .rw, 0, false, false⟩, ⟨29, 29, .rw, 0, false, false⟩, ⟨25, 24, .rw, 0, false, false⟩]⟩,
  ⟨0xd0004, [], [⟨31, 0, .wo, 0, false, false⟩]⟩,
  ⟨0xd0008, [], [⟨31, 29, .ro, 0, false, false⟩, ⟨28, 27, .ro, 2, false, false⟩, ⟨26, 26, .ro, 0, false, false⟩, ⟨25, 25, .ro, 0, false, false⟩, ⟨24, 24, .w1c, 0, false, false⟩, ⟨8, 0, .ro, 0, false, false⟩]⟩,
  ⟨0xd000c, [], [⟨10, 0, .ro, 0, false, false⟩]⟩,
  ⟨0xd0010, [], [⟨7, 4, .ro, 0, false, false⟩, ⟨3, 0, .ro, 0, false, false⟩]⟩,
  ⟨0xd0014, [], [⟨31, 24, .rc, 0, false, false⟩, ⟨23, 16, .rc, 0, false, false⟩, ⟨15, 8, .rc, 0, false, false⟩, ⟨7, 0, .rc, 0, false, false⟩]⟩,
  ⟨0xd0018, [], [⟨15, 8, .ro, 0, false, false⟩, ⟨7, 0, .ro, 0, false, false⟩]⟩,
  ⟨0xd001c, [], [⟨28, 16, .ro, 0, false, false⟩, ⟨15, 14, .ro, 0, false, false⟩, ⟨11, 0, .ro, 0, false, false⟩]⟩]

def adcRows0 : List RegRow := [
  ⟨0xe0000, [], [⟨31, 31, .rw, 0, false, false⟩, ⟨30, 30, .w1s, 0, false, false⟩, ⟨27, 24, .rw, 0, false, false⟩, ⟨23, 23, .rw, 0, false, false⟩, ⟨3, 0, .rw, 0, false, false⟩]⟩,
  ⟨0xe0004, [], [⟨16, 0, .rw, 0, false, false⟩]⟩,
  ⟨0xe0008, [], [⟨15, 0, .rw, 0, false, false⟩]⟩,
  ⟨0xe000c, [], [⟨31, 31, .ro, 0, false, false⟩, ⟨30, 30, .ro, 0, false, false⟩, ⟨19, 16, .ro, 0, false, false⟩, ⟨15, 8, .rc, 0, false, false⟩, ⟨7, 0, .rc, 0, false, false⟩]⟩,
  ⟨0xe0010, [], [⟨31, 0, .ro, 0, false, false⟩]⟩,
  ⟨0xe0020, [], [⟨31, 31, .w1s, 0, false, false⟩, ⟨30, 30, .w1s, 0, false, false⟩, ⟨29, 29, .ro, 0, false, false⟩, ⟨28, 28, .ro, 0, false, false⟩, ⟨27, 27, .w1c, 0, false, false⟩, ⟨4, 0, .rw, 0, false, false⟩]⟩,
  ⟨0xe0024, [], [⟨27, 16, .rw, 4095, false, false⟩, ⟨11, 0, .rw, 0, false, false⟩]⟩,
  ⟨0xe0028, [], [⟨31, 16, .ro, 0, false, false⟩, ⟨15, 0, .ro, 0, false, false⟩]⟩,
  ⟨0xe0030, [(0x4, 3)], [⟨31, 16, .ro, 0, false, false⟩, ⟨15, 0, .ro, 0, false, false⟩]⟩,
  ⟨0xe0100, [(0x4, 16)], [⟨16, 16, .rw, 0, false, false⟩, ⟨15, 12, .rw, 0, false, false⟩, ⟨11, 8, .rw, 0, false, false⟩, ⟨4, 0, .rw, 0, false, false⟩]⟩,
  ⟨0xe0200, [(0x4, 32)], [⟨31, 16, .rw, 16384, false, false⟩, ⟨15, 0, .rw, 0, false, false⟩]⟩,
  ⟨0xe0300, [(0x8, 32)], [⟨31, 31, .ro, 0, false, false⟩, ⟨30, 30, .ro, 0, false, false⟩, ⟨29, 29, .ro, 0, false, false⟩, ⟨11, 0, .ro, 0, false, false⟩]⟩,
  ⟨0xe0304, [(0x8, 32)], [⟨19, 0, .ro, 0, false, false⟩]⟩,
  ⟨0xe0400, [], [⟨31, 0, .w1c, 0, false, false⟩]⟩]

def adcRows1 : List RegRow := [
  ⟨0xe0500, [(0x10, 8)], [⟨31, 31, .rw, 0, false, false⟩, ⟨30, 30, .rw, 0, false, false⟩, ⟨29, 29, .w1c, 0, false, false⟩, ⟨28, 28, .ro, 0, false, false⟩, ⟨3, 0, .rw, 0, false, false⟩]⟩,
  ⟨0xe0504, [(0x10, 8)], [⟨19, 0, .rw, 0, false, false⟩]⟩,
  ⟨0xe0508, [(0x10, 8)], [⟨19, 0, .rw, 1048575, false, false⟩]⟩]

def adcRows : List RegRow := adcRows0 ++ adcRows1

def calRows : List RegRow := [
  ⟨0xf0000, [], [⟨31, 28, .rw, 15, false, false⟩, ⟨27, 24, .w1s, 0, false, false⟩, ⟨12, 8, .rw, 10, false, false⟩, ⟨3, 0, .rw, 2, false, false⟩]⟩,
  ⟨0xf0004, [], [⟨30, 24, .rw, 16, false, false⟩, ⟨20, 16, .rw, 7, false, false⟩, ⟨14, 8, .rw, 16, false, false⟩]⟩,
  ⟨0xf0008, [], [⟨31, 28, .ro, 0, false, false⟩, ⟨27, 24, .w1c, 0, false, false⟩, ⟨23, 20, .w1c, 0, false, false⟩, ⟨15, 8, .rc, 0, false, false⟩, ⟨7, 0, .rc, 0, false, false⟩]⟩,
  ⟨0xf000c, [], [⟨31, 31, .w1c, 0, false, false⟩, ⟨25, 24, .ro, 0, false, false⟩, ⟨5, 0, .ro, 0, false, false⟩]⟩,
  ⟨0xf0010, [(0x4, 4)], [⟨15, 0, .ro, 0, false, false⟩]⟩,
  ⟨0xf0020, [], [⟨9, 8, .rw, 0, false, false⟩, ⟨5, 4, .rw, 0, false, false⟩, ⟨2, 0, .rw, 0, false, false⟩]⟩,
  ⟨0xf0024, [], [⟨31, 26, .ro, 0, false, false⟩, ⟨25, 20, .ro, 0, false, false⟩, ⟨14, 8, .ro, 0, false, false⟩, ⟨6, 0, .ro, 0, false, false⟩]⟩,
  ⟨0xf0028, [], [⟨29, 24, .ro, 0, false, false⟩, ⟨21, 20, .ro, 0, false, false⟩, ⟨13, 8, .ro, 0, false, false⟩, ⟨5, 4, .ro, 0, false, false⟩]⟩,
  ⟨0xf0100, [(0x4, 16)], [⟨31, 0, .ro, 0, false, false⟩]⟩,
  ⟨0xf0200, [(0x4, 17)], [⟨31, 28, .ro, 8, false, false⟩, ⟨21, 16, .ro, 0, false, false⟩, ⟨14, 8, .ro, 0, false, false⟩, ⟨6, 0, .ro, 0, false, false⟩]⟩]

def chkRows : List RegRow := [
  ⟨0x100000, [(0x40, 8)], [⟨31, 31, .w1s, 0, false, false⟩, ⟨30, 30, .w1s, 0, false, false⟩, ⟨29, 29, .rw, 1, false, false⟩, ⟨28, 28, .rw, 0, false, false⟩, ⟨27, 27, .rw, 0, false, false⟩, ⟨26, 26, .rw, 0, false, false⟩, ⟨25, 24, .rw, 0, false, false⟩, ⟨23, 23, .rw, 0, false, false⟩, ⟨22, 22, .rw, 0, false, false⟩, ⟨5, 0, .rw, 0, false, false⟩]⟩,
  ⟨0x100004, [(0x40, 8)], [⟨31, 31, .ro, 0, false, false⟩, ⟨30, 30, .w1c, 0, false, false⟩, ⟨29, 29, .w1c, 0, false, false⟩, ⟨28, 28, .w1c, 0, false, false⟩, ⟨27, 27, .w1c, 0, false, false⟩, ⟨26, 26, .ro, 0, false, false⟩, ⟨7, 0, .rc, 0, false, false⟩]⟩,
  ⟨0x100008, [(0x40, 8)], [⟨31, 0, .rw, 4294967295, false, false⟩]⟩,
  ⟨0x10000c, [(0x40, 8)], [⟨31, 0, .ro, 0, false, false⟩]⟩,
  ⟨0x100010, [(0x40, 8)], [⟨31, 0, .rw, 0, false, false⟩]⟩,
  ⟨0x100014, [(0x40, 8)], [⟨31, 0, .rw, 0, false, false⟩]⟩,
  ⟨0x100018, [(0x40, 8)], [⟨0, 0, .rw, 0, false, false⟩]⟩,
  ⟨0x10001c, [(0x40, 8)], [⟨31, 0, .rw, 0, false, false⟩]⟩,
  ⟨0x100020, [(0x40, 8)], [⟨31, 0, .rw, 0, false, false⟩]⟩,
  ⟨0x100024, [(0x40, 8)], [⟨31, 0, .ro, 0, false, false⟩]⟩]

def fltRows : List RegRow := [
  ⟨0x110000, [], [⟨31, 31, .rw, 1, false, false⟩]⟩,
  ⟨0x110004, [], [⟨31, 31, .ro, 0, false, false⟩, ⟨30, 30, .ro, 0, false, false⟩, ⟨29, 28, .ro, 0, false, false⟩, ⟨15, 8, .rc, 0, false, false⟩, ⟨7, 0, .ro, 0, false, false⟩]⟩,
  ⟨0x110008, [], [⟨31, 31, .rw, 0, false, false⟩, ⟨7, 0, .rw, 5, false, false⟩]⟩,
  ⟨0x110010, [(0x4, 4)], [⟨5, 0, .rw, 1, false, false⟩]⟩,
  ⟨0x110100, [(0x4, 6)], [⟨31, 0, .w1c, 0, false, false⟩]⟩,
  ⟨0x110140, [(0x4, 6)], [⟨31, 0, .w1c, 0, false, false⟩]⟩,
  ⟨0x110400, [(0x4, 192)], [⟨31, 31, .rw, 1, false, false⟩, ⟨29, 28, .rw, 0, false, false⟩, ⟨23, 16, .rw, 0, false, false⟩, ⟨15, 0, .rw, 1000, false, false⟩]⟩,
  ⟨0x110800, [], [⟨31, 31, .w1s, 0, false, false⟩, ⟨7, 0, .rw, 0, false, false⟩]⟩,
  ⟨0x110804, [], [⟨31, 0, .rw, 0, false, false⟩]⟩]

def logRows : List RegRow := [
  ⟨0x120000, [], [⟨31, 31, .rw, 1, false, false⟩, ⟨30, 30, .rw, 0, false, false⟩, ⟨29, 29, .w1s, 0, false, false⟩]⟩,
  ⟨0x120004, [], [⟨31, 31, .ro, 0, false, false⟩, ⟨30, 30, .ro, 0, false, false⟩, ⟨29, 24, .ro, 0, false, false⟩, ⟨23, 16, .rc, 0, false, false⟩, ⟨9, 0, .ro, 0, false, false⟩]⟩,
  ⟨0x120008, [], [⟨15, 0, .ro, 0, false, false⟩]⟩]

def pmbRows : List RegRow := [
  ⟨0x130000, [], [⟨31, 31, .rw, 0, false, false⟩, ⟨30, 30, .rw, 1, false, false⟩, ⟨29, 29, .rw, 1, false, false⟩, ⟨3, 0, .rw, 3, false, false⟩]⟩,
  ⟨0x130008, [], [⟨31, 16, .rw, 0, false, false⟩, ⟨15, 0, .rw, 0, false, false⟩]⟩,
  ⟨0x13000c, [], [⟨15, 0, .rw, 0, false, false⟩]⟩,
  ⟨0x130100, [(0x20, 16)], [⟨31, 31, .rw, 0, false, false⟩, ⟨30, 30, .rw, 0, false, false⟩, ⟨29, 27, .rw, 7, false, false⟩, ⟨26, 24, .rw, 1, false, false⟩, ⟨23, 16, .rw, 255, false, false⟩, ⟨14, 8, .rw, 0, false, false⟩, ⟨7, 0, .rw, 128, false, false⟩]⟩,
  ⟨0x130104, [(0x20, 16)], [⟨31, 16, .rw, 0, false, false⟩, ⟨15, 0, .rw, 0, false, false⟩]⟩,
  ⟨0x130108, [(0x20, 16)], [⟨31, 16, .rw, 0, false, false⟩, ⟨15, 0, .rw, 0, false, false⟩]⟩,
  ⟨0x13010c, [(0x20, 16)], [⟨31, 24, .rw, 25, false, false⟩, ⟨23, 16, .rw, 5, false, false⟩, ⟨15, 0, .rw, 500, false, false⟩]⟩,
  ⟨0x130110, [(0x20, 16)], [⟨31, 16, .ro, 0, false, false⟩, ⟨15, 15, .w1c, 0, false, false⟩, ⟨14, 14, .w1c, 0, false, false⟩, ⟨13, 13, .w1c, 0, false, false⟩, ⟨12, 12, .w1c, 0, false, false⟩, ⟨11, 11, .ro, 0, false, false⟩, ⟨7, 0, .rc, 0, false, false⟩]⟩,
  ⟨0x130114, [(0x20, 16)], [⟨31, 16, .ro, 0, false, false⟩, ⟨15, 0, .ro, 0, false, false⟩]⟩,
  ⟨0x130118, [(0x20, 16)], [⟨15, 0, .ro, 0, false, false⟩]⟩,
  ⟨0x13011c, [(0x20, 16)], [⟨31, 16, .ro, 0, false, false⟩, ⟨15, 0, .ro, 0, false, false⟩]⟩]

/-- The registers of a 64 KiB block (R440, R449). -/
def blockRows : Nat → List RegRow
  | 0 => sysRows
  | 1 => clkRows
  | 2 => pwrRows
  | 3 => thmRows
  | 4 => cfgRows
  | 5 => lnkRows
  | 6 => spnRows
  | 7 => memRows
  | 8 => layRows
  | 9 => corRows
  | 10 => timRows
  | 11 => chnRows
  | 12 => diaRows
  | 13 => clsRows
  | 14 => adcRows
  | 15 => calRows
  | 16 => chkRows
  | 17 => fltRows
  | 18 => logRows
  | 19 => pmbRows
  | _ => []

/-- Whether a byte offset from a row's base hits a word of the row: each index lies below its count. -/
def dimsHit : List (Nat × Nat) → Nat → Bool
  | [], off => off == 0
  | (stride, count) :: ds, off => off / stride < count && dimsHit ds (off % stride)

/-- The register at an active address, or none where the address names no register (R440). -/
def regRow? (addr : Nat) : Option RegRow :=
  (blockRows (addr / 0x10000)).find? fun r => decide (r.base ≤ addr) && dimsHit r.dims (addr - r.base)

/-- The default class of an event source (R416). -/
def eventClassDefault (i : Nat) : Nat :=
  if (decide (2 ≤ i) && decide (i ≤ 3)) || (decide (7 ≤ i) && decide (i ≤ 9)) || i == 14 || i == 18 ||
    i == 60 || i == 128 then 3
  else if i == 6 || i == 10 || i == 16 || i == 20 || i == 29 || (decide (32 ≤ i) && decide (i ≤ 33)) ||
    i == 36 || (decide (42 ≤ i) && decide (i ≤ 46)) || (decide (48 ≤ i) && decide (i ≤ 50)) ||
    i == 54 || i == 58 || (decide (62 ≤ i) && decide (i ≤ 72)) ||
    (decide (86 ≤ i) && decide (i ≤ 93)) || i == 101 || (decide (106 ≤ i) && decide (i ≤ 109)) ||
    (decide (111 ≤ i) && decide (i ≤ 112)) || (decide (115 ≤ i) && decide (i ≤ 116)) || i == 119 ||
    (decide (121 ≤ i) && decide (i ≤ 125)) || i == 127 || i == 130 ||
    (decide (153 ≤ i) && decide (i ≤ 160)) then 2
  else if (decide (0 ≤ i) && decide (i ≤ 1)) || i == 4 || i == 11 || i == 15 || i == 17 || i == 19 ||
    (decide (26 ≤ i) && decide (i ≤ 28)) || (decide (30 ≤ i) && decide (i ≤ 31)) || i == 47 ||
    (decide (52 ≤ i) && decide (i ≤ 53)) || i == 55 || i == 61 ||
    (decide (73 ≤ i) && decide (i ≤ 78)) || (decide (81 ≤ i) && decide (i ≤ 84)) ||
    (decide (94 ≤ i) && decide (i ≤ 99)) || (decide (104 ≤ i) && decide (i ≤ 105)) || i == 110 ||
    (decide (113 ≤ i) && decide (i ≤ 114)) || i == 118 || i == 120 || i == 131 ||
    (decide (133 ≤ i) && decide (i ≤ 134)) || (decide (143 ≤ i) && decide (i ≤ 144)) || i == 161 then 1
  else 0

/-- The reset word of a register row, the sum of its fields' reset values in place (R10). -/
def rowReset (r : RegRow) : Nat := r.fields.foldl (fun w f => w + f.rst * 2 ^ f.lsb) 0

/-- The value a register address holds at reset (R10). FLT_SRCi.CLASS follows the list of R416, FLT_REACTc has the
four values of R424, PWR_LB1 and PWR_LB2 read RETAIN = 1 and SHADOW = 1 (R378); the fields that come from straps and fuses are written at the release of RESET_N. -/
def resetWord (addr : Nat) : Word :=
  match regRow? addr with
  | none => 0
  | some r =>
    let w := rowReset r
    if r.base == 0x110400 then BitVec.ofNat 32 (w + eventClassDefault ((addr - 0x110400) / 4) * 2 ^ 28)
    else if addr == 0x110014 then 3
    else if addr == 0x110018 then 7
    else if addr == 0x11001c then 15
    else if addr == 0x20104 || addr == 0x20108 then BitVec.ofNat 32 (w + 2 ^ 31 + 2 ^ 28)
    else BitVec.ofNat 32 w

/-! Register addresses. -/

/-- R2 -/
abbrev R.SYS_ID : Nat := 0x0
/-- R29 -/
abbrev R.SYS_STRAIT : Nat := 0x20
/-- R56 -/
abbrev R.CFG_CTRL : Nat := 0x40000
/-- R57 -/
abbrev R.CFG_STATUS : Nat := 0x40004
/-- R58 -/
abbrev R.CFG_ADMIT : Nat := 0x40008
/-- R59 -/
abbrev R.CFG_OCC_MAX : Nat := 0x4000c
/-- R59 -/
abbrev R.CFG_IMG : Nat := 0x40010
/-- R59 -/
abbrev R.CFG_STAGE_BASE : Nat := 0x40014
/-- R59 -/
abbrev R.CFG_LOAD_LEN : Nat := 0x40018
/-- R79 -/
abbrev R.LAY_Wm_CTRL (m : Nat) : Nat := 0x80600 + 0x20 * m
/-- R79 -/
abbrev R.LAY_Wm_BASE (m : Nat) : Nat := 0x80604 + 0x20 * m
/-- R79 -/
abbrev R.LAY_Wm_SIZE (m : Nat) : Nat := 0x80608 + 0x20 * m
/-- R79 -/
abbrev R.LAY_Wm_PITCH (m : Nat) : Nat := 0x8060c + 0x20 * m
/-- R79 -/
abbrev R.LAY_Wm_STRIDE (m : Nat) : Nat := 0x80610 + 0x20 * m
/-- R79 -/
abbrev R.LAY_Wm_STAT (m : Nat) : Nat := 0x80614 + 0x20 * m
/-- R79 -/
abbrev R.LAY_Wm_SIG (m : Nat) : Nat := 0x80618 + 0x20 * m
/-- R79 -/
abbrev R.LAY_Wm_ERR (m : Nat) : Nat := 0x8061c + 0x20 * m
/-- R85 -/
abbrev R.LAY_x_CTRL (n : Nat) : Nat := 0x80000 + 0x80 * n
/-- R85 -/
abbrev R.LAY_x_BASE (n : Nat) : Nat := 0x80004 + 0x80 * n
/-- R85 -/
abbrev R.LAY_x_PITCH (n : Nat) : Nat := 0x80008 + 0x80 * n
/-- R85 -/
abbrev R.LAY_x_SRCXY (n : Nat) : Nat := 0x8000c + 0x80 * n
/-- R85 -/
abbrev R.LAY_x_SRCWH (n : Nat) : Nat := 0x80010 + 0x80 * n
/-- R85 -/
abbrev R.LAY_x_DSTXY (n : Nat) : Nat := 0x80014 + 0x80 * n
/-- R85 -/
abbrev R.LAY_x_DSTWH (n : Nat) : Nat := 0x80018 + 0x80 * n
/-- R85 -/
abbrev R.LAY_x_HSTEP (n : Nat) : Nat := 0x8001c + 0x80 * n
/-- R85 -/
abbrev R.LAY_x_VSTEP (n : Nat) : Nat := 0x80020 + 0x80 * n
/-- R85 -/
abbrev R.LAY_x_HINIT (n : Nat) : Nat := 0x80024 + 0x80 * n
/-- R85 -/
abbrev R.LAY_x_VINIT (n : Nat) : Nat := 0x80028 + 0x80 * n
/-- R85 -/
abbrev R.LAY_x_KEY0 (n : Nat) : Nat := 0x8002c + 0x80 * n
/-- R85 -/
abbrev R.LAY_x_KEY1 (n : Nat) : Nat := 0x80030 + 0x80 * n
/-- R85 -/
abbrev R.LAY_x_KEY2 (n : Nat) : Nat := 0x80034 + 0x80 * n
/-- R85 -/
abbrev R.LAY_x_CSC0 (n : Nat) : Nat := 0x80038 + 0x80 * n
/-- R85 -/
abbrev R.LAY_x_CSC1 (n : Nat) : Nat := 0x8003c + 0x80 * n
/-- R85 -/
abbrev R.LAY_x_CSC2 (n : Nat) : Nat := 0x80040 + 0x80 * n
/-- R85 -/
abbrev R.LAY_x_CSC3 (n : Nat) : Nat := 0x80044 + 0x80 * n
/-- R85 -/
abbrev R.LAY_x_CSC4 (n : Nat) : Nat := 0x80048 + 0x80 * n
/-- R85 -/
abbrev R.LAY_x_OFFj (n j : Nat) : Nat := 0x8004c + 0x80 * n + 0x4 * j
/-- R85 -/
abbrev R.LAY_x_FETCH (n : Nat) : Nat := 0x80058 + 0x80 * n
/-- R85 -/
abbrev R.LAY_x_STAT (n : Nat) : Nat := 0x8005c + 0x80 * n
/-- R85 -/
abbrev R.LAY_x_PUB (n : Nat) : Nat := 0x80060 + 0x80 * n
/-- R85 -/
abbrev R.LAY_x_SIG (n : Nat) : Nat := 0x80064 + 0x80 * n
/-- R113 -/
abbrev R.LAY_Fk_STACK (k : Nat) : Nat := 0x80400 + 0x40 * k
/-- R113 -/
abbrev R.LAY_Fk_BGj (k j : Nat) : Nat := 0x80404 + 0x40 * k + 0x4 * j
/-- R113 -/
abbrev R.LAY_Fk_QLUT (k : Nat) : Nat := 0x80410 + 0x40 * k
/-- R113 -/
abbrev R.LAY_Fk_WBCTRL (k : Nat) : Nat := 0x80414 + 0x40 * k
/-- R113 -/
abbrev R.LAY_Fk_WBBASE (k : Nat) : Nat := 0x80418 + 0x40 * k
/-- R113 -/
abbrev R.LAY_Fk_WBSTAT (k : Nat) : Nat := 0x8041c + 0x40 * k
/-- R133 -/
abbrev R.COR_Fk_FCTRL (k : Nat) : Nat := 0x90000 + 0x100 * k
/-- R133 -/
abbrev R.COR_Fk_FMAPA (k : Nat) : Nat := 0x90004 + 0x100 * k
/-- R133 -/
abbrev R.COR_Fk_FMAPB (k : Nat) : Nat := 0x90008 + 0x100 * k
/-- R133 -/
abbrev R.COR_Fk_FSTAT (k : Nat) : Nat := 0x9000c + 0x100 * k
/-- R143 -/
abbrev R.COR_ZM_CTRL : Nat := 0x90400
/-- R143 -/
abbrev R.COR_ZM_TREF : Nat := 0x90404
/-- R143 -/
abbrev R.COR_ZM_KT0 : Nat := 0x90408
/-- R143 -/
abbrev R.COR_ZM_KT1 : Nat := 0x9040c
/-- R143 -/
abbrev R.COR_ZM_TGT0 : Nat := 0x90410
/-- R143 -/
abbrev R.COR_ZM_TGT1 : Nat := 0x90414
/-- R143 -/
abbrev R.COR_ZM_LIM : Nat := 0x90418
/-- R143 -/
abbrev R.COR_ZM_AGE : Nat := 0x9041c
/-- R143 -/
abbrev R.COR_ZM_CUR0 : Nat := 0x90420
/-- R143 -/
abbrev R.COR_ZM_CUR1 : Nat := 0x90424
/-- R143 -/
abbrev R.COR_ZM_ACCBASE : Nat := 0x90428
/-- R143 -/
abbrev R.COR_ZM_NTC0 : Nat := 0x9042c
/-- R143 -/
abbrev R.COR_ZM_NTC1 : Nat := 0x90430
/-- R143 -/
abbrev R.COR_ZM_STAT : Nat := 0x90434
/-- R143 -/
abbrev R.COR_ZM_PROBE : Nat := 0x90438
/-- R143 -/
abbrev R.COR_ZM_PROBE_T : Nat := 0x9043c
/-- R143 -/
abbrev R.COR_ZM_PROBE_G0 : Nat := 0x90440
/-- R143 -/
abbrev R.COR_ZM_PROBE_G1 : Nat := 0x90444
/-- R151 -/
abbrev R.COR_Fk_GCTRL (k : Nat) : Nat := 0x90040 + 0x100 * k
/-- R151 -/
abbrev R.COR_Fk_GW (k : Nat) : Nat := 0x90044 + 0x100 * k
/-- R151 -/
abbrev R.COR_Fk_GDY (k : Nat) : Nat := 0x90048 + 0x100 * k
/-- R151 -/
abbrev R.COR_Fk_GDARK (k : Nat) : Nat := 0x9004c + 0x100 * k
/-- R151 -/
abbrev R.COR_Fk_GRED (k : Nat) : Nat := 0x90050 + 0x100 * k
/-- R151 -/
abbrev R.COR_Fk_GAREA (k : Nat) : Nat := 0x90054 + 0x100 * k
/-- R151 -/
abbrev R.COR_Fk_GSTAT (k : Nat) : Nat := 0x90058 + 0x100 * k
/-- R151 -/
abbrev R.COR_Fk_GATT (k : Nat) : Nat := 0x9005c + 0x100 * k
/-- R154 -/
abbrev R.COR_Fk_DCTRL (k : Nat) : Nat := 0x90080 + 0x100 * k
/-- R161 -/
abbrev R.TIM_Tn_RATE (n : Nat) : Nat := 0xa0100 + 0x40 * n
/-- R161 -/
abbrev R.TIM_Tn_SCAN (n : Nat) : Nat := 0xa0104 + 0x40 * n
/-- R161 -/
abbrev R.TIM_Tn_OFSk (n k : Nat) : Nat := 0xa0110 + 0x40 * n + 0x8 * k
/-- R161 -/
abbrev R.TIM_Tn_LENk (n k : Nat) : Nat := 0xa0114 + 0x40 * n + 0x8 * k
/-- R163 -/
abbrev R.TIM_CTRL : Nat := 0xa0004
/-- R163 -/
abbrev R.TIM_STAT : Nat := 0xa0008
/-- R163 -/
abbrev R.TIM_FRAME : Nat := 0xa000c
/-- R163 -/
abbrev R.TIM_DERIVED : Nat := 0xa0040
/-- R170 -/
abbrev R.TIM_GCTRL : Nat := 0xa0010
/-- R170 -/
abbrev R.TIM_GDLY : Nat := 0xa0014
/-- R170 -/
abbrev R.TIM_GSTAT : Nat := 0xa0018
/-- R170 -/
abbrev R.TIM_GPER : Nat := 0xa001c
/-- R172 -/
abbrev R.TIM_COMMIT : Nat := 0xa0000
/-- R180 -/
abbrev R.TIM_SCTRL : Nat := 0xa0020
/-- R180 -/
abbrev R.TIM_SSTAT : Nat := 0xa0024
/-- R182 -/
abbrev R.TIM_UNDRj (j : Nat) : Nat := 0xa0400 + 0x4 * j
/-- R185 -/
abbrev R.TIM_FZCTRL : Nat := 0xa0028
/-- R185 -/
abbrev R.TIM_FZSTAT : Nat := 0xa002c
/-- R185 -/
abbrev R.TIM_FZFLAG : Nat := 0xa0030
/-- R185 -/
abbrev R.TIM_Fk_OSIG (k : Nat) : Nat := 0xa0050 + 0x4 * k
/-- R214 -/
abbrev R.CHN_CTRL : Nat := 0xb0000
/-- R214 -/
abbrev R.CHN_STAT : Nat := 0xb0004
/-- R214 -/
abbrev R.CHN_DCLK : Nat := 0xb0008
/-- R214 -/
abbrev R.CHN_CUR : Nat := 0xb000c
/-- R215 -/
abbrev R.CHN_Cnn_CFG (nn : Nat) : Nat := 0xb0100 + 0x10 * nn
/-- R215 -/
abbrev R.CHN_Cnn_SDO (nn : Nat) : Nat := 0xb0104 + 0x10 * nn
/-- R215 -/
abbrev R.CHN_Cnn_ERR (nn : Nat) : Nat := 0xb0108 + 0x10 * nn
/-- R215 -/
abbrev R.CHN_Cnn_TMAX (nn : Nat) : Nat := 0xb010c + 0x10 * nn
/-- R216 -/
abbrev R.CHN_PROBE : Nat := 0xb0010
/-- R216 -/
abbrev R.CHN_PROBE_STw (w : Nat) : Nat := 0xb0014 + 0x4 * w
/-- R229 -/
abbrev R.DIA_In_OBS (n : Nat) : Nat := 0xc0100 + 0x10 * n
/-- R229 -/
abbrev R.DIA_In_DUE (n : Nat) : Nat := 0xc0104 + 0x10 * n
/-- R229 -/
abbrev R.DIA_In_SAT (n : Nat) : Nat := 0xc0108 + 0x10 * n
/-- R229 -/
abbrev R.DIA_In_GLINT (n : Nat) : Nat := 0xc010c + 0x10 * n
/-- R230 -/
abbrev R.DIA_CTRL : Nat := 0xc0000
/-- R230 -/
abbrev R.DIA_AGEBASE : Nat := 0xc0004
/-- R230 -/
abbrev R.DIA_DEADBASE : Nat := 0xc0008
/-- R230 -/
abbrev R.DIA_STUCKBASE : Nat := 0xc000c
/-- R230 -/
abbrev R.DIA_STAT : Nat := 0xc0010
/-- R230 -/
abbrev R.DIA_LAST : Nat := 0xc0014
/-- R230 -/
abbrev R.DIA_ALLMIN : Nat := 0xc0018
/-- R237 -/
abbrev R.PMB_CTRL : Nat := 0x130000
/-- R237 -/
abbrev R.PMB_ICH0 : Nat := 0x130008
/-- R237 -/
abbrev R.PMB_ICH1 : Nat := 0x13000c
/-- R237 -/
abbrev R.PMB_LDn_CFG (n : Nat) : Nat := 0x130100 + 0x20 * n
/-- R237 -/
abbrev R.PMB_LDn_V (n : Nat) : Nat := 0x130104 + 0x20 * n
/-- R237 -/
abbrev R.PMB_LDn_BASE (n : Nat) : Nat := 0x130108 + 0x20 * n
/-- R237 -/
abbrev R.PMB_LDn_STEP (n : Nat) : Nat := 0x13010c + 0x20 * n
/-- R237 -/
abbrev R.PMB_LDn_STAT (n : Nat) : Nat := 0x130110 + 0x20 * n
/-- R237 -/
abbrev R.PMB_LDn_MEAS (n : Nat) : Nat := 0x130114 + 0x20 * n
/-- R237 -/
abbrev R.PMB_LDn_SW (n : Nat) : Nat := 0x130118 + 0x20 * n
/-- R237 -/
abbrev R.PMB_LDn_TRIM (n : Nat) : Nat := 0x13011c + 0x20 * n
/-- R269 -/
abbrev R.MEM_STAT : Nat := 0x70000
/-- R269 -/
abbrev R.MEM_CFG : Nat := 0x70004
/-- R269 -/
abbrev R.MEM_PAGE : Nat := 0x70008
/-- R269 -/
abbrev R.MEM_HOST_STAT : Nat := 0x7000c
/-- R269 -/
abbrev R.MEM_ECC : Nat := 0x70010
/-- R269 -/
abbrev R.MEM_SPARE_CTRL : Nat := 0x70014
/-- R269 -/
abbrev R.MEM_MIG_PTR : Nat := 0x70018
/-- R269 -/
abbrev R.MEM_MIG_STAT : Nat := 0x7001c
/-- R269 -/
abbrev R.MEM_SCRUB : Nat := 0x70020
/-- R269 -/
abbrev R.MEM_HR_CFG : Nat := 0x70024
/-- R269 -/
abbrev R.MEM_HR_STAT : Nat := 0x70028
/-- R269 -/
abbrev R.MEM_HR_THR : Nat := 0x7002c
/-- R269 -/
abbrev R.MEM_Mc_WB (c : Nat) : Nat := 0x70030 + 0x4 * c
/-- R269 -/
abbrev R.MEM_RKj_ERR (j : Nat) : Nat := 0x70040 + 0x10 * j
/-- R269 -/
abbrev R.MEM_RKj_LAST (j : Nat) : Nat := 0x70044 + 0x10 * j
/-- R269 -/
abbrev R.MEM_RKj_MR4 (j : Nat) : Nat := 0x70048 + 0x10 * j
/-- R302 -/
abbrev R.LNK_CTRL : Nat := 0x50000
/-- R302 -/
abbrev R.LNK_FO : Nat := 0x50004
/-- R302 -/
abbrev R.LNK_STAT : Nat := 0x50008
/-- R302 -/
abbrev R.LNK_FWD_CTRL : Nat := 0x5000c
/-- R302 -/
abbrev R.LNK_FWDi (i : Nat) : Nat := 0x50400 + 0x4 * i
/-- R303 -/
abbrev R.LNK_Px_CTRL (p : Nat) : Nat := 0x50100 + 0x40 * p
/-- R303 -/
abbrev R.LNK_Px_STAT (p : Nat) : Nat := 0x50104 + 0x40 * p
/-- R303 -/
abbrev R.LNK_Px_PEER (p : Nat) : Nat := 0x50108 + 0x40 * p
/-- R303 -/
abbrev R.LNK_Px_PKT (p : Nat) : Nat := 0x5010c + 0x40 * p
/-- R303 -/
abbrev R.LNK_Px_DROP (p : Nat) : Nat := 0x50110 + 0x40 * p
/-- R303 -/
abbrev R.LNK_Px_LANEn (p n : Nat) : Nat := 0x50114 + 0x40 * p + 0x4 * n
/-- R304 -/
abbrev R.LNK_CM_CTRL : Nat := 0x50800
/-- R304 -/
abbrev R.LNK_CM_REQ0 : Nat := 0x50804
/-- R304 -/
abbrev R.LNK_CM_REQ1 : Nat := 0x50808
/-- R304 -/
abbrev R.LNK_CM_STAT : Nat := 0x5080c
/-- R304 -/
abbrev R.LNK_CM_RSP : Nat := 0x50810
/-- R304 -/
abbrev R.LNK_CM_ISSUED : Nat := 0x50814
/-- R304 -/
abbrev R.LNK_CM_WDATAk (k : Nat) : Nat := 0x50820 + 0x4 * k
/-- R304 -/
abbrev R.LNK_CM_RDATAk (k : Nat) : Nat := 0x50860 + 0x4 * k
/-- R304 -/
abbrev R.LNK_MBOXk (k : Nat) : Nat := 0x50900 + 0x4 * k
/-- R304 -/
abbrev R.LNK_MBOX_STAT : Nat := 0x50940
/-- R325 -/
abbrev R.SPN_CTRL : Nat := 0x60000
/-- R325 -/
abbrev R.SPN_STAT : Nat := 0x60004
/-- R325 -/
abbrev R.SPN_WALK : Nat := 0x60008
/-- R325 -/
abbrev R.SPN_GRP : Nat := 0x6000c
/-- R325 -/
abbrev R.SPN_TIME_LO : Nat := 0x60010
/-- R325 -/
abbrev R.SPN_TIME_HI : Nat := 0x60014
/-- R325 -/
abbrev R.SPN_TSET_LO : Nat := 0x60018
/-- R325 -/
abbrev R.SPN_TSET_HI : Nat := 0x6001c
/-- R325 -/
abbrev R.SPN_TSTAT : Nat := 0x60020
/-- R325 -/
abbrev R.SPN_DELAY : Nat := 0x60024
/-- R325 -/
abbrev R.SPN_FS : Nat := 0x60028
/-- R325 -/
abbrev R.SPN_FCNT : Nat := 0x6002c
/-- R325 -/
abbrev R.SPN_ERR : Nat := 0x60030
/-- R326 -/
abbrev R.SPN_Pp_STAT (p : Nat) : Nat := 0x60100 + 0x20 * p
/-- R326 -/
abbrev R.SPN_Pp_RANGE (p : Nat) : Nat := 0x60104 + 0x20 * p
/-- R326 -/
abbrev R.SPN_Pp_ERR (p : Nat) : Nat := 0x60108 + 0x20 * p
/-- R326 -/
abbrev R.SPN_Pp_DROP (p : Nat) : Nat := 0x6010c + 0x20 * p
/-- R327 -/
abbrev R.SPN_RA_CTRL : Nat := 0x60800
/-- R327 -/
abbrev R.SPN_RA_REQ0 : Nat := 0x60804
/-- R327 -/
abbrev R.SPN_RA_REQ1 : Nat := 0x60808
/-- R327 -/
abbrev R.SPN_RA_STAT : Nat := 0x6080c
/-- R327 -/
abbrev R.SPN_RA_RSP : Nat := 0x60810
/-- R327 -/
abbrev R.SPN_RA_ISSUED : Nat := 0x60814
/-- R327 -/
abbrev R.SPN_RA_WDATAk (k : Nat) : Nat := 0x60900 + 0x4 * k
/-- R327 -/
abbrev R.SPN_RA_RDATAk (k : Nat) : Nat := 0x60a00 + 0x4 * k
/-- R328 -/
abbrev R.SPN_MC_CTRL : Nat := 0x60c00
/-- R328 -/
abbrev R.SPN_MC_SESS : Nat := 0x60c04
/-- R328 -/
abbrev R.SPN_MC_BASE : Nat := 0x60c08
/-- R328 -/
abbrev R.SPN_MC_LEN : Nat := 0x60c0c
/-- R328 -/
abbrev R.SPN_MC_GAP : Nat := 0x60c10
/-- R328 -/
abbrev R.SPN_MC_RES0 : Nat := 0x60c14
/-- R328 -/
abbrev R.SPN_MC_RES1 : Nat := 0x60c18
/-- R328 -/
abbrev R.SPN_MC_RX : Nat := 0x60c1c
/-- R328 -/
abbrev R.SPN_FIN_STAT : Nat := 0x60e00
/-- R328 -/
abbrev R.SPN_FIN0 : Nat := 0x60e04
/-- R328 -/
abbrev R.SPN_FIN1 : Nat := 0x60e08
/-- R328 -/
abbrev R.SPN_FIN2 : Nat := 0x60e0c
/-- R328 -/
abbrev R.SPN_FIN3 : Nat := 0x60e10
/-- R355 -/
abbrev R.CLS_CFG : Nat := 0xd0100
/-- R355 -/
abbrev R.CLS_TIME : Nat := 0xd0104
/-- R355 -/
abbrev R.CLS_LCEC : Nat := 0xd0108
/-- R355 -/
abbrev R.CLS_LCEG : Nat := 0xd010c
/-- R355 -/
abbrev R.CLS_OUT : Nat := 0xd0110
/-- R356 -/
abbrev R.CLS_CTRL : Nat := 0xd0000
/-- R356 -/
abbrev R.CLS_KEY : Nat := 0xd0004
/-- R356 -/
abbrev R.CLS_STAT : Nat := 0xd0008
/-- R356 -/
abbrev R.CLS_FAULT : Nat := 0xd000c
/-- R356 -/
abbrev R.CLS_IN : Nat := 0xd0010
/-- R356 -/
abbrev R.CLS_CNT : Nat := 0xd0014
/-- R356 -/
abbrev R.CLS_TRANS : Nat := 0xd0018
/-- R356 -/
abbrev R.CLS_ARCH : Nat := 0xd001c
/-- R369 -/
abbrev R.CLK_STAT : Nat := 0x10000
/-- R369 -/
abbrev R.CLK_DIV : Nat := 0x10004
/-- R369 -/
abbrev R.CLK_ENG : Nat := 0x10008
/-- R369 -/
abbrev R.CLK_GATE : Nat := 0x1000c
/-- R369 -/
abbrev R.CLK_GSTAT : Nat := 0x10010
/-- R382 -/
abbrev R.PWR_CTRL : Nat := 0x20000
/-- R382 -/
abbrev R.PWR_TMR0 : Nat := 0x20004
/-- R382 -/
abbrev R.PWR_TMR1 : Nat := 0x20008
/-- R382 -/
abbrev R.PWR_WAKE : Nat := 0x2000c
/-- R382 -/
abbrev R.PWR_STAT : Nat := 0x20010
/-- R382 -/
abbrev R.PWR_ABORT : Nat := 0x20014
/-- R382 -/
abbrev R.PWR_IDLECNT : Nat := 0x20018
/-- R382 -/
abbrev R.PWR_WAKEOUT : Nat := 0x2001c
/-- R382 -/
abbrev R.PWR_LBn (n : Nat) : Nat := 0x20100 + 0x4 * n
/-- R382 -/
abbrev R.PWR_LBCRCn (n : Nat) : Nat := 0x20140 + 0x4 * n
/-- R387 -/
abbrev R.THM_CTRL : Nat := 0x30000
/-- R387 -/
abbrev R.THM_STAT : Nat := 0x30004
/-- R387 -/
abbrev R.THM_Dd (d : Nat) : Nat := 0x30010 + 0x4 * d
/-- R398 -/
abbrev R.ADC_CTRL : Nat := 0xe0000
/-- R398 -/
abbrev R.ADC_ROW : Nat := 0xe0004
/-- R398 -/
abbrev R.ADC_TMR : Nat := 0xe0008
/-- R398 -/
abbrev R.ADC_STAT : Nat := 0xe000c
/-- R398 -/
abbrev R.ADC_SEQCNT : Nat := 0xe0010
/-- R398 -/
abbrev R.ADC_SCAL : Nat := 0xe0020
/-- R398 -/
abbrev R.ADC_SCAL_TGT : Nat := 0xe0024
/-- R398 -/
abbrev R.ADC_SCAL_ZF : Nat := 0xe0028
/-- R398 -/
abbrev R.ADC_DIODEd (d : Nat) : Nat := 0xe0030 + 0x4 * d
/-- R398 -/
abbrev R.ADC_SLOTs (s : Nat) : Nat := 0xe0100 + 0x4 * s
/-- R398 -/
abbrev R.ADC_CALn (n : Nat) : Nat := 0xe0200 + 0x4 * n
/-- R398 -/
abbrev R.ADC_MEANn (n : Nat) : Nat := 0xe0300 + 0x8 * n
/-- R398 -/
abbrev R.ADC_VALn (n : Nat) : Nat := 0xe0304 + 0x8 * n
/-- R398 -/
abbrev R.ADC_OVR : Nat := 0xe0400
/-- R398 -/
abbrev R.ADC_WINw_CFG (w : Nat) : Nat := 0xe0500 + 0x10 * w
/-- R398 -/
abbrev R.ADC_WINw_LO (w : Nat) : Nat := 0xe0504 + 0x10 * w
/-- R398 -/
abbrev R.ADC_WINw_HI (w : Nat) : Nat := 0xe0508 + 0x10 * w
/-- R407 -/
abbrev R.CAL_CTRL : Nat := 0xf0000
/-- R407 -/
abbrev R.CAL_LIM : Nat := 0xf0004
/-- R407 -/
abbrev R.CAL_STAT : Nat := 0xf0008
/-- R407 -/
abbrev R.CAL_BAD : Nat := 0xf000c
/-- R407 -/
abbrev R.CAL_TREFg (g : Nat) : Nat := 0xf0010 + 0x4 * g
/-- R407 -/
abbrev R.CAL_PROBE : Nat := 0xf0020
/-- R407 -/
abbrev R.CAL_PROBE_DQ : Nat := 0xf0024
/-- R407 -/
abbrev R.CAL_PROBE_BY : Nat := 0xf0028
/-- R407 -/
abbrev R.CAL_SDOj (j : Nat) : Nat := 0xf0100 + 0x4 * j
/-- R407 -/
abbrev R.CAL_LANEi (i : Nat) : Nat := 0xf0200 + 0x4 * i
/-- R415 -/
abbrev R.CHKn_CTRL (n : Nat) : Nat := 0x100000 + 0x40 * n
/-- R415 -/
abbrev R.CHKn_STAT (n : Nat) : Nat := 0x100004 + 0x40 * n
/-- R415 -/
abbrev R.CHKn_VAL (n : Nat) : Nat := 0x100008 + 0x40 * n
/-- R415 -/
abbrev R.CHKn_RESULT (n : Nat) : Nat := 0x10000c + 0x40 * n
/-- R415 -/
abbrev R.CHKn_TAG (n : Nat) : Nat := 0x100010 + 0x40 * n
/-- R415 -/
abbrev R.CHKn_ADDRL (n : Nat) : Nat := 0x100014 + 0x40 * n
/-- R415 -/
abbrev R.CHKn_ADDRH (n : Nat) : Nat := 0x100018 + 0x40 * n
/-- R415 -/
abbrev R.CHKn_LEN (n : Nat) : Nat := 0x10001c + 0x40 * n
/-- R415 -/
abbrev R.CHKn_EXP (n : Nat) : Nat := 0x100020 + 0x40 * n
/-- R415 -/
abbrev R.CHKn_LAST (n : Nat) : Nat := 0x100024 + 0x40 * n
/-- R424 -/
abbrev R.FLT_CTRL : Nat := 0x110000
/-- R424 -/
abbrev R.FLT_STAT : Nat := 0x110004
/-- R424 -/
abbrev R.FLT_FCTRL : Nat := 0x110008
/-- R424 -/
abbrev R.FLT_REACTc (c : Nat) : Nat := 0x110010 + 0x4 * c
/-- R424 -/
abbrev R.FLT_PENDj (j : Nat) : Nat := 0x110100 + 0x4 * j
/-- R424 -/
abbrev R.FLT_PROMOj (j : Nat) : Nat := 0x110140 + 0x4 * j
/-- R424 -/
abbrev R.FLT_SRCi (i : Nat) : Nat := 0x110400 + 0x4 * i
/-- R428 -/
abbrev R.LOG_CTRL : Nat := 0x120000
/-- R428 -/
abbrev R.LOG_STAT : Nat := 0x120004
/-- R428 -/
abbrev R.LOG_SEQ : Nat := 0x120008
/-- R444 -/
abbrev R.SYS_HOSTCFG : Nat := 0x40
/-- R444 -/
abbrev R.SYS_HOSTSTAT : Nat := 0x44
/-- R448 -/
abbrev R.SYS_FLCFG : Nat := 0x100
/-- R448 -/
abbrev R.SYS_FLCMD : Nat := 0x104
/-- R448 -/
abbrev R.SYS_FLADDR : Nat := 0x108
/-- R448 -/
abbrev R.SYS_FLDATAk (k : Nat) : Nat := 0x200 + 0x4 * k
/-- R429 -/
abbrev R.FLT_INJ : Nat := 0x110800
/-- R429 -/
abbrev R.FLT_INJ_DATA : Nat := 0x110804

/-! Fields. -/

abbrev F.SYS_ID_PART : Fld := ⟨R.SYS_ID, 31, 16⟩
abbrev F.SYS_ID_STEP : Fld := ⟨R.SYS_ID, 15, 8⟩
abbrev F.SYS_STRAIT_REPLAY_E1 : Fld := ⟨R.SYS_STRAIT, 31, 24⟩
abbrev F.SYS_STRAIT_REPLAY_E0 : Fld := ⟨R.SYS_STRAIT, 23, 16⟩
abbrev F.SYS_STRAIT_DOWN_E1 : Fld := ⟨R.SYS_STRAIT, 5, 5⟩
abbrev F.SYS_STRAIT_DOWN_E0 : Fld := ⟨R.SYS_STRAIT, 4, 4⟩
abbrev F.SYS_STRAIT_STATE_E1 : Fld := ⟨R.SYS_STRAIT, 3, 2⟩
abbrev F.SYS_STRAIT_STATE_E0 : Fld := ⟨R.SYS_STRAIT, 1, 0⟩
abbrev F.CFG_CTRL_REVERT : Fld := ⟨R.CFG_CTRL, 7, 7⟩
abbrev F.CFG_CTRL_ABORT : Fld := ⟨R.CFG_CTRL, 6, 6⟩
abbrev F.CFG_CTRL_DRYRUN : Fld := ⟨R.CFG_CTRL, 5, 5⟩
abbrev F.CFG_CTRL_SRC : Fld := ⟨R.CFG_CTRL, 3, 2⟩
abbrev F.CFG_CTRL_LOAD : Fld := ⟨R.CFG_CTRL, 0, 0⟩
abbrev F.CFG_STATUS_BUSY_REJ : Fld := ⟨R.CFG_STATUS, 31, 24⟩
abbrev F.CFG_STATUS_STATE : Fld := ⟨R.CFG_STATUS, 19, 16⟩
abbrev F.CFG_STATUS_AUTH : Fld := ⟨R.CFG_STATUS, 15, 14⟩
abbrev F.CFG_STATUS_ACTIVE : Fld := ⟨R.CFG_STATUS, 13, 13⟩
abbrev F.CFG_STATUS_PENDING : Fld := ⟨R.CFG_STATUS, 12, 12⟩
abbrev F.CFG_STATUS_LAST_SRC : Fld := ⟨R.CFG_STATUS, 10, 8⟩
abbrev F.CFG_ADMIT_ORIGIN : Fld := ⟨R.CFG_ADMIT, 31, 28⟩
abbrev F.CFG_ADMIT_REASON : Fld := ⟨R.CFG_ADMIT, 27, 20⟩
abbrev F.CFG_ADMIT_ITEM : Fld := ⟨R.CFG_ADMIT, 19, 0⟩
abbrev F.CFG_OCC_MAX_OCC : Fld := ⟨R.CFG_OCC_MAX, 17, 8⟩
abbrev F.CFG_OCC_MAX_BEAD : Fld := ⟨R.CFG_OCC_MAX, 7, 0⟩
abbrev F.CFG_IMG_SEQ : Fld := ⟨R.CFG_IMG, 31, 0⟩
abbrev F.CFG_STAGE_BASE_BASE : Fld := ⟨R.CFG_STAGE_BASE, 15, 0⟩
abbrev F.CFG_LOAD_LEN_LEN : Fld := ⟨R.CFG_LOAD_LEN, 24, 0⟩
abbrev F.LAY_Wm_CTRL_EN (m : Nat) : Fld := ⟨(R.LAY_Wm_CTRL m), 31, 31⟩
abbrev F.LAY_Wm_CTRL_DROP_INC (m : Nat) : Fld := ⟨(R.LAY_Wm_CTRL m), 30, 30⟩
abbrev F.LAY_Wm_CTRL_PORT (m : Nat) : Fld := ⟨(R.LAY_Wm_CTRL m), 29, 28⟩
abbrev F.LAY_Wm_CTRL_FORMAT (m : Nat) : Fld := ⟨(R.LAY_Wm_CTRL m), 27, 24⟩
abbrev F.LAY_Wm_CTRL_NBUF (m : Nat) : Fld := ⟨(R.LAY_Wm_CTRL m), 23, 22⟩
abbrev F.LAY_Wm_CTRL_STREAM_ID (m : Nat) : Fld := ⟨(R.LAY_Wm_CTRL m), 15, 0⟩
abbrev F.LAY_Wm_BASE_BASE (m : Nat) : Fld := ⟨(R.LAY_Wm_BASE m), 20, 0⟩
abbrev F.LAY_Wm_SIZE_HEIGHT (m : Nat) : Fld := ⟨(R.LAY_Wm_SIZE m), 28, 16⟩
abbrev F.LAY_Wm_SIZE_WIDTH (m : Nat) : Fld := ⟨(R.LAY_Wm_SIZE m), 12, 0⟩
abbrev F.LAY_Wm_PITCH_PITCH (m : Nat) : Fld := ⟨(R.LAY_Wm_PITCH m), 11, 0⟩
abbrev F.LAY_Wm_STRIDE_STRIDE (m : Nat) : Fld := ⟨(R.LAY_Wm_STRIDE m), 20, 0⟩
abbrev F.LAY_Wm_STAT_PUBLISHED (m : Nat) : Fld := ⟨(R.LAY_Wm_STAT m), 31, 16⟩
abbrev F.LAY_Wm_STAT_WRITING (m : Nat) : Fld := ⟨(R.LAY_Wm_STAT m), 11, 10⟩
abbrev F.LAY_Wm_STAT_LAST (m : Nat) : Fld := ⟨(R.LAY_Wm_STAT m), 9, 8⟩
abbrev F.LAY_Wm_STAT_NONE (m : Nat) : Fld := ⟨(R.LAY_Wm_STAT m), 7, 7⟩
abbrev F.LAY_Wm_SIG_SIG (m : Nat) : Fld := ⟨(R.LAY_Wm_SIG m), 31, 0⟩
abbrev F.LAY_Wm_ERR_DROP (m : Nat) : Fld := ⟨(R.LAY_Wm_ERR m), 31, 24⟩
abbrev F.LAY_Wm_ERR_INCOMPLETE (m : Nat) : Fld := ⟨(R.LAY_Wm_ERR m), 23, 16⟩
abbrev F.LAY_Wm_ERR_OVERSIZE (m : Nat) : Fld := ⟨(R.LAY_Wm_ERR m), 15, 8⟩
abbrev F.LAY_x_CTRL_EN (n : Nat) : Fld := ⟨(R.LAY_x_CTRL n), 31, 31⟩
abbrev F.LAY_x_CTRL_SRC (n : Nat) : Fld := ⟨(R.LAY_x_CTRL n), 30, 27⟩
abbrev F.LAY_x_CTRL_FORMAT (n : Nat) : Fld := ⟨(R.LAY_x_CTRL n), 26, 23⟩
abbrev F.LAY_x_CTRL_KEYMODE (n : Nat) : Fld := ⟨(R.LAY_x_CTRL n), 22, 21⟩
abbrev F.LAY_x_CTRL_AUTOINIT (n : Nat) : Fld := ⟨(R.LAY_x_CTRL n), 20, 20⟩
abbrev F.LAY_x_CTRL_MTX_EN (n : Nat) : Fld := ⟨(R.LAY_x_CTRL n), 19, 19⟩
abbrev F.LAY_x_CTRL_PLUT_EN (n : Nat) : Fld := ⟨(R.LAY_x_CTRL n), 18, 18⟩
abbrev F.LAY_x_CTRL_HSET (n : Nat) : Fld := ⟨(R.LAY_x_CTRL n), 17, 16⟩
abbrev F.LAY_x_CTRL_VSET (n : Nat) : Fld := ⟨(R.LAY_x_CTRL n), 15, 14⟩
abbrev F.LAY_x_CTRL_SOFT (n : Nat) : Fld := ⟨(R.LAY_x_CTRL n), 6, 0⟩
abbrev F.LAY_x_BASE_BASE (n : Nat) : Fld := ⟨(R.LAY_x_BASE n), 20, 0⟩
abbrev F.LAY_x_PITCH_PITCH (n : Nat) : Fld := ⟨(R.LAY_x_PITCH n), 11, 0⟩
abbrev F.LAY_x_SRCXY_SRC_Y (n : Nat) : Fld := ⟨(R.LAY_x_SRCXY n), 28, 16⟩
abbrev F.LAY_x_SRCXY_SRC_X (n : Nat) : Fld := ⟨(R.LAY_x_SRCXY n), 12, 0⟩
abbrev F.LAY_x_SRCWH_SRC_H (n : Nat) : Fld := ⟨(R.LAY_x_SRCWH n), 28, 16⟩
abbrev F.LAY_x_SRCWH_SRC_W (n : Nat) : Fld := ⟨(R.LAY_x_SRCWH n), 12, 0⟩
abbrev F.LAY_x_DSTXY_DST_Y (n : Nat) : Fld := ⟨(R.LAY_x_DSTXY n), 28, 16⟩
abbrev F.LAY_x_DSTXY_DST_X (n : Nat) : Fld := ⟨(R.LAY_x_DSTXY n), 12, 0⟩
abbrev F.LAY_x_DSTWH_DST_H (n : Nat) : Fld := ⟨(R.LAY_x_DSTWH n), 28, 16⟩
abbrev F.LAY_x_DSTWH_DST_W (n : Nat) : Fld := ⟨(R.LAY_x_DSTWH n), 12, 0⟩
abbrev F.LAY_x_HSTEP_STEP (n : Nat) : Fld := ⟨(R.LAY_x_HSTEP n), 23, 0⟩
abbrev F.LAY_x_VSTEP_STEP (n : Nat) : Fld := ⟨(R.LAY_x_VSTEP n), 23, 0⟩
abbrev F.LAY_x_HINIT_INIT (n : Nat) : Fld := ⟨(R.LAY_x_HINIT n), 24, 0⟩
abbrev F.LAY_x_VINIT_INIT (n : Nat) : Fld := ⟨(R.LAY_x_VINIT n), 24, 0⟩
abbrev F.LAY_x_KEY0_MAX (n : Nat) : Fld := ⟨(R.LAY_x_KEY0 n), 27, 16⟩
abbrev F.LAY_x_KEY0_MIN (n : Nat) : Fld := ⟨(R.LAY_x_KEY0 n), 11, 0⟩
abbrev F.LAY_x_KEY1_MAX (n : Nat) : Fld := ⟨(R.LAY_x_KEY1 n), 27, 16⟩
abbrev F.LAY_x_KEY1_MIN (n : Nat) : Fld := ⟨(R.LAY_x_KEY1 n), 11, 0⟩
abbrev F.LAY_x_KEY2_MAX (n : Nat) : Fld := ⟨(R.LAY_x_KEY2 n), 27, 16⟩
abbrev F.LAY_x_KEY2_MIN (n : Nat) : Fld := ⟨(R.LAY_x_KEY2 n), 11, 0⟩
abbrev F.LAY_x_CSC0_M01 (n : Nat) : Fld := ⟨(R.LAY_x_CSC0 n), 31, 16⟩
abbrev F.LAY_x_CSC0_M00 (n : Nat) : Fld := ⟨(R.LAY_x_CSC0 n), 15, 0⟩
abbrev F.LAY_x_CSC1_M10 (n : Nat) : Fld := ⟨(R.LAY_x_CSC1 n), 31, 16⟩
abbrev F.LAY_x_CSC1_M02 (n : Nat) : Fld := ⟨(R.LAY_x_CSC1 n), 15, 0⟩
abbrev F.LAY_x_CSC2_M12 (n : Nat) : Fld := ⟨(R.LAY_x_CSC2 n), 31, 16⟩
abbrev F.LAY_x_CSC2_M11 (n : Nat) : Fld := ⟨(R.LAY_x_CSC2 n), 15, 0⟩
abbrev F.LAY_x_CSC3_M21 (n : Nat) : Fld := ⟨(R.LAY_x_CSC3 n), 31, 16⟩
abbrev F.LAY_x_CSC3_M20 (n : Nat) : Fld := ⟨(R.LAY_x_CSC3 n), 15, 0⟩
abbrev F.LAY_x_CSC4_M22 (n : Nat) : Fld := ⟨(R.LAY_x_CSC4 n), 15, 0⟩
abbrev F.LAY_x_OFFj_OFF (n j : Nat) : Fld := ⟨(R.LAY_x_OFFj n j), 17, 0⟩
abbrev F.LAY_x_FETCH_HWM (n : Nat) : Fld := ⟨(R.LAY_x_FETCH n), 14, 8⟩
abbrev F.LAY_x_FETCH_LWM (n : Nat) : Fld := ⟨(R.LAY_x_FETCH n), 6, 0⟩
abbrev F.LAY_x_STAT_EMPTY (n : Nat) : Fld := ⟨(R.LAY_x_STAT n), 31, 24⟩
abbrev F.LAY_x_STAT_POISON (n : Nat) : Fld := ⟨(R.LAY_x_STAT n), 23, 16⟩
abbrev F.LAY_x_STAT_FMT_ERR (n : Nat) : Fld := ⟨(R.LAY_x_STAT n), 2, 2⟩
abbrev F.LAY_x_STAT_CLAMP (n : Nat) : Fld := ⟨(R.LAY_x_STAT n), 0, 0⟩
abbrev F.LAY_x_PUB_PUBLISH (n : Nat) : Fld := ⟨(R.LAY_x_PUB n), 0, 0⟩
abbrev F.LAY_x_SIG_SIG (n : Nat) : Fld := ⟨(R.LAY_x_SIG n), 31, 0⟩
abbrev F.LAY_Fk_STACK_ORDER (k : Nat) : Fld := ⟨(R.LAY_Fk_STACK k), 31, 0⟩
abbrev F.LAY_Fk_BGj_BG (k j : Nat) : Fld := ⟨(R.LAY_Fk_BGj k j), 17, 0⟩
abbrev F.LAY_Fk_QLUT_EN (k : Nat) : Fld := ⟨(R.LAY_Fk_QLUT k), 0, 0⟩
abbrev F.LAY_Fk_WBCTRL_EN (k : Nat) : Fld := ⟨(R.LAY_Fk_WBCTRL k), 31, 31⟩
abbrev F.LAY_Fk_WBCTRL_ONESHOT (k : Nat) : Fld := ⟨(R.LAY_Fk_WBCTRL k), 30, 30⟩
abbrev F.LAY_Fk_WBCTRL_MON_EN (k : Nat) : Fld := ⟨(R.LAY_Fk_WBCTRL k), 29, 29⟩
abbrev F.LAY_Fk_WBCTRL_MON_PORT (k : Nat) : Fld := ⟨(R.LAY_Fk_WBCTRL k), 28, 28⟩
abbrev F.LAY_Fk_WBCTRL_DEC (k : Nat) : Fld := ⟨(R.LAY_Fk_WBCTRL k), 27, 26⟩
abbrev F.LAY_Fk_WBCTRL_ENC (k : Nat) : Fld := ⟨(R.LAY_Fk_WBCTRL k), 25, 25⟩
abbrev F.LAY_Fk_WBCTRL_MON_STREAM (k : Nat) : Fld := ⟨(R.LAY_Fk_WBCTRL k), 15, 0⟩
abbrev F.LAY_Fk_WBBASE_BASE (k : Nat) : Fld := ⟨(R.LAY_Fk_WBBASE k), 20, 0⟩
abbrev F.LAY_Fk_WBSTAT_DROP (k : Nat) : Fld := ⟨(R.LAY_Fk_WBSTAT k), 31, 24⟩
abbrev F.LAY_Fk_WBSTAT_INCOMPLETE (k : Nat) : Fld := ⟨(R.LAY_Fk_WBSTAT k), 23, 16⟩
abbrev F.LAY_Fk_WBSTAT_SENDING (k : Nat) : Fld := ⟨(R.LAY_Fk_WBSTAT k), 11, 10⟩
abbrev F.LAY_Fk_WBSTAT_LAST (k : Nat) : Fld := ⟨(R.LAY_Fk_WBSTAT k), 9, 8⟩
abbrev F.COR_Fk_FCTRL_EN (k : Nat) : Fld := ⟨(R.COR_Fk_FCTRL k), 31, 31⟩
abbrev F.COR_Fk_FCTRL_COMP (k : Nat) : Fld := ⟨(R.COR_Fk_FCTRL k), 30, 30⟩
abbrev F.COR_Fk_FCTRL_MAPSEL (k : Nat) : Fld := ⟨(R.COR_Fk_FCTRL k), 29, 29⟩
abbrev F.COR_Fk_FCTRL_SHARE (k : Nat) : Fld := ⟨(R.COR_Fk_FCTRL k), 6, 0⟩
abbrev F.COR_Fk_FMAPA_BASE (k : Nat) : Fld := ⟨(R.COR_Fk_FMAPA k), 20, 0⟩
abbrev F.COR_Fk_FMAPB_BASE (k : Nat) : Fld := ⟨(R.COR_Fk_FMAPB k), 20, 0⟩
abbrev F.COR_Fk_FSTAT_POISON (k : Nat) : Fld := ⟨(R.COR_Fk_FSTAT k), 31, 24⟩
abbrev F.COR_Fk_FSTAT_EMPTY (k : Nat) : Fld := ⟨(R.COR_Fk_FSTAT k), 23, 16⟩
abbrev F.COR_ZM_CTRL_EN : Fld := ⟨R.COR_ZM_CTRL, 31, 31⟩
abbrev F.COR_ZM_CTRL_BILIN : Fld := ⟨R.COR_ZM_CTRL, 30, 30⟩
abbrev F.COR_ZM_CTRL_ACC_HOLD : Fld := ⟨R.COR_ZM_CTRL, 29, 29⟩
abbrev F.COR_ZM_CTRL_BLEND : Fld := ⟨R.COR_ZM_CTRL, 23, 16⟩
abbrev F.COR_ZM_CTRL_UPD : Fld := ⟨R.COR_ZM_CTRL, 15, 8⟩
abbrev F.COR_ZM_CTRL_STALE : Fld := ⟨R.COR_ZM_CTRL, 7, 0⟩
abbrev F.COR_ZM_TREF_TREF : Fld := ⟨R.COR_ZM_TREF, 15, 0⟩
abbrev F.COR_ZM_KT0_KT_G : Fld := ⟨R.COR_ZM_KT0, 31, 16⟩
abbrev F.COR_ZM_KT0_KT_R : Fld := ⟨R.COR_ZM_KT0, 15, 0⟩
abbrev F.COR_ZM_KT1_KT_B : Fld := ⟨R.COR_ZM_KT1, 15, 0⟩
abbrev F.COR_ZM_TGT0_TGT_G : Fld := ⟨R.COR_ZM_TGT0, 31, 16⟩
abbrev F.COR_ZM_TGT0_TGT_R : Fld := ⟨R.COR_ZM_TGT0, 15, 0⟩
abbrev F.COR_ZM_TGT1_TGT_B : Fld := ⟨R.COR_ZM_TGT1, 15, 0⟩
abbrev F.COR_ZM_LIM_GMAX : Fld := ⟨R.COR_ZM_LIM, 31, 16⟩
abbrev F.COR_ZM_LIM_MAX_STEP : Fld := ⟨R.COR_ZM_LIM, 15, 0⟩
abbrev F.COR_ZM_AGE_SHIFT_B : Fld := ⟨R.COR_ZM_AGE, 23, 16⟩
abbrev F.COR_ZM_AGE_SHIFT_G : Fld := ⟨R.COR_ZM_AGE, 15, 8⟩
abbrev F.COR_ZM_AGE_SHIFT_R : Fld := ⟨R.COR_ZM_AGE, 7, 0⟩
abbrev F.COR_ZM_CUR0_CUR_G : Fld := ⟨R.COR_ZM_CUR0, 31, 16⟩
abbrev F.COR_ZM_CUR0_CUR_R : Fld := ⟨R.COR_ZM_CUR0, 15, 0⟩
abbrev F.COR_ZM_CUR1_CUR_B : Fld := ⟨R.COR_ZM_CUR1, 15, 0⟩
abbrev F.COR_ZM_ACCBASE_BASE : Fld := ⟨R.COR_ZM_ACCBASE, 20, 0⟩
abbrev F.COR_ZM_NTC0_VAL : Fld := ⟨R.COR_ZM_NTC0, 31, 0⟩
abbrev F.COR_ZM_NTC1_VAL : Fld := ⟨R.COR_ZM_NTC1, 31, 0⟩
abbrev F.COR_ZM_STAT_SAT : Fld := ⟨R.COR_ZM_STAT, 31, 24⟩
abbrev F.COR_ZM_STAT_STALE : Fld := ⟨R.COR_ZM_STAT, 23, 16⟩
abbrev F.COR_ZM_STAT_AGE_POISON : Fld := ⟨R.COR_ZM_STAT, 15, 15⟩
abbrev F.COR_ZM_STAT_HELD : Fld := ⟨R.COR_ZM_STAT, 7, 0⟩
abbrev F.COR_ZM_PROBE_ZONE : Fld := ⟨R.COR_ZM_PROBE, 11, 0⟩
abbrev F.COR_ZM_PROBE_T_TZ : Fld := ⟨R.COR_ZM_PROBE_T, 15, 0⟩
abbrev F.COR_ZM_PROBE_G0_G_G : Fld := ⟨R.COR_ZM_PROBE_G0, 31, 16⟩
abbrev F.COR_ZM_PROBE_G0_G_R : Fld := ⟨R.COR_ZM_PROBE_G0, 15, 0⟩
abbrev F.COR_ZM_PROBE_G1_G_B : Fld := ⟨R.COR_ZM_PROBE_G1, 15, 0⟩
abbrev F.COR_Fk_GCTRL_MODE (k : Nat) : Fld := ⟨(R.COR_Fk_GCTRL k), 31, 30⟩
abbrev F.COR_Fk_GCTRL_FR_MAX (k : Nat) : Fld := ⟨(R.COR_Fk_GCTRL k), 7, 4⟩
abbrev F.COR_Fk_GCTRL_FL_MAX (k : Nat) : Fld := ⟨(R.COR_Fk_GCTRL k), 3, 0⟩
abbrev F.COR_Fk_GW_WG (k : Nat) : Fld := ⟨(R.COR_Fk_GW k), 31, 16⟩
abbrev F.COR_Fk_GW_WR (k : Nat) : Fld := ⟨(R.COR_Fk_GW k), 15, 0⟩
abbrev F.COR_Fk_GDY_DY (k : Nat) : Fld := ⟨(R.COR_Fk_GDY k), 17, 0⟩
abbrev F.COR_Fk_GDARK_YDARK (k : Nat) : Fld := ⟨(R.COR_Fk_GDARK k), 17, 0⟩
abbrev F.COR_Fk_GRED_RED_MIN (k : Nat) : Fld := ⟨(R.COR_Fk_GRED k), 17, 0⟩
abbrev F.COR_Fk_GAREA_RRATIO (k : Nat) : Fld := ⟨(R.COR_Fk_GAREA k), 31, 24⟩
abbrev F.COR_Fk_GAREA_AREA_R (k : Nat) : Fld := ⟨(R.COR_Fk_GAREA k), 23, 12⟩
abbrev F.COR_Fk_GAREA_AREA_L (k : Nat) : Fld := ⟨(R.COR_Fk_GAREA k), 11, 0⟩
abbrev F.COR_Fk_GSTAT_STATE (k : Nat) : Fld := ⟨(R.COR_Fk_GSTAT k), 31, 30⟩
abbrev F.COR_Fk_GSTAT_NL (k : Nat) : Fld := ⟨(R.COR_Fk_GSTAT k), 23, 16⟩
abbrev F.COR_Fk_GSTAT_NR (k : Nat) : Fld := ⟨(R.COR_Fk_GSTAT k), 15, 8⟩
abbrev F.COR_Fk_GSTAT_LATE (k : Nat) : Fld := ⟨(R.COR_Fk_GSTAT k), 7, 0⟩
abbrev F.COR_Fk_GATT_ATT (k : Nat) : Fld := ⟨(R.COR_Fk_GATT k), 16, 0⟩
abbrev F.COR_Fk_DCTRL_BLACK (k : Nat) : Fld := ⟨(R.COR_Fk_DCTRL k), 2, 2⟩
abbrev F.COR_Fk_DCTRL_MODE (k : Nat) : Fld := ⟨(R.COR_Fk_DCTRL k), 1, 0⟩
abbrev F.TIM_Tn_RATE_FR_DEN (n : Nat) : Fld := ⟨(R.TIM_Tn_RATE n), 31, 20⟩
abbrev F.TIM_Tn_RATE_FR_NUM (n : Nat) : Fld := ⟨(R.TIM_Tn_RATE n), 19, 0⟩
abbrev F.TIM_Tn_SCAN_FEEDEN (n : Nat) : Fld := ⟨(R.TIM_Tn_SCAN n), 31, 28⟩
abbrev F.TIM_Tn_SCAN_GMUL (n : Nat) : Fld := ⟨(R.TIM_Tn_SCAN n), 27, 26⟩
abbrev F.TIM_Tn_SCAN_SEG (n : Nat) : Fld := ⟨(R.TIM_Tn_SCAN n), 25, 19⟩
abbrev F.TIM_Tn_SCAN_DB (n : Nat) : Fld := ⟨(R.TIM_Tn_SCAN n), 18, 11⟩
abbrev F.TIM_Tn_SCAN_CYC (n : Nat) : Fld := ⟨(R.TIM_Tn_SCAN n), 10, 0⟩
abbrev F.TIM_Tn_OFSk_OFS (n k : Nat) : Fld := ⟨(R.TIM_Tn_OFSk n k), 16, 0⟩
abbrev F.TIM_Tn_LENk_LEN (n k : Nat) : Fld := ⟨(R.TIM_Tn_LENk n k), 16, 0⟩
abbrev F.TIM_CTRL_TSEL : Fld := ⟨R.TIM_CTRL, 2, 0⟩
abbrev F.TIM_STAT_RELOCK : Fld := ⟨R.TIM_STAT, 31, 31⟩
abbrev F.TIM_STAT_WINDOW : Fld := ⟨R.TIM_STAT, 30, 30⟩
abbrev F.TIM_STAT_COMMIT_LATE : Fld := ⟨R.TIM_STAT, 29, 29⟩
abbrev F.TIM_STAT_LOAD_LATE : Fld := ⟨R.TIM_STAT, 28, 28⟩
abbrev F.TIM_STAT_LATE_LOADS : Fld := ⟨R.TIM_STAT, 23, 16⟩
abbrev F.TIM_STAT_TSEL_ACT : Fld := ⟨R.TIM_STAT, 2, 0⟩
abbrev F.TIM_FRAME_COUNT : Fld := ⟨R.TIM_FRAME, 31, 0⟩
abbrev F.TIM_DERIVED_ROWCLK : Fld := ⟨R.TIM_DERIVED, 30, 16⟩
abbrev F.TIM_DERIVED_S : Fld := ⟨R.TIM_DERIVED, 14, 8⟩
abbrev F.TIM_GCTRL_SRC : Fld := ⟨R.TIM_GCTRL, 31, 30⟩
abbrev F.TIM_GCTRL_POL : Fld := ⟨R.TIM_GCTRL, 29, 29⟩
abbrev F.TIM_GCTRL_SLEW : Fld := ⟨R.TIM_GCTRL, 4, 0⟩
abbrev F.TIM_GDLY_DLY : Fld := ⟨R.TIM_GDLY, 19, 0⟩
abbrev F.TIM_GSTAT_STATE : Fld := ⟨R.TIM_GSTAT, 31, 30⟩
abbrev F.TIM_GSTAT_LOST : Fld := ⟨R.TIM_GSTAT, 29, 29⟩
abbrev F.TIM_GSTAT_SLEWING : Fld := ⟨R.TIM_GSTAT, 28, 28⟩
abbrev F.TIM_GSTAT_BAD : Fld := ⟨R.TIM_GSTAT, 7, 0⟩
abbrev F.TIM_GPER_PERIOD : Fld := ⟨R.TIM_GPER, 27, 0⟩
abbrev F.TIM_COMMIT_IGNORED : Fld := ⟨R.TIM_COMMIT, 15, 8⟩
abbrev F.TIM_COMMIT_PENDING : Fld := ⟨R.TIM_COMMIT, 1, 1⟩
abbrev F.TIM_COMMIT_COMMIT : Fld := ⟨R.TIM_COMMIT, 0, 0⟩
abbrev F.TIM_SCTRL_EN : Fld := ⟨R.TIM_SCTRL, 31, 31⟩
abbrev F.TIM_SCTRL_DIV : Fld := ⟨R.TIM_SCTRL, 9, 8⟩
abbrev F.TIM_SCTRL_NSTILL : Fld := ⟨R.TIM_SCTRL, 7, 0⟩
abbrev F.TIM_SSTAT_M : Fld := ⟨R.TIM_SSTAT, 31, 30⟩
abbrev F.TIM_SSTAT_THROTTLED : Fld := ⟨R.TIM_SSTAT, 29, 29⟩
abbrev F.TIM_SSTAT_STILL : Fld := ⟨R.TIM_SSTAT, 7, 0⟩
abbrev F.TIM_UNDRj_ODD (j : Nat) : Fld := ⟨(R.TIM_UNDRj j), 31, 16⟩
abbrev F.TIM_UNDRj_EVEN (j : Nat) : Fld := ⟨(R.TIM_UNDRj j), 15, 0⟩
abbrev F.TIM_FZCTRL_FZEN : Fld := ⟨R.TIM_FZCTRL, 31, 28⟩
abbrev F.TIM_FZCTRL_K : Fld := ⟨R.TIM_FZCTRL, 7, 0⟩
abbrev F.TIM_FZSTAT_FZ3 : Fld := ⟨R.TIM_FZSTAT, 31, 24⟩
abbrev F.TIM_FZSTAT_FZ2 : Fld := ⟨R.TIM_FZSTAT, 23, 16⟩
abbrev F.TIM_FZSTAT_FZ1 : Fld := ⟨R.TIM_FZSTAT, 15, 8⟩
abbrev F.TIM_FZSTAT_FZ0 : Fld := ⟨R.TIM_FZSTAT, 7, 0⟩
abbrev F.TIM_FZFLAG_FREEZE : Fld := ⟨R.TIM_FZFLAG, 3, 0⟩
abbrev F.TIM_Fk_OSIG_SIG (k : Nat) : Fld := ⟨(R.TIM_Fk_OSIG k), 31, 0⟩
abbrev F.CHN_CTRL_RB_EN : Fld := ⟨R.CHN_CTRL, 3, 3⟩
abbrev F.CHN_CTRL_GLINT_EN : Fld := ⟨R.CHN_CTRL, 2, 2⟩
abbrev F.CHN_CTRL_FORCE_BLANK : Fld := ⟨R.CHN_CTRL, 1, 1⟩
abbrev F.CHN_STAT_BLANK_SRC : Fld := ⟨R.CHN_STAT, 15, 8⟩
abbrev F.CHN_STAT_BLANK_E1 : Fld := ⟨R.CHN_STAT, 1, 1⟩
abbrev F.CHN_STAT_BLANK_E0 : Fld := ⟨R.CHN_STAT, 0, 0⟩
abbrev F.CHN_DCLK_RATE_E1 : Fld := ⟨R.CHN_DCLK, 6, 4⟩
abbrev F.CHN_DCLK_RATE_E0 : Fld := ⟨R.CHN_DCLK, 2, 0⟩
abbrev F.CHN_CUR_CUR_B : Fld := ⟨R.CHN_CUR, 23, 16⟩
abbrev F.CHN_CUR_CUR_G : Fld := ⟨R.CHN_CUR, 15, 8⟩
abbrev F.CHN_CUR_CUR_R : Fld := ⟨R.CHN_CUR, 7, 0⟩
abbrev F.CHN_Cnn_CFG_SLOT (nn : Nat) : Fld := ⟨(R.CHN_Cnn_CFG nn), 21, 19⟩
abbrev F.CHN_Cnn_CFG_GROUP (nn : Nat) : Fld := ⟨(R.CHN_Cnn_CFG nn), 18, 16⟩
abbrev F.CHN_Cnn_CFG_OFS (nn : Nat) : Fld := ⟨(R.CHN_Cnn_CFG nn), 15, 8⟩
abbrev F.CHN_Cnn_CFG_DRIVE (nn : Nat) : Fld := ⟨(R.CHN_Cnn_CFG nn), 6, 6⟩
abbrev F.CHN_Cnn_CFG_NIC (nn : Nat) : Fld := ⟨(R.CHN_Cnn_CFG nn), 5, 0⟩
abbrev F.CHN_Cnn_SDO_LAT (nn : Nat) : Fld := ⟨(R.CHN_Cnn_SDO nn), 13, 8⟩
abbrev F.CHN_Cnn_SDO_TAP (nn : Nat) : Fld := ⟨(R.CHN_Cnn_SDO nn), 4, 0⟩
abbrev F.CHN_Cnn_ERR_RBERR (nn : Nat) : Fld := ⟨(R.CHN_Cnn_ERR nn), 31, 24⟩
abbrev F.CHN_Cnn_ERR_RESYNC (nn : Nat) : Fld := ⟨(R.CHN_Cnn_ERR nn), 23, 16⟩
abbrev F.CHN_Cnn_ERR_DEFER (nn : Nat) : Fld := ⟨(R.CHN_Cnn_ERR nn), 15, 8⟩
abbrev F.CHN_Cnn_ERR_CURMIS (nn : Nat) : Fld := ⟨(R.CHN_Cnn_ERR nn), 5, 5⟩
abbrev F.CHN_Cnn_ERR_SILENT (nn : Nat) : Fld := ⟨(R.CHN_Cnn_ERR nn), 4, 4⟩
abbrev F.CHN_Cnn_ERR_LENGTH (nn : Nat) : Fld := ⟨(R.CHN_Cnn_ERR nn), 3, 3⟩
abbrev F.CHN_Cnn_ERR_POR (nn : Nat) : Fld := ⟨(R.CHN_Cnn_ERR nn), 2, 2⟩
abbrev F.CHN_Cnn_ERR_TSD (nn : Nat) : Fld := ⟨(R.CHN_Cnn_ERR nn), 1, 1⟩
abbrev F.CHN_Cnn_ERR_FRAMEERR (nn : Nat) : Fld := ⟨(R.CHN_Cnn_ERR nn), 0, 0⟩
abbrev F.CHN_Cnn_TMAX_IC (nn : Nat) : Fld := ⟨(R.CHN_Cnn_TMAX nn), 20, 16⟩
abbrev F.CHN_Cnn_TMAX_TEMP (nn : Nat) : Fld := ⟨(R.CHN_Cnn_TMAX nn), 9, 0⟩
abbrev F.CHN_PROBE_PORT : Fld := ⟨R.CHN_PROBE, 13, 8⟩
abbrev F.CHN_PROBE_IC : Fld := ⟨R.CHN_PROBE, 4, 0⟩
abbrev F.CHN_PROBE_STw_ST (w : Nat) : Fld := ⟨(R.CHN_PROBE_STw w), 31, 0⟩
abbrev F.DIA_In_OBS_N (n : Nat) : Fld := ⟨(R.DIA_In_OBS n), 19, 0⟩
abbrev F.DIA_In_DUE_N (n : Nat) : Fld := ⟨(R.DIA_In_DUE n), 19, 0⟩
abbrev F.DIA_In_SAT_N (n : Nat) : Fld := ⟨(R.DIA_In_SAT n), 19, 0⟩
abbrev F.DIA_In_GLINT_N (n : Nat) : Fld := ⟨(R.DIA_In_GLINT n), 15, 0⟩
abbrev F.DIA_CTRL_EN : Fld := ⟨R.DIA_CTRL, 31, 31⟩
abbrev F.DIA_CTRL_HOLD : Fld := ⟨R.DIA_CTRL, 30, 30⟩
abbrev F.DIA_CTRL_DCONF : Fld := ⟨R.DIA_CTRL, 29, 28⟩
abbrev F.DIA_CTRL_AGE_LIM : Fld := ⟨R.DIA_CTRL, 27, 16⟩
abbrev F.DIA_CTRL_RECHK : Fld := ⟨R.DIA_CTRL, 15, 8⟩
abbrev F.DIA_CTRL_ALLMIN_HI : Fld := ⟨R.DIA_CTRL, 5, 5⟩
abbrev F.DIA_CTRL_REGION : Fld := ⟨R.DIA_CTRL, 4, 0⟩
abbrev F.DIA_AGEBASE_BASE : Fld := ⟨R.DIA_AGEBASE, 20, 0⟩
abbrev F.DIA_DEADBASE_BASE : Fld := ⟨R.DIA_DEADBASE, 20, 0⟩
abbrev F.DIA_STUCKBASE_BASE : Fld := ⟨R.DIA_STUCKBASE, 20, 0⟩
abbrev F.DIA_STAT_NEWDEAD : Fld := ⟨R.DIA_STAT, 31, 24⟩
abbrev F.DIA_STAT_NEWSTUCK : Fld := ⟨R.DIA_STAT, 23, 16⟩
abbrev F.DIA_STAT_GLDROP : Fld := ⟨R.DIA_STAT, 15, 8⟩
abbrev F.DIA_STAT_POISON : Fld := ⟨R.DIA_STAT, 7, 0⟩
abbrev F.DIA_LAST_KIND : Fld := ⟨R.DIA_LAST, 31, 31⟩
abbrev F.DIA_LAST_INDEX : Fld := ⟨R.DIA_LAST, 21, 0⟩
abbrev F.DIA_ALLMIN_N : Fld := ⟨R.DIA_ALLMIN, 4, 0⟩
abbrev F.PMB_CTRL_EN : Fld := ⟨R.PMB_CTRL, 31, 31⟩
abbrev F.PMB_CTRL_FAST1 : Fld := ⟨R.PMB_CTRL, 30, 30⟩
abbrev F.PMB_CTRL_FAST0 : Fld := ⟨R.PMB_CTRL, 29, 29⟩
abbrev F.PMB_CTRL_GRP : Fld := ⟨R.PMB_CTRL, 3, 0⟩
abbrev F.PMB_ICH0_ICH_G : Fld := ⟨R.PMB_ICH0, 31, 16⟩
abbrev F.PMB_ICH0_ICH_R : Fld := ⟨R.PMB_ICH0, 15, 0⟩
abbrev F.PMB_ICH1_ICH_B : Fld := ⟨R.PMB_ICH1, 15, 0⟩
abbrev F.PMB_LDn_CFG_EN (n : Nat) : Fld := ⟨(R.PMB_LDn_CFG n), 31, 31⟩
abbrev F.PMB_LDn_CFG_BUS (n : Nat) : Fld := ⟨(R.PMB_LDn_CFG n), 30, 30⟩
abbrev F.PMB_LDn_CFG_COL (n : Nat) : Fld := ⟨(R.PMB_LDn_CFG n), 29, 27⟩
abbrev F.PMB_LDn_CFG_EXP (n : Nat) : Fld := ⟨(R.PMB_LDn_CFG n), 26, 24⟩
abbrev F.PMB_LDn_CFG_PORTS (n : Nat) : Fld := ⟨(R.PMB_LDn_CFG n), 23, 16⟩
abbrev F.PMB_LDn_CFG_ADDR (n : Nat) : Fld := ⟨(R.PMB_LDn_CFG n), 14, 8⟩
abbrev F.PMB_LDn_CFG_OPER (n : Nat) : Fld := ⟨(R.PMB_LDn_CFG n), 7, 0⟩
abbrev F.PMB_LDn_V_VMAX (n : Nat) : Fld := ⟨(R.PMB_LDn_V n), 31, 16⟩
abbrev F.PMB_LDn_V_VMIN (n : Nat) : Fld := ⟨(R.PMB_LDn_V n), 15, 0⟩
abbrev F.PMB_LDn_BASE_R_D (n : Nat) : Fld := ⟨(R.PMB_LDn_BASE n), 31, 16⟩
abbrev F.PMB_LDn_BASE_VBASE (n : Nat) : Fld := ⟨(R.PMB_LDn_BASE n), 15, 0⟩
abbrev F.PMB_LDn_STEP_UP (n : Nat) : Fld := ⟨(R.PMB_LDn_STEP n), 31, 24⟩
abbrev F.PMB_LDn_STEP_DN (n : Nat) : Fld := ⟨(R.PMB_LDn_STEP n), 23, 16⟩
abbrev F.PMB_LDn_STEP_TLIM (n : Nat) : Fld := ⟨(R.PMB_LDn_STEP n), 15, 0⟩
abbrev F.PMB_LDn_STAT_VSET (n : Nat) : Fld := ⟨(R.PMB_LDn_STAT n), 31, 16⟩
abbrev F.PMB_LDn_STAT_FAIL (n : Nat) : Fld := ⟨(R.PMB_LDn_STAT n), 15, 15⟩
abbrev F.PMB_LDn_STAT_REGFLT (n : Nat) : Fld := ⟨(R.PMB_LDn_STAT n), 14, 14⟩
abbrev F.PMB_LDn_STAT_VMIS (n : Nat) : Fld := ⟨(R.PMB_LDn_STAT n), 13, 13⟩
abbrev F.PMB_LDn_STAT_NOHR (n : Nat) : Fld := ⟨(R.PMB_LDn_STAT n), 12, 12⟩
abbrev F.PMB_LDn_STAT_CFGERR (n : Nat) : Fld := ⟨(R.PMB_LDn_STAT n), 11, 11⟩
abbrev F.PMB_LDn_STAT_SKIP (n : Nat) : Fld := ⟨(R.PMB_LDn_STAT n), 7, 0⟩
abbrev F.PMB_LDn_MEAS_VOUT (n : Nat) : Fld := ⟨(R.PMB_LDn_MEAS n), 31, 16⟩
abbrev F.PMB_LDn_MEAS_IOUT (n : Nat) : Fld := ⟨(R.PMB_LDn_MEAS n), 15, 0⟩
abbrev F.PMB_LDn_SW_STATUS (n : Nat) : Fld := ⟨(R.PMB_LDn_SW n), 15, 0⟩
abbrev F.PMB_LDn_TRIM_IPRED (n : Nat) : Fld := ⟨(R.PMB_LDn_TRIM n), 31, 16⟩
abbrev F.PMB_LDn_TRIM_TRIM (n : Nat) : Fld := ⟨(R.PMB_LDn_TRIM n), 15, 0⟩
abbrev F.MEM_STAT_MIG_STATE : Fld := ⟨R.MEM_STAT, 31, 30⟩
abbrev F.MEM_STAT_FAILED : Fld := ⟨R.MEM_STAT, 29, 28⟩
abbrev F.MEM_STAT_SPARE_VALID : Fld := ⟨R.MEM_STAT, 27, 27⟩
abbrev F.MEM_STAT_SPARE : Fld := ⟨R.MEM_STAT, 26, 25⟩
abbrev F.MEM_STAT_CROSS : Fld := ⟨R.MEM_STAT, 24, 24⟩
abbrev F.MEM_STAT_INSVC : Fld := ⟨R.MEM_STAT, 23, 20⟩
abbrev F.MEM_STAT_TRAINED : Fld := ⟨R.MEM_STAT, 19, 16⟩
abbrev F.MEM_STAT_OOR : Fld := ⟨R.MEM_STAT, 7, 0⟩
abbrev F.MEM_CFG_RATE : Fld := ⟨R.MEM_CFG, 26, 24⟩
abbrev F.MEM_CFG_DENS : Fld := ⟨R.MEM_CFG, 21, 20⟩
abbrev F.MEM_CFG_ORDER : Fld := ⟨R.MEM_CFG, 17, 16⟩
abbrev F.MEM_CFG_POS : Fld := ⟨R.MEM_CFG, 15, 0⟩
abbrev F.MEM_PAGE_PAGE : Fld := ⟨R.MEM_PAGE, 9, 0⟩
abbrev F.MEM_HOST_STAT_ADDRERR : Fld := ⟨R.MEM_HOST_STAT, 1, 1⟩
abbrev F.MEM_HOST_STAT_POISON : Fld := ⟨R.MEM_HOST_STAT, 0, 0⟩
abbrev F.MEM_ECC_CE_LIM : Fld := ⟨R.MEM_ECC, 31, 16⟩
abbrev F.MEM_ECC_CE_WIN : Fld := ⟨R.MEM_ECC, 15, 0⟩
abbrev F.MEM_SPARE_CTRL_AUTO : Fld := ⟨R.MEM_SPARE_CTRL, 31, 31⟩
abbrev F.MEM_SPARE_CTRL_START : Fld := ⟨R.MEM_SPARE_CTRL, 30, 30⟩
abbrev F.MEM_SPARE_CTRL_RANK : Fld := ⟨R.MEM_SPARE_CTRL, 29, 28⟩
abbrev F.MEM_SPARE_CTRL_MIG_GAP : Fld := ⟨R.MEM_SPARE_CTRL, 7, 0⟩
abbrev F.MEM_MIG_PTR_LINE : Fld := ⟨R.MEM_MIG_PTR, 24, 0⟩
abbrev F.MEM_MIG_STAT_POISONED : Fld := ⟨R.MEM_MIG_STAT, 31, 16⟩
abbrev F.MEM_SCRUB_EN : Fld := ⟨R.MEM_SCRUB, 31, 31⟩
abbrev F.MEM_SCRUB_PERIOD : Fld := ⟨R.MEM_SCRUB, 15, 0⟩
abbrev F.MEM_HR_CFG_THRESH : Fld := ⟨R.MEM_HR_CFG, 31, 16⟩
abbrev F.MEM_HR_CFG_INTERVAL : Fld := ⟨R.MEM_HR_CFG, 15, 0⟩
abbrev F.MEM_HR_STAT_QUEUE : Fld := ⟨R.MEM_HR_STAT, 31, 27⟩
abbrev F.MEM_HR_STAT_RANK : Fld := ⟨R.MEM_HR_STAT, 26, 25⟩
abbrev F.MEM_HR_STAT_BANK : Fld := ⟨R.MEM_HR_STAT, 24, 22⟩
abbrev F.MEM_HR_STAT_ROW : Fld := ⟨R.MEM_HR_STAT, 21, 6⟩
abbrev F.MEM_HR_STAT_EVENTS : Fld := ⟨R.MEM_HR_STAT, 5, 0⟩
abbrev F.MEM_HR_THR_QUEUES : Fld := ⟨R.MEM_HR_THR, 31, 0⟩
abbrev F.MEM_Mc_WB_HWM (c : Nat) : Fld := ⟨(R.MEM_Mc_WB c), 13, 8⟩
abbrev F.MEM_Mc_WB_LWM (c : Nat) : Fld := ⟨(R.MEM_Mc_WB c), 5, 0⟩
abbrev F.MEM_RKj_ERR_CE (j : Nat) : Fld := ⟨(R.MEM_RKj_ERR j), 31, 16⟩
abbrev F.MEM_RKj_ERR_UE (j : Nat) : Fld := ⟨(R.MEM_RKj_ERR j), 15, 8⟩
abbrev F.MEM_RKj_ERR_POISONRD (j : Nat) : Fld := ⟨(R.MEM_RKj_ERR j), 7, 0⟩
abbrev F.MEM_RKj_LAST_VALID (j : Nat) : Fld := ⟨(R.MEM_RKj_LAST j), 31, 31⟩
abbrev F.MEM_RKj_LAST_ADDR (j : Nat) : Fld := ⟨(R.MEM_RKj_LAST j), 25, 0⟩
abbrev F.MEM_RKj_MR4_RATE (j : Nat) : Fld := ⟨(R.MEM_RKj_MR4 j), 2, 0⟩
abbrev F.LNK_CTRL_BMODE : Fld := ⟨R.LNK_CTRL, 31, 30⟩
abbrev F.LNK_CTRL_FO_AUTO : Fld := ⟨R.LNK_CTRL, 29, 29⟩
abbrev F.LNK_CTRL_FO_REVERT : Fld := ⟨R.LNK_CTRL, 28, 28⟩
abbrev F.LNK_CTRL_REVERT_HOLD : Fld := ⟨R.LNK_CTRL, 7, 0⟩
abbrev F.LNK_FO_SWITCH : Fld := ⟨R.LNK_FO, 31, 31⟩
abbrev F.LNK_FO_VTMO : Fld := ⟨R.LNK_FO, 15, 0⟩
abbrev F.LNK_STAT_UPSEL : Fld := ⟨R.LNK_STAT, 31, 30⟩
abbrev F.LNK_STAT_FAILOVER : Fld := ⟨R.LNK_STAT, 29, 29⟩
abbrev F.LNK_STAT_NOSTBY : Fld := ⟨R.LNK_STAT, 28, 28⟩
abbrev F.LNK_STAT_SWITCHES : Fld := ⟨R.LNK_STAT, 15, 8⟩
abbrev F.LNK_FWD_CTRL_UP_RATE : Fld := ⟨R.LNK_FWD_CTRL, 31, 19⟩
abbrev F.LNK_FWD_CTRL_DEF_RATE : Fld := ⟨R.LNK_FWD_CTRL, 15, 3⟩
abbrev F.LNK_FWD_CTRL_DEF_D : Fld := ⟨R.LNK_FWD_CTRL, 1, 1⟩
abbrev F.LNK_FWD_CTRL_DEF_B : Fld := ⟨R.LNK_FWD_CTRL, 0, 0⟩
abbrev F.LNK_FWDi_VALID (i : Nat) : Fld := ⟨(R.LNK_FWDi i), 31, 31⟩
abbrev F.LNK_FWDi_FWD_D (i : Nat) : Fld := ⟨(R.LNK_FWDi i), 30, 30⟩
abbrev F.LNK_FWDi_FWD_B (i : Nat) : Fld := ⟨(R.LNK_FWDi i), 29, 29⟩
abbrev F.LNK_FWDi_RATE (i : Nat) : Fld := ⟨(R.LNK_FWDi i), 28, 16⟩
abbrev F.LNK_FWDi_STREAM_ID (i : Nat) : Fld := ⟨(R.LNK_FWDi i), 15, 0⟩
abbrev F.LNK_Px_CTRL_EN (p : Nat) : Fld := ⟨(R.LNK_Px_CTRL p), 31, 31⟩
abbrev F.LNK_Px_CTRL_RETRAIN (p : Nat) : Fld := ⟨(R.LNK_Px_CTRL p), 30, 30⟩
abbrev F.LNK_Px_CTRL_CLRFAIL (p : Nat) : Fld := ⟨(R.LNK_Px_CTRL p), 29, 29⟩
abbrev F.LNK_Px_CTRL_MAXLANES (p : Nat) : Fld := ⟨(R.LNK_Px_CTRL p), 9, 8⟩
abbrev F.LNK_Px_CTRL_MAXRATE (p : Nat) : Fld := ⟨(R.LNK_Px_CTRL p), 5, 4⟩
abbrev F.LNK_Px_STAT_STATE (p : Nat) : Fld := ⟨(R.LNK_Px_STAT p), 31, 29⟩
abbrev F.LNK_Px_STAT_RATE (p : Nat) : Fld := ⟨(R.LNK_Px_STAT p), 28, 27⟩
abbrev F.LNK_Px_STAT_WIDTH (p : Nat) : Fld := ⟨(R.LNK_Px_STAT p), 26, 25⟩
abbrev F.LNK_Px_STAT_SLOW (p : Nat) : Fld := ⟨(R.LNK_Px_STAT p), 24, 24⟩
abbrev F.LNK_Px_STAT_LOCKED (p : Nat) : Fld := ⟨(R.LNK_Px_STAT p), 23, 20⟩
abbrev F.LNK_Px_STAT_FAILMASK (p : Nat) : Fld := ⟨(R.LNK_Px_STAT p), 19, 16⟩
abbrev F.LNK_Px_STAT_ROLEERR (p : Nat) : Fld := ⟨(R.LNK_Px_STAT p), 15, 15⟩
abbrev F.LNK_Px_STAT_USABLE (p : Nat) : Fld := ⟨(R.LNK_Px_STAT p), 14, 14⟩
abbrev F.LNK_Px_STAT_DESKEW (p : Nat) : Fld := ⟨(R.LNK_Px_STAT p), 13, 13⟩
abbrev F.LNK_Px_STAT_LANEORD (p : Nat) : Fld := ⟨(R.LNK_Px_STAT p), 12, 12⟩
abbrev F.LNK_Px_STAT_POLINV (p : Nat) : Fld := ⟨(R.LNK_Px_STAT p), 11, 8⟩
abbrev F.LNK_Px_STAT_DOWNS (p : Nat) : Fld := ⟨(R.LNK_Px_STAT p), 7, 0⟩
abbrev F.LNK_Px_PEER_RATES (p : Nat) : Fld := ⟨(R.LNK_Px_PEER p), 31, 28⟩
abbrev F.LNK_Px_PEER_LANES (p : Nat) : Fld := ⟨(R.LNK_Px_PEER p), 27, 26⟩
abbrev F.LNK_Px_PEER_ROLE (p : Nat) : Fld := ⟨(R.LNK_Px_PEER p), 25, 25⟩
abbrev F.LNK_Px_PEER_EXT (p : Nat) : Fld := ⟨(R.LNK_Px_PEER p), 24, 24⟩
abbrev F.LNK_Px_PEER_ID (p : Nat) : Fld := ⟨(R.LNK_Px_PEER p), 15, 0⟩
abbrev F.LNK_Px_PKT_CRCERR (p : Nat) : Fld := ⟨(R.LNK_Px_PKT p), 31, 24⟩
abbrev F.LNK_Px_PKT_ABTRX (p : Nat) : Fld := ⟨(R.LNK_Px_PKT p), 23, 16⟩
abbrev F.LNK_Px_PKT_LENERR (p : Nat) : Fld := ⟨(R.LNK_Px_PKT p), 15, 8⟩
abbrev F.LNK_Px_PKT_FMTERR (p : Nat) : Fld := ⟨(R.LNK_Px_PKT p), 7, 0⟩
abbrev F.LNK_Px_DROP_FWDDROP (p : Nat) : Fld := ⟨(R.LNK_Px_DROP p), 31, 16⟩
abbrev F.LNK_Px_DROP_RXDROP (p : Nat) : Fld := ⟨(R.LNK_Px_DROP p), 15, 8⟩
abbrev F.LNK_Px_DROP_CTLDROP (p : Nat) : Fld := ⟨(R.LNK_Px_DROP p), 7, 0⟩
abbrev F.LNK_Px_LANEn_CODEERR (p n : Nat) : Fld := ⟨(R.LNK_Px_LANEn p n), 31, 16⟩
abbrev F.LNK_Px_LANEn_BADHDR (p n : Nat) : Fld := ⟨(R.LNK_Px_LANEn p n), 15, 8⟩
abbrev F.LNK_Px_LANEn_EBUF (p n : Nat) : Fld := ⟨(R.LNK_Px_LANEn p n), 7, 0⟩
abbrev F.LNK_CM_CTRL_SEND : Fld := ⟨R.LNK_CM_CTRL, 31, 31⟩
abbrev F.LNK_CM_CTRL_RTT : Fld := ⟨R.LNK_CM_CTRL, 15, 0⟩
abbrev F.LNK_CM_REQ0_OP : Fld := ⟨R.LNK_CM_REQ0, 31, 30⟩
abbrev F.LNK_CM_REQ0_PORT : Fld := ⟨R.LNK_CM_REQ0, 29, 28⟩
abbrev F.LNK_CM_REQ0_CNT : Fld := ⟨R.LNK_CM_REQ0, 27, 24⟩
abbrev F.LNK_CM_REQ0_DST : Fld := ⟨R.LNK_CM_REQ0, 11, 0⟩
abbrev F.LNK_CM_REQ1_ADDR : Fld := ⟨R.LNK_CM_REQ1, 23, 0⟩
abbrev F.LNK_CM_STAT_STALL : Fld := ⟨R.LNK_CM_STAT, 31, 31⟩
abbrev F.LNK_CM_STAT_PENDING : Fld := ⟨R.LNK_CM_STAT, 30, 30⟩
abbrev F.LNK_CM_STAT_INFLIGHT : Fld := ⟨R.LNK_CM_STAT, 29, 23⟩
abbrev F.LNK_CM_STAT_QUAR : Fld := ⟨R.LNK_CM_STAT, 22, 16⟩
abbrev F.LNK_CM_STAT_LATE : Fld := ⟨R.LNK_CM_STAT, 15, 8⟩
abbrev F.LNK_CM_STAT_STRAY : Fld := ⟨R.LNK_CM_STAT, 7, 0⟩
abbrev F.LNK_CM_RSP_VALID : Fld := ⟨R.LNK_CM_RSP, 31, 31⟩
abbrev F.LNK_CM_RSP_STATUS : Fld := ⟨R.LNK_CM_RSP, 27, 24⟩
abbrev F.LNK_CM_RSP_TAG : Fld := ⟨R.LNK_CM_RSP, 21, 16⟩
abbrev F.LNK_CM_RSP_CNT : Fld := ⟨R.LNK_CM_RSP, 15, 12⟩
abbrev F.LNK_CM_RSP_SRC : Fld := ⟨R.LNK_CM_RSP, 11, 0⟩
abbrev F.LNK_CM_ISSUED_VALID : Fld := ⟨R.LNK_CM_ISSUED, 31, 31⟩
abbrev F.LNK_CM_ISSUED_TAG : Fld := ⟨R.LNK_CM_ISSUED, 5, 0⟩
abbrev F.LNK_CM_WDATAk_VAL (k : Nat) : Fld := ⟨(R.LNK_CM_WDATAk k), 31, 0⟩
abbrev F.LNK_CM_RDATAk_VAL (k : Nat) : Fld := ⟨(R.LNK_CM_RDATAk k), 31, 0⟩
abbrev F.LNK_MBOXk_VAL (k : Nat) : Fld := ⟨(R.LNK_MBOXk k), 31, 0⟩
abbrev F.LNK_MBOX_STAT_NEW : Fld := ⟨R.LNK_MBOX_STAT, 31, 31⟩
abbrev F.LNK_MBOX_STAT_EXT : Fld := ⟨R.LNK_MBOX_STAT, 12, 12⟩
abbrev F.LNK_MBOX_STAT_SRC : Fld := ⟨R.LNK_MBOX_STAT, 11, 0⟩
abbrev F.SPN_CTRL_WALK : Fld := ⟨R.SPN_CTRL, 31, 31⟩
abbrev F.SPN_CTRL_AUTOWALK : Fld := ⟨R.SPN_CTRL, 30, 30⟩
abbrev F.SPN_CTRL_SDN_EN : Fld := ⟨R.SPN_CTRL, 27, 24⟩
abbrev F.SPN_CTRL_MAXRATE : Fld := ⟨R.SPN_CTRL, 0, 0⟩
abbrev F.SPN_STAT_MGR : Fld := ⟨R.SPN_STAT, 31, 31⟩
abbrev F.SPN_STAT_ADDR_VALID : Fld := ⟨R.SPN_STAT, 30, 30⟩
abbrev F.SPN_STAT_ROLEMIS : Fld := ⟨R.SPN_STAT, 29, 29⟩
abbrev F.SPN_STAT_ADDRMIS : Fld := ⟨R.SPN_STAT, 28, 28⟩
abbrev F.SPN_STAT_DEPTH : Fld := ⟨R.SPN_STAT, 27, 25⟩
abbrev F.SPN_STAT_ADDR : Fld := ⟨R.SPN_STAT, 11, 0⟩
abbrev F.SPN_WALK_BUSY : Fld := ⟨R.SPN_WALK, 31, 31⟩
abbrev F.SPN_WALK_OVER : Fld := ⟨R.SPN_WALK, 30, 30⟩
abbrev F.SPN_WALK_TMO : Fld := ⟨R.SPN_WALK, 29, 29⟩
abbrev F.SPN_WALK_COUNT : Fld := ⟨R.SPN_WALK, 28, 16⟩
abbrev F.SPN_WALK_UNADDR : Fld := ⟨R.SPN_WALK, 12, 0⟩
abbrev F.SPN_GRP_GROUPS : Fld := ⟨R.SPN_GRP, 15, 0⟩
abbrev F.SPN_TIME_LO_VAL : Fld := ⟨R.SPN_TIME_LO, 31, 0⟩
abbrev F.SPN_TIME_HI_VAL : Fld := ⟨R.SPN_TIME_HI, 31, 0⟩
abbrev F.SPN_TSET_LO_VAL : Fld := ⟨R.SPN_TSET_LO, 31, 0⟩
abbrev F.SPN_TSET_HI_VAL : Fld := ⟨R.SPN_TSET_HI, 31, 0⟩
abbrev F.SPN_TSTAT_STATE : Fld := ⟨R.SPN_TSTAT, 31, 30⟩
abbrev F.SPN_TSTAT_STEP : Fld := ⟨R.SPN_TSTAT, 29, 29⟩
abbrev F.SPN_TSTAT_OFS : Fld := ⟨R.SPN_TSTAT, 15, 0⟩
abbrev F.SPN_DELAY_D : Fld := ⟨R.SPN_DELAY, 15, 0⟩
abbrev F.SPN_FS_FSLATE : Fld := ⟨R.SPN_FS, 7, 0⟩
abbrev F.SPN_FCNT_COUNT : Fld := ⟨R.SPN_FCNT, 31, 0⟩
abbrev F.SPN_ERR_NOROUTE : Fld := ⟨R.SPN_ERR, 31, 24⟩
abbrev F.SPN_ERR_FRMERR : Fld := ⟨R.SPN_ERR, 23, 16⟩
abbrev F.SPN_ERR_CLPERR : Fld := ⟨R.SPN_ERR, 15, 8⟩
abbrev F.SPN_Pp_STAT_STATE (p : Nat) : Fld := ⟨(R.SPN_Pp_STAT p), 31, 29⟩
abbrev F.SPN_Pp_STAT_RATE (p : Nat) : Fld := ⟨(R.SPN_Pp_STAT p), 28, 28⟩
abbrev F.SPN_Pp_STAT_ROLEERR (p : Nat) : Fld := ⟨(R.SPN_Pp_STAT p), 27, 27⟩
abbrev F.SPN_Pp_STAT_RVALID (p : Nat) : Fld := ⟨(R.SPN_Pp_STAT p), 26, 26⟩
abbrev F.SPN_Pp_STAT_DOWNS (p : Nat) : Fld := ⟨(R.SPN_Pp_STAT p), 23, 16⟩
abbrev F.SPN_Pp_STAT_PEER (p : Nat) : Fld := ⟨(R.SPN_Pp_STAT p), 15, 0⟩
abbrev F.SPN_Pp_RANGE_HI (p : Nat) : Fld := ⟨(R.SPN_Pp_RANGE p), 27, 16⟩
abbrev F.SPN_Pp_RANGE_LO (p : Nat) : Fld := ⟨(R.SPN_Pp_RANGE p), 11, 0⟩
abbrev F.SPN_Pp_ERR_CODEERR (p : Nat) : Fld := ⟨(R.SPN_Pp_ERR p), 31, 16⟩
abbrev F.SPN_Pp_ERR_BADHDR (p : Nat) : Fld := ⟨(R.SPN_Pp_ERR p), 15, 8⟩
abbrev F.SPN_Pp_ERR_CRCERR (p : Nat) : Fld := ⟨(R.SPN_Pp_ERR p), 7, 0⟩
abbrev F.SPN_Pp_DROP_EBUF (p : Nat) : Fld := ⟨(R.SPN_Pp_DROP p), 15, 8⟩
abbrev F.SPN_Pp_DROP_DROP (p : Nat) : Fld := ⟨(R.SPN_Pp_DROP p), 7, 0⟩
abbrev F.SPN_RA_CTRL_SEND : Fld := ⟨R.SPN_RA_CTRL, 31, 31⟩
abbrev F.SPN_RA_CTRL_RTT : Fld := ⟨R.SPN_RA_CTRL, 15, 0⟩
abbrev F.SPN_RA_REQ0_OP : Fld := ⟨R.SPN_RA_REQ0, 31, 30⟩
abbrev F.SPN_RA_REQ0_CNT : Fld := ⟨R.SPN_RA_REQ0, 29, 24⟩
abbrev F.SPN_RA_REQ0_PAGE : Fld := ⟨R.SPN_RA_REQ0, 21, 12⟩
abbrev F.SPN_RA_REQ0_DST : Fld := ⟨R.SPN_RA_REQ0, 11, 0⟩
abbrev F.SPN_RA_REQ1_ADDR : Fld := ⟨R.SPN_RA_REQ1, 23, 0⟩
abbrev F.SPN_RA_STAT_STALL : Fld := ⟨R.SPN_RA_STAT, 31, 31⟩
abbrev F.SPN_RA_STAT_PENDING : Fld := ⟨R.SPN_RA_STAT, 30, 30⟩
abbrev F.SPN_RA_STAT_INFLIGHT : Fld := ⟨R.SPN_RA_STAT, 29, 23⟩
abbrev F.SPN_RA_STAT_QUAR : Fld := ⟨R.SPN_RA_STAT, 22, 16⟩
abbrev F.SPN_RA_STAT_LATE : Fld := ⟨R.SPN_RA_STAT, 15, 8⟩
abbrev F.SPN_RA_STAT_STRAY : Fld := ⟨R.SPN_RA_STAT, 7, 0⟩
abbrev F.SPN_RA_RSP_VALID : Fld := ⟨R.SPN_RA_RSP, 31, 31⟩
abbrev F.SPN_RA_RSP_STATUS : Fld := ⟨R.SPN_RA_RSP, 30, 27⟩
abbrev F.SPN_RA_RSP_TAG : Fld := ⟨R.SPN_RA_RSP, 23, 18⟩
abbrev F.SPN_RA_RSP_CNT : Fld := ⟨R.SPN_RA_RSP, 17, 12⟩
abbrev F.SPN_RA_RSP_SRC : Fld := ⟨R.SPN_RA_RSP, 11, 0⟩
abbrev F.SPN_RA_ISSUED_VALID : Fld := ⟨R.SPN_RA_ISSUED, 31, 31⟩
abbrev F.SPN_RA_ISSUED_TAG : Fld := ⟨R.SPN_RA_ISSUED, 5, 0⟩
abbrev F.SPN_RA_WDATAk_VAL (k : Nat) : Fld := ⟨(R.SPN_RA_WDATAk k), 31, 0⟩
abbrev F.SPN_RA_RDATAk_VAL (k : Nat) : Fld := ⟨(R.SPN_RA_RDATAk k), 31, 0⟩
abbrev F.SPN_MC_CTRL_START : Fld := ⟨R.SPN_MC_CTRL, 31, 31⟩
abbrev F.SPN_MC_CTRL_BUSY : Fld := ⟨R.SPN_MC_CTRL, 30, 30⟩
abbrev F.SPN_MC_CTRL_MODE : Fld := ⟨R.SPN_MC_CTRL, 29, 28⟩
abbrev F.SPN_MC_CTRL_GROUP : Fld := ⟨R.SPN_MC_CTRL, 27, 24⟩
abbrev F.SPN_MC_CTRL_DST : Fld := ⟨R.SPN_MC_CTRL, 23, 12⟩
abbrev F.SPN_MC_SESS_SESSION : Fld := ⟨R.SPN_MC_SESS, 15, 0⟩
abbrev F.SPN_MC_BASE_BASE : Fld := ⟨R.SPN_MC_BASE, 20, 0⟩
abbrev F.SPN_MC_LEN_LEN : Fld := ⟨R.SPN_MC_LEN, 24, 0⟩
abbrev F.SPN_MC_GAP_GAP : Fld := ⟨R.SPN_MC_GAP, 15, 0⟩
abbrev F.SPN_MC_RES0_FAIL : Fld := ⟨R.SPN_MC_RES0, 28, 16⟩
abbrev F.SPN_MC_RES0_OK : Fld := ⟨R.SPN_MC_RES0, 12, 0⟩
abbrev F.SPN_MC_RES1_FVALID : Fld := ⟨R.SPN_MC_RES1, 31, 31⟩
abbrev F.SPN_MC_RES1_TMO : Fld := ⟨R.SPN_MC_RES1, 27, 20⟩
abbrev F.SPN_MC_RES1_REASON : Fld := ⟨R.SPN_MC_RES1, 19, 16⟩
abbrev F.SPN_MC_RES1_FIRST : Fld := ⟨R.SPN_MC_RES1, 11, 0⟩
abbrev F.SPN_MC_RX_ACTIVE : Fld := ⟨R.SPN_MC_RX, 31, 31⟩
abbrev F.SPN_MC_RX_REASON : Fld := ⟨R.SPN_MC_RX, 19, 16⟩
abbrev F.SPN_MC_RX_SESSION : Fld := ⟨R.SPN_MC_RX, 15, 0⟩
abbrev F.SPN_FIN_STAT_OVF : Fld := ⟨R.SPN_FIN_STAT, 31, 24⟩
abbrev F.SPN_FIN_STAT_COUNT : Fld := ⟨R.SPN_FIN_STAT, 6, 0⟩
abbrev F.SPN_FIN0_VALID : Fld := ⟨R.SPN_FIN0, 31, 31⟩
abbrev F.SPN_FIN0_CLASS : Fld := ⟨R.SPN_FIN0, 29, 28⟩
abbrev F.SPN_FIN0_EVENT : Fld := ⟨R.SPN_FIN0, 27, 20⟩
abbrev F.SPN_FIN0_LOST : Fld := ⟨R.SPN_FIN0, 19, 12⟩
abbrev F.SPN_FIN0_SRC : Fld := ⟨R.SPN_FIN0, 11, 0⟩
abbrev F.SPN_FIN1_VAL : Fld := ⟨R.SPN_FIN1, 31, 0⟩
abbrev F.SPN_FIN2_VAL : Fld := ⟨R.SPN_FIN2, 31, 0⟩
abbrev F.SPN_FIN3_VAL : Fld := ⟨R.SPN_FIN3, 31, 0⟩
abbrev F.CLS_CFG_PAIR1 : Fld := ⟨R.CLS_CFG, 23, 16⟩
abbrev F.CLS_CFG_PAIR0 : Fld := ⟨R.CLS_CFG, 15, 8⟩
abbrev F.CLS_CFG_MODE : Fld := ⟨R.CLS_CFG, 7, 0⟩
abbrev F.CLS_TIME_DISC1 : Fld := ⟨R.CLS_TIME, 31, 24⟩
abbrev F.CLS_TIME_DISC0 : Fld := ⟨R.CLS_TIME, 23, 16⟩
abbrev F.CLS_TIME_FILT1 : Fld := ⟨R.CLS_TIME, 15, 8⟩
abbrev F.CLS_TIME_FILT0 : Fld := ⟨R.CLS_TIME, 7, 0⟩
abbrev F.CLS_LCEC_CAP_B : Fld := ⟨R.CLS_LCEC, 23, 16⟩
abbrev F.CLS_LCEC_CAP_G : Fld := ⟨R.CLS_LCEC, 15, 8⟩
abbrev F.CLS_LCEC_CAP_R : Fld := ⟨R.CLS_LCEC, 7, 0⟩
abbrev F.CLS_LCEG_GREY : Fld := ⟨R.CLS_LCEG, 15, 0⟩
abbrev F.CLS_OUT_RB_WIN : Fld := ⟨R.CLS_OUT, 15, 8⟩
abbrev F.CLS_OUT_PULSE : Fld := ⟨R.CLS_OUT, 2, 0⟩
abbrev F.CLS_CTRL_ARM : Fld := ⟨R.CLS_CTRL, 31, 31⟩
abbrev F.CLS_CTRL_SDK_REQ : Fld := ⟨R.CLS_CTRL, 30, 30⟩
abbrev F.CLS_CTRL_SIGN_EN : Fld := ⟨R.CLS_CTRL, 29, 29⟩
abbrev F.CLS_CTRL_SIGN_G : Fld := ⟨R.CLS_CTRL, 25, 24⟩
abbrev F.CLS_KEY_KEY : Fld := ⟨R.CLS_KEY, 31, 0⟩
abbrev F.CLS_STAT_STATE : Fld := ⟨R.CLS_STAT, 31, 29⟩
abbrev F.CLS_STAT_LEVEL : Fld := ⟨R.CLS_STAT, 28, 27⟩
abbrev F.CLS_STAT_WAIT : Fld := ⟨R.CLS_STAT, 26, 26⟩
abbrev F.CLS_STAT_HBOK : Fld := ⟨R.CLS_STAT, 25, 25⟩
abbrev F.CLS_STAT_ARMERR : Fld := ⟨R.CLS_STAT, 24, 24⟩
abbrev F.CLS_STAT_DEM : Fld := ⟨R.CLS_STAT, 8, 0⟩
abbrev F.CLS_FAULT_CAUSE : Fld := ⟨R.CLS_FAULT, 10, 0⟩
abbrev F.CLS_IN_RAW : Fld := ⟨R.CLS_IN, 7, 4⟩
abbrev F.CLS_IN_FILT : Fld := ⟨R.CLS_IN, 3, 0⟩
abbrev F.CLS_CNT_CRCERR : Fld := ⟨R.CLS_CNT, 31, 24⟩
abbrev F.CLS_CNT_SEQERR : Fld := ⟨R.CLS_CNT, 23, 16⟩
abbrev F.CLS_CNT_HBLOSS : Fld := ⟨R.CLS_CNT, 15, 8⟩
abbrev F.CLS_CNT_RESET_REJ : Fld := ⟨R.CLS_CNT, 7, 0⟩
abbrev F.CLS_TRANS_TR1 : Fld := ⟨R.CLS_TRANS, 15, 8⟩
abbrev F.CLS_TRANS_TR0 : Fld := ⟨R.CLS_TRANS, 7, 0⟩
abbrev F.CLS_ARCH_N : Fld := ⟨R.CLS_ARCH, 28, 16⟩
abbrev F.CLS_ARCH_A : Fld := ⟨R.CLS_ARCH, 15, 14⟩
abbrev F.CLS_ARCH_FIRST : Fld := ⟨R.CLS_ARCH, 11, 0⟩
abbrev F.CLK_STAT_SRCFAIL : Fld := ⟨R.CLK_STAT, 31, 31⟩
abbrev F.CLK_STAT_SWFORCED : Fld := ⟨R.CLK_STAT, 30, 30⟩
abbrev F.CLK_STAT_GATE_REFUSED : Fld := ⟨R.CLK_STAT, 29, 29⟩
abbrev F.CLK_STAT_XTAL_FAIL : Fld := ⟨R.CLK_STAT, 28, 28⟩
abbrev F.CLK_STAT_LOCKERR : Fld := ⟨R.CLK_STAT, 27, 27⟩
abbrev F.CLK_STAT_GATE_BLK : Fld := ⟨R.CLK_STAT, 20, 16⟩
abbrev F.CLK_STAT_LOCK : Fld := ⟨R.CLK_STAT, 13, 8⟩
abbrev F.CLK_STAT_REFSRC : Fld := ⟨R.CLK_STAT, 1, 1⟩
abbrev F.CLK_STAT_XQUAL : Fld := ⟨R.CLK_STAT, 0, 0⟩
abbrev F.CLK_DIV_RDIV : Fld := ⟨R.CLK_DIV, 3, 0⟩
abbrev F.CLK_ENG_SB_E1 : Fld := ⟨R.CLK_ENG, 11, 10⟩
abbrev F.CLK_ENG_BDIV_E1 : Fld := ⟨R.CLK_ENG, 9, 8⟩
abbrev F.CLK_ENG_SB_E0 : Fld := ⟨R.CLK_ENG, 3, 2⟩
abbrev F.CLK_ENG_BDIV_E0 : Fld := ⟨R.CLK_ENG, 1, 0⟩
abbrev F.CLK_GATE_GATE : Fld := ⟨R.CLK_GATE, 5, 0⟩
abbrev F.CLK_GSTAT_GATED : Fld := ⟨R.CLK_GSTAT, 18, 0⟩
abbrev F.PWR_CTRL_WAKE : Fld := ⟨R.PWR_CTRL, 31, 31⟩
abbrev F.PWR_CTRL_REQ : Fld := ⟨R.PWR_CTRL, 26, 24⟩
abbrev F.PWR_TMR0_T_DOZE : Fld := ⟨R.PWR_TMR0, 31, 16⟩
abbrev F.PWR_TMR0_T_IDLE : Fld := ⟨R.PWR_TMR0, 15, 0⟩
abbrev F.PWR_TMR1_T_WAKE : Fld := ⟨R.PWR_TMR1, 31, 16⟩
abbrev F.PWR_TMR1_T_DEEP : Fld := ⟨R.PWR_TMR1, 15, 0⟩
abbrev F.PWR_WAKE_EN : Fld := ⟨R.PWR_WAKE, 4, 0⟩
abbrev F.PWR_STAT_STATE : Fld := ⟨R.PWR_STAT, 31, 30⟩
abbrev F.PWR_STAT_BUSY : Fld := ⟨R.PWR_STAT, 29, 29⟩
abbrev F.PWR_STAT_WAKE_SLOW : Fld := ⟨R.PWR_STAT, 28, 28⟩
abbrev F.PWR_STAT_WAKEFAIL : Fld := ⟨R.PWR_STAT, 27, 27⟩
abbrev F.PWR_STAT_FAILSTEP : Fld := ⟨R.PWR_STAT, 26, 23⟩
abbrev F.PWR_STAT_GLKARM : Fld := ⟨R.PWR_STAT, 22, 22⟩
abbrev F.PWR_STAT_CAUSE : Fld := ⟨R.PWR_STAT, 10, 8⟩
abbrev F.PWR_ABORT_VALID : Fld := ⟨R.PWR_ABORT, 31, 31⟩
abbrev F.PWR_ABORT_TARGET : Fld := ⟨R.PWR_ABORT, 30, 29⟩
abbrev F.PWR_ABORT_BLOCK : Fld := ⟨R.PWR_ABORT, 28, 24⟩
abbrev F.PWR_ABORT_COUNT : Fld := ⟨R.PWR_ABORT, 23, 16⟩
abbrev F.PWR_IDLECNT_MS : Fld := ⟨R.PWR_IDLECNT, 31, 0⟩
abbrev F.PWR_WAKEOUT_SDN : Fld := ⟨R.PWR_WAKEOUT, 3, 0⟩
abbrev F.PWR_LBn_RETAIN (n : Nat) : Fld := ⟨(R.PWR_LBn n), 31, 31⟩
abbrev F.PWR_LBn_LOST (n : Nat) : Fld := ⟨(R.PWR_LBn n), 30, 30⟩
abbrev F.PWR_LBn_SHADOW (n : Nat) : Fld := ⟨(R.PWR_LBn n), 29, 28⟩
abbrev F.PWR_LBn_BASE (n : Nat) : Fld := ⟨(R.PWR_LBn n), 20, 0⟩
abbrev F.PWR_LBCRCn_CRC (n : Nat) : Fld := ⟨(R.PWR_LBCRCn n), 31, 0⟩
abbrev F.THM_CTRL_EN : Fld := ⟨R.THM_CTRL, 31, 31⟩
abbrev F.THM_CTRL_MODE : Fld := ⟨R.THM_CTRL, 30, 29⟩
abbrev F.THM_CTRL_HYST : Fld := ⟨R.THM_CTRL, 19, 16⟩
abbrev F.THM_CTRL_TTHR : Fld := ⟨R.THM_CTRL, 15, 0⟩
abbrev F.THM_STAT_SHUT : Fld := ⟨R.THM_STAT, 31, 31⟩
abbrev F.THM_STAT_THR_E1 : Fld := ⟨R.THM_STAT, 30, 30⟩
abbrev F.THM_STAT_THR_E0 : Fld := ⟨R.THM_STAT, 29, 29⟩
abbrev F.THM_STAT_DIVDROP : Fld := ⟨R.THM_STAT, 28, 28⟩
abbrev F.THM_STAT_SENS_E1 : Fld := ⟨R.THM_STAT, 27, 27⟩
abbrev F.THM_STAT_SENS_E0 : Fld := ⟨R.THM_STAT, 26, 26⟩
abbrev F.THM_STAT_SENS_H : Fld := ⟨R.THM_STAT, 25, 25⟩
abbrev F.THM_STAT_ENGAGE : Fld := ⟨R.THM_STAT, 15, 8⟩
abbrev F.THM_STAT_MT : Fld := ⟨R.THM_STAT, 1, 0⟩
abbrev F.THM_Dd_PEAK (d : Nat) : Fld := ⟨(R.THM_Dd d), 31, 16⟩
abbrev F.THM_Dd_TEMP (d : Nat) : Fld := ⟨(R.THM_Dd d), 15, 0⟩
abbrev F.ADC_CTRL_EN : Fld := ⟨R.ADC_CTRL, 31, 31⟩
abbrev F.ADC_CTRL_START : Fld := ⟨R.ADC_CTRL, 30, 30⟩
abbrev F.ADC_CTRL_TRIGEN : Fld := ⟨R.ADC_CTRL, 27, 24⟩
abbrev F.ADC_CTRL_PINPOL : Fld := ⟨R.ADC_CTRL, 23, 23⟩
abbrev F.ADC_CTRL_LAST : Fld := ⟨R.ADC_CTRL, 3, 0⟩
abbrev F.ADC_ROW_ROW : Fld := ⟨R.ADC_ROW, 16, 0⟩
abbrev F.ADC_TMR_PERIOD : Fld := ⟨R.ADC_TMR, 15, 0⟩
abbrev F.ADC_STAT_BUSY : Fld := ⟨R.ADC_STAT, 31, 31⟩
abbrev F.ADC_STAT_PENDING : Fld := ⟨R.ADC_STAT, 30, 30⟩
abbrev F.ADC_STAT_SLOT : Fld := ⟨R.ADC_STAT, 19, 16⟩
abbrev F.ADC_STAT_TRIG_OVR : Fld := ⟨R.ADC_STAT, 15, 8⟩
abbrev F.ADC_STAT_DISC : Fld := ⟨R.ADC_STAT, 7, 0⟩
abbrev F.ADC_SEQCNT_COUNT : Fld := ⟨R.ADC_SEQCNT, 31, 0⟩
abbrev F.ADC_SCAL_ZERO : Fld := ⟨R.ADC_SCAL, 31, 31⟩
abbrev F.ADC_SCAL_FULL : Fld := ⟨R.ADC_SCAL, 30, 30⟩
abbrev F.ADC_SCAL_BUSY : Fld := ⟨R.ADC_SCAL, 29, 29⟩
abbrev F.ADC_SCAL_ZDONE : Fld := ⟨R.ADC_SCAL, 28, 28⟩
abbrev F.ADC_SCAL_ERR : Fld := ⟨R.ADC_SCAL, 27, 27⟩
abbrev F.ADC_SCAL_CH : Fld := ⟨R.ADC_SCAL, 4, 0⟩
abbrev F.ADC_SCAL_TGT_CF : Fld := ⟨R.ADC_SCAL_TGT, 27, 16⟩
abbrev F.ADC_SCAL_TGT_CZ : Fld := ⟨R.ADC_SCAL_TGT, 11, 0⟩
abbrev F.ADC_SCAL_ZF_F : Fld := ⟨R.ADC_SCAL_ZF, 31, 16⟩
abbrev F.ADC_SCAL_ZF_Z : Fld := ⟨R.ADC_SCAL_ZF, 15, 0⟩
abbrev F.ADC_DIODEd_DS (d : Nat) : Fld := ⟨(R.ADC_DIODEd d), 31, 16⟩
abbrev F.ADC_DIODEd_D0 (d : Nat) : Fld := ⟨(R.ADC_DIODEd d), 15, 0⟩
abbrev F.ADC_SLOTs_CALBYP (s : Nat) : Fld := ⟨(R.ADC_SLOTs s), 16, 16⟩
abbrev F.ADC_SLOTs_SHIFT (s : Nat) : Fld := ⟨(R.ADC_SLOTs s), 15, 12⟩
abbrev F.ADC_SLOTs_AVG (s : Nat) : Fld := ⟨(R.ADC_SLOTs s), 11, 8⟩
abbrev F.ADC_SLOTs_CH (s : Nat) : Fld := ⟨(R.ADC_SLOTs s), 4, 0⟩
abbrev F.ADC_CALn_GAIN (n : Nat) : Fld := ⟨(R.ADC_CALn n), 31, 16⟩
abbrev F.ADC_CALn_OFS (n : Nat) : Fld := ⟨(R.ADC_CALn n), 15, 0⟩
abbrev F.ADC_MEANn_VALID (n : Nat) : Fld := ⟨(R.ADC_MEANn n), 31, 31⟩
abbrev F.ADC_MEANn_OVR (n : Nat) : Fld := ⟨(R.ADC_MEANn n), 30, 30⟩
abbrev F.ADC_MEANn_HIGH (n : Nat) : Fld := ⟨(R.ADC_MEANn n), 29, 29⟩
abbrev F.ADC_MEANn_MEAN (n : Nat) : Fld := ⟨(R.ADC_MEANn n), 11, 0⟩
abbrev F.ADC_VALn_VAL (n : Nat) : Fld := ⟨(R.ADC_VALn n), 19, 0⟩
abbrev F.ADC_OVR_CH : Fld := ⟨R.ADC_OVR, 31, 0⟩
abbrev F.ADC_WINw_CFG_EN (w : Nat) : Fld := ⟨(R.ADC_WINw_CFG w), 31, 31⟩
abbrev F.ADC_WINw_CFG_INSIDE (w : Nat) : Fld := ⟨(R.ADC_WINw_CFG w), 30, 30⟩
abbrev F.ADC_WINw_CFG_HIT (w : Nat) : Fld := ⟨(R.ADC_WINw_CFG w), 29, 29⟩
abbrev F.ADC_WINw_CFG_STATE (w : Nat) : Fld := ⟨(R.ADC_WINw_CFG w), 28, 28⟩
abbrev F.ADC_WINw_CFG_SLOT (w : Nat) : Fld := ⟨(R.ADC_WINw_CFG w), 3, 0⟩
abbrev F.ADC_WINw_LO_LO (w : Nat) : Fld := ⟨(R.ADC_WINw_LO w), 19, 0⟩
abbrev F.ADC_WINw_HI_HI (w : Nat) : Fld := ⟨(R.ADC_WINw_HI w), 19, 0⟩
abbrev F.CAL_CTRL_AUTO : Fld := ⟨R.CAL_CTRL, 31, 28⟩
abbrev F.CAL_CTRL_RUN : Fld := ⟨R.CAL_CTRL, 27, 24⟩
abbrev F.CAL_CTRL_DT : Fld := ⟨R.CAL_CTRL, 12, 8⟩
abbrev F.CAL_CTRL_TOL : Fld := ⟨R.CAL_CTRL, 3, 0⟩
abbrev F.CAL_LIM_MINEYE_DQ : Fld := ⟨R.CAL_LIM, 30, 24⟩
abbrev F.CAL_LIM_MINEYE_SDO : Fld := ⟨R.CAL_LIM, 20, 16⟩
abbrev F.CAL_LIM_MINEYE_LANE : Fld := ⟨R.CAL_LIM, 14, 8⟩
abbrev F.CAL_STAT_BUSY : Fld := ⟨R.CAL_STAT, 31, 28⟩
abbrev F.CAL_STAT_BADCAL : Fld := ⟨R.CAL_STAT, 27, 24⟩
abbrev F.CAL_STAT_LOWEYE : Fld := ⟨R.CAL_STAT, 23, 20⟩
abbrev F.CAL_STAT_RUNS : Fld := ⟨R.CAL_STAT, 15, 8⟩
abbrev F.CAL_STAT_BADCNT : Fld := ⟨R.CAL_STAT, 7, 0⟩
abbrev F.CAL_BAD_VALID : Fld := ⟨R.CAL_BAD, 31, 31⟩
abbrev F.CAL_BAD_GROUP : Fld := ⟨R.CAL_BAD, 25, 24⟩
abbrev F.CAL_BAD_ITEM : Fld := ⟨R.CAL_BAD, 5, 0⟩
abbrev F.CAL_TREFg_TEMP (g : Nat) : Fld := ⟨(R.CAL_TREFg g), 15, 0⟩
abbrev F.CAL_PROBE_RANK : Fld := ⟨R.CAL_PROBE, 9, 8⟩
abbrev F.CAL_PROBE_BYTE : Fld := ⟨R.CAL_PROBE, 5, 4⟩
abbrev F.CAL_PROBE_BIT : Fld := ⟨R.CAL_PROBE, 2, 0⟩
abbrev F.CAL_PROBE_DQ_RDTAP : Fld := ⟨R.CAL_PROBE_DQ, 31, 26⟩
abbrev F.CAL_PROBE_DQ_WRTAP : Fld := ⟨R.CAL_PROBE_DQ, 25, 20⟩
abbrev F.CAL_PROBE_DQ_RDEYE : Fld := ⟨R.CAL_PROBE_DQ, 14, 8⟩
abbrev F.CAL_PROBE_DQ_WREYE : Fld := ⟨R.CAL_PROBE_DQ, 6, 0⟩
abbrev F.CAL_PROBE_BY_WLFINE : Fld := ⟨R.CAL_PROBE_BY, 29, 24⟩
abbrev F.CAL_PROBE_BY_WLCOARSE : Fld := ⟨R.CAL_PROBE_BY, 21, 20⟩
abbrev F.CAL_PROBE_BY_RGFINE : Fld := ⟨R.CAL_PROBE_BY, 13, 8⟩
abbrev F.CAL_PROBE_BY_RGCOARSE : Fld := ⟨R.CAL_PROBE_BY, 5, 4⟩
abbrev F.CAL_SDOj_VAL (j : Nat) : Fld := ⟨(R.CAL_SDOj j), 31, 0⟩
abbrev F.CAL_LANEi_EQ (i : Nat) : Fld := ⟨(R.CAL_LANEi i), 31, 28⟩
abbrev F.CAL_LANEi_THR (i : Nat) : Fld := ⟨(R.CAL_LANEi i), 21, 16⟩
abbrev F.CAL_LANEi_EYE_H (i : Nat) : Fld := ⟨(R.CAL_LANEi i), 14, 8⟩
abbrev F.CAL_LANEi_EYE_W (i : Nat) : Fld := ⟨(R.CAL_LANEi i), 6, 0⟩
abbrev F.CHKn_CTRL_START (n : Nat) : Fld := ⟨(R.CHKn_CTRL n), 31, 31⟩
abbrev F.CHKn_CTRL_STOP (n : Nat) : Fld := ⟨(R.CHKn_CTRL n), 30, 30⟩
abbrev F.CHKn_CTRL_INIT (n : Nat) : Fld := ⟨(R.CHKn_CTRL n), 29, 29⟩
abbrev F.CHKn_CTRL_FOLD (n : Nat) : Fld := ⟨(R.CHKn_CTRL n), 28, 28⟩
abbrev F.CHKn_CTRL_AUTO (n : Nat) : Fld := ⟨(R.CHKn_CTRL n), 27, 27⟩
abbrev F.CHKn_CTRL_CMP (n : Nat) : Fld := ⟨(R.CHKn_CTRL n), 26, 26⟩
abbrev F.CHKn_CTRL_POLY (n : Nat) : Fld := ⟨(R.CHKn_CTRL n), 25, 24⟩
abbrev F.CHKn_CTRL_FEED (n : Nat) : Fld := ⟨(R.CHKn_CTRL n), 23, 23⟩
abbrev F.CHKn_CTRL_SPACE (n : Nat) : Fld := ⟨(R.CHKn_CTRL n), 22, 22⟩
abbrev F.CHKn_CTRL_SNOOP (n : Nat) : Fld := ⟨(R.CHKn_CTRL n), 5, 0⟩
abbrev F.CHKn_STAT_BUSY (n : Nat) : Fld := ⟨(R.CHKn_STAT n), 31, 31⟩
abbrev F.CHKn_STAT_DONE (n : Nat) : Fld := ⟨(R.CHKn_STAT n), 30, 30⟩
abbrev F.CHKn_STAT_MISMATCH (n : Nat) : Fld := ⟨(R.CHKn_STAT n), 29, 29⟩
abbrev F.CHKn_STAT_POISON (n : Nat) : Fld := ⟨(R.CHKn_STAT n), 28, 28⟩
abbrev F.CHKn_STAT_WERR (n : Nat) : Fld := ⟨(R.CHKn_STAT n), 27, 27⟩
abbrev F.CHKn_STAT_PWR (n : Nat) : Fld := ⟨(R.CHKn_STAT n), 26, 26⟩
abbrev F.CHKn_STAT_DONES (n : Nat) : Fld := ⟨(R.CHKn_STAT n), 7, 0⟩
abbrev F.CHKn_VAL_VAL (n : Nat) : Fld := ⟨(R.CHKn_VAL n), 31, 0⟩
abbrev F.CHKn_RESULT_CRC (n : Nat) : Fld := ⟨(R.CHKn_RESULT n), 31, 0⟩
abbrev F.CHKn_TAG_TAG (n : Nat) : Fld := ⟨(R.CHKn_TAG n), 31, 0⟩
abbrev F.CHKn_ADDRL_ADDR (n : Nat) : Fld := ⟨(R.CHKn_ADDRL n), 31, 0⟩
abbrev F.CHKn_ADDRH_ADDR (n : Nat) : Fld := ⟨(R.CHKn_ADDRH n), 0, 0⟩
abbrev F.CHKn_LEN_LEN (n : Nat) : Fld := ⟨(R.CHKn_LEN n), 31, 0⟩
abbrev F.CHKn_EXP_CRC (n : Nat) : Fld := ⟨(R.CHKn_EXP n), 31, 0⟩
abbrev F.CHKn_LAST_CRC (n : Nat) : Fld := ⟨(R.CHKn_LAST n), 31, 0⟩
abbrev F.FLT_CTRL_IRQ_EN : Fld := ⟨R.FLT_CTRL, 31, 31⟩
abbrev F.FLT_STAT_PIN : Fld := ⟨R.FLT_STAT, 31, 31⟩
abbrev F.FLT_STAT_PULSE : Fld := ⟨R.FLT_STAT, 30, 30⟩
abbrev F.FLT_STAT_HIGH : Fld := ⟨R.FLT_STAT, 29, 28⟩
abbrev F.FLT_STAT_LOSTOCC : Fld := ⟨R.FLT_STAT, 15, 8⟩
abbrev F.FLT_STAT_LASTIDX : Fld := ⟨R.FLT_STAT, 7, 0⟩
abbrev F.FLT_FCTRL_HOLD : Fld := ⟨R.FLT_FCTRL, 31, 31⟩
abbrev F.FLT_FCTRL_PW : Fld := ⟨R.FLT_FCTRL, 7, 0⟩
abbrev F.FLT_REACTc_REACT (c : Nat) : Fld := ⟨(R.FLT_REACTc c), 5, 0⟩
abbrev F.FLT_PENDj_VAL (j : Nat) : Fld := ⟨(R.FLT_PENDj j), 31, 0⟩
abbrev F.FLT_PROMOj_VAL (j : Nat) : Fld := ⟨(R.FLT_PROMOj j), 31, 0⟩
abbrev F.FLT_SRCi_EN (i : Nat) : Fld := ⟨(R.FLT_SRCi i), 31, 31⟩
abbrev F.FLT_SRCi_CLASS (i : Nat) : Fld := ⟨(R.FLT_SRCi i), 29, 28⟩
abbrev F.FLT_SRCi_N (i : Nat) : Fld := ⟨(R.FLT_SRCi i), 23, 16⟩
abbrev F.FLT_SRCi_W (i : Nat) : Fld := ⟨(R.FLT_SRCi i), 15, 0⟩
abbrev F.LOG_CTRL_EN : Fld := ⟨R.LOG_CTRL, 31, 31⟩
abbrev F.LOG_CTRL_STOP : Fld := ⟨R.LOG_CTRL, 30, 30⟩
abbrev F.LOG_CTRL_CLEAR : Fld := ⟨R.LOG_CTRL, 29, 29⟩
abbrev F.LOG_STAT_WRAPPED : Fld := ⟨R.LOG_STAT, 31, 31⟩
abbrev F.LOG_STAT_STAGING : Fld := ⟨R.LOG_STAT, 30, 30⟩
abbrev F.LOG_STAT_STAGED : Fld := ⟨R.LOG_STAT, 29, 24⟩
abbrev F.LOG_STAT_DROP : Fld := ⟨R.LOG_STAT, 23, 16⟩
abbrev F.LOG_STAT_WPTR : Fld := ⟨R.LOG_STAT, 9, 0⟩
abbrev F.LOG_SEQ_SEQ : Fld := ⟨R.LOG_SEQ, 15, 0⟩
abbrev F.SYS_HOSTCFG_RTMO : Fld := ⟨R.SYS_HOSTCFG, 15, 0⟩
abbrev F.SYS_HOSTSTAT_ERRCNT : Fld := ⟨R.SYS_HOSTSTAT, 31, 24⟩
abbrev F.SYS_HOSTSTAT_LASTERR : Fld := ⟨R.SYS_HOSTSTAT, 23, 20⟩
abbrev F.SYS_HOSTSTAT_BUSY : Fld := ⟨R.SYS_HOSTSTAT, 16, 16⟩
abbrev F.SYS_HOSTSTAT_FREE : Fld := ⟨R.SYS_HOSTSTAT, 4, 0⟩
abbrev F.SYS_FLCFG_NOSFDP : Fld := ⟨R.SYS_FLCFG, 31, 31⟩
abbrev F.SYS_FLCFG_ADDR4 : Fld := ⟨R.SYS_FLCFG, 30, 30⟩
abbrev F.SYS_FLCFG_QUAD : Fld := ⟨R.SYS_FLCFG, 29, 29⟩
abbrev F.SYS_FLCFG_RDUMMY : Fld := ⟨R.SYS_FLCFG, 12, 8⟩
abbrev F.SYS_FLCFG_DIV : Fld := ⟨R.SYS_FLCFG, 6, 0⟩
abbrev F.SYS_FLCMD_GO : Fld := ⟨R.SYS_FLCMD, 31, 31⟩
abbrev F.SYS_FLCMD_BUSY : Fld := ⟨R.SYS_FLCMD, 30, 30⟩
abbrev F.SYS_FLCMD_ERR : Fld := ⟨R.SYS_FLCMD, 29, 29⟩
abbrev F.SYS_FLCMD_POLL : Fld := ⟨R.SYS_FLCMD, 28, 28⟩
abbrev F.SYS_FLCMD_DIR : Fld := ⟨R.SYS_FLCMD, 27, 27⟩
abbrev F.SYS_FLCMD_QUAD : Fld := ⟨R.SYS_FLCMD, 26, 26⟩
abbrev F.SYS_FLCMD_ALEN : Fld := ⟨R.SYS_FLCMD, 25, 24⟩
abbrev F.SYS_FLCMD_DUMMY : Fld := ⟨R.SYS_FLCMD, 23, 19⟩
abbrev F.SYS_FLCMD_LEN : Fld := ⟨R.SYS_FLCMD, 16, 8⟩
abbrev F.SYS_FLCMD_OP : Fld := ⟨R.SYS_FLCMD, 7, 0⟩
abbrev F.SYS_FLADDR_ADDR : Fld := ⟨R.SYS_FLADDR, 31, 0⟩
abbrev F.SYS_FLDATAk_VAL (k : Nat) : Fld := ⟨(R.SYS_FLDATAk k), 31, 0⟩
abbrev F.FLT_INJ_GO : Fld := ⟨R.FLT_INJ, 31, 31⟩
abbrev F.FLT_INJ_INDEX : Fld := ⟨R.FLT_INJ, 7, 0⟩
abbrev F.FLT_INJ_DATA_VAL : Fld := ⟨R.FLT_INJ_DATA, 31, 0⟩

end Sys2Proof.Machine
end

