-- ==== Sys2Proof/Machine/Flags.lean ====
section
/-! DEFINITION. What a read and a write do to the fields of a word, by access type (R6, R7, R8). -/

namespace Sys2Proof.Machine

/-- A saturating sum (R8). -/
def satAdd (max v d : Nat) : Nat := if v + d ≤ max then v + d else max

/-- The stored value of a field after a write, by access type (R6). WO and RO store nothing. [log 141] -/
def writeField (locked : Bool) (acc : Acc) (old new : Nat) : Nat :=
  match acc with
  | .rw => new
  | .ro => old
  | .w1c => Nat.xor old (Nat.land old new)
  | .w1s => Nat.lor old new
  | .wo => old
  | .rc => old
  | .lk => if locked then old else new

/-- A word after a write of `new` to the fields of a row that satisfy `p` (R6). -/
def writeFields (p : FieldRow → Bool) (locked : Bool) (fs : List FieldRow) (old new : Word) : Word :=
  fs.foldl (fun w f =>
    if p f then putBits w f.msb f.lsb (writeField locked f.acc (bits f.msb f.lsb old.toNat) (bits f.msb f.lsb new.toNat))
    else w) old

/-- A word after an RC read: every RC field is cleared (R6). -/
def clearRC (fs : List FieldRow) (w : Word) : Word :=
  fs.foldl (fun w f => if f.acc == .rc then putBits w f.msb f.lsb 0 else w) w

/-- What a read returns: WO fields read 0 (R6). -/
def readFields (fs : List FieldRow) (w : Word) : Word :=
  fs.foldl (fun w f => if f.acc == .wo then putBits w f.msb f.lsb 0 else w) w

/-- The shadowed fields of a word, 0 elsewhere (R442). -/
def onlyShadow (fs : List FieldRow) (w : Word) : Word :=
  fs.foldl (fun a f => if f.shadow then putBits a f.msb f.lsb (bits f.msb f.lsb w.toNat) else a) 0

/-- A word with its shadowed fields replaced by those of another. -/
def copyShadow (fs : List FieldRow) (dst src : Word) : Word :=
  fs.foldl (fun a f => if f.shadow then putBits a f.msb f.lsb (bits f.msb f.lsb src.toNat) else a) dst

end Sys2Proof.Machine
end

