-- ==== Sys2Proof/Machine/Ops.lean ====
section
/-! DEFINITION. The named operations over the state: registers and their fields, counters, events, free values,
and the frame memory's bytes and lines. -/

namespace Sys2Proof.Machine

/-! ## Registers -/

/-- The active word of a register. -/
def State.reg (s : State) (a : Nat) : Word := Tab.get resetWord s.regs a

/-- Sets the active word of a register. -/
def State.setReg (s : State) (a : Nat) (w : Word) : State := { s with regs := Tab.put resetWord s.regs a w }

/-- The shadow word of a register (R442). -/
def State.shadReg (s : State) (a : Nat) : Word := Tab.get resetWord s.shad a

/-- Sets the shadow word of a register. -/
def State.setShad (s : State) (a : Nat) (w : Word) : State := { s with shad := Tab.put resetWord s.shad a w }

/-- The active value of a field. -/
def State.fld (s : State) (f : Fld) : Nat := f.of (s.reg f.addr)

/-- Whether a field is not 0. -/
def State.on (s : State) (f : Fld) : Bool := s.fld f != 0

/-- Sets the active value of a field. -/
def State.setFld (s : State) (f : Fld) (v : Nat) : State := s.setReg f.addr (f.put (s.reg f.addr) v)

/-- Sets a flag. -/
def State.setOn (s : State) (f : Fld) (b : Bool) : State := s.setFld f (b2n b)

/-- The shadow value of a field. -/
def State.shadFld (s : State) (f : Fld) : Nat := f.of (s.shadReg f.addr)

/-- Sets the shadow value of a field. -/
def State.setShadFld (s : State) (f : Fld) (v : Nat) : State := s.setShad f.addr (f.put (s.shadReg f.addr) v)

/-- Adds to a saturating counter (R8). -/
def State.addSat (s : State) (f : Fld) (d : Nat) : State := s.setFld f (satAdd f.max (s.fld f) d)

/-- Increments a saturating counter (R8). -/
def State.incSat (s : State) (f : Fld) : State := s.addSat f 1

/-- Applies a change for each index of a list. -/
def State.each {α : Type} (s : State) (l : List α) (f : State → α → State) : State := l.foldl f s

/-- Applies a change if a condition holds. -/
def State.whenDo (s : State) (b : Bool) (f : State → State) : State := if b then f s else s

/-! ## Free values (log entry 4) -/

/-- The next word the manual leaves open. [log 4] -/
def State.freeWord (s : State) : Word := Config.freeWord s.freeCtr

/-- Moves on to the next free value. [log 4] -/
def State.usedFree (s : State) : State := { s with freeCtr := s.freeCtr + 1 }

/-! ## Events (R416, R417) -/

/-- An occurrence of a source: discarded when its EN is clear, pending up to 15, else lost and counted (R417, R418). [log 43, 57] -/
def State.raiseWith (s : State) (i : Nat) (data : Word) (inj : Bool) : State :=
  if s.on (F.FLT_SRCi_EN i) then
    let p := Tab.lst s.flt.pend i
    if p.length < 15 then { s with flt := { s.flt with pend := Tab.setLst s.flt.pend i (p ++ [⟨data, inj⟩]) } }
    else { s with flt := { s.flt with lost := Tab.setOn s.flt.lost i true } }.incSat F.FLT_STAT_LOSTOCC
  else s

/-- An event raised by hardware with its data word (R416). -/
def State.raise (s : State) (i : Nat) (data : Nat) : State := s.raiseWith i (BitVec.ofNat 32 data) false

/-! ## Frame memory: the flat space (R245) -/

/-- The data capacity of a rank in bytes (R245). -/
def State.rankCap (s : State) : Nat := 2 ^ 29 * 2 ^ s.fld F.MEM_CFG_DENS * 7 / 8

/-- The rank code at a position, 7 for none (R241). -/
def State.posRank (s : State) (p : Nat) : Nat := s.fld F.MEM_CFG_POS / 16 ^ p % 8

/-- The number of mapped positions; without a trained rank in service there is no flat space (R241). -/
def State.positions (s : State) : Nat :=
  if s.fld F.MEM_STAT_INSVC = 0 then 0 else (below 4 fun p => s.posRank p != 7).length

/-- The top of the flat space (R245). -/
def State.flatTop (s : State) : Nat := s.positions * s.rankCap

/-- The position and data offset of a flat address below the top (R245). -/
def State.flatPos (s : State) (a : Nat) : Nat × Nat :=
  let z0 := 2 * s.rankCap
  if a < z0 then (a / 256 % 2, a / 512 * 256 + a % 256)
  else
    let a1 := a - z0
    if s.posRank 3 != 7 then (2 + a1 / 256 % 2, a1 / 512 * 256 + a1 % 256) else (2, a1)

/-- The rank that a data line goes to: during a copy, lines below MEM_MIG_PTR of the failing rank are on the spare
(R263). -/
def State.lineRank (s : State) (rank n : Nat) : Nat :=
  if s.fld F.MEM_STAT_MIG_STATE = 1 ∧ rank = s.fld F.MEM_STAT_FAILED ∧ n < s.fld F.MEM_MIG_PTR_LINE
  then s.fld F.MEM_STAT_SPARE else rank

/-- The rank line of a flat address: rank * 2^25 + n. -/
def State.lineOf (s : State) (a : Nat) : Nat :=
  let (p, o) := s.flatPos a
  let n := o / 64
  s.lineRank (s.posRank p) n * 2 ^ 25 + n

/-- What an unlisted byte of DRAM reads as: 0 until the contents become undefined, then a free value (log entries
5 and 6). [log 5, 6] -/
def memBg (epoch : Nat) (k : Nat) : Byte := if epoch = 0 then 0 else Config.freeDramByte epoch k

/-- A byte of DRAM as stored. [log 5] -/
def MemState.cell (m : MemState) (k : Nat) : Byte := Tab.get (memBg m.epoch) m.cells k

/-- Stores a byte of DRAM. -/
def MemState.setCell (m : MemState) (k : Nat) (b : Byte) : MemState :=
  { m with cells := Tab.put (memBg m.epoch) m.cells k b }

/-- The canonical form of the memory: keys rise, no byte equal to what an unlisted one reads as. -/
abbrev MemState.wf (m : MemState) : Prop := Tab.wf (memBg m.epoch) m.cells = true

/-- Stores the bytes that are given, from a key on. -/
def MemState.setCells (m : MemState) (k : Nat) : List (Option Byte) → MemState
  | [] => m
  | none :: t => m.setCells (k + 1) t
  | some b :: t => (m.setCell k b).setCells (k + 1) t

/-- The controller of a rank line. -/
def lineCtl (line : Nat) : Nat := line / 2 ^ 25 / 2

/-- The write-buffer entry of a line, if there is one. -/
def MemState.posted (m : MemState) (line : Nat) : Option WEntry :=
  (Tab.lst m.wbuf (lineCtl line)).find? fun e => e.line == line

/-- Whether a buffered entry carries the whole line. -/
def wholeLine (bytes : List (Option Byte)) : Bool := bytes.all Option.isSome && bytes.length == 64

/-- New bytes over old ones. -/
def overBytes : List (Option Byte) → List (Option Byte) → List (Option Byte)
  | n, [] => n
  | [], o => o
  | some b :: n, _ :: o => some b :: overBytes n o
  | none :: n, x :: o => x :: overBytes n o

/-- A byte of a line, the write buffer included (R254). -/
def MemState.lineByte (m : MemState) (line i : Nat) : Byte :=
  match m.posted line with
  | some e => match e.bytes.getD i none with
    | some b => b
    | none => m.cell (line * 64 + i)
  | none => m.cell (line * 64 + i)

/-- The sixty-four bytes of a line. -/
def MemState.lineBytes (m : MemState) (line : Nat) : List Byte := (List.range 64).map (m.lineByte line)

/-- Whether a line reads as poisoned. -/
def MemState.linePoison (m : MemState) (line : Nat) : Bool :=
  match m.posted line with
  | some e => Tab.on m.poison line && !wholeLine e.bytes
  | none => Tab.on m.poison line

/-- Stores bytes of a line in the DRAM: a whole line clears poison and what stood wrong (R251). -/
def MemState.commitLine (m : MemState) (line : Nat) (bytes : List (Option Byte)) : MemState :=
  let m := m.setCells (line * 64) bytes
  if wholeLine bytes then { m with poison := Tab.setOn m.poison line false, wrong := Tab.setOpt m.wrong line none } else m

/-- Marks a line poisoned. -/
def MemState.setPoison (m : MemState) (line : Nat) : MemState := { m with poison := Tab.setOn m.poison line true }

/-- Reads of a line that are still to come back know that a write has been accepted (R259, R260). -/
def MemState.overtake (m : MemState) (line : Nat) : MemState :=
  let c := lineCtl line
  let l := (Tab.lst m.inflight c).map fun f => if f.line = line then { f with overtaken := true } else f
  { m with inflight := Tab.setLst m.inflight c l }

/-- A write of some bytes of a line by an engine of the block, ahead of nothing that waits in the write buffer. -/
def MemState.storeLine (m : MemState) (line : Nat) (bytes : List (Option Byte)) : MemState :=
  let m := m.overtake line
  match m.posted line with
  | some _ =>
    let c := lineCtl line
    let l := (Tab.lst m.wbuf c).map fun e => if e.line = line then { e with bytes := overBytes bytes e.bytes } else e
    { m with wbuf := Tab.setLst m.wbuf c l }
  | none => m.commitLine line bytes

/-- A request above the flat space is refused (R246). -/
def State.outOfRange (s : State) (queue : Nat) : State := (s.incSat F.MEM_STAT_OOR).raise 61 queue

/-- A byte of the flat space; a request above it brings no data (R246), read here as 0 beside its poison. [log 21] -/
def State.byteAt (s : State) (a : Nat) : Byte :=
  if a < s.flatTop then s.mem.lineByte (s.lineOf a) (a % 64) else 0

/-- Bytes of the flat space from an address on. -/
def State.readFlat (s : State) (a n : Nat) : List Byte := (List.range n).map fun i => s.byteAt (a + i)

/-- Whether the line of a flat address reads poisoned (R246, R260). -/
def State.poisonAt (s : State) (a : Nat) : Bool :=
  if a < s.flatTop then s.mem.linePoison (s.lineOf a) else true

/-- The flat line addresses that a range touches. -/
def linesOf (a n : Nat) : List Nat :=
  if n = 0 then [] else (List.range ((a + n - 1) / 64 - a / 64 + 1)).map fun i => (a / 64 + i) * 64

/-- The bytes of one line that a write of `bytes` from `a` on gives. -/
def lineSlice (a : Nat) (bytes : List Byte) (l : Nat) : List (Option Byte) :=
  (List.range 64).map fun i => if a ≤ l + i then bytes[l + i - a]? else none

/-- Bytes of a base register in units of 4 KiB (R245). -/
def baseBytes (b : Nat) : Nat := b * 4096

/-- Whether a block is stopped (R367, R368). [log 132] -/
def State.isGated (s : State) (b : Nat) : Bool := s.fld F.CLK_GSTAT_GATED / 2 ^ b % 2 == 1

/-- Whether a block has been asked to stop, or is stopped: it starts nothing new (R367). [log 132] -/
def State.stopping (s : State) (b : Nat) : Bool := s.isGated b || Tab.on s.clk.asked b

/-- Whether a loop is locked. -/
def State.locked (s : State) (l : Nat) : Bool := s.fld F.CLK_STAT_LOCK / 2 ^ l % 2 == 1

/-- Whether the domain of a loop receives clock edges (R363): not before its first lock, and not while it relocks. [log 132] -/
def State.clocked (s : State) (l : Nat) : Bool := s.locked l || Tab.on s.clk.coast l

/-- Whether the HUB domain receives clock edges: it runs on REF until PLL_HUB has locked for the first time (R360), then
while that loop is locked or coasts (R363). [log 132] -/
def State.hubRuns (s : State) : Bool := Tab.num s.clk.sel 1 == 0 || s.clocked 0

/-! ## Locket banks -/

/-- The bank of an address in the locket window. -/
def lockBank (a : Nat) : Nat := (a - 0x300000) / 0x10000

/-- What an unlisted word of a bank reads as (log entry 13). -/
def lockBg (epochs : Tab Nat) (a : Nat) : Word :=
  let e := Tab.num epochs (lockBank a)
  if e = 0 then 0 else Config.freeLocket e a

/-- A word of the locket window by byte address. -/
def State.locketWord (s : State) (a : Nat) : Word := Tab.get (lockBg s.locket.epochs) s.locket.words a

/-- Sets a word of the locket window. -/
def State.setLocket (s : State) (a : Nat) (w : Word) : State :=
  { s with locket := { s.locket with words := Tab.put (lockBg s.locket.epochs) s.locket.words a w } }

/-- First address of a bank. -/
def lockBase (n : Nat) : Nat := 0x300000 + 0x10000 * n

/-- The contents of a bank are lost: zero, or no longer known. [log 13] -/
def State.lockLose (s : State) (n : Nat) (zero : Bool) : State :=
  let words := s.locket.words.filter fun (x : Nat × Word) => lockBank x.1 != n
  let e := if zero then 0 else s.freeCtr + 1
  { s with freeCtr := s.freeCtr + 1, locket := ⟨words, Tab.setNum s.locket.epochs n e⟩ }

/-- The 65,536 bytes of a bank. -/
def State.lockBytes (s : State) (n : Nat) : List Byte :=
  ((List.range 16384).map fun i => leBytes 4 (s.locketWord (lockBase n + 4 * i)).toNat).flatten

/-! ## Answers -/

/-- A command's effect, unless RESET_N holds the block in reset (R463) or the device is in DEEP, where every block is
stopped (R370). [log 1, 17, 18] -/
def effect (f : State → State) (s : State) : Host.Outcome State Fault Refusal :=
  if s.inReset || s.pwr.deep then .next s else .next (f s)

/-! ## Queues of the frame memory (R253, R254) -/

/-- Whether a queue has room for a request: its writer is not stalled (R37, R254). -/
def State.queueRoom (s : State) (q : Nat) : Bool :=
  decide ((Tab.lst s.mem.queues q).length < 16) && (Tab.lst s.mem.behind q).isEmpty

/-- Whether nothing waits in a queue or before it. -/
def State.queueIdle (s : State) (q : Nat) : Bool := (Tab.lst s.mem.queues q).isEmpty && (Tab.lst s.mem.behind q).isEmpty

/-- Places an entry in a queue; a full queue stalls its writer (R37). -/
def State.pushReq (s : State) (q : Nat) (e : MemEntry) : State :=
  if s.queueRoom q then { s with mem := { s.mem with queues := Tab.setLst s.mem.queues q (Tab.lst s.mem.queues q ++ [e]) } }
  else s

end Sys2Proof.Machine
end

