-- ==== Sys2Proof/Machine/Chk.lean ====
section
/-! DEFINITION. Check units (R408 to R414): CRC scans and snoops. -/

namespace Sys2Proof.Machine

/-- CHKn_RESULT: VAL XOR the final XOR, masked to the width (R409). -/
def State.chkResult (s : State) (n : Nat) : Word :=
  crcFinal (s.fld (F.CHKn_CTRL_POLY n)) (s.reg (R.CHKn_VAL n))

/-- Brings CHKn_RESULT up to date after VAL or POLY changed. -/
def State.chkSync (s : State) (n : Nat) : State := s.setReg (R.CHKn_RESULT n) (s.chkResult n)

/-- The 33-bit address of a scan (R415). -/
def State.chkAddr (s : State) (n : Nat) : Nat :=
  s.fld (F.CHKn_ADDRL_ADDR n) + 2 ^ 32 * s.fld (F.CHKn_ADDRH_ADDR n)

/-- Advances the address of a scan. -/
def State.chkAdvance (s : State) (n k : Nat) : State :=
  let a := s.chkAddr n + k
  (s.setFld (F.CHKn_ADDRL_ADDR n) a).setFld (F.CHKn_ADDRH_ADDR n) (a / 2 ^ 32)

/-- A completion: DONE, DONES, the unit's event, and the comparison when CMP is set (R413). -/
def State.chkDone (s : State) (n : Nat) : State :=
  let r := s.chkResult n
  let s := (((s.setOn (F.CHKn_STAT_DONE n) true).incSat (F.CHKn_STAT_DONES n))).raise (145 + n) r.toNat
  s.whenDo (s.on (F.CHKn_CTRL_CMP n) && r != s.reg (R.CHKn_EXP n)) fun s =>
    (s.setOn (F.CHKn_STAT_MISMATCH n) true).raise (153 + n) r.toNat

/-- Loads the standard initial value and, with FOLD set, processes TAG as a little-endian prefix (R409). -/
def State.chkInit (s : State) (n : Nat) : State :=
  let p := s.fld (F.CHKn_CTRL_POLY n)
  let v := crcInit p
  let v := if s.on (F.CHKn_CTRL_FOLD n) then crcRun p v (leBytes 4 (s.reg (R.CHKn_TAG n)).toNat) else v
  (s.setReg (R.CHKn_VAL n) v).chkSync n

/-- Ends a unit's run. -/
def State.chkIdle (s : State) (n : Nat) : State :=
  let c := { s.chk with
    armed := Tab.setOn s.chk.armed n false, endless := Tab.setOn s.chk.endless n false,
    ending := Tab.setOn s.chk.ending n false }
  { s with chk := c }.setOn (F.CHKn_STAT_BUSY n) false

/-- Processes bytes on a running unit: at most LEN of them, unless a snoop runs without a count; at LEN 0 the unit is
done (R410, R411, R413). -/
def State.chkFeed (s : State) (n : Nat) (bytes : List Byte) : State :=
  let len := s.fld (F.CHKn_LEN_LEN n)
  if Tab.on s.chk.endless n && s.on (F.CHKn_CTRL_FEED n) then
    (s.setReg (R.CHKn_VAL n) (crcRun (s.fld (F.CHKn_CTRL_POLY n)) (s.reg (R.CHKn_VAL n)) bytes)).chkSync n
  else
    let b := bytes.take len
    let s := (s.setReg (R.CHKn_VAL n) (crcRun (s.fld (F.CHKn_CTRL_POLY n)) (s.reg (R.CHKn_VAL n)) b)).chkSync n
    let s := s.setFld (F.CHKn_LEN_LEN n) (len - b.length)
    if len ≤ bytes.length then (s.chkIdle n).chkDone n else s

/-- Whether a unit snoops a stream: not while its block is stopped (R368) or the power controller has it (R414). -/
def State.chkSnoops (s : State) (stream n : Nat) : Bool :=
  s.on (F.CHKn_STAT_BUSY n) && s.on (F.CHKn_CTRL_FEED n) && s.fld (F.CHKn_CTRL_SNOOP n) == stream && decide (stream < 16) &&
  !s.isGated 1 && !s.on (F.CHKn_STAT_PWR n)

/-- Bytes pass on a stream (R411): every unit that snoops it and has passed its boundary takes them. [log 108] -/
def State.snoop (s : State) (stream : Nat) (bytes : List Byte) : State :=
  s.each (List.range 8) fun s n =>
    if s.chkSnoops stream n && !Tab.on s.chk.armed n && !bytes.isEmpty then s.chkFeed n bytes else s

/-- A boundary of a stream (R411, R413): a waiting unit begins with the next byte; a running one with AUTO copies
RESULT to LAST, is done, and restarts as with INIT set. [log 98] -/
def State.snoopBoundary (s : State) (stream : Nat) : State :=
  s.each (List.range 8) fun s n =>
    if s.chkSnoops stream n then
      if Tab.on s.chk.armed n then { s with chk := { s.chk with armed := Tab.setOn s.chk.armed n false } }
      else if s.on (F.CHKn_CTRL_AUTO n) then
        ((s.setReg (R.CHKn_LAST n) (s.chkResult n)).chkDone n).chkInit n
      else s
    else s

/-- The units that wait for a line of Q27 (R410). -/
def State.chkWaiting (s : State) : List Nat :=
  below 8 fun n => s.on (F.CHKn_STAT_BUSY n) && !s.on (F.CHKn_CTRL_FEED n) && !s.on (F.CHKn_CTRL_SPACE n)

/-- Places the next line read of Q27: the units share the queue under R33 (R410), while their clock runs (R363). -/
def State.chkAsk (s : State) : State :=
  match s.chk.owner with
  | some _ => s
  | none =>
    match if s.stopping 1 ∨ !s.hubRuns then none else rrPick s.chkWaiting (Tab.num s.chk.ptr 0) with
    | none => s
    | some n =>
      if s.queueRoom 27 then
        let s := s.pushReq 27 ⟨false, s.chkAddr n / 64 * 64, [], 0⟩
        { s with chk := { s.chk with owner := some n, ptr := Tab.setNum s.chk.ptr 0 (n + 1) } }
      else s

/-- A poisoned read stops the unit at the start of that line (R410). -/
def State.chkPoisoned (s : State) (n : Nat) : State :=
  ((s.chkIdle n).setOn (F.CHKn_STAT_POISON n) true).raise 161 (n + 256)

/-- A line that came back for the unit that asked (R410): only the bytes inside the range are used. -/
def State.chkLine (s : State) (d : Delivered) : State :=
  match s.chk.owner with
  | none => s
  | some n =>
    let s := { s with chk := { s.chk with owner := none } }
    let s :=
      if s.on (F.CHKn_STAT_BUSY n) && !s.on (F.CHKn_CTRL_FEED n) && s.chkAddr n / 64 * 64 == d.flat then
        if d.poisoned then s.chkPoisoned n
        else
          let off := s.chkAddr n % 64
          let b := (d.data.drop off).take (s.fld (F.CHKn_LEN_LEN n))
          let s := (s.chkAdvance n b.length).chkFeed n b
          -- a STOP has waited for this read (R412)
          if Tab.on s.chk.ending n then s.chkIdle n else s
      else s
    s.chkAsk

/-- Whether a scan's range stays inside its space (R410): the flat DRAM space or register addresses 0x20_0000 to
0x3F_FFFF. [log 98] -/
def State.chkInSpace (s : State) (n : Nat) : Bool :=
  let a := s.chkAddr n
  let e := a + s.fld (F.CHKn_LEN_LEN n)
  if s.on (F.CHKn_CTRL_SPACE n) then decide (0x200000 ≤ a) && decide (e ≤ 0x400000) else decide (e ≤ s.flatTop)

/-- A write of 1 to START (R409 to R411). A running unit ignores it (R412); CHK7 waits while the power controller has
it (R414). [log 98] -/
def State.chkStart (s : State) (n : Nat) : State :=
  if n = 7 ∧ s.on (F.CHKn_STAT_PWR 7) then { s with chk := { s.chk with held := true } }
  else if s.on (F.CHKn_STAT_BUSY n) then s
  else
    let feed := s.on (F.CHKn_CTRL_FEED n)
    if !feed && !s.chkInSpace n then (s.setOn (F.CHKn_STAT_WERR n) true).raise 161 (n + 512)
    else
      let s := s.whenDo (s.on (F.CHKn_CTRL_INIT n)) (·.chkInit n)
      let s := s.setOn (F.CHKn_STAT_BUSY n) true
      let none0 := s.fld (F.CHKn_LEN_LEN n) == 0
      if feed then
        { s with chk := { s.chk with
          armed := Tab.setOn s.chk.armed n true, endless := Tab.setOn s.chk.endless n none0 } }
      else if none0 then (s.chkIdle n).chkDone n
      else s.chkAsk

/-- A write of 1 to STOP (R412): the unit ends with VAL, ADDR and LEN consistent, a scan whose line read is in flight
after that read. -/
def State.chkStop (s : State) (n : Nat) : State :=
  if n = 7 ∧ s.on (F.CHKn_STAT_PWR 7) then s.setOn (F.CHKn_STAT_WERR 7) true
  else if !s.on (F.CHKn_STAT_BUSY n) then s
  else if !s.on (F.CHKn_CTRL_FEED n) ∧ s.chk.owner = some n then
    { s with chk := { s.chk with ending := Tab.setOn s.chk.ending n true } }
  else s.chkIdle n

/-- CHK_START. -/
def execChkStart (unit : Fin 8) (s : State) : Host.Outcome State Fault Refusal := effect (·.chkStart unit.val) s

/-- CHK_STOP. -/
def execChkStop (unit : Fin 8) (s : State) : Host.Outcome State Fault Refusal := effect (·.chkStop unit.val) s

end Sys2Proof.Machine
end

