-- ==== Sys2Proof/Machine/Memory.lean ====
section
/-! DEFINITION. The frame memory controller: mapping, ECC classes, queues, write buffer, refresh, scrub, migration and
row-disturbance throttling (R238 to R269). -/

namespace Sys2Proof.Machine

/-! ## Mapping to banks and rows (R247) -/

/-- XOR of the three row fields of address order 2. -/
def rowHash (row : Nat) : Nat := Nat.xor (Nat.xor (row % 8) (row / 8 % 8)) (row / 64 % 8)

/-- Bank, row and line within the row of data line `n` (R247). -/
def lineDecode (order n : Nat) : Nat × Nat × Nat :=
  if order = 1 then (n / 8 % 8, n / 448, 8 * (n / 64 % 7) + n % 8)
  else
    let u := n / 56
    let row := u / 8
    (if order = 2 then Nat.xor (u % 8) (rowHash row) else u % 8, row, n % 56)

/-- The data line at a bank, row and line within the row. -/
def lineEncode (order bank row k : Nat) : Nat :=
  if order = 1 then row * 448 + k / 8 * 64 + bank * 8 + k % 8
  else (row * 8 + (if order = 2 then Nat.xor bank (rowHash row) else bank)) * 56 + k

/-- The line address *a* of R249 of a rank line. -/
def State.lineA (s : State) (line : Nat) : Nat :=
  let (bank, row, k) := lineDecode (s.fld F.MEM_CFG_ORDER) (line % 2 ^ 25)
  line / 2 ^ 25 % 2 * 2 ^ 25 + bank * 2 ^ 22 + row * 2 ^ 6 + k

/-- The bank of a rank line, as 8 * rank + bank. -/
def State.bankOf (s : State) (line : Nat) : Nat :=
  line / 2 ^ 25 * 8 + (lineDecode (s.fld F.MEM_CFG_ORDER) (line % 2 ^ 25)).1

/-- The row of a rank line. -/
def State.rowOf (s : State) (line : Nat) : Nat := (lineDecode (s.fld F.MEM_CFG_ORDER) (line % 2 ^ 25)).2.1

/-! ## ECC with address fold (R249, R250) -/

/-- The fold byte of word `w` for line address `a` (R249). -/
def foldByte (a w : Nat) : Nat :=
  if w < 4 then
    let b := a / 2 ^ (7 * w) % 128
    b + 128 * (popcount b 7 % 2)
  else 0

/-- The columns that a data bit can have: odd weight, and not the single one of a check bit. -/
def oddColumns : List Nat := below 256 fun c => popcount c 8 % 2 == 1 && popcount c 8 != 1

/-- The columns of the first `n` data bits: each a free choice among the odd columns that no earlier bit has, so that all
differ and the code corrects one wrong bit and detects two. [log 8] -/
def hsiaoColumns : Nat → List Nat
  | 0 => []
  | n + 1 =>
    let used := hsiaoColumns n
    let left := oddColumns.filter fun c => !used.contains c
    used ++ [left.getD ((Config.hsiaoColumn n).toNat % left.length) 0]

/-- The column of bit `i` of a word and its check byte: a single one for a check bit. [log 8] -/
def hsiao (i : Nat) : Nat := if 64 ≤ i then 2 ^ (i - 64) else (hsiaoColumns 64).getD i 0

/-- The syndrome of a word: the columns of the differing data bits, the differing check bits, the difference of the
folds, and 0x03 where the line stands poisoned. [log 8] -/
def syndrome (dataErr checkErr fold : Nat) (poisoned : Bool) : Nat :=
  let h := (List.range 64).foldl (fun x i => if dataErr / 2 ^ i % 2 = 1 then Nat.xor x (hsiao i) else x) 0
  Nat.xor (Nat.xor (Nat.xor h checkErr) fold) (if poisoned then 3 else 0)

/-- What a syndrome says of one word: nothing wrong, a bit (64 to 71 are check bits) to correct, or neither. -/
inductive WordClass where
  | good | fix (bit : Nat) | bad
deriving DecidableEq, Repr

/-- The only set bit of a number among `n` bits, if exactly one is set. -/
def oneBit (n v : Nat) : Option Nat :=
  match below n fun i => v / 2 ^ i % 2 == 1 with
  | [i] => some i
  | _ => none

/-- Judges one word. A single wrong bit, with nothing else, is the column of that bit. -/
def wordClass (dataErr checkErr fold : Nat) (poisoned : Bool) : WordClass :=
  if dataErr = 0 ∧ Nat.xor (Nat.xor checkErr fold) (if poisoned then 3 else 0) = 0 then .good
  else if fold = 0 ∧ !poisoned ∧ checkErr = 0 ∧ (oneBit 64 dataErr).isSome then .fix ((oneBit 64 dataErr).getD 0)
  else
    let y := syndrome dataErr checkErr fold poisoned
    if y = 0 then .good
    else if popcount y 8 % 2 = 0 then .bad
    else match oneBit 8 y with
      | some i => .fix (64 + i)
      | none => match (List.range 64).find? fun i => hsiao i == y with
        | some i => .fix i
        | none => .bad

/-- The class of a line read (R250). -/
inductive LineClass where
  | good | corrected | poisoned | uncorrectable
deriving DecidableEq, Repr

/-- The rank line that a read reached instead of the one named: none where it names no data line. -/
def State.reachedLine (s : State) (line : Nat) (a : BitVec 26) : Option Nat :=
  let a := a.toNat
  let rank := line / 2 ^ 25 / 2 * 2 + a / 2 ^ 25
  if a % 64 < 56 then
    some (rank * 2 ^ 25 + lineEncode (s.fld F.MEM_CFG_ORDER) (a / 2 ^ 22 % 8) (a / 64 % 2 ^ 16) (a % 64))
  else none

/-- XOR of two bytes lists, over the length of the first. -/
def xorBytes : List Byte → List Byte → List Byte
  | [], _ => []
  | a, [] => a
  | x :: a, y :: b => (x ^^^ y) :: xorBytes a b

/-- Word `w` of a line as a number. -/
def lineWord (bytes : List Byte) (w : Nat) : Nat := leAt bytes (8 * w) 8

/-- Flips a bit of word `w` of a line. -/
def flipBit (bytes : List Byte) (w bit : Nat) : List Byte :=
  if bit < 64 then
    let i := 8 * w + bit / 8
    bytes.set i (bytes.getD i 0 ^^^ BitVec.ofNat 8 (2 ^ (bit % 8)))
  else bytes

/-- An access in which nothing goes wrong. -/
def noNoise : ReadNoise := ⟨[], [], .none⟩

/-- What is wrong in a line and what goes wrong in its read, taken together. -/
def addNoise (a b : ReadNoise) : ReadNoise where
  data := (List.range (Nat.max a.data.length b.data.length)).map fun w => a.data.getD w 0 ^^^ b.data.getD w 0
  check := (List.range (Nat.max a.check.length b.check.length)).map fun w => a.check.getD w 0 ^^^ b.check.getD w 0
  reached := a.reached

/-- The line address whose fold the check bytes of a rank line carry: its own, unless a write that named another line
reached it (R250). -/
def State.foldOf (s : State) (line : Nat) : Nat :=
  match (Tab.opt s.mem.wrong line).bind (·.reached) with
  | some a => a.toNat
  | none => s.lineA line

/-- The syndromes of the eight words as classes, with the data as read (R250). -/
def judgeWords (e : ReadNoise) (data : List Byte) (p : Bool) (fold : Nat → Nat) : LineClass × List Byte :=
    let ce (w : Nat) : Nat := byteOf e.check w
    let de (w : Nat) : Nat := (e.data.getD w 0).toNat
    let ws := (List.range 8).map fun w => (w, wordClass (de w) (ce w) (fold w) p)
    if ws.all fun x => x.2 == .good then (.good, data)
    else if (List.range 8).all fun w => (if de w = 0 then Nat.xor (Nat.xor (ce w) (fold w)) (b2n p * 3)
        else syndrome (de w) (ce w) (fold w) p) == 3 then (.poisoned, data)
    else if ws.any fun x => x.2 == .bad then (.uncorrectable, data)
    else (.corrected, ws.foldl (fun d x => match x.2 with
      | .fix b => flipBit d x.1 b
      | _ => d) data)

/-- The bytes of a line in the DRAM, without the write buffer. -/
def MemState.dramBytes (m : MemState) (line : Nat) : List Byte := (List.range 64).map fun i => m.cell (line * 64 + i)

/-- What a read of a rank line brings (R250): its class and its data, corrected where the class says so. `stored` and
`pois` are the line as it stands, apart from what stands wrong in it; the data of a read that reached a line without data
bytes are free values. [log 137] -/
def State.judge (s : State) (line : Nat) (stored : List Byte) (pois : Bool) (noise : ReadNoise) :
    LineClass × List Byte :=
  let read (l : Nat) (bytes : List Byte) (p : Bool) : LineClass × List Byte :=
    let e := match Tab.opt s.mem.wrong l with
      | some x => addNoise x noise
      | none => noise
    judgeWords e (xorBytes bytes (e.data.map fun x => leBytes 8 x.toNat).flatten) p
      fun w => Nat.xor (foldByte (s.lineA line) w) (foldByte (s.foldOf l) w)
  match noise.reached with
  | some a =>
    match s.reachedLine line a with
    | none => (.uncorrectable, (List.range 64).map fun i => BitVec.ofNat 8 (Config.freeWord (s.freeCtr + i)).toNat)
    | some l => read l (s.mem.dramBytes l) (Tab.on s.mem.poison l)
  | none => read line stored pois

/-! ## Findings and migration (R259 to R265) -/

/-- Whether a rank is in service. -/
def State.inService (s : State) (rank : Nat) : Bool := s.fld F.MEM_STAT_INSVC / 2 ^ rank % 2 == 1

/-- A migration of a rank begins (R263). -/
def State.migStart (s : State) (rank : Nat) : State :=
  (((s.setFld F.MEM_STAT_MIG_STATE 1).setFld F.MEM_STAT_FAILED rank).setFld F.MEM_MIG_PTR_LINE 0).raise 72 rank

/-- A UE or the CE limit on a rank (R262, R265): with AUTO, a migration starts, or no spare is available. [log 97] -/
def State.memFinding (s : State) (rank : Nat) : State :=
  if s.on F.MEM_SPARE_CTRL_AUTO && s.inService rank then
    match s.fld F.MEM_STAT_MIG_STATE with
    | 0 => if s.on F.MEM_STAT_SPARE_VALID then s.migStart rank else (s.setFld F.MEM_STAT_MIG_STATE 3).raise 71 rank
    | 1 => if rank = s.fld F.MEM_STAT_FAILED then s else s.raise 71 rank
    | 2 => (s.setFld F.MEM_STAT_MIG_STATE 3).raise 71 rank
    | _ => s
  else s

/-- A corrected read of a rank (R259): the CE counter, the window count, and the limit once in a window. -/
def State.countCE (s : State) (rank : Nat) : State :=
  let s := s.incSat (F.MEM_RKj_ERR_CE rank)
  let n := Tab.num s.mem.ceCount rank + 1
  let s := { s with mem := { s.mem with ceCount := Tab.setNum s.mem.ceCount rank n } }
  if Nat.max 1 (s.fld F.MEM_ECC_CE_LIM) ≤ n ∧ !Tab.on s.mem.ceHit rank then
    (({ s with mem := { s.mem with ceHit := Tab.setOn s.mem.ceHit rank true } }).raise (63 + rank) rank).memFinding rank
  else s

/-- An uncorrectable read of a rank line (R260). -/
def State.countUE (s : State) (line : Nat) : State :=
  let rank := line / 2 ^ 25
  let a := s.lineA line
  let s := ((s.incSat (F.MEM_RKj_ERR_UE rank)).setFld (F.MEM_RKj_LAST_ADDR rank) a).setOn (F.MEM_RKj_LAST_VALID rank) true
  (s.raise (67 + rank) a).memFinding rank

/-- The ECC line of a rank line passes through the controller's cache of 64 lines (R252); the oldest is evicted. [log 99] -/
def MemState.touchEcc (m : MemState) (c key : Nat) (dirty : Bool) : MemState :=
  let l := Tab.lst m.ecc c
  let l := match l.find? fun x => x.1 == key with
    | some _ => l.map fun x => if x.1 == key then (key, x.2 || dirty) else x
    | none => (if l.length < 64 then l else l.drop 1) ++ [(key, dirty)]
  { m with ecc := Tab.setLst m.ecc c l }

/-- Dirty ECC lines of a controller are written back (R252). -/
def MemState.cleanEcc (m : MemState) (c : Nat) : MemState :=
  { m with ecc := Tab.setLst m.ecc c ((Tab.lst m.ecc c).map fun x => (x.1, false)) }

/-- The key of the ECC line of a rank line: its rank and *a* with line 56 + g (R248). -/
def State.eccKey (s : State) (line : Nat) : Nat :=
  let a := s.lineA line
  line / 2 ^ 25 * 2 ^ 26 + (a / 64 * 64) + 56 + a % 64 / 8

/-- Writes a line back after a read (R259, R260), poisoned or not; its ECC line in the cache is dirty (R252). -/
def State.writeBack (s : State) (line : Nat) (data : List Byte) (poisoned : Bool) : State :=
  let m := (s.mem.commitLine line (data.map some)).touchEcc (lineCtl line) (s.eccKey line) true
  { s with mem := if poisoned then m.setPoison line else m }

/-- Handles what a read of a rank line brought: counters, write-back unless a write has overtaken it, events. The answer
says whether the requester gets it poisoned. [log 137] -/
def State.handleRead (s : State) (line : Nat) (c : LineClass × List Byte) (overtaken : Bool) : State × Bool :=
  let rank := line / 2 ^ 25
  match c.1 with
  | .good => (s, false)
  | .corrected => ((if overtaken then s else s.writeBack line c.2 false).countCE rank, false)
  | .poisoned => (s.incSat (F.MEM_RKj_ERR_POISONRD rank), true)
  | .uncorrectable =>
    -- the data of a read that reached no data line are free values
    let s := { s with freeCtr := s.freeCtr + 64 }
    ((if overtaken then s else s.writeBack line c.2 true).countUE line, true)

/-- The number of data lines of a rank. -/
def State.rankLines (s : State) : Nat := s.rankCap / 64

/-- A write of 1 to MEM_SPARE_CTRL.START with RANK (R262). -/
def State.spareStart (s : State) (rank : Nat) : State :=
  let s := s.setFld F.MEM_SPARE_CTRL_RANK rank
  if s.fld F.MEM_STAT_MIG_STATE = 0 ∧ s.on F.MEM_STAT_SPARE_VALID ∧ s.inService rank then s.migStart rank else s

/-- SPARE_START. -/
def execSpareStart (rank : Fin 4) (s : State) : Host.Outcome State Fault Refusal := effect (·.spareStart rank.val) s

/-- CE_WINDOW_END: each rank's window count restarts (R259). -/
def execCeWindowEnd (s : State) : Host.Outcome State Fault Refusal :=
  effect (fun s => { s with mem := { s.mem with ceCount := [], ceHit := [] } }) s

/-! ## Queues (R253 to R256) -/

/-- An engine's write that cannot pass at once waits in its queue, or, while that is full, before it: the engine is
stalled and loses nothing (R37). [log 21] -/
def State.queueWrite (s : State) (q : Nat) (e : MemEntry) : State :=
  if s.queueRoom q then s.pushReq q e
  else { s with mem := { s.mem with behind := Tab.setLst s.mem.behind q (Tab.lst s.mem.behind q ++ [e]) } }

/-- The head of a queue leaves it, and a write that was stalled before it enters. -/
def State.dropHead (s : State) (q : Nat) : State :=
  let b := Tab.lst s.mem.behind q
  { s with mem := { s.mem with
    queues := Tab.setLst s.mem.queues q ((Tab.lst s.mem.queues q).drop 1 ++ b.take 1),
    behind := Tab.setLst s.mem.behind q (b.drop 1) } }

/-- The class of a queue (R253, R86): `urgent` marks fetchers whose urgent flag is set. -/
def queueClass (urgent : Tab Bool) (q : Nat) : Nat :=
  if q < 8 then (if Tab.on urgent q then 0 else 1)
  else if q ≤ 21 then 1
  else if q = 28 ∨ q = 29 then 3
  else 2

/-- The controller that a queue's head goes to. -/
def State.headCtl (s : State) (e : MemEntry) : Option Nat :=
  if e.flat < s.flatTop then some (lineCtl (s.lineOf e.flat)) else none

/-- The operations of one queue in flight on a controller, or of all. -/
def MemState.flying (m : MemState) (c : Nat) (q : Option Nat) : Nat :=
  let hit (k : Nat) : Bool := match q with
    | none => true
    | some x => x == k
  ((Tab.lst m.inflight c).filter fun f => hit f.queue).length +
    sumN ((Tab.lst m.wbuf c).map fun e => (e.queues.filter hit).length)

/-- The MEM clock in kHz by rate code (R240). -/
def memKHz (rate : Nat) : Nat :=
  [200000, 233250, 266625, 300000, 333375, 400000, 466625, 533250].getD rate 200000

/-- Whether a request would open another row of its bank. -/
def State.activates (s : State) (line : Nat) : Bool := Tab.num s.mem.row (s.bankOf line) != s.rowOf line + 1

/-- Whether throttling keeps a queue from activating a row in a MEM cycle of the controller (R268). -/
def State.throttled (s : State) (q line cycle : Nat) : Bool :=
  let t := Tab.num s.mem.throttle (32 * s.bankOf line + q)
  t != 0 && s.activates line && decide (cycle + 1 < t)

/-- The MEM cycle that the controller of a line is in. -/
def State.cycleOf (s : State) (line : Nat) : Nat := Tab.num s.mem.cycle (lineCtl line)

/-- Whether a controller does nothing: self-refresh, or its clock stands (R266, R363, R368). [log 100] -/
def State.ctlStopped (s : State) (c : Nat) : Bool := Tab.on s.mem.asleep (8 + c) || s.isGated (15 + c) || !s.clocked 1

/-- Whether a controller starts nothing new: it does nothing, or has been asked to stop (R367). [log 100] -/
def State.ctlRefuses (s : State) (c : Nat) : Bool := s.ctlStopped c || s.stopping (15 + c)

/-- Whether an access to a rank can start: its controller works, it is not in self-refresh (R264, R266), and no
recalibration holds it (R258). -/
def State.rankOpen (s : State) (rank : Nat) : Bool :=
  !s.ctlRefuses (rank / 2) && !Tab.on s.mem.asleep rank && !Tab.on s.mem.hold rank

/-- Whether an access to a flat line can start; one above the space only has to be refused (R246). -/
def State.flatOpen (s : State) (flat : Nat) : Bool := decide (s.flatTop ≤ flat) || s.rankOpen (s.lineOf flat / 2 ^ 25)

/-- Whether every rank in service can be accessed. -/
def State.memOpen (s : State) : Bool := (List.range 4).all fun r => !s.inService r || s.rankOpen r

/-- Whether an engine's reads of a range are served at once: its clock runs, nothing waits in its queue, and every rank can
be accessed (R254, R258, R266, R362, R363). An engine that finds it otherwise waits. [log 21] -/
def State.engineReady (s : State) (q a n : Nat) : Bool := s.hubRuns && s.queueIdle q && (linesOf a n).all s.flatOpen

/-- Whether an engine's reads of any range are served at once. [log 21] -/
def State.engineFree (s : State) (q : Nat) : Bool := s.hubRuns && s.queueIdle q && s.memOpen

/-- Whether the head of a queue can be accepted by a controller (R255, R256, R258, R268). -/
def State.acceptable (s : State) (c q : Nat) (e : MemEntry) : Bool :=
  s.headCtl e == some c &&
  decide (s.mem.flying c none < 64) && decide (s.mem.flying c (some q) < 16) &&
  (!e.write || decide ((Tab.lst s.mem.wbuf c).length < 32)) &&
  !Tab.on s.mem.hold (s.lineOf e.flat / 2 ^ 25) && 
  !s.throttled q (s.lineOf e.flat) (s.cycleOf (s.lineOf e.flat) + 1)

/-- The class in which a head takes part (R255): 1 after 4,096 cycles. -/
def headClass (urgent : Tab Bool) (q : Nat) (e : MemEntry) : Nat :=
  let k := queueClass urgent q
  if 4096 ≤ e.waited ∧ 1 < k then 1 else k

/-- One activation of a row for a queue in a bank's tracker (R267): the new list and the entry's total before and
after. -/
def trackRow (l : List HotEntry) (row q : Nat) : List HotEntry × HotEntry × Nat :=
  match l.find? fun e => e.row == row with
  | some e =>
    let e' : HotEntry := ⟨row, satAdd 65535 e.total 1, Tab.setNum e.counts q (satAdd 65535 (Tab.num e.counts q) 1)⟩
    (l.map fun x => if x.row == row then e' else x, e', e.total)
  | none =>
    if l.length < 16 then
      let e' : HotEntry := ⟨row, 1, [(q, 1)]⟩
      (l ++ [e'], e', 0)
    else
      let low := (minN? (l.map (·.total))).getD 0
      let i := l.findIdx fun x => x.total == low
      let e' : HotEntry := ⟨row, satAdd 65535 low 1, [(q, 1)]⟩
      (l.set i e', e', low)

/-- The queue with the highest count of an entry, the lower number among equals (R268). -/
def hotQueue (e : HotEntry) : Nat :=
  let top := maxN ((List.range 32).map (Tab.num e.counts))
  ((List.range 32).find? fun q => Tab.num e.counts q == top).getD 0

/-- INTERVAL in MEM cycles (R268). -/
def State.hotWait (s : State) : Nat := ceilDiv (s.fld F.MEM_HR_CFG_INTERVAL * memKHz (s.fld F.MEM_CFG_RATE)) 1000000

/-- A throttled queue has used its activation of this INTERVAL in a bank (R268). -/
def State.reserve (s : State) (q line : Nat) : State :=
  let k := 32 * s.bankOf line + q
  if Tab.num s.mem.throttle k ≠ 0 ∧ s.activates line then
    { s with mem := { s.mem with throttle := Tab.setNum s.mem.throttle k (s.cycleOf line + s.hotWait + 1) } }
  else s

/-- Counts an activation and throttles a queue when an entry reaches THRESH (R267, R268). -/
def State.activate (s : State) (q line : Nat) : State :=
  let b := s.bankOf line
  let row := s.rowOf line
  let c := lineCtl line
  let (l, e, before) := trackRow (Tab.lst s.mem.hot b) row q
  let s := { s with mem := { s.mem with hot := Tab.setLst s.mem.hot b l, row := Tab.setNum s.mem.row b (row + 1) } }
  let limit := Nat.max 512 (s.fld F.MEM_HR_CFG_THRESH)
  if e.total = limit ∧ before < limit then
    let h := hotQueue e
    let s := { s with mem := { s.mem with
      throttle := Tab.setNum s.mem.throttle (32 * b + h) (Tab.num s.mem.cycle c + s.hotWait + 1) } }
    let s := (((s.setFld F.MEM_HR_STAT_QUEUE h).setFld F.MEM_HR_STAT_RANK (b / 8)).setFld F.MEM_HR_STAT_BANK (b % 8)).setFld
      F.MEM_HR_STAT_ROW row
    let s := s.incSat F.MEM_HR_STAT_EVENTS
    let s := s.setFld F.MEM_HR_THR_QUEUES (Nat.lor (s.fld F.MEM_HR_THR_QUEUES) (2 ^ h))
    s.raise 74 (s.reg R.MEM_HR_STAT).toNat
  else s

/-- The first data line of the row in which an ECC line of the cache stands. -/
def State.eccRow (s : State) (key : Nat) : Nat :=
  let a := key % 2 ^ 26
  key / 2 ^ 26 * 2 ^ 25 + lineEncode (s.fld F.MEM_CFG_ORDER) (a / 2 ^ 22 % 8) (a / 64 % 2 ^ 16) 0

/-- What an access to a rank line does for a queue before its data move: the ECC line that has to leave the cache is
written back where it is dirty, the row is opened, and the line's own ECC line passes through the cache (R252, R267). [log 99] -/
def State.touchLine (s : State) (q line : Nat) (write : Bool) : State :=
  let l := Tab.lst s.mem.ecc (lineCtl line)
  let key := s.eccKey line
  let out := if l.length < 64 ∨ l.any fun x => x.1 == key then none else l.head?
  let s := match out with
    | some (old, true) => s.whenDo (s.activates (s.eccRow old)) (·.activate q (s.eccRow old))
    | _ => s
  let s := s.whenDo (s.activates line) (·.activate q line)
  { s with mem := s.mem.touchEcc (lineCtl line) key write }

/-- Whether a write drain is in progress (R256): from the high watermark down to the low one. -/
def State.draining (s : State) (c : Nat) : Bool :=
  let n := (Tab.lst s.mem.wbuf c).length
  (Tab.on s.mem.drain c || decide (s.fld (F.MEM_Mc_WB_HWM c) ≤ n)) && decide (s.fld (F.MEM_Mc_WB_LWM c) < n)

/-- The write buffer or a watermark has changed: a drain starts, goes on or ends (R256). -/
def State.drainStep (s : State) (c : Nat) : State :=
  { s with mem := { s.mem with drain := Tab.setOn s.mem.drain c (s.draining c) } }

/-- Takes a line's entry out of the write buffer. -/
def MemState.unpost (m : MemState) (line : Nat) : MemState :=
  let c := lineCtl line
  { m with wbuf := Tab.setLst m.wbuf c ((Tab.lst m.wbuf c).filter fun e => e.line != line) }

/-- An entry of the write buffer is taken out of it. -/
def State.takeOut (s : State) (line : Nat) : State :=
  let s := s.drainStep (lineCtl line)
  { s with mem := s.mem.unpost line }.drainStep (lineCtl line)

/-- A whole line is stored, poisoned or not; `e` says what the write left wrong. One that reached another line leaves the
named line as it was, and the reached line with the fold of the named one (R250); where it reached no data line, no data
line changes. [log 137] -/
def State.putLine (s : State) (line : Nat) (data : List Byte) (poisoned : Bool) (e : ReadNoise) : State :=
  let wrong (named : Option (BitVec 26)) : Option ReadNoise :=
    if named.isNone && e.data.all (· == 0) && e.check.all (· == 0) then none else some { e with reached := named }
  let put (l : Nat) (w : Option ReadNoise) : State :=
    let m := s.mem.commitLine l (data.map some)
    let m := if poisoned then m.setPoison l else m
    { s with mem := { m with wrong := Tab.setOpt m.wrong l w } }
  match e.reached with
  | none => put line (wrong none)
  | some a => match s.reachedLine line a with
    | none => s
    | some l => put l (wrong (some (BitVec.ofNat 26 (s.lineA line))))

/-- A read of a rank line from the DRAM for a queue, without noise: its data, corrected, and whether it is poisoned. -/
def State.dramRead (s : State) (q line : Nat) : State × List Byte × Bool :=
  let s := s.touchLine q line false
  let c := s.judge line (s.mem.dramBytes line) (Tab.on s.mem.poison line) noNoise
  let (s, p) := s.handleRead line c false
  (s, c.2, p)

/-- A write of some bytes of a line in the DRAM for a queue (R251): a whole line as it is; fewer bytes are merged into the
line, which is read and judged for it, and the whole line is written back, poisoned if that read is UE or poisoned. -/
def State.dramWrite (s : State) (q line : Nat) (bytes : List (Option Byte)) (read written : ReadNoise) : State :=
  let s := s.touchLine q line true
  if wholeLine bytes then s.putLine line (bytes.map (·.getD 0)) false written
  else
    let c := s.judge line (s.mem.dramBytes line) (Tab.on s.mem.poison line) read
    let (s, p) := s.handleRead line c true
    s.putLine line ((overBytes bytes (c.2.map some)).map (·.getD 0)) p written

/-- An entry of the write buffer goes to the DRAM, for the first of the queues whose writes it merges. -/
def State.issueEntry (s : State) (e : WEntry) (read written : ReadNoise) : State :=
  (s.takeOut e.line).dramWrite (e.queues.headD 0) e.line e.bytes read written

/-! ## Accesses of the engines of the block (R246, R250 to R253, R258, R260, R266, R267)

The input writer, the writeback, the zone model, the diagnosis, the loader, the Spine, the locket shadows and the fetchers
make an access within the command that needs it: where nothing waits before it and the rank can be accessed, it passes
through its queue at once. Else a write waits in the queue, and an engine that must read waits itself. -/

/-- A throttled queue of an engine waits until it may activate again (R268). [log 100] -/
def State.awaitThrottle (s : State) (q line : Nat) : State :=
  let s := if s.throttled q line (s.cycleOf line) then
    { s with mem := { s.mem with
      cycle := Tab.setNum s.mem.cycle (lineCtl line) (Tab.num s.mem.throttle (32 * s.bankOf line + q) - 1) } }
  else s
  s.reserve q line

/-- What the write buffer holds of a line, byte by byte. -/
def MemState.postedBytes (m : MemState) (line : Nat) : List (Option Byte) :=
  match m.posted line with
  | some w => w.bytes
  | none => []

/-- An engine's read of the line at a flat line address (R254): what the write buffer holds of it stands over what the DRAM
holds. [log 21] -/
def State.lineRead (s : State) (q flat : Nat) : State × Delivered :=
  if s.flatTop ≤ flat then (s.outOfRange q, ⟨flat, List.replicate 64 0, true⟩)
  else
    let line := s.lineOf flat
    let posted := s.mem.postedBytes line
    if wholeLine posted then (s, ⟨flat, posted.map (·.getD 0), false⟩)
    else
      let (s, data, p) := (s.awaitThrottle q line).dramRead q line
      (s, ⟨flat, (overBytes posted (data.map some)).map (·.getD 0), p⟩)

/-- An engine's reads of some lines, in order. -/
def State.readEach (s : State) (q : Nat) : List Nat → State × List Delivered
  | [] => (s, [])
  | l :: t =>
    let (s, d) := s.lineRead q l
    let (s, ds) := s.readEach q t
    (s, d :: ds)

/-- An engine's reads of the lines that a range touches. -/
def State.readLines (s : State) (q a n : Nat) : State × List Delivered := s.readEach q (linesOf a n)

/-- The bytes of a range out of the lines that it touches. -/
def spanBytes (ds : List Delivered) (a n : Nat) : List Byte := ((ds.flatMap (·.data)).drop (a % 64)).take n

/-- Whether one of some lines came poisoned. -/
def spanBad (ds : List Delivered) : Bool := ds.any (·.poisoned)

/-- An engine's write of some bytes of the line at a flat line address; what lies above the space is discarded (R246). [log 21] -/
def State.lineStore (s : State) (q flat : Nat) (bytes : List (Option Byte)) : State :=
  if !(s.queueIdle q && s.flatOpen flat) then s.queueWrite q ⟨true, flat, bytes, 0⟩
  else if s.flatTop ≤ flat then s.outOfRange q
  else
    let line := s.lineOf flat
    if (s.mem.posted line).isSome then { s with mem := s.mem.storeLine line bytes }
    else
      let s := s.awaitThrottle q line
      { s with mem := s.mem.overtake line }.dramWrite q line bytes noNoise noNoise

/-- An engine's write of bytes to the flat space, line by line, whole lines as whole writes (R251). [log 21] -/
def State.writeFlat (s : State) (queue a : Nat) (bytes : List Byte) : State :=
  s.each (linesOf a bytes.length) fun s l => s.lineStore queue l (lineSlice a bytes l)

/-! ## Migration and scrubbing (R261 to R265) -/

/-- The data of a read come back (R250, R259, R260): marks it done with what the requester gets. -/
def State.readDone (s : State) (c i : Nat) (noise : ReadNoise) : State :=
  match (Tab.lst s.mem.inflight c)[i]? with
  | none => s
  | some f =>
    let (s, data, p) :=
      if f.forwarded then (s, f.data, f.poisoned)
      else
        let s := s.touchLine f.queue f.line false
        let r := s.judge f.line f.data f.poisoned noise
        let (s, p) := s.handleRead f.line r f.overtaken
        (s, r.2, p)
    let l := (Tab.lst s.mem.inflight c).set i { f with data := data, poisoned := p, done := true }
    { s with mem := { s.mem with inflight := Tab.setLst s.mem.inflight c l } }

/-- The accepted reads of some lines of a controller, none of which has come back, come back now without noise. -/
def State.readsDone (s : State) (c : Nat) (p : Nat → Bool) : State :=
  let l := Tab.lst s.mem.inflight c
  s.each (below l.length fun i => (l[i]?).any fun f => !f.done && p f.line) fun s i => s.readDone c i noNoise

/-- The spare takes the failing rank's position; the failing rank goes to self-refresh and is never accessed again, so its
accepted reads come back first, and no run of a recalibration of it is left (R252, R264). -/
def State.migDone (s : State) : State :=
  let bad := s.fld F.MEM_STAT_FAILED
  let s := s.readsDone (bad / 2) fun line => line / 2 ^ 25 == bad
  let new := s.fld F.MEM_STAT_SPARE
  let p := ((List.range 4).find? fun p => s.posRank p == bad).getD 0
  let pos := s.fld F.MEM_CFG_POS
  let s := s.setFld F.MEM_CFG_POS (pos - s.posRank p * 16 ^ p + new * 16 ^ p)
  let s := s.setFld F.MEM_STAT_INSVC
    (Nat.lor (s.fld F.MEM_STAT_INSVC - 2 ^ bad * (s.fld F.MEM_STAT_INSVC / 2 ^ bad % 2)) (2 ^ new))
  let partner := s.posRank (if p % 2 = 0 then p + 1 else p - 1)
  let s := s.whenDo (partner != 7 && partner / 2 == new / 2) (·.setOn F.MEM_STAT_CROSS true)
  let s := { s with mem := { (s.mem.cleanEcc (bad / 2)) with
    asleep := Tab.setOn s.mem.asleep bad true, recalDue := Tab.setNum s.mem.recalDue bad 0 } }
  (s.setFld F.MEM_STAT_MIG_STATE 2).raise 73 bad

/-- One line copy of the migration engine (R263); it pauses while a recalibration holds either rank (R265) and while Q28
is throttled (R268). A write to the line that waits in the write buffer follows the copy to the spare. [log 97] -/
def State.migCopy (s : State) (noise : ReadNoise) : State :=
  let bad := s.fld F.MEM_STAT_FAILED
  let new := s.fld F.MEM_STAT_SPARE
  let n := s.fld F.MEM_MIG_PTR_LINE
  let line := bad * 2 ^ 25 + n
  let dst := new * 2 ^ 25 + n
  if s.fld F.MEM_STAT_MIG_STATE = 1 ∧ s.rankOpen bad ∧ s.rankOpen new ∧ n < s.rankLines ∧
      !s.throttled 28 line (s.cycleOf line) ∧ !s.throttled 28 dst (s.cycleOf dst) then
    let s := ((s.reserve 28 line).reserve 28 dst).touchLine 28 line false
    let c := s.judge line (s.mem.dramBytes line) (Tab.on s.mem.poison line) noise
    let waits := s.mem.posted line
    let (s, p) := s.handleRead line c false
    let s := (s.touchLine 28 dst true).putLine dst c.2 p noNoise
    let s := match waits with
      | none => s
      | some e => (s.takeOut line).dramWrite (e.queues.headD 0) dst e.bytes noNoise noNoise
    let s := s.whenDo p (·.incSat F.MEM_MIG_STAT_POISONED)
    let s := s.setFld F.MEM_MIG_PTR_LINE (n + 1)
    if s.rankLines ≤ n + 1 then s.migDone else s
  else s

/-- MIGRATION_LINE_COPY. -/
def execMigrationLineCopy (noise : ReadNoise) (s : State) : Host.Outcome State Fault Refusal :=
  effect (·.migCopy noise) s

/-- The ranks that the scrubber reads: those in service and the spare (R261). -/
def State.scrubRanks (s : State) : List Nat :=
  below 4 fun r => s.inService r || (s.on F.MEM_STAT_SPARE_VALID && s.fld F.MEM_STAT_SPARE == r)

/-- The line at or after a scrub position that lies in a scrubbed rank. -/
def State.scrubAt (s : State) (pos : Nat) : Option Nat :=
  let r := pos / 2 ^ 25
  if s.scrubRanks.contains r ∧ pos % 2 ^ 25 < s.rankLines then some pos
  else match s.scrubRanks.find? fun q => decide (r < q) with
    | some q => some (q * 2 ^ 25)
    | none => s.scrubRanks.head?.map (· * 2 ^ 25)

/-- One step of the scrubber (R261): it waits while the rank is held or asleep, or Q29 is throttled (R258, R266, R268). A
write that waits in the write buffer makes it drop its write-back (R265). -/
def State.scrub (s : State) (noise : ReadNoise) : State :=
  if s.on F.MEM_SCRUB_EN then
    match s.scrubAt s.mem.scrub with
    | none => s
    | some line =>
      if !s.rankOpen (line / 2 ^ 25) ∨ s.throttled 29 line (s.cycleOf line) then s
      else
        let s := (s.reserve 29 line).touchLine 29 line false
        let c := s.judge line (s.mem.dramBytes line) (Tab.on s.mem.poison line) noise
        let past := (s.mem.posted line).isSome
        let s := (s.handleRead line c past).1
        { s with mem := { s.mem with scrub := line + 1 } }
  else s

/-- SCRUB_STEP. -/
def execScrubStep (noise : ReadNoise) (s : State) : Host.Outcome State Fault Refusal := effect (·.scrub noise) s

/-! ## Acceptance and issue (R254 to R256) -/

/-- Posts a write: writes to the same line merge into one entry (R256). -/
def MemState.post (m : MemState) (line q : Nat) (bytes : List (Option Byte)) : MemState :=
  let c := lineCtl line
  let l := Tab.lst m.wbuf c
  let l := match m.posted line with
    | some _ => l.map fun e => if e.line == line then ⟨line, overBytes bytes e.bytes, e.queues ++ [q]⟩ else e
    | none => l ++ [⟨line, overBytes bytes (List.replicate 64 none), [q]⟩]
  { m.overtake line with wbuf := Tab.setLst m.wbuf c l }

/-- A controller accepts the head of a queue (R254 to R256). -/
def State.acceptHead (s : State) (c q : Nat) (e : MemEntry) : State :=
  let line := s.lineOf e.flat
  let s := (s.dropHead q).reserve q line
  if e.write then { s with mem := s.mem.post line q e.bytes }.drainStep c
  else
    let fwd := match s.mem.posted line with
      | some w => wholeLine w.bytes
      | none => false
    let f : InFlight := ⟨s.mem.accepted, q, e.flat / 64 * 64, line, 0, s.mem.lineBytes line, s.mem.linePoison line, fwd, false, false⟩
    { s with mem := { s.mem with
      accepted := s.mem.accepted + 1, inflight := Tab.setLst s.mem.inflight c (Tab.lst s.mem.inflight c ++ [f]) } }

/-- One MEM cycle of a controller (R255): the winner among the acceptable heads is accepted, the others wait on. -/
def State.memCycle (s : State) (urgent : Tab Bool) (c : Nat) : State :=
  let heads := (List.range 32).filterMap fun q => match Tab.lst s.mem.queues q with
    | e :: _ => some (q, e)
    | [] => none
  let ok := heads.filter fun x => s.acceptable c x.1 x.2
  let classes := (List.range 4).map fun k => (ok.filter fun x => headClass urgent x.1 x.2 == k).map (·.1)
  let win := arbitrate (8 * c) s.mem.ptr classes
  let aged := heads.foldl (fun t x =>
    if s.headCtl x.2 == some c then
      Tab.setLst t x.1 ({ x.2 with waited := x.2.waited + 1 } :: (Tab.lst t x.1).drop 1) else t) s.mem.queues
  let fl := (Tab.lst s.mem.inflight c).map fun f => { f with age := f.age + 1 }
  let s := { s with mem := { s.mem with
    queues := aged, inflight := Tab.setLst s.mem.inflight c fl,
    cycle := Tab.setNum s.mem.cycle c (Tab.num s.mem.cycle c + 1) } }
  match win with
  | none => s
  | some (k, q) =>
    match (heads.find? fun x => x.1 == q) with
    | none => s
    | some (_, e) =>
      ({ s with mem := { s.mem with ptr := Tab.setNum s.mem.ptr k (q + 1) } }).acceptHead c q e

/-- The write that a controller issues to the DRAM next: the oldest entry of a rank that is not held, during a drain or
when no read waits (R256, R258). `read` is what a partial write's read meets, `written` what the write leaves wrong. -/
def State.writeIssue (s : State) (c : Nat) (read written : ReadNoise) : State :=
  let reads := (Tab.lst s.mem.inflight c).any fun f => !f.done && !Tab.on s.mem.hold (f.line / 2 ^ 25)
  if s.ctlStopped c then s
  else if s.draining c || !reads then
    match (Tab.lst s.mem.wbuf c).find? fun e => !Tab.on s.mem.hold (e.line / 2 ^ 25) with
    | none => s
    | some e => s.issueEntry e read written
  else s

/-- MEM_WRITE_COMPLETE. [log 100] -/
def execMemWriteComplete (write : WriteIssue) (s : State) : Host.Outcome State Fault Refusal :=
  effect (·.writeIssue write.ctl.val write.read write.written) s

/-- The read that a controller serves next (R256): one older than 128 MEM cycles first, then a row hit, then the
oldest; none while a write drain is in progress, none of a rank that is held (R258). -/
def State.nextRead (s : State) (c : Nat) : Option Nat :=
  let l := Tab.lst s.mem.inflight c
  let waiting := below l.length fun i => match l[i]? with
    | some f => !f.done && !Tab.on s.mem.hold (f.line / 2 ^ 25)
    | none => false
  let is (p : InFlight → Bool) (i : Nat) : Bool := match l[i]? with
    | some f => p f
    | none => false
  if s.draining c then none
  else match waiting.find? (is fun f => decide (128 < f.age)) with
    | some i => some i
    | none => match waiting.find? (is fun f => !s.activates f.line) with
      | some i => some i
      | none => waiting.head?

/-- A controller completes the operations in flight (R362, R367): every accepted read and every posted write, without
noise. [log 100] -/
def State.finishOps (s : State) (c : Nat) : State :=
  (s.readsDone c fun _ => true).each (Tab.lst s.mem.wbuf c) fun s e => s.issueEntry e noNoise noNoise

/-- A read whose data have come and before which no accepted read of the same queue waits, with its controller, 2 for one
that was refused under R246 and waits for its turn (R254). -/
def State.ready (s : State) : Option (Nat × InFlight) :=
  let all : List (Nat × InFlight) := (List.range 3).flatMap fun c => (Tab.lst s.mem.inflight c).map fun f => (c, f)
  all.find? fun x => x.2.done && !all.any fun y => y.2.queue == x.2.queue && decide (y.2.seq < x.2.seq)

/-- REFRESH_DUE (R257): a due refresh waits for its busy bank, up to eight; then it is forced. A refresh closes the
bank's row. [log 99] -/
def State.refreshDue (s : State) (rank bank : Nat) (busy : Bool) : State :=
  let b := 8 * rank + bank
  let p := Tab.num s.mem.postponed b
  if Tab.on s.mem.asleep rank then s
  else if busy ∧ p < 8 then { s with mem := { s.mem with postponed := Tab.setNum s.mem.postponed b (p + 1) } }
  else
    { s with mem := { s.mem with
      postponed := Tab.setNum s.mem.postponed b (if busy then p else 0), row := Tab.setNum s.mem.row b 0 } }

/-- REFRESH_DUE. -/
def execRefreshDue (rank : Fin 4) (bank : Fin 8) (busy : Bool) (s : State) : Host.Outcome State Fault Refusal :=
  effect (·.refreshDue rank.val bank.val busy) s

/-- MR4_POLL (R257): the code of every populated rank that is not in self-refresh (R264, R266); code 7 reports a temperature above the operating range. [log 96] -/
def State.mr4Poll (s : State) (codes : List Nat) : State :=
  s.each (List.range 4) fun s r =>
    let c := codes.getD r 0
    if Tab.on s.mem.populated r && !Tab.on s.mem.asleep r && !s.ctlStopped (r / 2) then (s.setFld (F.MEM_RKj_MR4_RATE r) c).whenDo (c == 7) (·.raise 62 r) else s

/-- MR4_POLL. -/
def execMr4Poll (code0 code1 code2 code3 : BitVec 3) (s : State) : Host.Outcome State Fault Refusal :=
  effect (·.mr4Poll [code0.toNat, code1.toNat, code2.toNat, code3.toNat]) s

/-- REFRESH_WINDOW_START: all trackers are cleared and throttling ends (R267, R268). -/
def execRefreshWindowStart (s : State) : Host.Outcome State Fault Refusal :=
  effect (fun s => ({ s with mem := { s.mem with hot := [], throttle := [] } }).setFld F.MEM_HR_THR_QUEUES 0) s

/-- Whether a run of a rank's recalibration may begin (R258, R400): one in a commit window, while no configuration is
running at any time, one rank at a time, and the second run of a rank before the first one of another. -/
def State.recalMay (s : State) (rank : Nat) : Bool :=
  Tab.num s.mem.recalDue rank != 0 && !(List.range 4).any (Tab.on s.mem.hold) &&
    (!s.on F.CFG_STATUS_ACTIVE || (s.on F.TIM_STAT_WINDOW && !s.mem.recalMade)) &&
    (Tab.num s.mem.recalDue rank == 1 || !(List.range 4).any fun r => Tab.num s.mem.recalDue r == 1)

/-- TIMING_RECAL (R258, R400): one rank is held for a run of its recalibration. -/
def State.timingRecal (s : State) (rank : Nat) : State :=
  if s.recalMay rank then
    { s with mem := { (s.mem.cleanEcc (rank / 2)) with
      hold := Tab.setOn s.mem.hold rank true, recalMade := true,
      recalDue := Tab.setNum s.mem.recalDue rank (Tab.num s.mem.recalDue rank - 1) } }
  else s

/-- TIMING_RECAL. -/
def execTimingRecal (rank : Fin 4) (s : State) : Host.Outcome State Fault Refusal := effect (·.timingRecal rank.val) s

/-! ## Training and the DRAM section (R241 to R244) -/

/-- Start-up discovery and training (R241): what MEM_STAT and MEM_CFG show, and the boot configuration. The answer says
whether the flat space exists. -/
def State.dramTrained (s : State) (ranks : List RankFound) : State × Bool :=
  let get (r : Nat) : RankFound := ranks.getD r ⟨false, 0, false⟩
  let mask (p : RankFound → Bool) : Nat := sumN ((List.range 4).map fun r => b2n (p (get r)) * 2 ^ r)
  let trained := mask fun r => r.populated && r.trained
  let dens := (((List.range 4).find? fun r => (get r).populated).map fun r => (get r).density.val).getD 0
  let ok (r : Nat) : Bool := (get r).populated && (get r).trained
  let same := (List.range 4).all fun r => !(get r).populated || (get r).density.val == dens
  let good := ok 0 && ok 2 && same
  let p2 := if ok 1 then 1 else if ok 3 then 3 else 7
  let p3 := if ok 1 && ok 3 then 3 else 7
  let pop := (List.range 4).foldl (fun t r => Tab.setOn t r (get r).populated) []
  let s := { s with mem := { s.mem with populated := pop } }
  let s := (s.setFld F.MEM_STAT_TRAINED trained).setFld F.MEM_CFG_DENS dens
  if good then
    let s := ((s.setFld F.MEM_CFG_RATE 0).setFld F.MEM_CFG_ORDER 0).setFld F.MEM_CFG_POS
      (0 + 16 * 2 + 256 * p2 + 4096 * p3)
    let s := s.setFld F.MEM_STAT_INSVC (1 + 4 + (if p2 = 7 then 0 else 2 ^ p2) + (if p3 = 7 then 0 else 2 ^ p3))
    (s.setOn F.MEM_STAT_SPARE_VALID false, true)
  else ((s.setFld F.MEM_STAT_INSVC 0).raise 60 trained, false)

/-- The configuration in force after a DRAM section has been taken up (R242, R244): its contents are undefined, and the
migration state starts again (R262). [log 6] -/
def State.dramReconfigured (s : State) (d : List Byte) : State :=
  let pos (i : Nat) : Nat := byteOf d (4 + i) % 8
  let sp := byteOf d 8
  let insvc := sumN ((List.range 4).map fun i => if pos i = 7 then 0 else 2 ^ pos i)
  -- accepted reads have been made before the controllers switch (R254); their data are still to be returned
  let reads (c : Nat) : List InFlight := (Tab.lst s.mem.inflight c).map fun f => { f with done := true }
  let fl := (List.range 3).foldl (fun t c => Tab.setLst t c (reads c)) ([] : Tab (List InFlight))
  let s := { s with mem := { s.mem with
    cells := [], poison := [], wrong := [], epoch := s.mem.epoch + 1, inflight := fl, wbuf := [], drain := [], ecc := [],
    row := [], asleep := [], reconfig := none } }
  let s := (s.setFld F.MEM_CFG_RATE (byteOf d 0)).setFld F.MEM_CFG_ORDER (byteOf d 3)
  let s := s.setFld F.MEM_CFG_POS (pos 0 + 16 * pos 1 + 256 * pos 2 + 4096 * pos 3)
  let s := (s.setOn F.MEM_STAT_SPARE_VALID (decide (128 ≤ sp))).setFld F.MEM_STAT_SPARE (sp % 4)
  let s := (s.setFld F.MEM_STAT_INSVC insvc).setOn F.MEM_STAT_CROSS false
  (s.setFld F.MEM_STAT_MIG_STATE 0).setFld F.MEM_STAT_FAILED 0

/-! ## Host line buffer (R269) -/

/-- The line buffer is written to memory, whole or as a partial write, through Q25; a full queue makes it wait (R37), and
a line above the flat space is discarded (R246). [log 104] -/
def State.lineFlush (s : State) : State :=
  match s.mem.lineBase with
  | none => s
  | some base =>
    let free (s : State) : State := { s with mem := { s.mem with lineBase := none, lineBuf := [], lineDue := false } }
    if s.flatTop ≤ base then (free s).outOfRange 25
    else if !s.queueRoom 25 then { s with mem := { s.mem with lineDue := true } }
    else
      let e : MemEntry := ⟨true, base, s.mem.lineBuf, 0⟩
      (free s).pushReq 25 e

/-- HOST_LINE_BUFFER_FLUSH: 1 µs without a write. -/
def execHostLineBufferFlush (s : State) : Host.Outcome State Fault Refusal := effect (·.lineFlush) s

/-- Whether the line buffer can take a word of a line now (R269): it is free, holds the line and is not whole, or can
be written to memory. [log 104] -/
def State.lineTakes (s : State) (flat : Nat) : Bool :=
  s.mem.lineBase.isNone || (s.mem.lineBase == some (flat / 64 * 64) && !s.mem.lineDue) ||
    s.queueRoom 25

/-- A host write of one word through the window: gathered into the line buffer (R269). [log 104] -/
def State.lineWrite (s : State) (flat : Nat) (w : Word) : State :=
  let base := flat / 64 * 64
  let s := if s.mem.lineBase == some base && !s.mem.lineDue then s else
    let s := s.lineFlush
    { s with mem := { s.mem with lineBase := some base, lineBuf := List.replicate 64 none } }
  let s := s.whenDo (decide (s.flatTop ≤ flat)) (·.setOn F.MEM_HOST_STAT_ADDRERR true)
  let buf := (List.range 4).foldl (fun b i => b.set (flat % 64 + i) (some (BitVec.ofNat 8 (w.toNat / 256 ^ i)))) s.mem.lineBuf
  let s := { s with mem := { s.mem with lineBuf := buf } }
  if wholeLine buf then s.lineFlush else s

end Sys2Proof.Machine
end

