-- ==== Sys2Proof/Machine/Tables.lean ====
section
/-! DEFINITION. The LUT window and its double buffering (R94, R96, R97, R103 to R106, R125). -/

namespace Sys2Proof.Machine

/-- The table and the valid bits of a word of the LUT window, or none where the word holds no entry (R440). Tables 0
to 15 are coefficient sets, 16 to 23 pre-blend, 24 to 27 post-blend, 28 to 31 palettes, 32 to 35 facet offsets, 36
the thermistor table, 37 to 39 the ageing tables. -/
def tableWord (a : Nat) : Option (Nat × Word) :=
  if a < 0x200000 ∨ a % 4 ≠ 0 then none
  else if a < 0x220000 then
    let o := a - 0x200000
    if o % 0x2000 < 0x700 then some (o / 0x2000, 0x0FFF0FFF) else none
  else if a < 0x240000 then
    let o := a - 0x220000
    if o % 0x4000 < 0x3000 then some (16 + o / 0x4000, 0x0000FFFF) else none
  else if a < 0x280000 then
    let o := a - 0x240000
    if o % 0x10000 < 0xC000 then some (24 + o / 0x10000, 0x0003FFFF) else none
  else if a < 0x281000 then some (28 + (a - 0x280000) / 0x400, 0x3FFFFFFF)
  else if a < 0x281400 then
    let o := a - 0x281000
    if o % 16 < 12 then some (32 + o / 0x100, 0x0003FFFF) else none
  else if a < 0x281484 then some (36, 0x0000FFFF)
  else if a < 0x281500 then none
  else if a < 0x281800 then
    let o := a - 0x281500
    if o % 0x100 < 0x84 then some (37 + o / 0x100, 0x0000FFFF) else none
  else none

/-- The table that a word of the window belongs to. -/
def tableOf (a : Nat) : Option Nat := (tableWord a).map (·.1)

/-- The words of some tables taken from one copy and put into another. -/
def copyTables (p : Nat → Bool) (src dst : Tab Word) : Tab Word :=
  let hit (x : Nat × Word) : Bool := match tableOf x.1 with
    | some t => p t
    | none => false
  let rec merge : List (Nat × Word) → Tab Word → Tab Word
    | [], d => d
    | x :: t, d => merge t (Tab.setWord d x.1 x.2)
  merge (src.filter hit) (dst.filter fun x => !hit x)

/-- Finishes a copy of new front copies into their back copies (R105). -/
def State.tableCopyDone (s : State) : State :=
  { s with tabs := { s.tabs with
    back := copyTables s.tabs.copying.contains s.tabs.front s.tabs.back, copying := [] } }

/-- TABLE_COPY_DONE. -/
def execTableCopyDone (s : State) : Host.Outcome State Fault Refusal := effect (·.tableCopyDone) s

/-- A host access to a table that is being copied waits until the copy ends (R105). -/
def State.tableWait (s : State) (t : Nat) : State := if s.tabs.copying.contains t then s.tableCopyDone else s

/-- A read of a table word reaches the back copy. -/
def State.tableRead (s : State) (a t : Nat) : State × Word :=
  let s := s.tableWait t
  (s, Tab.word s.tabs.back a)

/-- A write of a table word reaches the back copy and marks its table dirty. -/
def State.tableWrite (s : State) (a t : Nat) (mask w : Word) : State :=
  let s := s.tableWait t
  { s with tabs := { s.tabs with
    back := Tab.setWord s.tabs.back a (w &&& mask), dirty := Tab.setOn s.tabs.dirty t true } }

/-- The tables that beads and strands hold copies of: coefficient sets and LUTs (R106). -/
def inBeads (t : Nat) : Bool := decide (t < 28) || (decide (32 ≤ t) && decide (t < 36))

/-- When a commit is applied, every dirty table's back copy becomes its front copy (R105); copies in beads and strands
are due for their rewrite (R106). -/
def State.swapTables (s : State) : State :=
  let s := if s.tabs.copying.isEmpty then s else s.tableCopyDone
  let d := s.tabs.dirty
  let front := copyTables (Tab.on d) s.tabs.back s.tabs.front
  let back := copyTables (Tab.on d) s.tabs.front s.tabs.back
  let due := (List.range 40).filter (Tab.on d)
  { s with tabs := { s.tabs with
    front := front, back := back, dirty := [], copying := due,
    rewrite := (due.filter inBeads).foldl (fun r t => Tab.setOn r t true) s.tabs.rewrite } }

/-- A table's front copy reaches the beads and strands (R106). -/
def State.rewriteTable (s : State) (t : Nat) : State :=
  if Tab.on s.tabs.rewrite t then
    { s with tabs := { s.tabs with
      beads := copyTables (· == t) s.tabs.front s.tabs.beads, rewrite := Tab.setOn s.tabs.rewrite t false } }
  else s

/-- COEF_REWRITE. -/
def execCoefRewrite (table : Nat) (s : State) : Host.Outcome State Fault Refusal := effect (·.rewriteTable table) s

/-- Every table that waits for its rewrite is rewritten. -/
def State.rewriteAll (s : State) : State := s.each (List.range 40) State.rewriteTable

/-- A byte of on-chip memory for a check unit (R410): front copies and locket banks; other words read 0. -/
def State.onchipByte (s : State) (a : Nat) : Byte :=
  let w := a / 4 * 4
  let v := if 0x300000 ≤ a then s.locketWord w else if (tableOf w).isSome then Tab.word s.tabs.front w else 0
  BitVec.ofNat 8 (v.toNat / 256 ^ (a % 4))

/-- CHK_ONCHIP_SCAN_DONE (R410): a unit that scans on-chip memory has processed its range. -/
def State.chkOnchip (s : State) (n : Nat) : State :=
  if s.on (F.CHKn_STAT_BUSY n) && !s.on (F.CHKn_CTRL_FEED n) && s.on (F.CHKn_CTRL_SPACE n) && !s.isGated 1 &&
      !s.on (F.CHKn_STAT_PWR n) then
    let a := s.chkAddr n
    let len := s.fld (F.CHKn_LEN_LEN n)
    (s.chkAdvance n len).chkFeed n ((List.range len).map fun i => s.onchipByte (a + i))
  else s

/-- CHK_ONCHIP_SCAN_DONE. -/
def execChkOnchipScanDone (unit : Fin 8) (s : State) : Host.Outcome State Fault Refusal :=
  effect (·.chkOnchip unit.val) s

/-- A table word sign-read in its low `n` bits. -/
def tabSigned (t : Tab Word) (n a : Nat) : Int := signed n (Tab.word t a).toNat

end Sys2Proof.Machine
end

