-- ==== Sys2Proof/Machine/Sections.lean ====
section
/-! DEFINITION. The sections of an image and what they say: topology records, chain, pixel map, scan (R42, R44, R162,
R210, R211), as functions of the sections' bytes and of a register file, so that admission judges an image and the
pipeline runs one by the same definitions. -/

namespace Sys2Proof.Machine

/-- The sections of a configuration, key 16 * TYPE + INST. -/
abbrev Secs := Tab (List Byte)

/-- A section's bytes, empty where it is absent. -/
def Secs.get (c : Secs) (type inst : Nat) : List Byte := Tab.lst c (16 * type + inst)

/-- Whether a section is present. -/
def Secs.has (c : Secs) (type inst : Nat) : Bool := !(Secs.get c type inst).isEmpty

/-- A field of a register file. -/
def regFld (r : Tab Word) (f : Fld) : Nat := f.of (Tab.get resetWord r f.addr)

/-! ## Topology (R44) -/

/-- One hosted context (R44). -/
structure Ctx where
  isle : Nat
  strand : Nat
  bead : Nat
  ctx : Nat
  kind : Nat
  feed : Nat
  layer : Nat
  layerValid : Bool
  cls : Nat
  dest : Nat
  tgt : Nat
  spare : Nat
  param : Nat
  coef : Nat
deriving DecidableEq, Repr

/-- A record of TOPO (R44). -/
def ctxOf (v : Nat) : Ctx where
  isle := bits 63 61 v
  strand := bits 60 59 v
  bead := bits 58 56 v
  ctx := bits 55 53 v
  kind := bits 52 49 v
  feed := bits 48 47 v
  layer := bits 46 44 v
  layerValid := bits 43 43 v == 1
  cls := bits 42 41 v
  dest := bits 39 38 v
  tgt := bits 37 36 v
  spare := bits 40 40 v * 16 + bits 35 32 v
  param := bits 31 16 v
  coef := bits 15 0 v

/-- The record count of TOPO. -/
def topoCount (t : List Byte) : Nat := leAt t 32 2

/-- The records of TOPO. -/
def topoCtxs (t : List Byte) : List Ctx := (List.range (topoCount t)).map fun i => ctxOf (leAt t (48 + 8 * i) 8)

/-- The contexts of a configuration. -/
def Secs.ctxs (c : Secs) : List Ctx := topoCtxs (Secs.get c 1 0)

/-- The SERIES bit of a strand (R44). -/
def Secs.series (c : Secs) (isle strand : Nat) : Bool := byteOf (Secs.get c 1 0) (4 * isle + strand) % 2 == 1

/-- The bead index of reason 0x12. -/
def Ctx.beadIdx (x : Ctx) : Nat := 32 * x.isle + 8 * x.strand + x.bead

/-- Whether a feed has a context of a kind in an isle, for a layer where one is named. -/
def hasCtx (cs : List Ctx) (isle feed kind : Nat) (layer : Option Nat) : Bool :=
  cs.any fun x => x.isle == isle && x.feed == feed && x.kind == kind &&
    (match layer with
     | some l => x.layer == l
     | none => true)

/-! ## Scan, chain and pixel map -/

/-- NLINES (R162). -/
def Secs.nlines (c : Secs) : Nat := byteOf (Secs.get c 5 0) 0 % 64 + 1

/-- The scan line of row position `p` (R162). -/
def Secs.scanLine (c : Secs) (p : Nat) : Nat := byteOf (Secs.get c 5 0) (16 + p) % 64

/-- The number of drivers of a port (R210). -/
def Secs.nic (c : Secs) (port : Nat) : Nat := byteOf (Secs.get c 7 0) (16 + 8 * port)

/-- The OFS of a port (R210). -/
def Secs.ofs (c : Secs) (port : Nat) : Nat := byteOf (Secs.get c 7 0) (17 + 8 * port)

/-- The scan group of a port (R210). -/
def Secs.group (c : Secs) (port : Nat) : Nat := byteOf (Secs.get c 7 0) (18 + 8 * port) % 8

/-- The place of a port in its scan group (R210). -/
def Secs.slot (c : Secs) (port : Nat) : Nat := byteOf (Secs.get c 7 0) (18 + 8 * port) / 8 % 8

/-- The drive bit of a port (R210). -/
def Secs.drive (c : Secs) (port : Nat) : Nat := byteOf (Secs.get c 7 0) (18 + 8 * port) / 64 % 2

/-- The DCLK rate code of a die (R210). -/
def Secs.rateCode (c : Secs) (die : Nat) : Nat := byteOf (Secs.get c 7 0) die % 8

/-- DCLK in Hz by rate code (R189); 0 for a reserved code. -/
def dclkHz (code : Nat) : Nat := [125000000, 100000000, 62500000, 50000000, 25000000].getD code 0

/-- DCLK of a port's die in Hz. -/
def Secs.portHz (c : Secs) (port : Nat) : Nat := dclkHz (Secs.rateCode c (port / 32))

/-- A row entry of an isle: VALID, GROUP, LINE (R211). -/
def Secs.rowEntry (c : Secs) (isle r : Nat) : Bool × Nat × Nat :=
  let v := leAt (Secs.get c 4 0) (6400 * isle + 2 * r) 2
  (bits 15 15 v == 1, bits 14 12 v, bits 5 0 v)

/-- A column entry of an isle: VALID, SLOT, driver, channel (R211). -/
def Secs.colEntry (c : Secs) (isle x col : Nat) : Bool × Nat × Nat × Nat :=
  let v := leAt (Secs.get c 4 0) (6400 * isle + 256 + 6 * x + 2 * col) 2
  (bits 15 15 v == 1, bits 14 12 v, bits 10 6 v, bits 5 0 v)

/-- The port of an isle with a group and slot (R211), among ports with drivers. -/
def Secs.portOf (c : Secs) (isle group slot : Nat) : Option Nat :=
  ((List.range 8).map (8 * isle + ·)).find? fun p =>
    decide (0 < Secs.nic c p) && Secs.group c p == group && Secs.slot c p == slot

/-- The band rows that a port shows, in band order (R192). -/
def Secs.portRows (c : Secs) (port : Nat) : List Nat :=
  below 128 fun r => let e := Secs.rowEntry c (port / 8) r; e.1 && e.2.1 == Secs.group c port

/-- The subpixel that a column position of a port targets: tile column and colour (R211). -/
def Secs.colAt (c : Secs) (port driver channel : Nat) : Option (Nat × Nat) :=
  let hit (i : Nat) : Bool :=
    let e := Secs.colEntry c (port / 8) (i / 3) (i % 3)
    e.1 && e.2.1 == Secs.slot c port && e.2.2.1 == driver && e.2.2.2 == channel
  ((List.range 3072).find? hit).map fun i => (i / 3, i % 3)

/-! ## Timing sets -/

/-- The twelve words of a timing set that count (R161): RATE, SCAN, then OFS and LEN of the four feeds. -/
structure TimSet where
  rate : Word
  scan : Word
  ofs : List Word
  len : List Word
deriving DecidableEq, Repr

/-- The timing set in a register file. -/
def timSet (r : Tab Word) (n : Nat) : TimSet where
  rate := Tab.get resetWord r (R.TIM_Tn_RATE n)
  scan := Tab.get resetWord r (R.TIM_Tn_SCAN n)
  ofs := (List.range 4).map fun k => Tab.get resetWord r (R.TIM_Tn_OFSk n k)
  len := (List.range 4).map fun k => Tab.get resetWord r (R.TIM_Tn_LENk n k)

/-- FR_NUM. -/
def TimSet.frNum (t : TimSet) : Nat := (F.TIM_Tn_RATE_FR_NUM 0).of t.rate
/-- FR_DEN. -/
def TimSet.frDen (t : TimSet) : Nat := (F.TIM_Tn_RATE_FR_DEN 0).of t.rate
/-- CYC. -/
def TimSet.cyc (t : TimSet) : Nat := (F.TIM_Tn_SCAN_CYC 0).of t.scan
/-- DB. -/
def TimSet.db (t : TimSet) : Nat := (F.TIM_Tn_SCAN_DB 0).of t.scan
/-- The requested segments; above 64 acts as 64 (R157). -/
def TimSet.seg (t : TimSet) : Nat := Nat.min 64 ((F.TIM_Tn_SCAN_SEG 0).of t.scan)
/-- The GMUL code. -/
def TimSet.gmulCode (t : TimSet) : Nat := (F.TIM_Tn_SCAN_GMUL 0).of t.scan
/-- Grey counts per GCLK period (R161). -/
def TimSet.gmul (t : TimSet) : Nat := 2 ^ t.gmulCode
/-- Whether a feed is enabled. -/
def TimSet.feedOn (t : TimSet) (k : Nat) : Bool := (F.TIM_Tn_SCAN_FEEDEN 0).of t.scan / 2 ^ k % 2 == 1
/-- The active feeds. -/
def TimSet.feeds (t : TimSet) : List Nat := below 4 t.feedOn
/-- The slot offset of a feed in row periods. -/
def TimSet.ofsOf (t : TimSet) (k : Nat) : Nat := (t.ofs.getD k 0).toNat % 2 ^ 17
/-- The slot length of a feed in row periods. -/
def TimSet.lenOf (t : TimSet) (k : Nat) : Nat := (t.len.getD k 0).toNat % 2 ^ 17

/-- ROWCLK (R155); 0 where the set gives no frame rate. -/
def TimSet.rowclk (t : TimSet) (nlines : Nat) : Nat :=
  1250000000000 * t.frDen / (10205 * t.frNum * t.cyc * nlines)

/-- ON, as an integer (R156). -/
def TimSet.onClk (t : TimSet) (nlines : Nat) : Int := (t.rowclk nlines : Int) - t.db

/-- S_min (R157), none when ON ≤ 0. -/
def TimSet.sMin (t : TimSet) (nlines : Nat) : Option Nat :=
  if t.onClk nlines ≤ 0 then none else some (ceilDiv 65535 ((t.onClk nlines).toNat * t.gmul))

/-- S (R157). -/
def TimSet.segments (t : TimSet) (nlines : Nat) : Nat := Nat.max t.seg ((t.sMin nlines).getD 1)

/-- The PLL_SCAN ratio M (R155). -/
def TimSet.ratio (t : TimSet) (nlines : Nat) : Nat := t.cyc * nlines * t.rowclk nlines

/-- Row periods per frame. -/
def TimSet.rows (t : TimSet) (nlines : Nat) : Nat := t.cyc * nlines

/-! ## Layers in a register file -/

/-- A size of 1 to 4,096: 0 acts as 1, larger values act as 4,096 (R79, R85). -/
def size4096 (v : Nat) : Nat := if v = 0 then 1 else Nat.min v 4096

/-- SRC_W. -/
def srcW (r : Tab Word) (n : Nat) : Nat := size4096 (regFld r (F.LAY_x_SRCWH_SRC_W n))
/-- SRC_H. -/
def srcH (r : Tab Word) (n : Nat) : Nat := size4096 (regFld r (F.LAY_x_SRCWH_SRC_H n))
/-- The destination width; for G0 to G3 the crop width (R82). -/
def dstW (r : Tab Word) (n : Nat) : Nat := if n < 4 then size4096 (regFld r (F.LAY_x_DSTWH_DST_W n)) else srcW r n
/-- The destination height; for G0 to G3 the crop height (R82). -/
def dstH (r : Tab Word) (n : Nat) : Nat := if n < 4 then size4096 (regFld r (F.LAY_x_DSTWH_DST_H n)) else srcH r n
/-- DST_X. -/
def dstX (r : Tab Word) (n : Nat) : Int := signed 13 (regFld r (F.LAY_x_DSTXY_DST_X n))
/-- DST_Y. -/
def dstY (r : Tab Word) (n : Nat) : Int := signed 13 (regFld r (F.LAY_x_DSTXY_DST_Y n))

/-- W_b × H_b and the first destination row: the layer's rectangle clipped to the band of an isle (R62). -/
def bandRect (r : Tab Word) (n isle : Nat) : Nat × Nat × Nat :=
  let x0 := clampI 0 1024 (dstX r n)
  let x1 := clampI 0 1024 (dstX r n + dstW r n)
  let top : Int := 128 * isle
  let y0 := clampI top (top + 128) (dstY r n)
  let y1 := clampI top (top + 128) (dstY r n + dstH r n)
  if x0 < x1 ∧ y0 < y1 then ((x1 - x0).toNat, (y1 - y0).toNat, (y0 - dstY r n).toNat) else (0, 0, 0)

/-- R_b: the source rows delivered to the band (R62, R87). -/
def bandRows (r : Tab Word) (n isle : Nat) (vscl : Bool) : Nat :=
  let (w, h, _) := bandRect r n isle
  if w = 0 then 0 else if vscl then ceilDiv (h * srcH r n) (dstH r n) + 5 else h

/-- Twice the bytes per pixel of a surface format (R80); 12 for a reserved code. -/
def bytes2 (fmt : Nat) : Nat := [6, 8, 12, 5, 8, 2].getD fmt 12

/-- Whether a layer's kind allows a format (R80). -/
def fmtAllowed (n fmt : Nat) : Bool :=
  if n < 4 then decide (fmt ≤ 4) else fmt == 0 || fmt == 1 || fmt == 5

/-- The format that a layer's source has: its own for a host surface, the slot's for a slot (R83). -/
def srcFormat (r : Tab Word) (n : Nat) : Nat :=
  let src := regFld r (F.LAY_x_CTRL_SRC n)
  if src < 8 then regFld r (F.LAY_Wm_CTRL_FORMAT src) else regFld r (F.LAY_x_CTRL_FORMAT n)

/-- The layer at a position of a feed's stack, if a layer stands there (R101). -/
def stackAt (r : Tab Word) (k i : Nat) : Option Nat :=
  let v := regFld r (F.LAY_Fk_STACK_ORDER k) / 16 ^ i % 16
  if v < 8 then some v else none

/-- The layers of a feed's stack, bottom first. -/
def stackLayers (r : Tab Word) (k : Nat) : List Nat := (List.range 8).filterMap (stackAt r k)

/-- The decimation D of a feed's writeback (R108). -/
def wbDec (r : Tab Word) (k : Nat) : Nat := 2 ^ regFld r (F.LAY_Fk_WBCTRL_DEC k)

end Sys2Proof.Machine
end

