-- ==== Sys2Proof/Machine/Admission.lean ====
section
/-! DEFINITION. Admission (R60 to R69, R114 to R123, R197, R211 to R213, R243): the first check that fails, with its
item, as a function of the sections and registers that the change would put in force. -/

namespace Sys2Proof.Machine

/-! ## Exact fractions: a pair (numerator, denominator) with a positive denominator -/

/-- Sum. -/
def frAdd (a b : Nat × Nat) : Nat × Nat := (a.1 * b.2 + b.1 * a.2, a.2 * b.2)
/-- Product. -/
def frMul (a b : Nat × Nat) : Nat × Nat := (a.1 * b.1, a.2 * b.2)
/-- At most. -/
def frLe (a b : Nat × Nat) : Bool := decide (a.1 * b.2 ≤ b.1 * a.2)
/-- Sum of a list. -/
def frSum (l : List (Nat × Nat)) : Nat × Nat := l.foldl frAdd (0, 1)

/-- A finding: reason code and item; `none` where the check passes. -/
abbrev Finding := Option (Nat × Nat)

/-- The first finding of a list of checks. -/
def firstOf (l : List Finding) : Finding := l.findSome? id

/-- What admission looks at: sections and registers as they would be in force, and what the device is. -/
structure Candidate where
  secs : Secs
  regs : Tab Word
  trained : Nat
  density : Nat
  populated : Nat
deriving DecidableEq, Repr

/-- The timing set that the change would put in force (R60). -/
def Candidate.tsel (c : Candidate) : Nat := regFld c.regs F.TIM_CTRL_TSEL

/-- Its values. -/
def Candidate.tim (c : Candidate) : TimSet := timSet c.regs c.tsel

/-! ## Reason 0x10 (R45, R114 to R123) -/

/-- COEF_BYTES by kind (R115, R122). -/
def coefBytes (kind : Nat) : Nat := [800, 608, 32, 32, 16, 224, 32, 64, 16, 0].getD kind 0

/-- The length of a kind's parameter block (R118, R123). -/
def paramBytes (kind : Nat) : Nat := if kind < 4 then 128 else if kind < 9 then 64 else 0

/-- Whether two contexts belong to one stream: the same isle and feed, and the same layer where both name one (R45). -/
def sameStream (a b : Ctx) : Bool :=
  a.isle == b.isle && a.feed == b.feed && (!(a.layerValid && b.layerValid) || a.layer == b.layer)

/-- The context with the lowest number of a list. -/
def lowestCtx : List Ctx → Option Ctx
  | [] => none
  | x :: t => match lowestCtx t with
    | none => some x
    | some y => some (if x.ctx ≤ y.ctx then x else y)

/-- Where DEST = 0 leads (R45): the lowest context above the record's own on its bead that serves the same feed. -/
def nextSame (cs : List Ctx) (x : Ctx) : Option Ctx :=
  lowestCtx (cs.filter fun y => y.beadIdx == x.beadIdx && decide (x.ctx < y.ctx) && y.feed == x.feed)

/-- Where DEST = 1 leads: the contexts of the stream on the next bead that hosts one; beads without one pass the pixels
on (R20, R22). `fuel` counts the beads left; the list is empty where no bead that follows hosts one. -/
def nextBead (c : Secs) (cs : List Ctx) (x : Ctx) : Nat → Nat → Nat → List Ctx
  | 0, _, _ => []
  | fuel + 1, strand, bead =>
    let step : Option (Nat × Nat) :=
      if bead < 7 then some (strand, bead + 1)
      else if Secs.series c x.isle strand && decide (strand < 3) then some (strand + 1, 0) else none
    match step with
    | none => []
    | some (st, bd) =>
      match cs.filter fun y => sameStream x y && y.strand == st && y.bead == bd with
      | [] => nextBead c cs x fuel st bd
      | l => l

/-- Whether there is a bead after a context's own: the next one of its strand, or B0 of the next strand in series. -/
def beadFollows (c : Secs) (x : Ctx) : Bool :=
  decide (x.bead < 7) || (Secs.series c x.isle x.strand && decide (x.strand < 3))

/-- Whether a context's output may only go to one kind (R114): HSCL writes into its layer's VSCL where the feed has one
in the isle, and PLUT reaches the feed's KEYB bead where it has KEYB contexts. [log 115] -/
def mustReach (cs : List Ctx) (x : Ctx) : Option Nat :=
  if x.kind = 0 ∧ hasCtx cs x.isle x.feed 1 (some x.layer) = true then some 1
  else if x.kind = 2 ∧ hasCtx cs x.isle x.feed 3 none = true then some 3
  else none

/-- Whether a context of the stream may take another's output (R14, R114): a later stage, and the one that R114 names. -/
def mayTake (cs : List Ctx) (x y : Ctx) : Bool :=
  decide (x.kind < y.kind) && (!(x.layerValid && y.layerValid) || x.layer == y.layer) &&
    match mustReach cs x with
    | some k => y.kind == k
    | none => true

/-- Whether a context's output goes on as its DEST says (R14, R21, R22, R45, R114): the next bead that hosts its stream,
or the strand it writes into, hosts a context that may take it. The manual is silent on a path that meets no context of
its stream; the model lets DEST = 1 pass only empty beads, which R25 then judges, unless R114 names a stage that it must
reach, and refuses DEST = 2 to a strand without one. [log 115, 148] -/
def destOk (c : Secs) (cs : List Ctx) (x : Ctx) : Bool :=
  let onward : Bool := beadFollows c x && match nextBead c cs x 32 x.strand x.bead with
    | [] => (mustReach cs x).isNone
    | l => l.any (mayTake cs x)
  match x.dest with
  | 0 => match nextSame cs x with
    | some y => mayTake cs x y
    | none => false
  | 1 => onward
  | 2 => decide (x.strand ≤ x.tgt) && cs.any fun y => sameStream x y && y.strand == x.tgt && mayTake cs x y
  | _ => x.kind == 9 || (x.kind == 4 && onward)

/-- Whether two contexts must carry the same PARAM_OFF (R119, R123). -/
def shareParam (a b : Ctx) : Bool :=
  (decide (a.kind < 4) && decide (b.kind < 4) && a.layer == b.layer) ||
  (a.kind == b.kind && ((a.kind == 6) || (a.feed == b.feed && decide (4 ≤ a.kind) && decide (a.kind < 9))))

/-- The rules that one record must keep; `i` is its index. [log 148] -/
def ctxOk (c : Secs) (cs : List Ctx) (stageLen i : Nat) (x : Ctx) : Bool :=
  let earlier := cs.take i
  !(earlier.any fun y => y.beadIdx == x.beadIdx && y.ctx == x.ctx) &&
  decide (x.kind ≤ 9) && (x.layerValid == decide (x.kind ≤ 3)) &&
  x.spare == 0 && (x.tgt == 0 || x.dest == 2) &&
  (decide (2 ≤ x.kind) || decide (x.layer ≤ 3)) &&
  (x.kind != 9 || x.dest == 3) && destOk c cs x &&
  (x.kind != 0 || x.dest == 2 || x.dest == 0 || !hasCtx cs x.isle x.feed 1 (some x.layer)) &&
  x.coef == coefBytes x.kind &&
  (x.kind != 3 || !(earlier.any fun y => y.kind == 3 && y.isle == x.isle && y.feed == x.feed && y.beadIdx != x.beadIdx)) &&
  (if x.kind == 9 then x.param == 0
   else decide (16 ≤ x.param) && decide (16 * x.param + paramBytes x.kind ≤ stageLen)) &&
  !(earlier.any fun y => shareParam x y && y.param != x.param)

/-- Check 0x10. [log 114, 115] -/
def checkTopo (c : Secs) : Finding :=
  let mode (i : Nat) : Nat := byteOf (Secs.get c 1 0) i
  match (List.range 32).find? fun i => decide (2 ≤ mode i) || (i % 4 == 3 && mode i % 2 == 1) with
  | some i => some (0x10, 0x10000 + i)
  | none =>
    let cs := Secs.ctxs c
    match (List.range cs.length).find? fun i => match cs[i]? with
      | some x => !ctxOk c cs (Secs.get c 2 0).length i x
      | none => false with
    | some i => some (0x10, i)
    | none => none

/-! ## Reason 0x11 (R25, R101, R102) -/

/-- The (KIND, LAYER) pairs of a feed in an isle, as numbers. -/
def pairsIn (cs : List Ctx) (isle feed : Nat) : List Nat :=
  below 160 fun p => cs.any fun x => x.isle == isle && x.feed == feed && x.kind * 16 + (if x.layerValid then x.layer else 8) == p

/-- Whether an isle's pipeline of a feed is complete (R25). -/
def completeIn (cs : List Ctx) (isle feed : Nat) : Bool :=
  let mine := pairsIn cs isle feed
  mine.contains (8 * 16 + 8) && mine.contains (9 * 16 + 8) &&
  (List.range 8).all fun i => (pairsIn cs i feed).all mine.contains

/-- Whether a feed's stack is as R101 and R102 ask. [log 113] -/
def stackOk (cs : List Ctx) (r : Tab Word) (k : Nat) : Bool :=
  let order := regFld r (F.LAY_Fk_STACK_ORDER k)
  let keyb := below 8 fun l => cs.any fun x => x.feed == k && x.kind == 3 && x.layer == l
  if keyb.isEmpty then
    decide (order % 16 < 8) && order / 16 == 0xFFFFFFF &&
    cs.all fun x => x.feed != k || decide (3 ≤ x.kind) || x.layer == order % 16
  else
    let n := keyb.length
    let named := (List.range n).map fun i => order / 16 ^ i % 16
    ((List.range 8).all fun i => decide (i < n) || order / 16 ^ i % 16 == 15) &&
    keyb.all named.contains

/-- Check 0x11. [log 113, 115] -/
def checkPipelines (c : Candidate) : Finding :=
  let cs := Secs.ctxs c.secs
  let feeds := c.tim.feeds
  match (List.range 32).find? fun i => feeds.contains (i % 4) && !completeIn cs (i / 4) (i % 4) with
  | some i => some (0x11, i)
  | none =>
    match feeds.find? fun k => !stackOk cs c.regs k with
    | some k => some (0x11, k)
    | none =>
      if (List.range 64).any fun p => decide (0 < Secs.nic c.secs p) && decide (0 < Secs.portHz c.secs p) then none
      else some (0x11, 0x100)

/-! ## Reasons 0x12 and 0x13 (R63, R116, R117, R122) -/

/-- Check 0x12. -/
def checkCoef (cs : List Ctx) : Finding :=
  ((List.range 256).find? fun b => decide (2048 < sumN ((cs.filter fun x => x.beadIdx == b).map (·.coef)))).map fun b => (0x12, b)

/-- W_b of a context's layer in its isle (R116). -/
def ctxWidth (r : Tab Word) (x : Ctx) : Nat := if x.kind < 3 then (bandRect r x.layer x.isle).1 else 1024

/-- Whether a context works on a layer's pixels: it names the layer, or it serves a feed without KEYB contexts that shows
the layer (R102). -/
def worksOn (cs : List Ctx) (r : Tab Word) (layer : Nat) (x : Ctx) : Bool :=
  (x.layerValid && x.layer == layer) ||
  (!x.layerValid && !(cs.any fun y => y.feed == x.feed && y.kind == 3) &&
    regFld r (F.LAY_Fk_STACK_ORDER x.feed) == 0xFFFFFFF0 + layer)

/-- The first context of a layer in an isle, in the order of R14. [log 148] -/
def firstCtx (cs : List Ctx) (r : Tab Word) (isle layer : Nat) : Option Ctx :=
  let l := cs.filter fun x => x.isle == isle && worksOn cs r layer x
  (List.range 10).findSome? fun k => l.find? fun x => x.kind == k

/-- The line memory charged to a strand (R116, R122). [log 114] -/
def lineMemory (cs : List Ctx) (r : Tab Word) (isle strand : Nat) : Nat :=
  let here (x : Ctx) : Bool := x.isle == isle && x.strand == strand
  let own (x : Ctx) : Nat :=
    if here x then
      (if x.kind = 0 then 8192 else 0) + (if x.kind = 1 then 6 * ctxWidth r x * 8 else 0) +
      (if x.kind = 5 then 28672 else 0) +
      (if x.dest = 0 ∧ ¬(x.kind = 0 ∧ hasCtx cs isle x.feed 1 (some x.layer) = true) then ctxWidth r x * 8 else 0)
    else 0
  let into (x : Ctx) : Nat := if x.isle = isle ∧ x.dest = 2 ∧ x.tgt = strand then 2 * ctxWidth r x * 8 else 0
  let rows := (List.range 8).map fun l => match firstCtx cs r isle l with
    | some x => if x.strand = strand ∧ !(cs.any fun y => y.isle == isle && y.kind == 0 && y.layer == l)
        then 2 * (bandRect r l isle).1 * 8 else 0
    | none => 0
  let keyb := (List.range 4).map fun k => if cs.any fun x => here x && x.kind == 3 && x.feed == k then 16384 else 0
  sumN (cs.map own) + sumN (cs.map into) + sumN rows + sumN keyb

/-- The table memory of a strand (R117, R122). -/
def tableMemory (cs : List Ctx) (isle strand : Nat) : Nat :=
  let has (p : Ctx → Bool) : Bool := cs.any fun x => x.isle == isle && x.strand == strand && p x
  6144 * (below 8 fun l => has fun x => x.kind == 2 && x.layer == l).length +
  27648 * (below 4 fun k => has fun x => x.kind == 4 && x.feed == k).length +
  (if has fun x => x.kind == 6 then 3840 else 0)

/-- Check 0x13. -/
def checkLineMem (cs : List Ctx) (r : Tab Word) : Finding :=
  ((List.range 32).find? fun i => decide (65536 < lineMemory cs r (i / 4) (i % 4)) ||
    decide (40960 < tableMemory cs (i / 4) (i % 4))).map fun i => (0x13, i)

/-! ## Reason 0x30 (R61, R157, R197) -/

/-- Whether two slots overlap (R159): some row period lies in both. A slot of length 0 covers no row period, so it
overlaps none. [log 114] -/
def slotsOverlap (t : TimSet) (a b : Nat) : Bool :=
  decide (0 < t.lenOf a) && decide (0 < t.lenOf b) &&
  decide (t.ofsOf a < t.ofsOf b + t.lenOf b) && decide (t.ofsOf b < t.ofsOf a + t.lenOf a)

/-- The dead band against R197: DB / f_GCLK ≥ 4 / f_DCLK + 16 ns, or 56 ns with glints, GCLK raised by 2.05 %. -/
def deadBandOk (c : Candidate) : Bool :=
  let t := c.tim
  let n := Secs.nlines c.secs
  let ns := if regFld c.regs F.CHN_CTRL_GLINT_EN = 1 then 56 else 16
  (List.range 2).all fun die =>
    let f := dclkHz (Secs.rateCode c.secs die)
    let used := (List.range 32).any fun i => decide (0 < Secs.nic c.secs (32 * die + i))
    f == 0 || !used ||
    -- DB * 10^4 * frDen / (M * frNum * 10205) ≥ (4 * 10^9 + ns * f) / (f * 10^9)
    decide ((4 * 10 ^ 9 + ns * f) * (t.ratio n * t.frNum * 10205) ≤ t.db * 10000 * t.frDen * (f * 10 ^ 9))

/-- Check 0x30. [log 114] -/
def checkTiming (c : Candidate) : Finding :=
  let t := c.tim
  let n := Secs.nlines c.secs
  let at_ (k : Nat) : Finding := some (0x30, 4 * c.tsel + k)
  let fs := t.feeds
  let num := t.frNum
  let den := t.frDen
  if den = 0 ∨ num * 1000 < 23976 * den ∨ 240 * den < num then at_ 0
  else if num * t.cyc < 3840 * den ∨ 30720 * den < num * t.cyc then at_ 0
  else if 480 * den < fs.length * num then at_ 0
  else match fs.find? fun k => t.ofsOf k % n != 0 || t.lenOf k % n != 0 with
  | some k => at_ k
  | none => match fs.find? fun k => fs.any (fun j => j != k && slotsOverlap t k j) ||
      decide (t.rows n < t.ofsOf k + t.lenOf k) with
    | some k => at_ k
    | none => match t.sMin n with
      | none => at_ 0
      | some m => if 64 < m then at_ 0 else if deadBandOk c then none else at_ 0

/-! ## Rates: reasons 0x20 to 0x25 -/

/-- D_k,i in seconds (R62) as a fraction, or none where the isle has no port that counts. -/
def isleShift (c : Secs) (isle : Nat) : Option (Nat × Nat) :=
  let l := (List.range 8).filterMap fun j =>
    let p := 8 * isle + j
    if 0 < Secs.nic c p ∧ 0 < Secs.portHz c p then some (Secs.nic c p * 768 * Secs.nlines c, 4 * Secs.portHz c p) else none
  l.foldl (fun m d => match m with
    | none => some d
    | some x => some (if frLe x d then d else x)) none

/-- D_k, the smallest D_k,i (R62, R64). -/
def deviceShift (c : Secs) : Nat × Nat :=
  ((List.range 8).filterMap (isleShift c)).foldl (fun m d => if m.1 = 0 then d else if frLe d m then d else m) (0, 1)

/-- The shift time that counts for an isle (R62). -/
def shiftTime (c : Secs) (isle : Nat) : Nat × Nat := (isleShift c isle).getD (deviceShift c)

/-- The bead clock of a die in Hz, times 3 (R364). -/
def beadHz3 (r : Tab Word) (die : Nat) : Nat :=
  let b := if die = 0 then regFld r F.CLK_ENG_BDIV_E0 else regFld r F.CLK_ENG_BDIV_E1
  2400000000 / [2, 3, 4, 6].getD b 2

/-- N × cycles per pixel of a context, as a fraction (R62). -/
def ctxCycles (cs : List Ctx) (r : Tab Word) (x : Ctx) : Nat × Nat :=
  let (w, h, _) := bandRect r x.layer x.isle
  let vscl := hasCtx cs x.isle x.feed 1 (some x.layer)
  match x.kind with
  | 0 => if dstW r x.layer < srcW r x.layer
      then (w * bandRows r x.layer x.isle vscl * srcW r x.layer, dstW r x.layer)
      else (w * bandRows r x.layer x.isle vscl, 1)
  | 1 | 2 | 3 => (w * h, 1)
  | 5 => (262144, 1)
  | _ => (131072, 1)

/-- The occupancy of a bead as a fraction (R18, R62). [log 113] -/
def occupancy (c : Candidate) (cs : List Ctx) (b : Nat) : Nat × Nat :=
  let d := shiftTime c.secs (b / 32)
  let cyc := frSum ((cs.filter fun x => x.beadIdx == b).map (ctxCycles cs c.regs))
  -- cycles / D / clock
  (cyc.1 * d.2 * 3, cyc.2 * d.1 * beadHz3 c.regs (b / 128))

/-- Check 0x20. -/
def checkOccupancy (c : Candidate) : Finding :=
  let cs := Secs.ctxs c.secs
  ((List.range 256).find? fun b => !frLe (occupancy c cs b) (9, 10)).map fun b => (0x20, b)

/-- CFG_OCC_MAX: 256 × the highest occupancy in 1/1024 rounded down, plus the bead (R59). -/
def occMax (c : Candidate) : Nat :=
  let cs := Secs.ctxs c.secs
  let best := (List.range 256).foldl (fun (m : (Nat × Nat) × Nat) b =>
    let o := occupancy c cs b
    if frLe o m.1 then m else (o, b)) ((0, 1), 0)
  256 * (1024 * best.1.1 / best.1.2) + best.2

/-- The layers that a feed shows. -/
def feedLayers (r : Tab Word) (k : Nat) : List Nat := stackLayers r k

/-- Twice the fetched bytes of a feed in an isle (R64). -/
def fetchBytes2 (cs : List Ctx) (r : Tab Word) (k isle : Nat) : Nat :=
  sumN ((feedLayers r k).map fun l =>
    let src := regFld r (F.LAY_x_CTRL_SRC l)
    let hscl := hasCtx cs isle k 0 (some l)
    let vscl := hasCtx cs isle k 1 (some l)
    let (w, _, _) := bandRect r l isle
    let fmt := srcFormat r l
    let per := if fmtAllowed l fmt then bytes2 fmt else 12
    let cols := if hscl then ceilDiv (w * srcW r l) (dstW r l) else w
    if 8 < src then 0 else bandRows r l isle vscl * cols * per)

/-- Whether a feed contains FACET. -/
def hasFacet (cs : List Ctx) (k : Nat) : Bool := cs.any fun x => x.feed == k && x.kind == 5

/-- Whether a feed has a writeback that captures (R107). -/
def hasWriteback (cs : List Ctx) (r : Tab Word) (k : Nat) : Bool :=
  regFld r (F.LAY_Fk_WBCTRL_EN k) == 1 && cs.any fun x => x.feed == k && x.kind == 4 && x.dest == 3

/-- The writeback bytes of a bank load of a feed. -/
def wbBytes (cs : List Ctx) (r : Tab Word) (k : Nat) : Nat :=
  if hasWriteback cs r k then (1024 / wbDec r k) ^ 2 * 4 else 0

/-- Twice B_k (R64). -/
def feedBytes2 (cs : List Ctx) (r : Tab Word) (k : Nat) : Nat :=
  sumN ((List.range 8).map (fetchBytes2 cs r k)) + (if hasFacet cs k then 2 * 14680064 else 0) + 2 * wbBytes cs r k

/-- Whether a feed's monitor stream is charged. -/
def monCharged (r : Tab Word) (k : Nat) : Bool :=
  regFld r (F.LAY_Fk_WBCTRL_EN k) == 1 && regFld r (F.LAY_Fk_WBCTRL_MON_EN k) == 1

/-- Twice the bytes per frame of the average traffic A (R64). -/
def averageBytes2 (c : Candidate) : Nat :=
  let r := c.regs
  let slots := (below 8 fun m => regFld r (F.LAY_Wm_CTRL_EN m) == 1).map fun m =>
    size4096 (regFld r (F.LAY_Wm_SIZE_WIDTH m)) * size4096 (regFld r (F.LAY_Wm_SIZE_HEIGHT m)) *
      bytes2 (regFld r (F.LAY_Wm_CTRL_FORMAT m))
  let mons := (below 4 (monCharged r)).map fun k => 2 * ((1024 / wbDec r k) ^ 2 * 4)
  sumN slots + sumN mons + 2 * leAt (Secs.get c.secs 8 0) 12 4

/-- Transfers per second by rate code (R240). -/
def dramRate (code : Nat) : Nat := [1600, 1866, 2133, 2400, 2667, 3200, 3733, 4266].getD code 0 * 1000000

/-- The first breach of R243 in a DRAM section: its byte offset. -/
def dramBreach (c : Candidate) : Option Nat :=
  let d := Secs.get c.secs 8 0
  let b (i : Nat) : Nat := byteOf d i
  let rank (i : Nat) : Nat := b (4 + i) % 8
  let ready (r : Nat) : Bool := c.populated / 2 ^ r % 2 == 1 && c.trained / 2 ^ r % 2 == 1
  let posBad (i : Nat) : Bool :=
    decide (8 ≤ b (4 + i)) || (decide (4 ≤ rank i) && rank i != 7) ||
    (decide (i < 2) && rank i == 7) || (i == 3 && rank 3 != 7 && rank 2 == 7) ||
    (rank i != 7 && (!ready (rank i) || (List.range i).any fun j => rank j == rank i))
  let tests : List (Nat × Bool) := [
    (0, decide (8 ≤ b 0)),
    (1, decide (3 ≤ b 1) || b 1 != c.density),
    (2, decide (16 ≤ b 2) || b 2 != c.populated),
    (3, decide (3 ≤ b 3)),
    (4, posBad 0), (5, posBad 1), (6, posBad 2), (7, posBad 3),
    (8, b 8 / 4 % 32 != 0 || (decide (128 ≤ b 8) &&
      (!ready (b 8 % 4) || (List.range 4).any fun i => rank i == b 8 % 4))),
    (9, b 9 != 0 && (decide (b 9 < 50) || decide (80 < b 9))),
    (10, decide (b 10 < 2) || decide (32 < b 10)),
    (11, decide (31 < b 11) || decide (b 10 ≤ b 11)),
    (24, decide (4 ≤ b 24))]
  match tests.find? (·.2) with
  | some t => some t.1
  | none => (List.range 36).findSome? fun i => if b (28 + i) = 0 then none else some (28 + i)

/-- Check 0x21 (R243 first, then R64). With no active feed no bank load moves bytes, and ITEM of a failure by the average
traffic alone is 0. [log 114] -/
def checkDram (c : Candidate) : Finding :=
  match dramBreach c with
  | some o => some (0x21, 0x100 + o)
  | none =>
    let cs := Secs.ctxs c.secs
    let d := deviceShift c.secs
    let t := c.tim
    let burst (k : Nat) : Nat := feedBytes2 cs c.regs k
    let top := t.feeds.foldl (fun m k => if burst m < burst k then k else m) (t.feeds.headD 0)
    let most := maxN (t.feeds.map burst)
    let eff := let e := byteOf (Secs.get c.secs 8 0) 9; if e = 0 then 70 else e
    let rate := dramRate (byteOf (Secs.get c.secs 8 0) 0 % 8)
    let need := frAdd (most * d.2, 2 * d.1) (averageBytes2 c * t.frNum, 2 * t.frDen)
    if frLe (frMul need (9, 8)) (eff * 8 * rate, 100) then none else some (0x21, top)

/-- Check 0x22 (R65). -/
def checkStrait (c : Candidate) : Finding :=
  let cs := Secs.ctxs c.secs
  let d := deviceShift c.secs
  let down (k e : Nat) : Nat :=
    sumN ((List.range 4).map fun i => fetchBytes2 cs c.regs k (4 * e + i)) + (if hasFacet cs k then 14680064 else 0)
  let up (k : Nat) : Nat := wbBytes cs c.regs k
  let load (i : Nat) : Nat := maxN (c.tim.feeds.map fun k => if i % 2 = 0 then down k (i / 2) else up k)
  ((List.range 4).find? fun i =>
    !frLe (frAdd (load i * d.2, 2 * d.1) (256000000, 1)) (23040000000, 1)).map fun i => (0x22, i)

/-- The port that a PIXMAP entry names, or 64 + isle (R212). -/
def itemPort (c : Secs) (isle group slot : Nat) : Nat := (Secs.portOf c isle group slot).getD (64 + isle)

/-- The ports of an isle that have drivers. -/
def isleUsed (c : Secs) (isle : Nat) : List Nat :=
  ((List.range 8).map (8 * isle + ·)).filter fun p => decide (0 < Secs.nic c p)

/-- The groups that valid row entries of an isle name. -/
def mapGroups (c : Secs) (isle : Nat) : List Nat :=
  let named := (List.range 128).map (Secs.rowEntry c isle)
  below 8 fun g => named.any fun e => e.1 && e.2.1 == g

/-- The slots that valid column entries of an isle name. -/
def mapSlots (c : Secs) (isle : Nat) : List Nat :=
  let named := (List.range 3072).map fun j => Secs.colEntry c isle (j / 3) (j % 3)
  below 8 fun t => named.any fun e => e.1 && e.2.1 == t

/-- A valid row entry that names no port, or a LINE at or above NLINES (R212): every valid column gives it a slot. The
entry carries GROUP only; ITEM is the lowest port that it and a valid column name. [log 114] -/
def rowBreach (c : Secs) (isle : Nat) : Option Nat :=
  let slots := mapSlots c isle
  (List.range 128).findSome? fun r =>
    let e := Secs.rowEntry c isle r
    let g := e.2.1
    if !e.1 then none
    else if (slots.any fun t => itemPort c isle g t == 64 + isle) || !((isleUsed c isle).any fun p => Secs.group c p == g)
    then some (64 + isle)
    else if Secs.nlines c ≤ e.2.2 then (isleUsed c isle).find? fun p => Secs.group c p == g
    else none

/-- A valid column entry that names no port, a driver at or above its NIC, or a channel above 47 (R212): every valid row
gives it a group. The entry carries SLOT only; ITEM is the lowest port that it and a valid row name. [log 114] -/
def colBreach (c : Secs) (isle : Nat) : Option Nat :=
  let groups := mapGroups c isle
  let used := isleUsed c isle
  (List.range 3072).findSome? fun j =>
    let e := Secs.colEntry c isle (j / 3) (j % 3)
    let t := e.2.1
    let here := used.filter fun p => Secs.slot c p == t && (groups.contains (Secs.group c p) || groups.isEmpty)
    if !e.1 then none
    else if here.isEmpty then some (64 + isle)
    else match here.find? fun p => decide (Secs.nic c p ≤ e.2.2.1) with
      | some p => some p
      | none => if 47 < e.2.2.2 then here.head? else none

/-- Two subpixels of one position (R212): two valid columns that name the same slot, driver and channel. Two rows of one
line are found by the rule on the rows of a port. [log 114] -/
def twiceBreach (c : Secs) (isle : Nat) : Option Nat :=
  (List.range 3072).findSome? fun j =>
    let e := Secs.colEntry c isle (j / 3) (j % 3)
    if e.1 ∧ (List.range j).any (fun m => Secs.colEntry c isle (m / 3) (m % 3) == e) then
      (isleUsed c isle).find? fun p => Secs.slot c p == e.2.1
    else none

/-- A port that does not receive exactly NLINES valid rows, one for each line (R212). -/
def rowsBreach (c : Secs) (isle : Nat) : Option Nat :=
  let n := Secs.nlines c
  (isleUsed c isle).find? fun p =>
    let lines := (Secs.portRows c p).map fun r => (Secs.rowEntry c isle r).2.2
    lines.length != n || !((List.range n).all lines.contains)

/-- A port whose rows break the balance of R213. -/
def balanceBreach (c : Secs) (isle : Nat) : Option Nat :=
  let n := Secs.nlines c
  (isleUsed c isle).find? fun p =>
    let rows := Secs.portRows c p
    !(List.range n).all fun j =>
      let r := rows.getD j 0
      decide (128 * j / n ≤ r) && decide (r < 128 * (j + 1) / n)

/-- A port with the GROUP and SLOT of a lower one of its isle (R212). [log 114] -/
def twinPort (c : Secs) (p : Nat) : Bool :=
  (isleUsed c (p / 8)).contains p && (isleUsed c (p / 8)).any fun q =>
    decide (q < p) && Secs.group c q == Secs.group c p && Secs.slot c q == Secs.slot c p

/-- The first breach of R212 and R213 in CHAIN and PIXMAP. The manual gives no order among the rules of R212; the model
tries them in the order in which R212 lists them, the rule on entries for the rows of an isle before its columns, each
rule for all isles from I0 on. Of two ports that share GROUP and SLOT, ITEM is the first that repeats a lower one. [log 114] -/
def checkMap (c : Secs) : Option Nat :=
  let isles (f : Nat → Option Nat) : Option Nat := (List.range 8).findSome? f
  firstSome [
    if dclkHz (Secs.rateCode c 0) == 0 then some 0 else none,
    if dclkHz (Secs.rateCode c 1) == 0 then some 32 else none,
    (List.range 64).find? fun p => decide (32 < Secs.nic c p),
    (List.range 64).find? (twinPort c),
    isles fun i => match rowBreach c i with
      | some x => some x
      | none => colBreach c i,
    isles (twiceBreach c),
    isles (rowsBreach c),
    isles (balanceBreach c)]
where
  firstSome : List (Option Nat) → Option Nat
    | [] => none
    | some x :: _ => some x
    | none :: t => firstSome t

/-- D′ of a port in DCLK periods: shift time and the BWR of each line (R66). -/
def portPeriods (c : Secs) (p : Nat) : Nat := Secs.nic c p * 192 * Secs.nlines c + Secs.nlines c * 24

/-- (0.90 − ρ) of a port as a fraction over DCLK periods of a time, times f_DCLK: the periods allowed in a time of
`num / den` frames (R66). -/
def allowedPeriods (c : Candidate) (p num den : Nat) : Int × Nat :=
  let f := Secs.portHz c.secs p
  let t := c.tim
  let rho := t.frNum * t.cyc * Secs.nlines c.secs * 24
  -- (9/10 - rho/(frDen*f)) * num/den * frDen/frNum * f
  (((9 * t.frDen * f : Nat) - (10 * rho : Nat) : Int) * num, 10 * den * t.frNum)

/-- Check 0x23 (R212, R213, R66). -/
def checkChain (c : Candidate) : Finding :=
  match checkMap c.secs with
  | some p => some (0x23, p)
  | none =>
    let n := c.tim.feeds.length
    ((List.range 64).find? fun p =>
      (let a := allowedPeriods c p 1 1
       decide (a.1 < ((n * portPeriods c.secs p + (64 + n) * 24) * a.2 : Nat)))).map fun p => (0x23, p)

/-- Check 0x24 (R66, R67). -/
def checkWindow (c : Candidate) : Finding :=
  let t := c.tim
  let rows := t.rows (Secs.nlines c.secs)
  let share (k : Nat) : Nat := if t.feeds.length ≤ 2 then rows else rows - t.lenOf k
  ((List.range 256).find? fun i => t.feedOn (i % 4) &&
    (let a := allowedPeriods c (i / 4) (share (i % 4)) rows
     decide (a.1 < (portPeriods c.secs (i / 4) * a.2 : Nat)))).map fun i => (0x24, i)

/-- Bits per pixel on the wire (R284); 36 for a reserved format (R68). -/
def wireBits (fmt : Nat) : Nat := [24, 30, 36, 20, 30, 8].getD fmt 36

/-- The stream rate of an enabled slot, in bits per frame (R68). -/
def slotBits (r : Tab Word) (m : Nat) : Nat :=
  (size4096 (regFld r (F.LAY_Wm_SIZE_WIDTH m)) * wireBits (regFld r (F.LAY_Wm_CTRL_FORMAT m)) + 192) *
    size4096 (regFld r (F.LAY_Wm_SIZE_HEIGHT m))

/-- The traffic of a port in a direction (R68): bits per frame, and units of 10 Mb/s. A slot with PORT = 1 is charged on B's
receive direction only with BMODE 2: with another BMODE, B receives no streams, and the manual does not say where such a
slot is charged. [log 114] -/
def linkTraffic (r : Tab Word) (port dir : Nat) : Nat × Nat :=
  let bmode := regFld r F.LNK_CTRL_BMODE
  let slots := below 8 fun m => regFld r (F.LAY_Wm_CTRL_EN m) == 1
  let sPort (m : Nat) : Nat := regFld r (F.LAY_Wm_CTRL_PORT m)
  let sId (m : Nat) : Nat := regFld r (F.LAY_Wm_CTRL_STREAM_ID m)
  let fwds := below 32 fun i => regFld r (F.LNK_FWDi_VALID i) == 1
  let fId (i : Nat) : Nat := regFld r (F.LNK_FWDi_STREAM_ID i)
  let fRate (i : Nat) : Nat := regFld r (F.LNK_FWDi_RATE i)
  let def_ := regFld r F.LNK_FWD_CTRL_DEF_RATE
  let up := regFld r F.LNK_FWD_CTRL_UP_RATE
  let unfwd := slots.filter fun m => !(fwds.any fun i => fId i == sId m)
  let mon (k : Nat) : Nat := (1024 / wbDec r k * 30 + 192) * (1024 / wbDec r k)
  let mons (p : Nat → Bool) : Nat := sumN (((below 4 (monCharged r)).filter p).map mon)
  let monPort (k : Nat) : Nat := regFld r (F.LAY_Fk_WBCTRL_MON_PORT k)
  let received (mine : Nat → Bool) : Nat × Nat :=
    (sumN ((slots.filter mine).map (slotBits r)),
     sumN ((fwds.filter fun i => !(slots.any fun m => mine m && sId m == fId i)).map fRate) + def_)
  let sent (en : Fld) (deff : Fld) : Nat × Nat :=
    (if regFld r deff = 1 then sumN (unfwd.map (slotBits r)) else 0,
     sumN ((fwds.filter fun i => regFld r ⟨R.LNK_FWDi i, en.msb, en.lsb⟩ == 1).map fRate) +
       (if regFld r deff = 1 then def_ else 0))
  match port, dir with
  | 0, 0 => received fun m => sPort m == 0
  | 0, _ => (mons fun k => monPort k == 0, up)
  | 1, 0 => (0, up)
  | 1, _ => sent (F.LNK_FWDi_FWD_D 0) F.LNK_FWD_CTRL_DEF_D
  | _, 0 => if bmode = 2 then received fun m => decide (sPort m < 2) else if bmode = 1 then (0, up)
      else (0, 0)
  | _, _ => if bmode = 1 then sent (F.LNK_FWDi_FWD_B 0) F.LNK_FWD_CTRL_DEF_B
      else if bmode = 2 then (mons fun _ => true, up) else (0, 0)

/-- Lanes × baud that MAXLANES and MAXRATE allow, in units of 100 kbaud (R270, R303). -/
def linkBaud (r : Tab Word) (p : Nat) : Nat :=
  2 ^ Nat.min 2 (regFld r (F.LNK_Px_CTRL_MAXLANES p)) *
    [25000, 50000, 80000, 100000].getD (regFld r (F.LNK_Px_CTRL_MAXRATE p)) 25000

/-- Check 0x25 (R68). -/
def checkLink (c : Candidate) : Finding :=
  let t := c.tim
  ((List.range 6).find? fun i =>
    let (bits, units) := linkTraffic c.regs (i / 2) (i % 2)
    !frLe (frAdd (bits * t.frNum, t.frDen) (units * 10000000, 1)) (linkBaud c.regs (i / 2) * 100000 * 768, 1000)).map fun i => (0x25, i)

/-- Admission (R60, R69): the checks in order, the first failure. [log 135] -/
def admission (c : Candidate) : Finding :=
  match checkTopo c.secs with
  | some x => some x
  | none => match checkPipelines c with
    | some x => some x
    | none => match checkCoef (Secs.ctxs c.secs) with
      | some x => some x
      | none => match checkLineMem (Secs.ctxs c.secs) c.regs with
        | some x => some x
        | none => match checkTiming c with
          | some x => some x
          | none => match checkOccupancy c with
            | some x => some x
            | none => match checkDram c with
              | some x => some x
              | none => match checkStrait c with
                | some x => some x
                | none => match checkChain c with
                  | some x => some x
                  | none => match checkWindow c with
                    | some x => some x
                    | none => checkLink c

end Sys2Proof.Machine
end

