-- ==== Sys2Proof/Machine/Crypto.lean ====
section
/-! DEFINITION. SHA-256 and ECDSA P-256 verification, as R48 names them; both are given by their public standards
(log entry 9). -/

namespace Sys2Proof.Machine

/-! ## SHA-256 -/

/-- The largest number below 2 ^ `n` whose `deg`-th power is at most `v`, bit by bit from the highest. -/
def rootOf (deg v : Nat) : Nat → Nat → Nat
  | 0, r => r
  | n + 1, r => rootOf deg v n (if (r + 2 ^ n) ^ deg ≤ v then r + 2 ^ n else r)

/-- The primes below 312, of which there are 64. -/
def firstPrimes : List Nat :=
  (List.range 312).filter fun p => decide (2 ≤ p) && (List.range 18).all fun d => decide (d < 2) || d == p || p % d != 0

/-- The first 32 bits behind the point of the `deg`-th root of a prime. -/
def rootWord (deg p : Nat) : Word := BitVec.ofNat 32 (rootOf deg (p * 2 ^ (32 * deg)) 37 0)

/-- The round constants: cube roots of the 64 primes. -/
def shaConstants : List Word := firstPrimes.map (rootWord 3)

/-- The hash value before the first block: square roots of the first eight primes. -/
def shaStart : List Word := (firstPrimes.take 8).map (rootWord 2)

/-- A message in blocks of 16 words: a bit 1, zeros, and the length in bits fill up the last one. -/
def shaBlocks (m : List Byte) : List (List Word) :=
  let fill := List.replicate ((119 - m.length % 64) % 64) (0 : Byte)
  chunks 16 ((chunks 4 (m ++ 0x80 :: fill ++ beBytes 8 (8 * m.length))).map beWord)

/-- The sum of a word turned right by some counts, modulo 2. -/
def turned (x : Word) (by_ : List Nat) : Word := by_.foldl (fun t n => t ^^^ x.rotateRight n) 0

/-- The word that follows a window of sixteen words of the schedule. -/
def nextWord (win : List Word) : Word :=
  let at_ (i : Nat) : Word := win.getD i 0
  at_ 0 + (turned (at_ 1) [7, 18] ^^^ at_ 1 >>> 3) + at_ 9 + (turned (at_ 14) [17, 19] ^^^ at_ 14 >>> 10)

/-- The words `a` to `h` while a block is worked in, with the sixteen words of the schedule that come next. -/
structure ShaWork where
  vars : List Word
  win : List Word
deriving DecidableEq, Repr

/-- One round with its constant: the oldest word of the window is used up, and the window moves on. -/
def ShaWork.round (x : ShaWork) (k : Word) : ShaWork :=
  match x.vars with
  | [a, b, c, d, e, f, g, h] =>
    let chosen := g ^^^ (e &&& (f ^^^ g))
    let most := (a &&& b) ||| (c &&& (a ||| b))
    let t := h + k + x.win.headD 0 + turned e [6, 11, 25] + chosen
    ⟨[t + turned a [2, 13, 22] + most, a, b, c, d + t, e, f, g], x.win.tail ++ [nextWord x.win]⟩
  | _ => x

/-- The hash value after one more block. -/
def shaAbsorb (hash block : List Word) : List Word :=
  List.zipWith (· + ·) hash (shaConstants.foldl ShaWork.round ⟨hash, block⟩).vars

/-- SHA-256, as a 256-bit number. [log 9] -/
def sha256 (m : List Byte) : Nat :=
  ((shaBlocks m).foldl shaAbsorb shaStart).foldl (fun n w => n * 2 ^ 32 + w.toNat) 0

/-! ## P-256 -/

/-- The field prime. -/
def pPrime : Nat := 0xffffffff00000001000000000000000000000000ffffffffffffffffffffffff
/-- The group order. -/
def pOrder : Nat := 0xffffffff00000000ffffffffffffffffbce6faada7179e84f3b9cac2fc632551
/-- The coefficient b. -/
def pB : Nat := 0x5ac635d8aa3a93e7b3ebbd55769886bc651d06b0cc53b0f63bce3c3e27d2604b
/-- The generator. -/
def pGen : Nat × Nat :=
  (0x6b17d1f2e12c4247f8bce6e563a440f277037d812deb33a0f4a13945d898c296,
   0x4fe342e2fe1a7f9b8ee7eb4a7c0f9e162bce33576b315ececbb6406837bf51f5)

/-- A power modulo m, by the low `fuel` bits of the exponent. -/
def powMod (m : Nat) : Nat → Nat → Nat → Nat
  | 0, _, _ => 1
  | fuel + 1, b, e =>
    let r := powMod m fuel (b * b % m) (e / 2)
    if e % 2 = 1 then r * b % m else r

/-- The inverse modulo a prime. -/
def invMod (m a : Nat) : Nat := powMod m 256 (a % m) (m - 2)

/-- A sum of points; `none` is the point at infinity. -/
def ptAdd (a b : Option (Nat × Nat)) : Option (Nat × Nat) :=
  match a, b with
  | none, q => q
  | p, none => p
  | some (x1, y1), some (x2, y2) =>
    if x1 = x2 ∧ (y1 + y2) % pPrime = 0 then none
    else
      let l := if x1 = x2 then (3 * x1 * x1 + (pPrime - 3)) * invMod pPrime (2 * y1) % pPrime
        else (y2 + pPrime - y1) * invMod pPrime (x2 + pPrime - x1) % pPrime
      let x := (l * l + 2 * pPrime - x1 - x2) % pPrime
      some (x, (l * (x1 + pPrime - x) + pPrime - y1) % pPrime)

/-- A multiple of a point, by the low `fuel` bits of the factor. -/
def ptMul : Nat → Nat → Option (Nat × Nat) → Option (Nat × Nat)
  | 0, _, _ => none
  | fuel + 1, k, p =>
    let r := ptMul fuel (k / 2) (ptAdd p p)
    if k % 2 = 1 then ptAdd r p else r

/-- Whether a point lies on the curve. -/
def onCurve (x y : Nat) : Bool :=
  decide (x < pPrime) && decide (y < pPrime) && y * y % pPrime == (x * x * x + (pPrime - 3) * x + pB) % pPrime

/-- Whether (r, s) is a signature of a hash under a public key. [log 9] -/
def ecdsaVerify (hash x y r s : Nat) : Bool :=
  decide (0 < r) && decide (r < pOrder) && decide (0 < s) && decide (s < pOrder) && onCurve x y &&
  (let w := invMod pOrder s
   match ptAdd (ptMul 256 (hash * w % pOrder) (some pGen)) (ptMul 256 (r * w % pOrder) (some (x, y))) with
   | none => false
   | some (x1, _) => x1 % pOrder == r)

end Sys2Proof.Machine
end

