-- ==== Sys2Proof/Machine/Loader.lean ====
section
/-! DEFINITION. The image loader up to WAIT: load requests, FETCH, CHECK, AUTH, ADMIT (R39 to R69, R354, R468), and the
commit's snapshot (R70, R71). -/

namespace Sys2Proof.Machine

/-! ## Framing of an image (R40 to R43, R468) -/

/-- A directory entry (R41). -/
structure DirEntry where
  type : Nat
  inst : Nat
  zero : Nat
  off : Nat
  len : Nat
  crc : Nat
deriving DecidableEq, Repr

/-- Entry `i` of an image's directory. -/
def dirEntry (img : List Byte) (i : Nat) : DirEntry :=
  let o := leAt img 0x18 4 + 16 * i
  ⟨byteOf img o, byteOf img (o + 1), leAt img (o + 2) 2, leAt img (o + 4) 4, leAt img (o + 8) 4, leAt img (o + 12) 4⟩

/-- SECT_COUNT. -/
def sectCount (img : List Byte) : Nat := leAt img 0x14 2

/-- The directory. -/
def directory (img : List Byte) : List DirEntry := (List.range (sectCount img)).map (dirEntry img)

/-- FLAGS.PARTIAL. -/
def isPartial (img : List Byte) : Bool := byteOf img 15 / 2 % 2 == 1

/-- FLAGS.SIGNED. -/
def isSigned (img : List Byte) : Bool := byteOf img 15 % 2 == 1

/-- A section's bytes. -/
def sectBytes (img : List Byte) (e : DirEntry) : List Byte := (img.drop e.off).take e.len

/-- The sections of an image. -/
def imageSecs (img : List Byte) : Secs :=
  (directory img).foldl (fun t e => Tab.setLst t (16 * e.type + e.inst) (sectBytes img e)) []

/-- Whether every header rule of reason 0x01 holds (R40); `want` is the length that CFG_LOAD_LEN demands, if it does. -/
def headerOk (img : List Byte) (want : Option Nat) (active : Bool) : Bool :=
  let total := leAt img 8 4
  leAt img 0 4 == 0x31424C47 && leAt img 4 2 == 1 && leAt img 6 2 == 0x40 &&
  decide (64 ≤ total) && decide (total ≤ 0x1000000) &&
  (match want with
   | some n => total == n
   | none => true) &&
  decide (byteOf img 15 < 4) && (active || !isPartial img) &&
  decide (1 ≤ sectCount img) && decide (sectCount img ≤ 32) && leAt img 0x16 2 == 0 &&
  (let d := leAt img 0x18 4
   d % 64 == 0 && decide (64 ≤ d) && decide (d + 16 * sectCount img ≤ total)) &&
  ((List.range 28).all fun i => byteOf img (0x20 + i) == 0) &&
  leAt img 0x3C 4 == (crc32c (img.take 60)).toNat

/-- Whether PART and MIN_STEP fit (R40). -/
def partOk (img : List Byte) : Bool := leAt img 12 2 == 0x1048 && decide (byteOf img 14 ≤ 0x20)

/-- The known section types (R42). -/
def knownType (t : Nat) : Bool := (decide (1 ≤ t) && decide (t ≤ 10)) || t == 0xFE

/-- The rules of R41 and R43 for entry `i`. [log 112] -/
def entryOk (img : List Byte) (i : Nat) : Bool :=
  let e := dirEntry img i
  let n := sectCount img
  let total := leAt img 8 4
  let p := dirEntry img (i - 1)
  knownType e.type && e.zero == 0 && (e.inst == 0 || (e.type == 6 && decide (e.inst < 8))) &&
  decide (1 ≤ e.len) && decide (e.off + e.len ≤ total) &&
  (i == 0 || decide (256 * p.type + p.inst < 256 * e.type + e.inst)) &&
  (List.range i).all (fun j =>
    let f := dirEntry img j
    decide (e.off + e.len ≤ f.off) || decide (f.off + f.len ≤ e.off)) &&
  (e.type != 0xFE || (i + 1 == n && e.off + e.len == total &&
    (List.range i).all fun j => decide ((dirEntry img j).off < e.off)))

/-- Whether an entry starts on a 64-byte boundary and clears header and directory (R468). [log 112] -/
def entryPlaced (img : List Byte) (i : Nat) : Bool :=
  let e := dirEntry img i
  let d := leAt img 0x18 4
  e.off % 64 == 0 && decide (64 ≤ e.off) &&
  (decide (e.off + e.len ≤ d) || decide (d + 16 * sectCount img ≤ e.off))

/-- Whether a byte lies in the header, the directory or a section. -/
def covered (img : List Byte) (x : Nat) : Bool :=
  let d := leAt img 0x18 4
  decide (x < 64) || (decide (d ≤ x) && decide (x < d + 16 * sectCount img)) ||
  (directory img).any fun e => decide (e.off ≤ x) && decide (x < e.off + e.len)

/-- The ITEM of a byte between sections (R468). -/
def gapItem (img : List Byte) (x : Nat) : Nat :=
  let above := (List.range (sectCount img)).filter fun i => decide (x < (dirEntry img i).off)
  let low := minN? (above.map fun i => (dirEntry img i).off)
  match low with
  | none => sectCount img
  | some o => (above.find? fun i => (dirEntry img i).off == o).getD (sectCount img)

/-- The types an image must carry (R42). -/
def requiredTypes (img : List Byte) : List Nat :=
  (if isPartial img then [] else [1, 2, 4, 5, 6, 7, 8, 9, 10]) ++ (if isSigned img then [0xFE] else [])

/-- Whether R42 forbids a type in a partial image. -/
def structuralType (t : Nat) : Bool := [1, 4, 5, 7, 8, 9, 10].contains t

/-- The fixed length of a type (R468). -/
def fixedLen (t : Nat) : Option Nat :=
  match t with
  | 4 => some 51200
  | 5 => some 80
  | 6 => some 48
  | 7 => some 528
  | 8 => some 64
  | 9 => some 64
  | 10 => some 32
  | 0xFE => some 128
  | _ => none

/-- Whether TOPO's length and padding are right (R468). -/
def topoFramed (b : List Byte) : Bool :=
  b.length == 48 + 8 * topoCount b && (List.range 14).all fun i => byteOf b (34 + i) == 0

/-- Whether the records of LUTCOEF fill the section exactly (R120, R468); fuel is the length. -/
def lutFramed : Nat → List Byte → Bool
  | 0, b => b.isEmpty
  | fuel + 1, b =>
    if b.isEmpty then true
    else
      let off := leAt b 0 4
      let len := leAt b 4 4
      let pad := (8 - len % 8) % 8
      decide (8 ≤ b.length) && off % 4 == 0 && decide (off < 2 ^ 21) && len % 4 == 0 &&
      decide (8 + len + pad ≤ b.length) && ((slice b (8 + len) pad).all fun x => x == 0) &&
      lutFramed fuel (b.drop (8 + len + pad))

/-- The RW bits of a register (R6); 0 for an address that names none. -/
def rwMask (a : Nat) : Word :=
  match regRow? a with
  | none => 0
  | some r => r.fields.foldl (fun w f => if f.acc == .rw then putBits w f.msb f.lsb (2 ^ 32 - 1) else w) 0

/-- The words that STAGE loads, with the addresses they go to (R118, R123). -/
def stageLoads (stage : List Byte) (cs : List Ctx) : List (Nat × Word) :=
  let words (off n base : Nat) : List (Nat × Word) :=
    (List.range n).map fun i => (base + 4 * i, BitVec.ofNat 32 (leAt stage (off + 4 * i) 4))
  let one (x : Ctx) : List (Nat × Word) :=
    match x.kind with
    | 0 | 1 | 2 | 3 => words (16 * x.param) 32 (0x80000 + 0x80 * x.layer)
    | 4 => words (16 * x.param) 16 (0x80400 + 0x40 * x.feed)
    | 5 => words (16 * x.param) 16 (0x90000 + 0x100 * x.feed)
    | 6 => words (16 * x.param) 16 0x90400
    | 7 => words (16 * x.param) 16 (0x90040 + 0x100 * x.feed)
    | 8 => words (16 * x.param) 16 (0x90080 + 0x100 * x.feed)
    | _ => []
  words 0 64 0x80600 ++ (cs.map one).flatten

/-- The words that a TIMING section loads (R160). -/
def timingLoads (n : Nat) (b : List Byte) : List (Nat × Word) :=
  (List.range 12).map fun i => (0xA0100 + 0x40 * n + 4 * i, BitVec.ofNat 32 (leAt b (4 * i) 4))

/-- Whether every loaded word keeps to RW bits (R468). A word of a parameter block at an offset that names no register has
no RW bit, so the model wants it 0; the manual speaks of the fields of registers only. [log 112] -/
def loadsClean (l : List (Nat × Word)) : Bool := l.all fun x => (x.2 &&& ~~~rwMask x.1) == 0

/-- Whether the bits of a section that must be 0 are 0 (R468). -/
def reservedClean (type inst : Nat) (b : List Byte) (cs : List Ctx) : Bool :=
  match type with
  | 2 => loadsClean (stageLoads b cs)
  | 4 => (List.range 8).all fun i =>
      ((List.range 128).all fun r => leAt b (6400 * i + 2 * r) 2 / 64 % 64 == 0) &&
      (List.range 3072).all fun j => leAt b (6400 * i + 256 + 2 * j) 2 / 2048 % 2 == 0
  | 5 => decide (byteOf b 0 < 64) && ((List.range 15).all fun i => byteOf b (1 + i) == 0) &&
      (List.range 64).all fun i => decide (byteOf b (16 + i) < 64)
  | 6 => loadsClean (timingLoads inst b)
  | 7 => decide (byteOf b 0 < 8) && decide (byteOf b 1 < 8) && ((List.range 3).all fun i => byteOf b (13 + i) == 0) &&
      (List.range 64).all fun p => decide (byteOf b (18 + 8 * p) < 128) &&
        (List.range 5).all fun i => byteOf b (19 + 8 * p + i) == 0
  | 10 => decide (byteOf b 0 < 4) && decide (byteOf b 1 < 32) && byteOf b 3 / 16 % 8 == 0 &&
      (List.range 24).all fun i => byteOf b (8 + i) == 0
  | _ => true

/-- The first framing fault of an image, the entries of the directory first, then in the order of the table of R468: its ITEM. `run` are the contexts
in force, which a partial image's STAGE is read by. [log 112] -/
def framingFault (img : List Byte) (run : List Ctx) : Option Nat :=
  let n := sectCount img
  let idx := List.range n
  let e := dirEntry img
  let secs := imageSecs img
  let cs := if isPartial img then run else Secs.ctxs secs
  let find (p : Nat → Bool) : Option Nat := idx.find? p
  firstN [
    find fun i => !entryOk img i || !entryPlaced img i,
    ((List.range (leAt img 8 4)).find? fun x => !covered img x && byteOf img x != 0).map (gapItem img),
    ((requiredTypes img).find? fun t => !(idx.any fun i => (e i).type == t && (t != 6 || (e i).inst == 0))).map (0x100 + ·),
    find fun i => isPartial img && structuralType (e i).type,
    find fun i => match fixedLen (e i).type with
      | some l => (e i).len != l
      | none => false,
    find fun i => (e i).type == 1 && !topoFramed (sectBytes img (e i)),
    find fun i => (e i).type == 3 && !lutFramed (e i).len (sectBytes img (e i)),
    find fun i => !reservedClean (e i).type (e i).inst (sectBytes img (e i)) cs]
where
  firstN : List (Option Nat) → Option Nat
    | [] => none
    | some x :: _ => some x
    | none :: t => firstN t

/-- The first section whose CRC fails (R41). -/
def crcFault (img : List Byte) : Option Nat :=
  (List.range (sectCount img)).find? fun i =>
    let e := dirEntry img i
    e.crc != (crc32c (sectBytes img e)).toNat

/-- Whether a CLASP section keeps R46 and R354. -/
def claspOk (b : List Byte) : Bool :=
  let v := byteOf b
  decide (v 0 < 32) && decide (v 1 < 16) && decide (v 1 % 4 < 3) && decide (v 2 < 16) && decide (v 2 % 4 < 3) && v 3 == 0 &&
  [4, 5].all (fun i => decide (2 ≤ v i) && decide (v i ≤ 200)) &&
  [6, 7].all (fun i => decide (1 ≤ v i) && decide (v i ≤ 100)) &&
  v 11 == 0 && decide (3 ≤ v 14) && decide (v 14 ≤ 7) && decide (1 ≤ v 15) && decide (v 15 ≤ 250) &&
  ((List.range 44).all fun i => v (16 + i) == 0) &&
  leAt b 60 4 == (crc32c (leBytes 4 b.length ++ b.take 60)).toNat

/-- What a poisoned line in the staged image stands for (R260): reason and item; `off` is the line's first byte. -/
def poisonFinding (img : List Byte) (off : Nat) : Nat × Nat :=
  let d := leAt img 0x18 4
  let n := sectCount img
  if off < 64 then (1, 0)
  else
    match (List.range n).find? fun i => decide (off < d + 16 * i + 16) && decide (d + 16 * i < off + 64) with
    | some i => (3, i)
    | none =>
      match (List.range n).find? fun i =>
          let e := dirEntry img i
          decide (off < e.off + e.len) && decide (e.off < off + 64) with
      | some i => (3, i)
      | none => (3, gapItem img off)

/-! ## Loader states -/

/-- Start of the staging area in bytes (R59). -/
def State.stageBase (s : State) : Nat := s.fld F.CFG_STAGE_BASE_BASE * 2 ^ 20

/-- The loader's state code (R52). -/
def State.ldrState (s : State) : Nat := s.fld F.CFG_STATUS_STATE

/-- CFG_STATUS.PENDING (R57): an admitted commit or image waits to be applied. -/
def State.cfgPending (s : State) : State :=
  s.setOn F.CFG_STATUS_PENDING (s.ldr.commit == .arrived || s.ldrState == 5)

/-- Enters a loader state; on IDLE hardware clears LOAD and ABORT (R56). -/
def State.ldrGo (s : State) (st : Nat) : State :=
  let s := (s.setFld F.CFG_STATUS_STATE st).cfgPending
  if st = 0 then
    ({ s with ldr := { s.ldr with boot := false, paused := false, img := [], secs := [], partialWait := false } }
      |>.setOn F.CFG_CTRL_LOAD false).setOn F.CFG_CTRL_ABORT false
  else s

/-- Writes CFG_ADMIT (R58). -/
def State.setAdmit (s : State) (origin reason item : Nat) : State :=
  ((s.setFld F.CFG_ADMIT_ORIGIN origin).setFld F.CFG_ADMIT_REASON reason).setFld F.CFG_ADMIT_ITEM item

/-- A refusal: CFG_ADMIT and EV_CFG_REFUSED (R52). -/
def State.refuse (s : State) (origin reason item : Nat) : State :=
  let s := s.setAdmit origin reason item
  s.raise 19 (s.reg R.CFG_ADMIT).toNat

/-- CFG_STATUS.ACTIVE. -/
def State.active (s : State) : Bool := s.on F.CFG_STATUS_ACTIVE

/-! ## Commits (R54, R70, R71, R172) -/

/-- The addresses that a table of words and the active registers list. -/
def keysOf (a b : Tab Word) : List Nat :=
  let l := a.map (·.1)
  l ++ ((b.map (·.1)).filter fun k => !l.contains k)

/-- Registers with the shadowed fields of a snapshot copied in. -/
def withShadows (regs snap : Tab Word) : Tab Word :=
  (keysOf regs snap).foldl (fun r a =>
    match regRow? a with
    | none => r
    | some row => Tab.put resetWord r a
        (copyShadow row.fields (Tab.get resetWord regs a) (Tab.get resetWord snap a))) regs

/-- Whether a snapshot changes an admitted field (R70). -/
def changesAdmitted (regs snap : Tab Word) : Bool :=
  (keysOf regs snap).any fun a =>
    match regRow? a with
    | none => false
    | some row => row.fields.any fun f => f.shadow && f.adm &&
        bits f.msb f.lsb (Tab.get resetWord regs a).toNat != bits f.msb f.lsb (Tab.get resetWord snap a).toNat

/-- What the device is, for admission. -/
def State.candidate (s : State) (secs : Secs) (regs : Tab Word) : Candidate where
  secs := secs
  regs := regs
  trained := s.fld F.MEM_STAT_TRAINED
  density := s.fld F.MEM_CFG_DENS
  populated := sumN ((List.range 4).map fun r => b2n (Tab.on s.mem.populated r) * 2 ^ r)

/-- REVERT (R56): the active value of every shadowed field is copied into its shadow. -/
def State.revert (s : State) : State := { s with shad := withShadows s.shad s.regs }

/-- REVERT. -/
def execRevert (s : State) : Host.Outcome State Fault Refusal := effect (·.revert) s

/-! ## Load requests (R50 to R53) -/

/-- The master must read the SFDP table before its first flash access (R446); then the transfers that are due run in
turn, the loader's and the lockets' first (R447). While the block is stopped, or asked to stop, only the lockets' run (R367, R381). The port runs
only once PLL_HUB has locked (R445): then selector HUB is asked for the loop. [log 95] -/
def State.flashNext (s : State) : State :=
  match s.flash.running with
  | some _ => s
  | none =>
    let due := s.flash.waiting.filter fun j => match j with
      | .locket _ => true
      | _ => !s.stopping 2
    if due.isEmpty ∨ Tab.num s.clk.want 1 = 0 then s
    else if !s.flash.parsed then { s with flash := { s.flash with running := some .sfdp } }
    else
      let key (j : FlashJob) : Nat × Nat := match j with
        | .fetch => (0, 0)
        | .locket _ => (0, 1)
        | _ => (1, 0)
      let reqs (c : Nat) : List Nat := (due.filter fun j => (key j).1 == c).map fun j => (key j).2
      match arbitrate 0 s.flash.ptr [reqs 0, reqs 1] with
      | none => s
      | some (c, i) =>
        match due.find? fun j => key j == (c, i) with
        | none => s
        | some j => { s with flash := { s.flash with
            running := some j, waiting := s.flash.waiting.erase j, ptr := Tab.setNum s.flash.ptr c (i + 1) } }

/-- A flash transfer falls due. -/
def State.flashAsk (s : State) (j : FlashJob) : State :=
  ({ s with flash := { s.flash with waiting := s.flash.waiting ++ [j] } }).flashNext

/-- A load that begins (R52): FETCH for flash, CHECK otherwise. It is a dry run if DRYRUN is set, whatever asked for it
(R52, R56). [log 68] -/
def State.loadBegin (s : State) (src : Nat) (boot : Bool) : State :=
  let s := { s with ldr := { s.ldr with src := src, boot := boot, dry := s.on F.CFG_CTRL_DRYRUN, paused := false } }
  let s := s.setFld F.CFG_STATUS_AUTH 0
  if src = 1 ∨ src = 2 then (s.ldrGo 1).flashAsk .fetch else s.ldrGo 2

/-- What a boot load does after a refusal (R51, R464): the secondary after the primary with BOOTSRC 0b00, else
EV_SYS_BOOT_FAIL. -/
def State.bootNext (s : State) (boot : Bool) (src : Nat) : State :=
  if boot then
    if src = 1 ∧ s.ldr.bootSrc = 0 then s.loadBegin 2 true else s.raise 7 (s.reg R.CFG_ADMIT).toNat
  else s

/-- A load that is refused (R52): the loader returns to IDLE, the running configuration stays. [log 68] -/
def State.loadRefuse (s : State) (reason item : Nat) : State :=
  let boot := s.ldr.boot
  let src := s.ldr.src
  let s := s.refuse (if s.ldr.dry then 2 else 0) reason item
  (s.ldrGo 0).bootNext boot src

/-- A write of 1 to LOAD (R52, R53, R56). A loader that is stopped, or asked to stop, takes none (R367, R370). [log 69] -/
def State.load (s : State) (src : Nat) (dry : Bool) : State :=
  let s := (s.setFld F.CFG_CTRL_SRC src).setOn F.CFG_CTRL_DRYRUN dry
  -- R386: no effect in the shutdown state
  if s.on F.THM_STAT_SHUT ∨ s.stopping 10 then s else
  -- R322: a session being received keeps the loader busy for the host
  if s.ldrState ≠ 0 ∨ s.on F.SPN_MC_RX_ACTIVE then
    (s.incSat F.CFG_STATUS_BUSY_REJ).raise 22 (if src = 3 then 0 else src)
  else if src = 3 then s.refuse (if dry then 2 else 0) 1 0
  else (s.setOn F.CFG_CTRL_LOAD true).loadBegin src false

/-- LOAD. -/
def execLoad (src : BitVec 2) (dryrun : Bool) (s : State) : Host.Outcome State Fault Refusal :=
  effect (·.load src.toNat dryrun) s

/-- A transfer of FETCH ends: its bytes and its boundary pass snoop 0x0D (R411, R447). -/
def State.fetchEnds (s : State) (image : Option (List Byte)) : State :=
  (({ s with flash := { s.flash with running := none } }).snoop 0x0D (image.getD [])).snoopBoundary 0x0D

/-- FETCH ends (R52): the image is in the staging area, or the load is refused with 0x01. Reading the secondary needs
4-byte addressing (R446). The transfer of a load that was aborted ends without effect on the loader (R447). -/
def State.fetchDone (s : State) (image : Option (List Byte)) : State :=
  if s.flash.running = some .dropped then (s.fetchEnds image).flashNext
  else if s.ldrState = 1 ∧ s.flash.running = some .fetch ∧ !s.ldr.paused then
    let s := s.fetchEnds image
    let s := match image with
      | none => s.loadRefuse 1 0
      | some b =>
        let total := leAt b 8 4
        let good := leAt b 0 4 == 0x31424C47 && decide (64 ≤ total) && decide (total ≤ 0x1000000)
        if !good ∨ (s.ldr.src = 2 ∧ !s.on F.SYS_FLCFG_ADDR4) then s.loadRefuse 1 0
        else (s.writeFlat 24 s.stageBase (slice b 0 total)).ldrGo 2
    s.flashNext
  else s

/-- FETCH_DONE. -/
def execFetchDone (image : Option (List Byte)) (s : State) : Host.Outcome State Fault Refusal :=
  effect (·.fetchDone image) s

/-- Clasp is armed: states 1 to 4 (R340). -/
def State.armed (s : State) : Bool := decide (1 ≤ s.fld F.CLS_STAT_STATE) && decide (s.fld F.CLS_STAT_STATE ≤ 4)

/-- The reason that CHECK finds for an image, none where it passes (R40 to R47, R260, R354, R468); `bad` are the offsets
of the lines that came poisoned. -/
def State.checkFinding (s : State) (img : List Byte) (bad : List Nat) : Finding :=
  let want := if s.ldr.src = 0 ∨ s.ldr.src = 3 then some (s.fld F.CFG_LOAD_LEN_LEN) else none
  if !headerOk img want s.active || bad.contains 0 then some (1, 0)
  else if !partOk img then some (2, 0)
  else match bad.head? with
  | some o => some (poisonFinding img o)
  | none => match framingFault img (Secs.ctxs s.conf.secs) with
    | some i => some (3, i)
    | none => match crcFault img with
      | some i => some (3, i)
      | none =>
        let c := Secs.get (imageSecs img) 9 0
        if isPartial img then none
        else if !claspOk c then some (6, 0)
        else if s.armed ∧ c ≠ Secs.get s.conf.secs 9 0 then some (6, 0)
        else none

/-- Whether the loader can work on a state of its load: no admission of a commit pauses it, and its block runs (R54, R370). -/
def State.ldrRuns (s : State) : Bool := !s.ldr.paused && !s.isGated 10 && s.hubRuns

/-- CHECK ends (R52, R468); it waits until the staging area can be read (R254). -/
def State.checkDone (s : State) : State :=
  if s.ldrState = 2 ∧ s.ldrRuns ∧ s.engineFree 24 then
    let base := s.stageBase
    let (s, hdr) := s.lineRead 24 base
    let total := leAt hdr.data 8 4
    let n := if 64 ≤ total ∧ total ≤ 0x1000000 then total else 64
    let (s, rest) := s.readLines 24 (base + 64) (n - 64)
    let img := spanBytes (hdr :: rest) base n
    let found := s.checkFinding img (((hdr :: rest).filter (·.poisoned)).map fun d => d.flat - base)
    let s := (s.snoop 0x0C img).snoopBoundary 0x0C
    match found with
    | some (r, i) => s.loadRefuse r i
    | none => ({ s with ldr := { s.ldr with img := img, secs := imageSecs img } }).ldrGo 3
  else s

/-- CHECK_DONE. -/
def execCheckDone (s : State) : Host.Outcome State Fault Refusal := effect (·.checkDone) s

/-- Whether an image passes authentication (R48, R49). [log 9] -/
def authentic (img : List Byte) (keyHash : Nat) : Bool :=
  match (directory img).find? fun e => e.type == 0xFE with
  | none => false
  | some e =>
    let sig := sectBytes img e
    isSigned img && sha256 (sig.take 64) == keyHash &&
    ecdsaVerify (sha256 (img.take e.off)) (beAt sig 0 32) (beAt sig 32 32) (beAt sig 64 32) (beAt sig 96 32)

/-- AUTH ends (R49, R57). -/
def State.authDone (s : State) : State :=
  if s.ldrState = 3 ∧ s.ldrRuns then
    if !s.ldr.sec then (s.setFld F.CFG_STATUS_AUTH 0).ldrGo 4
    else if authentic s.ldr.img s.ldr.keyHash.toNat then (s.setFld F.CFG_STATUS_AUTH 1).ldrGo 4
    else
      let s := s.setFld F.CFG_STATUS_AUTH 2
      let origin := if s.ldr.dry then 2 else 0
      let s := s.setAdmit origin 4 0
      (s.raise 20 (s.reg R.CFG_ADMIT).toNat).loadRefuse 4 0
  else s

/-- AUTH_DONE. -/
def execAuthDone (s : State) : Host.Outcome State Fault Refusal := effect (·.authDone) s

/-- Registers after some loaded words: only RW fields take them (R118, R123). -/
def loadWords (regs : Tab Word) (l : List (Nat × Word)) : Tab Word :=
  l.foldl (fun r x =>
    let m := rwMask x.1
    if m == 0 then r
    else Tab.put resetWord r x.1 ((Tab.get resetWord r x.1 &&& ~~~m) ||| (x.2 &&& m))) regs

/-- The sections in force after an image: a full image replaces them, a partial one replaces those it carries (R72). -/
def mergedSecs (run new : Secs) (partial_ : Bool) : Secs :=
  if partial_ then new.foldl (fun t x => Tab.setLst t x.1 x.2) run else new

/-- The register words that an image loads from STAGE and TIMING (R118, R123, R160): a timing set that a full image does
not carry reads as 0. -/
def imageLoads (new merged : Secs) (partial_ : Bool) : List (Nat × Word) :=
  (if Secs.has new 2 0 then stageLoads (Secs.get new 2 0) (Secs.ctxs merged) else []) ++
  ((List.range 8).map fun n =>
    if Secs.has new 6 n then timingLoads n (Secs.get new 6 n)
    else if partial_ then [] else timingLoads n []).flatten

/-- The active registers with an admitted commit that waits (R55). -/
def State.pendingRegs (s : State) : Tab Word :=
  if s.ldr.commit = .arrived then withShadows s.regs s.ldr.snap else s.regs

/-- The candidate of the image in the loader (R55, R60). -/
def State.imageCandidate (s : State) : Candidate :=
  let p := isPartial s.ldr.img
  let merged := mergedSecs s.conf.secs s.ldr.secs p
  -- R210: CHAIN gives no admitted register; STAGE and TIMING do
  s.candidate merged (loadWords s.pendingRegs (imageLoads s.ldr.secs merged p))

/-- Whether a Spine port is ACTIVE (R313). -/
def State.spineUp (s : State) : Bool := (List.range 5).any fun p => s.fld (F.SPN_Pp_STAT_STATE p) == 5

/-- What admission finds for the image (R69): the checks, then the ROLE rule; without a running configuration there is no
ROLE that an image could change (R313). -/
def State.imageFinding (s : State) : Finding :=
  match admission s.imageCandidate with
  | some x => some x
  | none =>
    if s.active ∧ !isPartial s.ldr.img ∧ s.spineUp ∧ Secs.get s.ldr.secs 10 0 ≠ Secs.get s.conf.secs 10 0 then some (0x32, 0) else none

end Sys2Proof.Machine
end

