-- ==== Sys2Proof/Machine/Drivers.lean ====
section
/-! DEFINITION. What a command frame does to the drivers of a chain (R191, R193 to R201, R217), and which frames a
port's sequencer has sent. -/

namespace Sys2Proof.Machine

/-! ## Drivers -/

/-- Applies pending values of a list. -/
def applyList (now : List Nat) (next : List (Option Nat)) : List Nat :=
  List.zipWith (fun a b => b.getD a) now next

/-- The pending values take effect, PWM and WIN only where `fs` says so (R194, R196). -/
def Drivers.apply (d : Drivers) (fs : Bool) : Drivers :=
  let d := { d with
    row := if d.rowNext.isSome then d.rowNext else d.row, rowNext := none,
    bank := d.bankNext.getD d.bank, bankNext := none,
    cur := applyList d.cur d.curNext, curNext := d.curNext.map fun _ => none,
    delta := applyList d.delta d.deltaNext, deltaNext := d.deltaNext.map fun _ => none,
    blank := d.blank && !d.release, release := false }
  if fs then { d with pwm := d.pwmNext.getD d.pwm, pwmNext := none, on := d.onNext.getD d.on, onNext := none } else d

/-- The scan line of a ROW payload. -/
def rowLine (payload : Nat) : Nat := bits 17 12 payload

/-- The glints that fire in the row period just applied (R196, R201): those armed for its scan line, unless DARK. -/
def Drivers.firing (d : Drivers) : List (Nat × Nat × Nat) :=
  match d.row with
  | none => []
  | some r => if bits 18 18 r = 1 then [] else d.glints.filter fun g => g.2.2 == rowLine r

/-- The row strobe (R194, R196, R198): pending values are applied and armed glints of the line fire and are disarmed.
While blank stays in force the drivers hold their pending values, and glints whose row falls then are disarmed without
light (R227). [log 117] -/
def Drivers.strb (d : Drivers) : Drivers :=
  if d.blank && !d.release then
    let f := { d with row := if d.rowNext.isSome then d.rowNext else d.row }.firing
    { d with glints := d.glints.filter fun g => !f.contains g }
  else
    let fs := match d.rowNext with
      | some r => bits 19 19 r == 1
      | none => false
    let d := d.apply fs
    let f := d.firing
    { d with glints := d.glints.filter fun g => !f.contains g, fired := d.fired ++ f }

/-! ## Light (R158, R198) -/

/-- Counts that segment `j` of `n` of a grey value lasts (R158). -/
def segCounts (n j v : Nat) : Nat := v * (j + 1) / n - v * j / n

/-- The grey value of a channel in the shown bank and line; 0 where nothing has been latched. -/
def Drivers.grey (d : Drivers) (driver ch : Nat) : Nat :=
  match d.row with
  | none => 0
  | some r => (Tab.lst d.banks (64 * d.bank + rowLine r)).getD (48 * driver + ch) 0

/-- When a channel is lit in the on-window of a row period with GCLK pulses (R198): runs of grey counts as first count and
length, GMUL of them to a GCLK pulse. The segment starts at pulse δ_g mod ON, and what runs past pulse ON goes on from
pulse 0. -/
def Drivers.light (d : Drivers) (driver ch : Nat) : List (Nat × Nat) :=
  match d.row with
  | none => []
  | some r =>
    if d.blank ∨ bits 18 18 r = 1 ∨ d.on = 0 then []
    else
      let gmul := 2 ^ bits 19 18 d.pwm
      let n := segCounts (bits 17 12 d.pwm + 1) (bits 11 6 r) (d.grey driver ch)
      let from_ := d.delta.getD (ch / 6) 0 % d.on * gmul
      let room := d.on * gmul - from_
      if n = 0 then [] else if n ≤ room then [(from_, n)] else [(from_, room), (0, Nat.min from_ (n - room))]

/-- The shift register of a driver as 48 channels (R191): channel 0 and channel 24 entered last. -/
def Drivers.channels (d : Drivers) (driver : Nat) : List Nat :=
  ((d.sd0.drop (24 * driver)).take 24) ++ ((d.sd1.drop (24 * driver)).take 24)

/-- Arms a glint in one driver, ignored while four are armed (R201). -/
def armGlint (l : List (Nat × Nat × Nat)) (g : Nat × Nat × Nat) : List (Nat × Nat × Nat) :=
  if (l.filter fun x => x.1 == g.1).length < 4 then l ++ [g] else l

/-- Sets an entry of a list of pending values. -/
def setPending (l : List (Option Nat)) (i v : Nat) : List (Option Nat) := l.set i (some v)

/-- What a complete frame of width `w` does (R194); `nic` drivers are on the chain. Every frame but STRB counts. [log 116] -/
def Drivers.frame (d : Drivers) (nic w payload : Nat) : Drivers :=
  let c := { d with cmdcnt := (d.cmdcnt + 1) % 256 }
  match w with
  | 1 => d.strb
  | 2 => { c with rowNext := some payload }
  | 3 =>
    let l := ((List.range nic).map d.channels).flatten
    { c with banks := Tab.setLst c.banks (64 * bits 19 18 payload + rowLine payload) l }
  | 4 => { c with bankNext := some (bits 19 18 payload) }
  | 5 =>
    let p := bits 19 16 payload
    { c with part := some p, fired := c.fired.filter fun g => g.2.2 / 4 != p }
  | 6 =>
    let g (i : Nat) : Nat × Nat × Nat := (i, bits 13 8 payload, bits 5 0 payload)
    let l := if bits 19 19 payload = 1 then (List.range nic).foldl (fun l i => armGlint l (g i)) c.glints
      else if bits 18 14 payload < nic then armGlint c.glints (g (bits 18 14 payload)) else c.glints
    { c with glints := l }
  | 7 =>
    let v := bits 7 0 payload
    match bits 19 18 payload with
    | 3 => { c with curNext := [some v, some v, some v] }
    | k => { c with curNext := setPending c.curNext k v }
  | 8 => { c with pwmNext := some (payload / 4096 * 4096) }
  | 9 => { c with deltaNext := setPending c.deltaNext (bits 19 17 payload) (bits 7 0 payload) }
  | 10 => if bits 19 19 payload = 1 then { c with blank := true, release := false } else { c with release := true }
  | 11 => { (c.apply true) with cmdcnt := 0, por := false, frameErr := false, glints := [] }
  | 12 => { c with onNext := some (bits 14 0 payload) }
  | _ => { d with frameErr := true }

/-- A frame as the drivers hear it: one that is not complete, or whose width no command has, only sets FRAME_ERR
(R195). [log 117] -/
def Drivers.hear (d : Drivers) (nic w payload : Nat) (complete : Bool) : Drivers :=
  if complete then d.frame nic w payload else { d with frameErr := true }

/-- Values shifted in on both data lines, latest first (R191); a driver keeps 24 on each. -/
def Drivers.shift (d : Drivers) (nic : Nat) (sd0 sd1 : List Nat) : Drivers :=
  { d with sd0 := (sd0.reverse ++ d.sd0).take (24 * nic), sd1 := (sd1.reverse ++ d.sd1).take (24 * nic) }

/-! ## Ports -/

/-- A port. -/
def State.port (s : State) (p : Nat) : Port := Tab.get (fun _ => Port.idle) s.chn.ports p

/-- Replaces a port. -/
def State.setPort (s : State) (p : Nat) (x : Port) : State :=
  { s with chn := { s.chn with ports := Tab.put (fun _ => Port.idle) s.chn.ports p x } }

/-- The drivers of a port (R210). -/
def State.nic (s : State) (p : Nat) : Nat := s.fld (F.CHN_Cnn_CFG_NIC p)

/-- The ports that have drivers. -/
def State.chains (s : State) : List Nat := below 64 fun p => s.nic p != 0

/-- The timing set in force. -/
def State.tset (s : State) : TimSet where
  rate := s.tim.set.getD 0 0
  scan := s.tim.set.getD 1 0
  ofs := (s.tim.set.drop 2).take 4
  len := (s.tim.set.drop 6).take 4

/-- A timing set as the list that State holds. -/
def TimSet.words (t : TimSet) : List Word := t.rate :: t.scan :: (t.ofs ++ t.len)

/-- NLINES of the running configuration. -/
def State.nlines (s : State) : Nat := Secs.nlines s.conf.secs

/-- The feed in whose slot a row period lies (R159). -/
def TimSet.slotAt (t : TimSet) (row : Nat) : Option Nat :=
  t.feeds.find? fun k => decide (t.ofsOf k ≤ row) && decide (row < t.ofsOf k + t.lenOf k)

/-- The lowest port whose rows run: its boundaries stand for the nominal ones, which have no command of their own
(log entry 10). -/
def State.refPort (s : State) : Option Nat := (below 64 fun p => s.nic p != 0 && (s.port p).bringup == .up).head?

/-- The feed whose slot is running. -/
def State.slotNow (s : State) : Option Nat :=
  match s.refPort with
  | none => none
  | some p => match (s.port p).row with
    | none => none
    | some r => s.tset.slotAt r

/-- The number of parts of a readback frame (R202). -/
def State.parts (s : State) : Nat := ceilDiv s.nlines 4

/-- The kinds of frames that are counted (R209). -/
def counted (f : Frame) : Bool := [5, 6, 8, 9, 11, 12].contains f.w || (f.w == 7 && !f.urgent)

/-- Class and index of a frame (R208, R332). -/
def frameClass (f : Frame) : Nat × Nat :=
  match f.w with
  | 10 => (0, 0)
  | 2 => (0, 1)
  | 4 => (1, 0)
  | 8 | 12 => (1, 1)
  | 3 => (2, 0)
  | 7 => if f.urgent then (0, 2) else (3, 0)
  | 9 => (3, 1)
  | 11 => (3, 2)
  | 5 => (3, 3)
  | _ => (3, 4)

/-- A waiting frame. -/
def newFrame (w payload : Nat) : Frame := ⟨w, payload, false, false, false⟩

/-- A frame leaves the sequencer and is heard complete or not (R193, R195, R206): the count that the sequencer keeps, the
codes it last sent, its place among the commands (R33, R208), which the strobe does not have, and blank (R220). -/
def Port.send (x : Port) (nic : Nat) (f : Frame) (complete : Bool) : Port :=
  let drv := x.drv.hear nic f.w f.payload complete
  let count := if f.w = 1 then x.count else if f.w = 11 then 0 else (x.count + 1) % 256
  let codes := if f.w = 7 then
      (match bits 19 18 f.payload with
       | 3 => [bits 7 0 f.payload, bits 7 0 f.payload, bits 7 0 f.payload]
       | k => x.codes.set k (bits 7 0 f.payload))
    else x.codes
  let ptr := if f.w = 1 then x.ptr else Tab.setNum x.ptr (frameClass f).1 ((frameClass f).2 + 1)
  let dark := if f.w = 10 ∧ bits 19 19 f.payload = 1 then (List.range 16).foldl (fun t i => Tab.setOn t i true) x.dark else x.dark
  { x with drv := drv, count := count, codes := codes, ptr := ptr, dark := dark }

/-- Whether the chain pads drive their outputs low whatever the sequencers do: thermal shutdown (R386), or the engine dies
without power-good (R462). -/
def State.padsLow (s : State) : Bool := s.on F.THM_STAT_SHUT || s.strait.noPower

/-- Whether nothing leaves a port: it has no drivers (R187), its sequencer is stopped (R370), or its outputs are held
low. -/
def State.mute (s : State) (p : Nat) : Bool := s.nic p == 0 || s.isGated 11 || s.padsLow

/-- A frame goes out on a port. -/
def State.sendAs (s : State) (p : Nat) (f : Frame) (complete : Bool) : State :=
  if s.mute p then s else s.setPort p ((s.port p).send (s.nic p) f complete)

/-- Sends a frame on a port with drivers. [log 117] -/
def State.sendFrame (s : State) (p w payload : Nat) (complete : Bool) : State := s.sendAs p (newFrame w payload) complete

/-- The cap of a colour (R332). -/
def State.cap (s : State) (c : Nat) : Nat := bits (8 * c + 7) (8 * c) (s.reg R.CLS_LCEC).toNat

/-- The frame as it goes out: current codes keep to the caps of Luminance Ceiling, a code for all colours to the lowest
(R332). [log 121] -/
def State.capped (s : State) (f : Frame) : Frame :=
  let c := f.payload / 2 ^ 18
  if s.clasp.lce ∧ f.w = 7 then
    let cap := if c < 3 then s.cap c else Nat.min (s.cap 0) (Nat.min (s.cap 1) (s.cap 2))
    { f with payload := c * 2 ^ 18 + Nat.min (f.payload % 256) cap }
  else f

/-- A current code as it may be sent (R332): limited by the cap of its colour while Luminance Ceiling is in force. -/
def State.curCode (s : State) (c : Nat) : Nat :=
  let v := bits (8 * c + 7) (8 * c) (s.reg R.CHN_CUR).toNat
  if s.clasp.lce then Nat.min v (s.cap c) else v

/-- The CUR frame of a colour. -/
def State.curFrame (s : State) (c : Nat) : Frame := newFrame 7 (c * 2 ^ 18 + s.curCode c)

/-- PWM payload of a timing set: GMUL code and S - 1. -/
def pwmPayload (t : TimSet) (nlines : Nat) : Nat := t.gmulCode * 2 ^ 18 + (t.segments nlines - 1) * 4096

/-- WIN payload of a timing set: ON. -/
def winPayload (t : TimSet) (nlines : Nat) : Nat := (t.onClk nlines).toNat

/-- The eight GDLY frames of the CHAIN section (R194, R210). -/
def State.gdlyFrames (s : State) : List Frame :=
  (List.range 8).map fun g => newFrame 9 (g * 2 ^ 17 + byteOf (Secs.get s.conf.secs 7 0) (5 + g))

/-- The resync sequence of R207: CUR, GDLY, WIN, PWM, BSEL of the bank shown, which is named when it goes out, SYNC. -/
def State.resyncFrames (s : State) : List Frame :=
  let t := s.tset
  let l := (List.range 3).map s.curFrame ++ s.gdlyFrames ++
    [newFrame 12 (winPayload t s.nlines), newFrame 8 (pwmPayload t s.nlines),
     newFrame 4 0, newFrame 11 0]
  l.map fun f => { f with resync := true }

/-- Frames fall due on a port. -/
def State.queueFrames (s : State) (p : Nat) (l : List Frame) : State :=
  let x := s.port p
  if s.nic p = 0 then s else s.setPort p { x with queue := x.queue ++ l }

/-- A resync of a port (R207). -/
def State.resync (s : State) (p : Nat) : State :=
  if s.nic p = 0 then s
  else ((s.queueFrames p s.resyncFrames).incSat (F.CHN_Cnn_ERR_RESYNC p)).raise 113 p

/-! ## Blanking (R199) -/

/-- The blank requests that act on a port: bits of BLANK_SRC. -/
def State.blankReqs (s : State) (p : Nat) : Nat :=
  Nat.land (s.fld F.CHN_STAT_BLANK_SRC) (if p < 32 then 0xF7 else 0xFB)

/-- Both dies are blanked through requests other than that of the power states, bit 5 (R371). -/
def State.dark (s : State) : Bool :=
  s.on F.CHN_STAT_BLANK_E0 && s.on F.CHN_STAT_BLANK_E1 &&
  [0, 32].all fun p => Nat.land (s.blankReqs p) 0xDF != 0

/-- BLANK_E0 and BLANK_E1: a request is active on the die, or a driver of the die that is in use is still blanked.
PWR_IDLECNT is 0 while they are not both set (R371). -/
def State.blankSync (s : State) : State :=
  let on (die : Nat) : Bool :=
    s.blankReqs (32 * die) != 0 || (List.range 32).any fun i =>
      let p := 32 * die + i
      s.nic p != 0 && (s.port p).bringup == .up && (s.port p).drv.blank
  let s := (s.setOn F.CHN_STAT_BLANK_E0 (on 0)).setOn F.CHN_STAT_BLANK_E1 (on 1)
  if s.dark then s
  else
    -- the blank conditions cease: an IDLE entered through the timers is left at the next frame start
    let leave := s.pwr.leave || (s.fld F.PWR_STAT_STATE == 1 && !s.pwr.forced)
    { s with pwr := { s.pwr with leave := leave } }.setFld F.PWR_IDLECNT_MS 0

/-- The ports that a request acts on: bit 2 and bit 3 of BLANK_SRC are the straits (R199). -/
def blankPorts (bit : Nat) : List Nat :=
  if bit = 2 then List.range 32 else if bit = 3 then (List.range 32).map (32 + ·) else List.range 64

/-! The supply domains that a blank holds (R234, R237) -/

/-- A loop. -/
def State.loop (s : State) (n : Nat) : PmbLoop :=
  Tab.get (fun _ => ⟨false, 0, 0, false, false, false, 0, 0, false, false, 0, false, 0, false⟩) s.pmb.loops n

/-- Replaces a loop. -/
def State.setLoop (s : State) (n : Nat) (l : PmbLoop) : State :=
  { s with pmb := { s.pmb with
    loops := Tab.put (fun _ => ⟨false, 0, 0, false, false, false, 0, 0, false, false, 0, false, 0, false⟩) s.pmb.loops n l } }

/-- A field of a domain's CFG in force: as it stood at the last frame start (R237). -/
def State.pmbCfg (s : State) (n : Nat) (f : Nat → Fld) : Nat := (f n).of (Tab.get resetWord s.pmb.cfg (R.PMB_LDn_CFG n))

/-- The ports with drivers that a domain feeds. -/
def State.domPorts (s : State) (n : Nat) : List Nat :=
  (below 8 fun i => s.pmbCfg n F.PMB_LDn_CFG_PORTS / 2 ^ i % 2 == 1 && s.nic (8 * (n / 2) + i) != 0).map (8 * (n / 2) + ·)

/-- SAFE_OUT is asserted: line A high and line B low. -/
def State.safeOut (s : State) : Bool := s.clasp.outA && !s.clasp.outB

/-- Whether the loop of a domain must not write (R234). On the way out of Safe Dark the blank of Clasp alone does not
hold it: the setpoint goes out before that blank is withdrawn (R331). -/
def State.loopHeld (s : State) (n : Nat) : Bool :=
  !s.safeOut || (s.domPorts n).all fun p =>
    (s.port p).drv.blank && !(s.clasp.exit != 0 && Nat.land (s.blankReqs p) 0xFE == 0)

/-- A running loop that must not write any more commands the current setpoint at the first frame start after that has
ended, however short it was (R234). -/
def State.holdLoops (s : State) : State :=
  s.each ((List.range 16).filter fun n => (s.loop n).running && s.loopHeld n) fun s n =>
    s.setLoop n { s.loop n with held := true }

/-- A blank request becomes active: BLNK(1) on every affected port. -/
def State.blankOn (s : State) (bit : Nat) : State :=
  let v := s.fld F.CHN_STAT_BLANK_SRC
  if v / 2 ^ bit % 2 = 1 then s
  else
    let s := s.setFld F.CHN_STAT_BLANK_SRC (v + 2 ^ bit)
    ((s.each (blankPorts bit) fun s p => s.sendFrame p 10 (2 ^ 19) true).blankSync).holdLoops

/-- A blank request is withdrawn: BLNK(0) on every port that is up and has no other request (R199, R200). -/
def State.blankOff (s : State) (bit : Nat) : State :=
  let v := s.fld F.CHN_STAT_BLANK_SRC
  if v / 2 ^ bit % 2 = 0 then s
  else
    let s := s.setFld F.CHN_STAT_BLANK_SRC (v - 2 ^ bit)
    (s.each (blankPorts bit) fun s p =>
      if s.blankReqs p = 0 ∧ (s.port p).bringup = .up then s.sendFrame p 10 0 true else s).blankSync

/-- The power-state request is withdrawn, but after a failed wake, where only a full image clears it (R371, R376). -/
def State.pwrUnblank (s : State) : State := if s.pwr.failed then s else s.blankOff 5

/-- Sets or withdraws a blank request. -/
def State.blankReq (s : State) (bit : Nat) (on : Bool) : State := if on then s.blankOn bit else s.blankOff bit

/-! ## Bring-up (R200) -/

/-- Bring-up of a port from step 1: BLNK(1), CUR, GDLY, PWM and WIN, SYNC; then its SDO calibration. -/
def State.bringUp (s : State) (p : Nat) : State :=
  if s.nic p = 0 then s
  else
    let t := s.tset
    let fs := newFrame 10 (2 ^ 19) :: ((List.range 3).map s.curFrame ++ s.gdlyFrames ++
      [newFrame 8 (pwmPayload t s.nlines), newFrame 12 (winPayload t s.nlines), newFrame 11 0])
    let s := s.each fs fun s f => s.sendFrame p f.w f.payload true
    let x := s.port p
    -- a first calibration begins: no pair has been tried (R403)
    let s := { s with cal := { s.cal with first := Tab.setNum s.cal.first (64 * (1 + p / 32) + p) 0 } }
    s.setPort p { x with bringup := .calibrating, queue := [], row := none, part := 0, reading := none, silent := 0,
                         glints := [], dark := [], lit := [], past := [], loads := [], sent := 0, probes := [],
                         set := s.tim.set }

/-- A port fails its bring-up: SILENT, EV_CHN_SILENT, and it stays blank. -/
def State.bringUpFails (s : State) (p : Nat) : State :=
  let s := s.setPort p { s.port p with bringup := .failed, reading := none }
  (s.setOn (F.CHN_Cnn_ERR_SILENT p) true).raise 111 p

/-- RDBK of a part is sent (R202): the readback register is loaded, the flags of the interval that ends are kept with
the part, glints of the part that have found no row are dropped (R226). -/
def State.sendRdbk (s : State) (p part : Nat) : State :=
  let s := s.sendFrame p 5 (part * 2 ^ 16) true
  let x := s.port p
  let drop := (x.glints.filter fun g => g.line / 4 == part).length
  -- R348: once the capped codes have been applied the check goes on, whatever a driver holds later
  let waits := (x.queue.any fun f => f.w == 7 && f.urgent) || x.drv.curNext.any Option.isSome
  let capped := s.clasp.lce && (x.capped || (!waits && (List.range 3).all fun c => decide (x.drv.cur.getD c 0 ≤ s.cap c)))
  let dark := Tab.setOn (Tab.setOn x.dark (part + 32) (Tab.on x.dark part || x.drv.blank)) part x.drv.blank
  let lit := Tab.setOn (Tab.setOn x.lit (part + 32) (Tab.on x.lit part)) part false
  let s := s.setPort p { x with
    reading := some part, rbCount := x.count, glints := x.glints.filter (fun g => g.line / 4 != part), dark := dark, lit := lit,
    capped := capped, sdk := s.clasp.sdk, probes := x.probes.filter fun (e : Nat × Nat) => e.1 / 32 != part }
  s.addSat F.DIA_STAT_GLDROP drop

/-- The calibration of a port is done (R200): the readbacks of every part begin. -/
def State.bringUpRead (s : State) (p : Nat) : State :=
  let s := s.setPort p { s.port p with bringup := .reading, part := 1 }
  s.sendRdbk p 0

/-- All ports with drivers are brought up; the bring-up request blanks all ports (R199, R200). [log 131] -/
def State.bringUpAll (s : State) : State :=
  let s := { s with chn := { s.chn with lit := false } }
  (s.blankOn 6).each s.chains State.bringUp

/-! ## Frames as commands of their own (R193 to R195) -/

/-- Frames of a port wait for the next frame (R209): DEFER for each, the event once per frame. [log 121] -/
def State.defer (s : State) (p n : Nat) : State :=
  let x := s.port p
  let s := (s.setPort p { x with deferRaised := true }).addSat (F.CHN_Cnn_ERR_DEFER p) n
  if x.deferRaised then s else s.raise 117 p

/-- Whether a frame may be sent under the count of R209; RDBK and resync frames come before GLNT in it. [log 121] -/
def State.countFree (s : State) (p : Nat) (f : Frame) : Bool :=
  let x := s.port p
  if !counted f then true
  else if f.w = 6 then decide (x.sent + (x.queue.filter fun g => counted g && (g.resync || g.w == 5)).length < 64)
  else decide (x.sent < 64)

/-- The entries of `Port.probes` that a GLNT counts in: one for each driver that it names (R201). -/
def State.probeKeys (s : State) (p : Nat) (f : Frame) : List Nat :=
  let part := bits 5 0 f.payload / 4
  let drivers := if bits 19 19 f.payload = 1 then List.range (s.nic p) else [bits 18 14 f.payload]
  drivers.map (32 * part + ·)

/-- Whether the sequencer may send a GLNT: GLINT_EN is set, no driver has had four since the last RDBK of the part (R201),
and Safe Dark is not in force (R330). [log 121] -/
def State.glintMay (s : State) (p : Nat) (f : Frame) : Bool :=
  s.on F.CHN_CTRL_GLINT_EN && !s.clasp.sdk && (s.probeKeys p f).all fun k => decide (Tab.num (s.port p).probes k < 4)

/-- A frame that is counted goes out: RDBK starts a readback, GLNT counts for the isle (R229), and a BSEL of a resync names
the bank shown from the next STRB on (R207). -/
def State.sendOut (s : State) (p : Nat) (f : Frame) (complete : Bool) : State :=
  if s.mute p then s
  else
    let f := s.capped f
    let x := s.port p
    let probes := if f.w = 6 ∧ complete then (s.probeKeys p f).foldl (fun t k => Tab.setNum t k (Tab.num t k + 1)) x.probes
      else x.probes
    let s := s.setPort p { x with sent := x.sent + b2n (counted f), probes := probes }
    if f.w = 5 ∧ complete then s.sendRdbk p (f.payload / 2 ^ 16)
    else
      let s := if f.w = 6 then { s with diag := { s.diag with glint := Tab.setNum s.diag.glint (p / 8) (Tab.num s.diag.glint (p / 8) + 1) } } else s
      let f := if f.resync ∧ f.w = 4 then { f with payload := x.drv.bankNext.getD x.drv.bank * 2 ^ 18 } else f
      s.sendAs p f complete

/-- A frame as a command: one due beyond the sixty-fourth waits for the next frame (R209). [log 117] -/
def State.frameCmd (s : State) (p w payload : Nat) (complete : Bool) : State :=
  let f := newFrame w payload
  if s.mute p then s
  else if s.countFree p f then s.sendOut p f complete
  else
    let x := s.port p
    (s.setPort p { x with queue := x.queue ++ [{ f with deferred := true }] }).defer p 1

/-- STRB. -/
def execStrb (port : Fin 64) (s : State) : Host.Outcome State Fault Refusal :=
  effect (fun s => (s.sendFrame port.val 1 0 true).blankSync) s

/-- ROW. -/
def execRow (port : Fin 64) (payload : BitVec 20) (complete : Bool) (s : State) : Host.Outcome State Fault Refusal :=
  effect (·.frameCmd port.val 2 payload.toNat complete) s

/-- BWR. -/
def execBwr (port : Fin 64) (payload : BitVec 20) (complete : Bool) (s : State) : Host.Outcome State Fault Refusal :=
  effect (·.frameCmd port.val 3 payload.toNat complete) s

/-- BSEL. -/
def execBsel (port : Fin 64) (payload : BitVec 20) (complete : Bool) (s : State) : Host.Outcome State Fault Refusal :=
  effect (·.frameCmd port.val 4 payload.toNat complete) s

/-- RDBK: a complete one starts the readback of its part. -/
def execRdbk (port : Fin 64) (payload : BitVec 20) (complete : Bool) (s : State) : Host.Outcome State Fault Refusal :=
  effect (·.frameCmd port.val 5 payload.toNat complete) s

/-- GLNT: sent only where the sequencer may send it (R201, R330). -/
def execGlnt (port : Fin 64) (payload : BitVec 20) (complete : Bool) (s : State) : Host.Outcome State Fault Refusal :=
  effect (fun s => if s.glintMay port.val (newFrame 6 payload.toNat) then s.frameCmd port.val 6 payload.toNat complete
    else s) s

/-- CUR. -/
def execCur (port : Fin 64) (payload : BitVec 20) (complete : Bool) (s : State) : Host.Outcome State Fault Refusal :=
  effect (·.frameCmd port.val 7 payload.toNat complete) s

/-- PWM. -/
def execPwm (port : Fin 64) (payload : BitVec 20) (complete : Bool) (s : State) : Host.Outcome State Fault Refusal :=
  effect (·.frameCmd port.val 8 payload.toNat complete) s

/-- GDLY. -/
def execGdly (port : Fin 64) (payload : BitVec 20) (complete : Bool) (s : State) : Host.Outcome State Fault Refusal :=
  effect (·.frameCmd port.val 9 payload.toNat complete) s

/-- BLNK: a release is sent only to a port that is up, while no request remains active (R199). -/
def execBlnk (port : Fin 64) (payload : BitVec 20) (complete : Bool) (s : State) : Host.Outcome State Fault Refusal :=
  effect (fun s =>
    if bits 19 19 payload.toNat = 0 ∧ (s.blankReqs port.val ≠ 0 ∨ (s.port port.val).bringup ≠ .up) then s
    else (s.frameCmd port.val 10 payload.toNat complete).blankSync) s

/-- SYNC. -/
def execSync (port : Fin 64) (complete : Bool) (s : State) : Host.Outcome State Fault Refusal :=
  effect (fun s => (s.frameCmd port.val 11 0 complete).blankSync) s

/-- WIN. -/
def execWin (port : Fin 64) (payload : BitVec 20) (complete : Bool) (s : State) : Host.Outcome State Fault Refusal :=
  effect (·.frameCmd port.val 12 payload.toNat complete) s

/-- FORCE_BLANK: the field acts on the write (R214). -/
def State.forceBlank (s : State) (on : Bool) : State := (s.setOn F.CHN_CTRL_FORCE_BLANK on).blankReq 1 on

/-- FORCE_BLANK. -/
def execForceBlank (on : Bool) (s : State) : Host.Outcome State Fault Refusal := effect (·.forceBlank on) s

end Sys2Proof.Machine
end

