-- ==== Sys2Proof/Machine/Strait.lean ====
section
/-! DEFINITION. The straits (R27 to R30). -/

namespace Sys2Proof.Machine

/-- STATE of a strait: 0 off, 1 initial training, 2 up, 3 retraining (R29). -/
def straitState (die : Nat) : Fld := if die = 0 then F.SYS_STRAIT_STATE_E0 else F.SYS_STRAIT_STATE_E1
/-- DOWN of a strait. -/
def straitDown (die : Nat) : Fld := if die = 0 then F.SYS_STRAIT_DOWN_E0 else F.SYS_STRAIT_DOWN_E1
/-- REPLAY of a strait. -/
def straitReplay (die : Nat) : Fld := if die = 0 then F.SYS_STRAIT_REPLAY_E0 else F.SYS_STRAIT_REPLAY_E1

/-- The thirty-two bytes of a flit, the most significant first. [log 118] -/
def flitBytes (flit : BitVec 256) : List Byte := beBytes 32 flit.toNat

/-- The loads in progress on a die's ports are skipped (R28). -/
def State.straitDrops (s : State) (die : Nat) : State :=
  let feeds := (List.range 4).filter fun k => (Tab.opt s.pix.loads k).isSome
  { s with tim := { s.tim with skipped := feeds.foldl (fun t k => Tab.setOn t (4 * die + k) true) s.tim.skipped } }

/-- A retrain begins (R28). -/
def State.straitRetrain (s : State) (die : Nat) : State :=
  let s := { s with strait := { s.strait with
    fails := Tab.setNum s.strait.fails die 0, fromDown := Tab.setOn s.strait.fromDown die false,
    bad := Tab.setNum (Tab.setNum s.strait.bad (2 * die) 0) (2 * die + 1) 0 } }
  (s.straitDrops die |>.setFld (straitState die) 3).raise die (die + 1)

/-- STRAIT_FLIT_RECEIVE (R28): a flit that fails its CRC is replayed; at the fourth failure in a row the strait
retrains. [log 118] -/
def State.straitFlit (s : State) (die dir : Nat) (flit : BitVec 256) (c : BitVec 16) : State :=
  if s.fld (straitState die) = 2 then
    let key := 2 * die + dir
    let n := if crc16 (flitBytes flit) = c.toNat then 0 else Tab.num s.strait.bad key + 1
    let s := { s with strait := { s.strait with bad := Tab.setNum s.strait.bad key n } }
    if n = 0 then s else if 4 ≤ n then s.straitRetrain die else s.incSat (straitReplay die)
  else s

/-- STRAIT_FLIT_RECEIVE. -/
def execStraitFlitReceive (die : Fin 2) (toEngine : Bool) (flit : BitVec 256) (crc : BitVec 16) (s : State) :
    Host.Outcome State Fault Refusal :=
  effect (·.straitFlit die.val (b2n toEngine) flit crc) s

/-- A strait goes down (R28, R30, R462): DOWN, its event, and global blank on its ports. [log 19] -/
def State.straitGoesDown (s : State) (die : Nat) : State :=
  let s := { s with strait := { s.strait with
    fails := Tab.setNum s.strait.fails die 0, fromDown := Tab.setOn s.strait.fromDown die false,
    expect := Tab.setOn s.strait.expect die false } }
  ((((s.straitDrops die).setFld (straitState die) 0).setOn (straitDown die) true).raise (2 + die) (die + 1)).blankOn (2 + die)

/-- One attempt of a training or retrain has ended (R28, R30): up, or the next attempt, or down after the third. [log 19] -/
def State.straitAttempt (s : State) (die : Nat) (ok : Bool) : State :=
  if ok then
    let s := { s with strait := { s.strait with
      fails := Tab.setNum s.strait.fails die 0,
      expect := Tab.setOn s.strait.expect die (Tab.on s.strait.expect die || Tab.on s.strait.fromDown die),
      fromDown := Tab.setOn s.strait.fromDown die false } }
    s.setFld (straitState die) 2
  else
    let n := Tab.num s.strait.fails die + 1
    if 3 ≤ n then s.straitGoesDown die
    else { s with strait := { s.strait with fails := Tab.setNum s.strait.fails die n } }

/-! ## Bring-up at start-up (R464) -/

/-- Whether the steps before the bring-up of the chains have ended (R464): the controllers have taken up the DRAM section,
each strait is up, or down with its die left out, and PLL_SCAN has locked. [log 131] -/
def State.bringReady (s : State) : Bool :=
  s.mem.reconfig.isNone && s.locked 3 &&
    [0, 1].all fun die => s.fld (straitState die) == 2 || s.on (straitDown die)

/-- The bring-up of start-up step 8 starts once the steps before it have ended (R464). -/
def State.bringUpDue (s : State) : State :=
  if s.chn.bringDue && s.bringReady then { s with chn := { s.chn with bringDue := false } }.bringUpAll else s

/-- All ports are to be brought up (R200): at the APPLY of a restructure at once, at start-up in step 8 (R464). -/
def State.bringUpAsk (s : State) (startUp : Bool) : State :=
  if startUp then ({ s with chn := { s.chn with bringDue := true } }.blankOn 6).bringUpDue else s.bringUpAll

/-! ## Training -/

/-- STRAIT_RETRAIN_DONE: the end of one attempt of a retrain under R28. -/
def execStraitRetrainDone (die : Fin 2) (ok : Bool) (s : State) : Host.Outcome State Fault Refusal :=
  effect (fun s => if s.fld (straitState die.val) = 3 ∧ !Tab.on s.strait.fromDown die.val then
    (s.straitAttempt die.val ok).bringUpDue else s) s

/-- STRAIT_TRAINING_DONE: the end of one attempt of the initial training, or of the training that follows the clearing
of DOWN (R30). -/
def execStraitTrainingDone (die : Fin 2) (ok : Bool) (s : State) : Host.Outcome State Fault Refusal :=
  effect (fun s => if s.fld (straitState die.val) = 1 ∨ (s.fld (straitState die.val) = 3 ∧ Tab.on s.strait.fromDown die.val)
    then (s.straitAttempt die.val ok).bringUpDue else s) s

/-- Clearing a DOWN flag starts a new training (R30). After a loss of VDD_CORE it does so once the supply is back, as
`back` says, and then the dies have power-good again (R462); before that the flag is cleared and nothing else. [log 46] -/
def State.downClear (s : State) (die : Nat) (back : Bool) : State :=
  if !s.on (straitDown die) then s
  else if s.strait.noPower && !back then s.setOn (straitDown die) false
  else
    let s := { s with strait := { s.strait with
      fails := Tab.setNum s.strait.fails die 0, fromDown := Tab.setOn s.strait.fromDown die true, noPower := false } }
    (s.setOn (straitDown die) false).setFld (straitState die) 3

/-- A write of 1 to a DOWN flag in its register: it does not tell whether VDD_CORE is back, so after a loss of it that is a
free value. [log 46] -/
def State.downWrite (s : State) (die : Nat) : State :=
  (s.downClear die (s.freeWord.toNat % 2 == 1)).whenDo (s.strait.noPower && s.on (straitDown die)) State.usedFree

/-- DOWN_CLEAR. -/
def execDownClear (clear : DownClear) (s : State) : Host.Outcome State Fault Refusal :=
  effect (·.downClear clear.die.val clear.supply) s

/-- VDD_CORE below its limit: both engine dies lose power-good, and the chain pads drive their outputs low (R462). [log 46, 134] -/
def execVddCoreLow (s : State) : Host.Outcome State Fault Refusal :=
  effect (fun s =>
    let s := (s.straitGoesDown 0).straitGoesDown 1
    { s with strait := { s.strait with noPower := true } }) s

end Sys2Proof.Machine
end

