-- ==== Sys2Proof/Machine/Stages.lean ====
section
/-! DEFINITION. The arithmetic of the pixel stages, each a function of its input line and of the values in force for
the bank load (R81, R82, R87 to R103, R126 to R134, R144, R148, R152). -/

namespace Sys2Proof.Machine

/-- Full scale of an 18-bit component. -/
def full : Nat := 0x3FFFF

/-- A component held in its range. -/
def clampPx (v : Int) : Nat := clampN full v

/-- The black pixel. -/
def Px.zero : Px := ⟨0, 0, 0, 0⟩

/-- A pixel's components as a list. -/
def Px.comps (p : Px) : List Nat := [p.c0, p.c1, p.c2]

/-- A change of each component, told its number; the key weight stays. -/
def Px.map (p : Px) (f : Nat → Nat → Nat) : Px := ⟨f 0 p.c0, f 1 p.c1, f 2 p.c2, p.w⟩

/-- An element of a line, black past its end. -/
def pxAt (l : List Px) (i : Nat) : Px := l.getD i Px.zero

/-! ## Fetched pixels (R80, R81) -/

/-- A code of `b` bits (8, 10 or 12) at the top of an 18-bit component, its top bits repeated below. -/
def expand (b v : Nat) : Nat :=
  match b with
  | 8 => v * 2 ^ 10 + v * 4 + v / 64
  | 10 => v * 2 ^ 8 + v / 4
  | _ => v * 2 ^ 6 + v / 64

/-- Palette entry `i` of G`j` (R97), expanded as RGB10. -/
def palettePx (front : Tab Word) (j i : Nat) : Px :=
  let w := (Tab.word front (0x280000 + 0x400 * j + 4 * i)).toNat
  ⟨expand 10 (bits 29 20 w), expand 10 (bits 19 10 w), expand 10 (bits 9 0 w), 0⟩

/-- The bytes that pixel `x` of a surface line occupies: offset and count; for YCC422 those of its pair. -/
def pxSpan (fmt x : Nat) : Nat × Nat :=
  match fmt with
  | 0 => (3 * x, 3)
  | 1 | 4 => (4 * x, 4)
  | 2 => (6 * x, 6)
  | 3 => (5 * (x / 2), 5)
  | _ => (x, 1)

/-- A pixel from its own bytes; chroma of YCC422 as stored in its pair (R80, R81). -/
def pxOfBytes (fmt layer : Nat) (front : Tab Word) (x : Nat) (b : List Byte) : Px :=
  let v := leNat b
  match fmt with
  | 0 => ⟨expand 8 (v % 256), expand 8 (v / 256 % 256), expand 8 (v / 65536 % 256), 0⟩
  | 1 => ⟨expand 10 (bits 29 20 v), expand 10 (bits 19 10 v), expand 10 (bits 9 0 v), 0⟩
  | 2 => ⟨expand 12 (bits 11 0 v), expand 12 (bits 27 16 v), expand 12 (bits 43 32 v), 0⟩
  | 3 => ⟨expand 10 (if x % 2 = 0 then bits 9 0 v else bits 29 20 v), expand 10 (bits 19 10 v), expand 10 (bits 39 30 v), 0⟩
  | 4 => ⟨expand 10 (bits 29 20 v), expand 10 (bits 19 10 v), expand 10 (bits 9 0 v), 0⟩
  | _ => palettePx front (layer - 4) (v % 256)

/-- The chroma of an odd pixel between two stored ones (R81), in 10-bit codes. [log 129] -/
def midChroma (a b : Nat) : Nat := expand 10 ((a / 256 + b / 256 + 1) / 2)

/-- A row of YCC422 pixels with the chroma of odd surface columns formed from their neighbours (R81). `x` is the
surface column of the first pixel. -/
def chroma422 : Nat → List Px → List Px
  | x, p :: q :: t =>
    (if x % 2 = 1 then { p with c1 := midChroma p.c1 q.c1, c2 := midChroma p.c2 q.c2 } else p) :: chroma422 (x + 1) (q :: t)
  | _, l => l

/-! ## Keys (R98, R99) -/

/-- The key distance of one component; more than 64 where MIN exceeds MAX. -/
def keyDist (min max v : Nat) : Nat :=
  let k := v / 64
  if max < min then 65 else Nat.max (min - k) (k - max)

/-- The key weight of a pixel by a layer's ranges and softness. -/
def keyWeight (r : Tab Word) (n : Nat) (p : Px) : Nat :=
  let d := Nat.max (Nat.max (keyDist (regFld r (F.LAY_x_KEY0_MIN n)) (regFld r (F.LAY_x_KEY0_MAX n)) p.c0)
      (keyDist (regFld r (F.LAY_x_KEY1_MIN n)) (regFld r (F.LAY_x_KEY1_MAX n)) p.c1))
    (keyDist (regFld r (F.LAY_x_KEY2_MIN n)) (regFld r (F.LAY_x_KEY2_MAX n)) p.c2)
  let soft := Nat.min 64 (regFld r (F.LAY_x_CTRL_SOFT n))
  if d = 0 then 64 else if soft ≤ d then 0 else 64 * (soft - d) / soft

/-- KEYMODE of a layer. -/
def keyMode (r : Tab Word) (n : Nat) : Nat := regFld r (F.LAY_x_CTRL_KEYMODE n)

/-- The fetcher writes the weight of a source key (R99). -/
def withKey (r : Tab Word) (n : Nat) (p : Px) : Px := { p with w := if keyMode r n = 1 then keyWeight r n p else 0 }

/-! ## Scaling (R90 to R94) -/

/-- STEP before and after its limits (R90). -/
def rawStep (win wout : Nat) : Nat := (roundDiv (win * 2 ^ 20) wout).toNat
/-- STEP. -/
def stepOf (win wout : Nat) : Nat := (clampI 0x10000 0x800000 (rawStep win wout)).toNat

/-- Horizontal STEP and INIT of a layer (R90); without HSCL unity and 0. -/
def hStep (r : Tab Word) (n : Nat) (has : Bool) : Int × Int :=
  if has then
    let st : Int := stepOf (srcW r n) (dstW r n)
    (st, if regFld r (F.LAY_x_CTRL_AUTOINIT n) = 1 then (st - 0x100000) / 2 else signed 25 (regFld r (F.LAY_x_HINIT_INIT n)))
  else (0x100000, 0)

/-- Vertical STEP and INIT of a layer. -/
def vStep (r : Tab Word) (n : Nat) (has : Bool) : Int × Int :=
  if has then
    let st : Int := stepOf (srcH r n) (dstH r n)
    (st, if regFld r (F.LAY_x_CTRL_AUTOINIT n) = 1 then (st - 0x100000) / 2 else signed 25 (regFld r (F.LAY_x_VINIT_INIT n)))
  else (0x100000, 0)

/-- A source position: its integer part and its phase (R91). -/
def position (st : Int × Int) (x : Int) : Int × Nat :=
  let s := st.2 + x * st.1
  (s / 2 ^ 20, (s / 2 ^ 14 % 64).toNat)

/-- A tap of a horizontal table (R94). -/
def hTap (t : Tab Word) (n set phase tap : Nat) : Int :=
  let w := (Tab.word t (0x200000 + 0x2000 * (4 * n + set) + 16 * phase + 4 * (tap / 2))).toNat
  signed 12 (if tap % 2 = 0 then bits 11 0 w else bits 27 16 w)

/-- A tap of a vertical table. -/
def vTap (t : Tab Word) (n set phase tap : Nat) : Int :=
  let w := (Tab.word t (0x200000 + 0x2000 * (4 * n + set) + 0x400 + 12 * phase + 4 * (tap / 2))).toNat
  signed 12 (if tap % 2 = 0 then bits 11 0 w else bits 27 16 w)

/-- A weighted sum of pixels, rounded and clamped (R92); the key weight is interpolated between two of them (R93). -/
def filterPx (coef : List Int) (px : List Px) (a b : Px) (phase : Nat) : Px :=
  let sum (f : Px → Nat) : Nat :=
    clampPx (((List.zipWith (fun c p => c * ((f p : Nat) : Int)) coef px).foldl (· + ·) 0 + 512) / 1024)
  ⟨sum (·.c0), sum (·.c1), sum (·.c2), (a.w * (64 - phase) + b.w * phase + 32) / 64⟩

/-- HSCL (R91 to R93): the destination columns `x0` to `x0 + w - 1` of a crop row. -/
def hscl (r t : Tab Word) (n : Nat) (row : List Px) (x0 w : Nat) : List Px :=
  let st := hStep r n true
  let set := regFld r (F.LAY_x_CTRL_HSET n)
  let top : Int := srcW r n - 1
  let at_ (i : Int) : Px := pxAt row (clampI 0 top i).toNat
  (List.range w).map fun (i : Nat) =>
    let (p, ph) := position st ((x0 + i : Nat) : Int)
    filterPx ((List.range 8).map (hTap t n set ph)) ((List.range 8).map fun (k : Nat) => at_ (p - 3 + (k : Int))) (at_ p) (at_ (p + 1)) ph

/-- A crop row without HSCL (R90): destination column `x` shows crop column `x`, the last one beyond the crop. -/
def plainRow (r : Tab Word) (n : Nat) (row : List Px) (x0 w : Nat) : List Px :=
  (List.range w).map fun i => pxAt row (Nat.min (x0 + i) (srcW r n - 1))

/-- VSCL (R91 to R93): `rows` are the six rows that the taps read, `pa` and `pb` those at taps 2 and 3. -/
def vscl (t : Tab Word) (n set phase : Nat) (rows : List (List Px)) (w : Nat) : List Px :=
  let coef := (List.range 6).map (vTap t n set phase)
  (List.range w).map fun i =>
    filterPx coef (rows.map (pxAt · i)) (pxAt (rows.getD 2 []) i) (pxAt (rows.getD 3 []) i) phase

/-! ## Pre-blend and post-blend LUTs (R95, R96, R103) -/

/-- A matrix coefficient M`ij`. -/
def csc (r : Tab Word) (n i j : Nat) : Int :=
  let k := 3 * i + j
  let w := (Tab.get resetWord r (R.LAY_x_CSC0 n + 4 * (k / 2))).toNat
  signed 16 (if k % 2 = 0 then bits 15 0 w else bits 31 16 w)

/-- The colour matrix (R95). -/
def matrixPx (r : Tab Word) (n : Nat) (p : Px) : Px :=
  let off (j : Nat) : Int := signed 18 (regFld r (F.LAY_x_OFFj_OFF n j))
  let v (j : Nat) : Int := (p.comps.getD j 0 : Nat) + off j
  let out (i : Nat) : Nat := clampPx ((csc r n i 0 * v 0 + csc r n i 1 * v 1 + csc r n i 2 * v 2 + 4096) / 8192)
  ⟨out 0, out 1, out 2, p.w⟩

/-- Interpolation between two table entries with `b` fraction bits, rounded. -/
def lerp (b f : Nat) (lo hi : Int) : Int := lo + ((hi - lo) * f + 2 ^ (b - 1)) / 2 ^ b

/-- The pre-blend table (R96). -/
def plutValue (t : Tab Word) (n c v : Nat) : Nat :=
  let base := 0x220000 + 0x4000 * n + 0x1000 * c
  let e (i : Nat) : Int := ((Tab.word t (base + 4 * i)).toNat % 65536 : Nat)
  let i := v / 256
  let hi := if i = 1023 then clampI 0 0xFFFF (2 * e 1023 - e 1022) else e (i + 1)
  (lerp 8 (v % 256) (e i) hi).toNat * 4

/-- PLUT (R95, R96). -/
def plut (r t : Tab Word) (n : Nat) (line : List Px) : List Px :=
  line.map fun p =>
    let p := if regFld r (F.LAY_x_CTRL_MTX_EN n) = 1 then matrixPx r n p else p
    if regFld r (F.LAY_x_CTRL_PLUT_EN n) = 1 then p.map (plutValue t n) else p

/-- The post-blend table (R103). -/
def qlutValue (t : Tab Word) (k c v : Nat) : Nat :=
  let base := 0x240000 + 0x10000 * k + 0x4000 * c
  let e (i : Nat) : Int := ((Tab.word t (base + 4 * i)).toNat % 2 ^ 18 : Nat)
  let i := v / 64
  let hi := if i = 4095 then clampI 0 full (2 * e 4095 - e 4094) else e (i + 1)
  clampPx (lerp 6 (v % 64) (e i) hi)

/-- QLUT (R103). -/
def qlut (r t : Tab Word) (k : Nat) (line : List Px) : List Px :=
  if regFld r (F.LAY_Fk_QLUT_EN k) = 1 then line.map fun p => p.map (qlutValue t k) else line

/-! ## Composition (R100 to R102) -/

/-- One pixel of KEYB (R100). -/
def keyb (r : Tab Word) (n : Nat) (l c : Px) : Px :=
  match keyMode r n with
  | 1 => ⟨(l.c0 * (64 - l.w) + c.c0 * l.w + 32) / 64, (l.c1 * (64 - l.w) + c.c1 * l.w + 32) / 64,
      (l.c2 * (64 - l.w) + c.c2 * l.w + 32) / 64, 0⟩
  | 2 =>
    let w := keyWeight r n c
    ⟨(l.c0 * w + c.c0 * (64 - w) + 32) / 64, (l.c1 * w + c.c1 * (64 - w) + 32) / 64,
      (l.c2 * w + c.c2 * (64 - w) + 32) / 64, 0⟩
  | _ => { l with w := 0 }

/-- The background line of a feed (R101). -/
def background (r : Tab Word) (k : Nat) : List Px :=
  let b (j : Nat) : Nat := regFld r (F.LAY_Fk_BGj_BG k j)
  List.replicate 1024 ⟨b 0, b 1, b 2, 0⟩

/-- A layer's line laid over a composite from column `x0` on, pixel by pixel. -/
def overlay (f : Px → Px → Px) (x0 : Nat) (layer comp : List Px) : List Px :=
  comp.take x0 ++ List.zipWith f layer (comp.drop x0) ++ comp.drop (x0 + layer.length)

/-! ## FACET (R126 to R131) -/

/-- A facet record (R126): the nine coefficient codes M00 to M22, and OFS_SEL. -/
structure Facet where
  m : List Nat
  sel : Nat
deriving DecidableEq, Repr

/-- A record from its fourteen bytes. -/
def facetOf (b : List Byte) : Facet :=
  let v := leNat b
  ⟨(List.range 9).map fun i => v / 2 ^ (12 * i) % 4096, bits 111 108 v⟩

/-- The identity record (R127). -/
def facetIdentity : Facet := ⟨[0x400, 0, 0, 0, 0x400, 0, 0, 0, 0x400], 0⟩

/-- Whether a record masks subpixel `i` (R127). -/
def Facet.masked (f : Facet) (i : Nat) : Bool := f.m.getD (4 * i) 0 == 0x800

/-- An entry of a facet offset table (R125). -/
def facetOfs (t : Tab Word) (k sel c : Nat) : Int := signed 18 (Tab.word t (0x281000 + 0x100 * k + 16 * sel + 4 * c)).toNat

/-- The share that a masked neighbour passes on (R129). -/
def facetShare (r : Tab Word) (k i : Nat) (n : Option (Facet × Px)) : Int :=
  match n with
  | none => 0
  | some (f, p) =>
    if f.masked i then (((p.comps.getD i 0) * Nat.min 64 (regFld r (F.COR_Fk_FCTRL_SHARE k)) + 32) / 64 : Nat) else 0

/-- One pixel of FACET (R128, R129), with its neighbours. -/
def facetPx (r t : Tab Word) (k : Nat) (f : Facet) (p : Px) (left right : Option (Facet × Px)) : Px :=
  let comp := regFld r (F.COR_Fk_FCTRL_COMP k) == 1
  let m (i j : Nat) : Int := signed 12 (f.m.getD (3 * i + j) 0)
  let out (i : Nat) : Nat :=
    if f.masked i then 0
    else
      let n := if comp then facetShare r k i left + facetShare r k i right else 0
      clampPx ((m i 0 * p.c0 + m i 1 * p.c1 + m i 2 * p.c2 + 512) / 1024 + facetOfs t k f.sel i + n)
  ⟨out 0, out 1, out 2, 0⟩

/-- FACET over a row, from left to right. -/
def facetRow (r t : Tab Word) (k : Nat) : Option (Facet × Px) → List (Facet × Px) → List Px
  | _, [] => []
  | left, x :: rest => facetPx r t k x.1 x.2 left rest.head? :: facetRow r t k (some x) rest

/-! ## ZGAIN, GUARD, DITH (R134, R144, R148, R152) -/

/-- A zone gain in force for the bank load. -/
def gainAt (g : Tab Nat) (zy zx c : Nat) : Nat := Tab.num g (3 * (64 * zy + zx) + c)

/-- The gain at a pixel, interpolated between zone centres when BILIN is set (R134). -/
def pixelGain (r : Tab Word) (g : Tab Nat) (x y c : Nat) : Nat :=
  if regFld r F.COR_ZM_CTRL_BILIN = 0 then gainAt g (y / 16) (x / 16) c
  else
    let u : Int := 2 * x - 15
    let w : Int := 2 * y - 15
    let fx := (u % 32).toNat
    let fy := (w % 32).toNat
    let z (i : Int) : Nat := (clampI 0 63 i).toNat
    let a := z (u / 32)
    let b := z (u / 32 + 1)
    let cc := z (w / 32)
    let d := z (w / 32 + 1)
    let top := (gainAt g cc a c * (32 - fx) + gainAt g cc b c * fx + 16) / 32
    let bot := (gainAt g d a c * (32 - fx) + gainAt g d b c * fx + 16) / 32
    (top * (32 - fy) + bot * fy + 16) / 32

/-- A line with each pixel told its column. -/
def mapCols (f : Nat → Px → Px) (line : List Px) : List Px := (List.range line.length).map fun x => f x (pxAt line x)

/-- ZGAIN (R134) on tile row `y`. -/
def zgain (r : Tab Word) (g : Tab Nat) (y : Nat) (line : List Px) : List Px :=
  if regFld r F.COR_ZM_CTRL_EN = 0 then line
  else mapCols (fun x p => p.map fun c v => clampPx ((v * pixelGain r g x y c + 16384 : Nat) / 32768)) line

/-- GUARD (R147, R148): scaled in limit mode. -/
def guardLine (r : Tab Word) (k att : Nat) (line : List Px) : List Px :=
  if regFld r (F.COR_Fk_GCTRL_MODE k) = 2 then line.map fun p => p.map fun _ v => v * att / 65536 else line

/-- The luminance of a pixel (R144). -/
def luma (r : Tab Word) (k : Nat) (p : Px) : Nat :=
  let wr := regFld r (F.COR_Fk_GW_WR k)
  let wg := regFld r (F.COR_Fk_GW_WG k)
  (((wr : Int) * p.c0 + wg * p.c1 + (65536 - wr - wg) * p.c2 + 32768) / 65536).toNat

/-- DITH (R152) of one component at column `x`, row `y`, phase `n`. -/
def dither (mode n x y v : Nat) : Nat :=
  let pat := ([0, 2, 3, 1].getD (2 * (y % 2) + x % 2) 0)
  match mode with
  | 0 => Nat.min 0xFFFF ((v + (pat + n) % 4) / 4)
  | 1 => Nat.min 0xFFFF ((v + pat) / 4)
  | 2 => Nat.min 0xFFFF ((v + 2) / 4)
  | _ => v / 4

/-- DITH of a line. -/
def dithLine (r : Tab Word) (k n y : Nat) (line : List Px) : List Px :=
  let mode := regFld r (F.COR_Fk_DCTRL_MODE k)
  let black := regFld r (F.COR_Fk_DCTRL_BLACK k) == 1
  mapCols (fun x p => p.map fun _ v => if black && decide (v < 4) then 0 else dither mode n x y v) line

end Sys2Proof.Machine
end

