-- ==== Sys2Proof/Machine/Lines.lean ====
section
/-! DEFINITION. Lines of a bank load: which context feeds which, when a line is ready, and what the fetchers deliver
(R14, R82 to R92, R100 to R102, R114). -/

namespace Sys2Proof.Machine

/-! ## Which context feeds which -/

/-- The records of a feed in an isle with their indices. -/
def feedCtxs (cs : List Ctx) (isle feed : Nat) : List (Nat × Ctx) :=
  (List.zip (List.range cs.length) cs).filter fun x => x.2.isle == isle && x.2.feed == feed

/-- The record of a kind, for a layer where one is named. -/
def findCtx (fc : List (Nat × Ctx)) (kind : Nat) (layer : Option Nat) : Option (Nat × Ctx) :=
  fc.find? fun x => x.2.kind == kind && (match layer with
    | some n => x.2.layer == n
    | none => true)

/-- Whether a layer has a VSCL context here. -/
def hasVscl (fc : List (Nat × Ctx)) (n : Nat) : Bool := (findCtx fc 1 (some n)).isSome

/-- The layer stage that precedes a kind: PLUT, VSCL, HSCL in that order; none is the fetcher. -/
def layerPred (fc : List (Nat × Ctx)) (n kind : Nat) : Option (Nat × Ctx) :=
  ([2, 1, 0].filter fun k => decide (k < kind)).findSome? fun k => findCtx fc k (some n)

/-- The feed stage that precedes a kind: DITH down to QLUT; none is the composite. -/
def feedPred (fc : List (Nat × Ctx)) (kind : Nat) : Option (Nat × Ctx) :=
  ([8, 7, 6, 5, 4].filter fun k => decide (k < kind)).findSome? fun k => findCtx fc k none

/-- The layer beneath another in a feed's stack (R114). -/
def beneath (r : Tab Word) (k n : Nat) : Option Nat :=
  let l := stackLayers r k
  match l.findIdx? (· == n) with
  | some (i + 1) => l[i]?
  | _ => none

/-! ## Rectangles -/

/-- The first tile column that a layer covers. -/
def rectCol (r : Tab Word) (n : Nat) : Nat := (clampI 0 1024 (dstX r n)).toNat
/-- The destination column shown there (R82). -/
def rectLeft (r : Tab Word) (n : Nat) : Nat := (clampI 0 1024 (dstX r n) - dstX r n).toNat
/-- The first band row that a layer covers. -/
def rectRow (r : Tab Word) (n isle : Nat) : Nat := (clampI (128 * isle) (128 * isle + 128) (dstY r n)).toNat - 128 * isle
/-- Whether a band row lies in the rectangle of a layer that is fetched. -/
def Load.shows (l : Load) (n isle row : Nat) : Bool :=
  let (w, h, _) := bandRect l.regs n isle
  (l.srcs.getD n none).isSome && decide (0 < w) && decide (rectRow l.regs n isle ≤ row) && decide (row < rectRow l.regs n isle + h)

/-- The rows that a context forms in a bank load. -/
def Load.rows (l : Load) (fc : List (Nat × Ctx)) (x : Ctx) : Nat :=
  if x.kind < 3 then
    if (l.srcs.getD x.layer none).isNone then 0
    else if x.kind = 0 then bandRows l.regs x.layer x.isle (hasVscl fc x.layer)
    else (bandRect l.regs x.layer x.isle).2.1
  else 128

/-! ## Rows still to be fetched (R84) -/

/-- The composite's row: the topmost KEYB context's, or one layer over the background (R101, R102). -/
def compositeTop (fc : List (Nat × Ctx)) (r : Tab Word) (k : Nat) : Option (Nat × Ctx) :=
  match (stackLayers r k).getLast? with
  | none => none
  | some n => findCtx fc 3 (some n)

/-- The rows of a layer that have been delivered to an isle. -/
def Load.rowsOf (l : Load) (n isle : Nat) : Nat := Tab.num l.rowCount (8 * isle + n)

/-- A row of a layer that has been delivered to an isle. -/
def Load.rowIn (l : Load) (n isle t : Nat) : List Px := Tab.lst l.rowsIn (8192 * (8 * isle + n) + t)

/-- Whether a context will still take fetched rows of a layer: where the layer reaches the band and a row of it has not been
delivered yet (R84, R87). -/
def Load.willFetch (l : Load) (fc : List (Nat × Ctx)) (n : Nat) (x : Ctx) : Bool :=
  let (w, h, _) := bandRect l.regs n x.isle
  if w = 0 ∨ h = 0 ∨ bandRows l.regs n x.isle (hasVscl fc n) ≤ l.rowsOf n x.isle then false
  else if x.kind < 3 then x.layer == n && (layerPred fc n x.kind).isNone
  else (layerPred fc n 3).isNone &&
    ((x.kind == 3 && x.layer == n) ||
     (decide (3 < x.kind) && (feedPred fc x.kind).isNone && (compositeTop fc l.regs x.feed).isNone &&
      (stackLayers l.regs x.feed).contains n))

/-- Whether a bank load of a feed still fetches a layer in some isle (R84). -/
def Load.fetching (l : Load) (cs : List Ctx) (k n : Nat) : Bool :=
  (l.srcs.getD n none).isSome && (List.range 8).any fun isle =>
    let fc := feedCtxs cs isle k
    fc.any fun x => l.willFetch fc n x.2

/-! ## Line buffers of the fetchers and of the facet map reader (R86, R88, R131) -/

/-- The registers by which a fetcher works (R84): those of the bank load that it fetches for. -/
def State.fetchRegs (s : State) (n : Nat) : Tab Word :=
  let cs := Secs.ctxs s.conf.secs
  (((List.range 4).filterMap fun k => match Tab.opt s.pix.loads k with
    | none => none
    | some l => if l.fetching cs k n then some l.regs else none).head?).getD s.regs

/-- The urgent flag of a fetcher (R86): from a fill below LWM until the fill reaches HWM; with LWM at or above HWM exactly
while the fill is below LWM; never with LWM = 0. [log 102] -/
def State.urgentNow (s : State) (n : Nat) : Bool :=
  let fill := 64 * (Tab.lst s.pix.buf n).length
  let r := s.fetchRegs n
  let lwm := 256 * regFld r (F.LAY_x_FETCH_LWM n)
  let hwm := 256 * regFld r (F.LAY_x_FETCH_HWM n)
  decide (fill < lwm) || (Tab.on s.pix.urgent n && decide (fill < hwm) && decide (lwm < hwm) && lwm != 0)

/-- The urgent flags of the fetchers follow their line buffers (R86). [log 102] -/
def State.urgentStep (s : State) : State :=
  { s with pix := { s.pix with
    urgent := (List.range 8).foldl (fun t n => Tab.setOn t n (s.urgentNow n)) s.pix.urgent } }

/-- A line buffer has other contents. -/
def State.setBuf (s : State) (q : Nat) (l : List Delivered) : State :=
  ({ s with pix := { s.pix with buf := Tab.setLst s.pix.buf q l } }).urgentStep

/-- A fetcher's read has returned poisoned: it counts, with its event (R88). -/
def State.fetchPoison (s : State) (n : Nat) : State := (s.incSat (F.LAY_x_STAT_POISON n)).raise 77 n

/-- The fetcher's, or with `q` = 8 the facet map reader's, line at a flat line address: out of its line buffer if it has
come there, else read from memory. [log 21] -/
def State.takeLine (s : State) (q flat : Nat) : State × Delivered :=
  match (Tab.lst s.pix.buf q).find? fun d => d.flat == flat with
  | some d => (s.setBuf q ((Tab.lst s.pix.buf q).eraseP fun d => d.flat == flat), d)
  | none =>
    let (s, d) := s.lineRead q flat
    (s.whenDo (d.poisoned && decide (q < 8)) (·.fetchPoison q), d)

/-- Some lines, in order. -/
def State.takeLines (s : State) (q : Nat) : List Nat → State × List Delivered
  | [] => (s, [])
  | l :: t =>
    let (s, d) := s.takeLine q l
    let (s, ds) := s.takeLines q t
    (s, d :: ds)

/-! ## Fetched rows (R81, R87, R88, R90) -/

/-- The crop row that delivered row `t` shows (R87). -/
def cropRow (r : Tab Word) (n isle : Nat) (vscl : Bool) (t : Nat) : Nat :=
  let y0 := (bandRect r n isle).2.2
  let top : Int := srcH r n - 1
  let first : Int := if vscl then (position (vStep r n true) y0).1 - 2 else y0
  (clampI 0 top (first + t)).toNat

/-- How many columns of a crop row the fetcher fetches: without HSCL none at or beyond DST_W (R90), but the stored chroma
to the right of the last odd pixel (R81). -/
def fetchCols (r : Tab Word) (fc : List (Nat × Ctx)) (n fmt : Nat) : Nat :=
  if (findCtx fc 0 (some n)).isSome then srcW r n else Nat.min (srcW r n) (dstW r n + b2n (fmt == 3))

/-- A crop row of pixels from the bytes of the surface line from byte `o` on. `bad` says which bytes came in poisoned
blocks; a pixel with such a byte takes the same column of the row delivered before (R88). The chroma of an odd pixel is
formed after that, so that an intact odd pixel whose right neighbour came poisoned averages with what replaced that
neighbour. [log 129] -/
def rowOfBytes (l : Load) (n fmt w o : Nat) (bytes : List Byte) (bad : Nat → Nat → Bool) (prev : List Px) : List Px :=
  let x0 := regFld l.regs (F.LAY_x_SRCXY_SRC_X n)
  let spoilt (j : Nat) : Bool := bad (pxSpan fmt (x0 + j)).1 (pxSpan fmt (x0 + j)).2
  let own (j : Nat) : Px :=
    pxOfBytes fmt n l.front (x0 + j) (slice bytes ((pxSpan fmt (x0 + j)).1 - o) (pxSpan fmt (x0 + j)).2)
  let stored := (List.range w).map fun j => if spoilt j then pxAt prev j else own j
  let whole := if fmt = 3 then chroma422 x0 stored else stored
  mapCols (fun j p => if spoilt j then pxAt prev j else withKey l.regs n p) whole

/-- The bytes of a crop row of a layer: where they begin in memory, and how many (R80, R83, R90). -/
def Load.cropSpan (l : Load) (fc : List (Nat × Ctx)) (n : Nat) (src : LaySource) (c : Nat) : Nat × Nat :=
  let x0 := regFld l.regs (F.LAY_x_SRCXY_SRC_X n)
  let w := fetchCols l.regs fc n src.fmt
  let o := (pxSpan src.fmt x0).1
  let last := pxSpan src.fmt (x0 + w - 1)
  (src.base + (regFld l.regs (F.LAY_x_SRCXY_SRC_Y n) + c) * src.pitch + o, last.1 + last.2 - o)

/-- The lines that the fetcher takes for the row it delivers after `t` others: none for a copy of the row before (R87). -/
def Load.rowLines (l : Load) (fc : List (Nat × Ctx)) (n isle t : Nat) : List Nat :=
  match l.srcs.getD n none with
  | none => []
  | some src =>
    let vscl := hasVscl fc n
    let c := cropRow l.regs n isle vscl t
    if t ≠ 0 ∧ cropRow l.regs n isle vscl (t - 1) = c then []
    else
      let (a, len) := l.cropSpan fc n src c
      linesOf a len

/-- A crop row as the fetcher forms it over the row delivered before (R81, R88, R99). [log 129] -/
def State.fetchRow (s : State) (l : Load) (fc : List (Nat × Ctx)) (n : Nat) (src : LaySource) (c : Nat) (prev : List Px) :
    State × List Px :=
  let w := fetchCols l.regs fc n src.fmt
  let o := (pxSpan src.fmt (regFld l.regs (F.LAY_x_SRCXY_SRC_X n))).1
  let (a, len) := l.cropSpan fc n src c
  let (s, ds) := s.takeLines n (linesOf a len)
  let bad (off len : Nat) : Bool :=
    ds.any fun d => d.poisoned && decide (d.flat + o < a + off + len) && decide (a + off < d.flat + 64 + o)
  (s, rowOfBytes l n src.fmt w o (spanBytes ds a len) bad prev)

/-- The next row of a layer is delivered to an isle (R87): one that shows the same crop row as the row before it is a copy
of that. -/
def State.fetchNext (s : State) (l : Load) (fc : List (Nat × Ctx)) (n isle : Nat) (src : LaySource) : State × Load :=
  let vscl := hasVscl fc n
  let t := l.rowsOf n isle
  let c := cropRow l.regs n isle vscl t
  let prev := if t = 0 then [] else l.rowIn n isle (t - 1)
  let (s, row) := if t ≠ 0 ∧ cropRow l.regs n isle vscl (t - 1) = c then (s, prev) else s.fetchRow l fc n src c prev
  (s, { l with
    rowsIn := Tab.setLst l.rowsIn (8192 * (8 * isle + n) + t) row,
    rowCount := Tab.setNum l.rowCount (8 * isle + n) (t + 1) })

/-- Rows of a layer are delivered to an isle up to row `t` (R87); a layer without a source has none. -/
def State.fetchTo (s : State) (l : Load) (fc : List (Nat × Ctx)) (n isle t : Nat) : State × Load :=
  match l.srcs.getD n none with
  | none => (s, l)
  | some src => (List.range (t + 1 - l.rowsOf n isle)).foldl (fun x _ => x.1.fetchNext x.2 fc n isle src) (s, l)

/-! ## Lines -/

/-- The line that a context has stored for a row. -/
def Load.line (l : Load) (i row : Nat) : List Px := Tab.lst l.lines (8192 * i + row)

/-- Whether the layer stage before `kind` has a row; a fetched row is the `ready` operand's concern. -/
def Load.layerReady (l : Load) (fc : List (Nat × Ctx)) (n kind row : Nat) : Bool :=
  match layerPred fc n kind with
  | some x => decide (row < Tab.num l.done x.1)
  | none => true

/-- The row of a layer as the stage before `kind` gives it; fetched rows are cut to the destination columns (R90). -/
def Load.layerLine (l : Load) (fc : List (Nat × Ctx)) (n isle kind row : Nat) : List Px :=
  match layerPred fc n kind with
  | some x => l.line x.1 row
  | none => plainRow l.regs n (l.rowIn n isle row) (rectLeft l.regs n) (bandRect l.regs n isle).1

/-- The delivered row that the highest tap of a VSCL row reads, and the row's taps (R87, R91, R92). -/
def vTaps (r : Tab Word) (n isle row : Nat) : List Nat × Nat :=
  let st := vStep r n true
  let y0 := (bandRect r n isle).2.2
  let yf := (position st y0).1
  let (p, ph) := position st ((y0 + row : Nat) : Int)
  let top : Int := bandRows r n isle true - 1
  ((List.range 6).map fun (t : Nat) => (clampI 0 top (p - yf + (t : Int))).toNat, ph)

/-- Whether the composite has a row. -/
def Load.compositeReady (l : Load) (fc : List (Nat × Ctx)) (k isle row : Nat) : Bool :=
  match compositeTop fc l.regs k with
  | some x => decide (row < Tab.num l.done x.1)
  | none => (stackLayers l.regs k).all fun n =>
      !l.shows n isle row || l.layerReady fc n 3 (row - rectRow l.regs n isle)

/-- The composite's row. -/
def Load.compositeLine (l : Load) (fc : List (Nat × Ctx)) (k isle row : Nat) : List Px :=
  match compositeTop fc l.regs k with
  | some x => l.line x.1 row
  | none => (stackLayers l.regs k).foldl (fun c n =>
      if l.shows n isle row then
        overlay (fun p _ => { p with w := 0 }) (rectCol l.regs n)
          (l.layerLine fc n isle 3 (row - rectRow l.regs n isle)) c
      else c) (background l.regs k)

/-- Whether a feed stage's input has a row. -/
def Load.feedReady (l : Load) (fc : List (Nat × Ctx)) (k isle kind row : Nat) : Bool :=
  match feedPred fc kind with
  | some x => decide (row < Tab.num l.done x.1)
  | none => l.compositeReady fc k isle row

/-- A feed stage's input row. -/
def Load.feedLine (l : Load) (fc : List (Nat × Ctx)) (k isle kind row : Nat) : List Px :=
  match feedPred fc kind with
  | some x => l.line x.1 row
  | none => l.compositeLine fc k isle row

/-- Whether a context's input lines for its next row are there, fetched lines apart (R20, R114). [log 20] -/
def Load.ctxReady (l : Load) (fc : List (Nat × Ctx)) (i : Nat) (x : Ctx) : Bool :=
  let row := Tab.num l.done i
  decide (row < l.rows fc x) &&
  (match x.kind with
   | 0 => true
   | 1 => l.layerReady fc x.layer 1 (maxN (vTaps l.regs x.layer x.isle row).1)
   | 2 => l.layerReady fc x.layer 2 row
   | 3 =>
     (match beneath l.regs x.feed x.layer with
      | none => true
      | some m => match findCtx fc 3 (some m) with
        | none => true
        | some y => decide (row < Tab.num l.done y.1)) &&
     (!l.shows x.layer x.isle row || l.layerReady fc x.layer 3 (row - rectRow l.regs x.layer x.isle))
   | k => l.feedReady fc x.feed x.isle k row)

/-- The layers whose fetched rows a context takes for its next row, and the last row that it takes of each (R86, R89): the
highest that it reads, and with a band's last row of VSCL every row that is left to deliver (R87). -/
def Load.fetched (l : Load) (fc : List (Nat × Ctx)) (i : Nat) (x : Ctx) : List (Nat × Nat) :=
  let row := Tab.num l.done i
  if x.kind < 3 then
    (if (layerPred fc x.layer x.kind).isNone then
      [(x.layer, if x.kind ≠ 1 then row
        else if row + 1 = l.rows fc x then bandRows l.regs x.layer x.isle true - 1
        else maxN (vTaps l.regs x.layer x.isle row).1)] else [])
  else if x.kind = 3 then
    (if l.shows x.layer x.isle row && (layerPred fc x.layer 3).isNone then
      [(x.layer, row - rectRow l.regs x.layer x.isle)] else [])
  else if (feedPred fc x.kind).isNone && (compositeTop fc l.regs x.feed).isNone then
    ((stackLayers l.regs x.feed).filter fun n => l.shows n x.isle row && (layerPred fc n 3).isNone).map fun n =>
      (n, row - rectRow l.regs n x.isle)
  else []

end Sys2Proof.Machine
end

