-- ==== Sys2Proof/Machine/InputWriter.lean ====
section
/-! DEFINITION. The input writer (R74 to R79) and host surfaces (R83): packets stored as surfaces, publication,
signatures. -/

namespace Sys2Proof.Machine

/-! ## From the wire to the surface (R80, R284) -/

/-- Cuts a bit stream into fields of `b` bits, `n` fields from each run of `k` bytes. -/
def bitFields (b k n : Nat) (bs : List Byte) : List Nat :=
  ((chunks k bs).map fun c => (List.range n).map fun i => leNat c / 2 ^ (b * i) % 2 ^ b).flatten

/-- The bytes that a line's pixels take in DRAM. -/
def storedBytes (fmt npix : Nat) (payload : List Byte) : List Byte :=
  match fmt with
  | 1 | 4 => (((bitFields 30 15 4 payload).take npix).map fun v => leBytes 4 v).flatten
  | 2 => (((bitFields 12 3 2 payload).take (3 * npix)).map fun v => leBytes 2 v).flatten
  | _ => payload.take ((bytes2 fmt * npix + 1) / 2)

/-! ## Slots (R74 to R78) -/

/-- The number of buffers of a slot's ring. -/
def State.nbuf (s : State) (m : Nat) : Nat := [2, 3, 4, 4].getD (s.fld (F.LAY_Wm_CTRL_NBUF m)) 4

/-- HEIGHT of a slot (R79). -/
def State.slotH (s : State) (m : Nat) : Nat := size4096 (s.fld (F.LAY_Wm_SIZE_HEIGHT m))
/-- WIDTH of a slot (R79). -/
def State.slotW (s : State) (m : Nat) : Nat := size4096 (s.fld (F.LAY_Wm_SIZE_WIDTH m))

/-- First byte of a buffer of a slot (R76). -/
def State.bufBase (s : State) (m b : Nat) : Nat :=
  baseBytes (s.fld (F.LAY_Wm_BASE_BASE m)) + b * baseBytes (s.fld (F.LAY_Wm_STRIDE_STRIDE m))

/-- First byte of a line of a buffer (R76). -/
def State.lineBase (s : State) (m b y : Nat) : Nat := s.bufBase m b + y * s.fld (F.LAY_Wm_PITCH_PITCH m) * 64

/-- The slot that accepts a stream from a port (R74). -/
def State.slotOf (s : State) (port stream : Nat) : Option Nat :=
  (List.range 8).find? fun m => s.on (F.LAY_Wm_CTRL_EN m) && s.fld (F.LAY_Wm_CTRL_PORT m) == port &&
    s.fld (F.LAY_Wm_CTRL_STREAM_ID m) == stream

/-- Whether a bank load pins a buffer of a slot (R84): one of its layers selected it, and some record of the layer still
has rows to fetch. -/
def State.pinned (s : State) (m b : Nat) : Bool :=
  (List.range 4).any fun k =>
    match Tab.opt s.pix.loads k with
    | none => false
    | some l => (List.range 8).any fun n =>
      match l.srcs.getD n none with
      | some src => src.slot == some (m, b) && l.fetching (Secs.ctxs s.conf.secs) k n
      | none => false

/-- The latest published buffer of a slot. -/
def State.latest (s : State) (m : Nat) : Option Nat :=
  if s.on (F.LAY_Wm_STAT_NONE m) then none else some (s.fld (F.LAY_Wm_STAT_LAST m))

/-- A frame of a slot begins (R76): the lowest buffer that is neither published nor pinned, or the frame is discarded. -/
def State.frameBegin (s : State) (m seq : Nat) : State :=
  match (List.range (s.nbuf m)).find? fun b => s.latest m != some b && !s.pinned m b with
  | some b =>
    ({ s with pix := { s.pix with inFrame := Tab.setOpt s.pix.inFrame m (some ⟨seq, some b, [], false⟩) } }).setFld
      (F.LAY_Wm_STAT_WRITING m) b
  | none =>
    (({ s with pix := { s.pix with inFrame := Tab.setOpt s.pix.inFrame m (some ⟨seq, none, [], false⟩) } }).incSat
      (F.LAY_Wm_ERR_DROP m)).raise 75 m

/-- The bytes of a published frame that its signature covers (R78). -/
def State.signedBytes (s : State) (m b : Nat) (lines : Tab Bool) : List Byte :=
  let n := (s.slotW m * bytes2 (s.fld (F.LAY_Wm_CTRL_FORMAT m)) + 1) / 2
  (((List.range (s.slotH m)).filter (Tab.on lines)).map fun y => s.readFlat (s.lineBase m b y) n).flatten

/-- A publication (R77, R78). -/
def State.publishFrame (s : State) (m b : Nat) (lines : Tab Bool) : State :=
  let sig := crc32c (s.signedBytes m b lines)
  let s := s.setFld (F.LAY_Wm_STAT_PUBLISHED m) (s.fld (F.LAY_Wm_STAT_PUBLISHED m) + 1)
  let s := (s.setFld (F.LAY_Wm_STAT_LAST m) b).setOn (F.LAY_Wm_STAT_NONE m) false
  let s := s.setReg (R.LAY_Wm_SIG m) sig
  -- R371: a publication sets the idle reference again
  ({ s with pwr := { s.pwr with leave := s.pwr.leave || (s.fld F.PWR_STAT_STATE == 1 && !s.pwr.forced) } }).setFld F.PWR_IDLECNT_MS 0

/-- A frame of a slot ends (R77). -/
def State.frameEnd (s : State) (m : Nat) (f : InFrame) : State :=
  let s := { s with pix := { s.pix with inFrame := Tab.setOpt s.pix.inFrame m (some { f with ended := true }) } }
  let s := match f.buf with
    | none => s
    | some b =>
      if (List.range (s.slotH m)).all (Tab.on f.lines) then s.publishFrame m b f.lines
      else
        let s := (s.incSat (F.LAY_Wm_ERR_INCOMPLETE m)).raise 76 m
        if s.on (F.LAY_Wm_CTRL_DROP_INC m) then s else s.publishFrame m b f.lines
  s.snoopBoundary m

/-- A packet that its slot accepts (R75, R76). [log 74, 118] -/
def State.inputPacket (s : State) (m seq line npix : Nat) (payload : List Byte) : State :=
  let s := match Tab.opt s.pix.inFrame m with
    | none => s.frameBegin m seq
    | some f => if f.seq = seq then s else (if f.ended then s else s.frameEnd m f).frameBegin m seq
  if s.slotH m ≤ line ∨ s.slotW m < npix then s.incSat (F.LAY_Wm_ERR_OVERSIZE m)
  else
    match Tab.opt s.pix.inFrame m with
    | none => s
    | some f =>
      if f.ended then s
      else
        let f := { f with lines := Tab.setOn f.lines line true }
        let s := { s with pix := { s.pix with inFrame := Tab.setOpt s.pix.inFrame m (some f) } }
        let s := match f.buf with
          | none => s
          | some b =>
            let bytes := storedBytes (s.fld (F.LAY_Wm_CTRL_FORMAT m)) npix payload
            (s.writeFlat (9 + m) (s.lineBase m b line) bytes).snoop m bytes
        if line + 1 = s.slotH m then s.frameEnd m f else s

/-- A slot has been disabled or enabled by a commit (R84): a slot that becomes enabled has published nothing. -/
def State.slotEnabled (s : State) (m : Nat) : State :=
  ({ s with pix := { s.pix with inFrame := Tab.setOpt s.pix.inFrame m none } }).setOn (F.LAY_Wm_STAT_NONE m) true

/-! ## Host surfaces (R83) -/

/-- PUBLISH: LAY_x_SIG counts the publications (R8, R83). -/
def State.hostPublish (s : State) (n : Nat) : State :=
  let s := s.incSat (F.LAY_x_SIG_SIG n)
  ({ s with pwr := { s.pwr with leave := s.pwr.leave || (s.fld F.PWR_STAT_STATE == 1 && !s.pwr.forced) } }).setFld F.PWR_IDLECNT_MS 0

/-- PUBLISH. -/
def execPublish (layer : Fin 8) (s : State) : Host.Outcome State Fault Refusal := effect (·.hostPublish layer.val) s

end Sys2Proof.Machine
end

