-- ==== Sys2Proof/Machine/Pipeline.lean ====
section
/-! DEFINITION. A bank load: its start, the beads that form its lines, the shift into the chains, its end, and the
writeback tap (R17, R20, R28, R84, R89, R107 to R112, R124, R132, R139, R144, R153, R164, R181 to R184, R191, R192,
R332, R333, R385). -/

namespace Sys2Proof.Machine

/-! ## Start of a bank load (R84, R124, R164) -/

/-- The source that a layer selects (R80, R83, R84), and whether its format is at fault. [log 28] -/
def State.selectSource (s : State) (r : Tab Word) (n : Nat) : Option LaySource × Bool :=
  let src := regFld r (F.LAY_x_CTRL_SRC n)
  if regFld r (F.LAY_x_CTRL_EN n) = 0 then (none, false)
  else if src < 8 then
    let fmt := regFld r (F.LAY_Wm_CTRL_FORMAT src)
    if !fmtAllowed n fmt then (none, true)
    else match s.latest src with
    | none => (none, false)
    | some b => (some ⟨fmt, s.bufBase src b, regFld r (F.LAY_Wm_PITCH_PITCH src) * 64, some (src, b)⟩, false)
  else if src = 8 then
    let fmt := regFld r (F.LAY_x_CTRL_FORMAT n)
    if fmtAllowed n fmt then
      (some ⟨fmt, baseBytes (regFld r (F.LAY_x_BASE_BASE n)), regFld r (F.LAY_x_PITCH_PITCH n) * 64, none⟩, false)
    else (none, true)
  else (none, false)

/-- The registers as SIGN lets the fetchers and KEYB see them (R333). -/
def State.signRegs (s : State) : Tab Word :=
  if s.clasp.lce ∧ s.on F.CLS_CTRL_SIGN_EN then
    (List.range 8).foldl (fun r n =>
      let w := Tab.get resetWord r (R.LAY_x_CTRL n)
      let sign := n == 4 + s.fld F.CLS_CTRL_SIGN_G
      let w := (F.LAY_x_CTRL_EN n).put w (b2n sign)
      Tab.put resetWord r (R.LAY_x_CTRL n) (if sign then (F.LAY_x_CTRL_KEYMODE n).put w 0 else w)) s.regs
  else s.regs

/-- The input signature of a layer (R78, R83): none where its source has none. -/
def State.layerSig (s : State) (n : Nat) : Option Word :=
  let src := s.fld (F.LAY_x_CTRL_SRC n)
  if s.on (F.LAY_x_CTRL_EN n) then
    if src < 8 then some (s.reg (R.LAY_Wm_SIG src)) else if src = 8 then some (s.reg (R.LAY_x_SIG n)) else none
  else none

/-- The signatures of a feed's enabled layers (R178, R184). -/
def State.feedSigs (s : State) (k : Nat) : List Word := (stackLayers s.regs k).filterMap s.layerSig

/-- The key of a feed in the drivers of a die. -/
def dieFeed (die k : Nat) : Nat := 4 * die + k

/-- One more than the bank that a feed completed last in the drivers of a die; 0 none. -/
def State.shownOn (s : State) (die k : Nat) : Nat := Tab.num s.tim.shown (dieFeed die k)

/-- Whether a feed is shown on either die. -/
def State.isShown (s : State) (k : Nat) : Bool := s.shownOn 0 k != 0 || s.shownOn 1 k != 0

/-- The bank that a load of a feed writes in the drivers of a die in the scheme of R164, given the feeds in force. -/
def State.loadBank (s : State) (die k : Nat) : Nat :=
  match s.tim.active with
  | [a] => if a = k then (if s.shownOn die k = 1 then 2 else 0) else k
  | [a, b] =>
    let j := if a = k then 0 else if b = k then 1 else k
    if s.shownOn die k = j + 1 then j + 2 else j
  | _ => k

/-- One more than the bank that a feed's slot shows on a die (R164, R165, R176); 0 while the feed is dark. With one or two
feeds it is the bank last completed at the frame's start; with three or four it is bank `k` while a load of the feed is to
come. A feed that the set newly activates is dark. [log 119] -/
def State.slotBank (s : State) (t : TimSet) (die k : Nat) : Nat :=
  let shown := s.shownOn die k
  if !s.tim.active.contains k then 0
  else if t.feeds.length ≤ 2 then Tab.num s.tim.front (dieFeed die k)
  else if shown ≠ 0 ∧ ((Tab.opt s.pix.loads k).isSome ∨ Tab.on s.tim.due k) then k + 1
  else shown

/-- Whether another active feed still shows a bank in this frame: its slot has not ended (R176). -/
def State.bankShown (s : State) (die k bank : Nat) : Bool :=
  let t := s.tset
  let row : Nat := match s.refPort with
    | none => 0
    | some p => ((s.port p).row).getD 0
  s.tim.active.any fun m => m != k && t.lenOf m != 0 && decide (row < t.ofsOf m + t.lenOf m) &&
    s.slotBank t die m == bank + 1

/-- Whether a die skips its part of a feed's load (R28). -/
def State.skips (s : State) (die k : Nat) : Bool := Tab.on s.tim.skipped (dieFeed die k)

/-- Whether both dies skip a feed's load. -/
def State.skipsAll (s : State) (k : Nat) : Bool := s.skips 0 k && s.skips 1 k

/-- Whether PACK has emitted a load's last value in every isle of the dies that do not skip it (R28, R164). -/
def State.packed (s : State) (k : Nat) (l : Load) : Bool :=
  (List.range 8).all fun isle => s.skips (isle / 4) k ||
    (match findCtx (feedCtxs (Secs.ctxs s.conf.secs) isle k) 9 none with
    | some x => decide (128 ≤ Tab.num l.done x.1)
    | none => true)

/-- Whether the feed before `k` in the order of R164 lets its load start. [log 24] -/
def State.turnOf (s : State) (k : Nat) : Bool :=
  match s.tim.active with
  | [a, b] =>
    if b = k then
      !Tab.on s.tim.due a && (match Tab.opt s.pix.loads a with
        | none => true
        | some l => s.packed a l)
    else true
  | _ => true

/-- Whether a port is still in steps 1 to 5 of its bring-up. -/
def State.bringingUp (s : State) : Bool :=
  s.chains.any fun p => (s.port p).bringup == .calibrating || (s.port p).bringup == .reading

/-- Whether bank loads may start in this frame (R72, R177, R179, R200, R244, R367, R370). [log 131] -/
def State.mayLoad (s : State) : Bool :=
  !s.tim.skip && s.ldrState != 6 && s.ldr.restruct != .writing && s.tim.relock != .locking && !s.bringingUp &&
  s.mem.reconfig.isNone && !s.stopping 8 && s.hubRuns

/-- Whether the chain sequencer of a die skips bank loads: its strait is not up (R28). [log 25] -/
def State.straitSkips (s : State) (die : Nat) : Bool := s.fld (straitState die) != 2

/-- A new capture of a feed (R109): its buffer is neither the latest published nor the one being sent, and of those the
lowest-numbered. [log 29] -/
def State.captureStart (s : State) (r : Tab Word) (k : Nat) : State :=
  let s := if (Tab.opt s.pix.capture k).isSome then
      ({ s with pix := { s.pix with capture := Tab.setOpt s.pix.capture k none } }).incSat (F.LAY_Fk_WBSTAT_INCOMPLETE k)
        |>.snoopBoundary (8 + k)
    else s
  let cs := Secs.ctxs s.conf.secs
  let taps := cs.any fun x => x.feed == k && x.kind == 4 && x.dest == 3
  if taps ∧ regFld r (F.LAY_Fk_WBCTRL_EN k) = 1 ∧ !Tab.on s.pix.held k then
    let free (b : Nat) : Bool := s.fld (F.LAY_Fk_WBSTAT_LAST k) != b && s.fld (F.LAY_Fk_WBSTAT_SENDING k) != b
    match (List.range 3).find? free with
    | none => s
    | some b =>
      let c : Capture := ⟨b, baseBytes (regFld r (F.LAY_Fk_WBBASE_BASE k)), wbDec r k,
        regFld r (F.LAY_Fk_WBCTRL_ENC k) == 1, [], [], false⟩
      { s with pix := { s.pix with capture := Tab.setOpt s.pix.capture k (some c) } }
  else s

/-- Whether another feed's load still takes rows out of a layer's line buffer, or with 8 out of the facet map's. -/
def State.bufTaken (s : State) (k n : Nat) : Bool :=
  (List.range 4).any fun m => m != k && (match Tab.opt s.pix.loads m with
    | none => false
    | some l => n == 8 || l.fetching (Secs.ctxs s.conf.secs) m n)

/-- Whether a load of a feed is held back: not due or not its turn, in a frame in which none starts (R179, R370), or while
its bank is shown (R176). -/
def State.loadHeld (s : State) (k : Nat) : Bool :=
  !Tab.on s.tim.due k || (Tab.opt s.pix.loads k).isSome || !s.mayLoad || !s.turnOf k ||
    s.bankShown 0 k (s.loadBank 0 k) || s.bankShown 1 k (s.loadBank 1 k)

/-- BANK_LOAD_START: the values in force now are used throughout (R84, R124); a die whose strait is not up skips its part
of the load (R28). [log 25, 28] -/
def State.loadStart (s : State) (k : Nat) : State :=
  if s.loadHeld k then s
  else
    let bank := s.loadBank 0 k
    let bankE1 := s.loadBank 1 k
    let s := { s with tim := { s.tim with
      due := Tab.setOn s.tim.due k false,
      skipped := [0, 1].foldl (fun t die => Tab.setOn t (dieFeed die k) (s.straitSkips die)) s.tim.skipped } }
    if s.skipsAll k then s
    else
      let s := s.rewriteAll
      let att := Tab.num s.cor.attNext k
      let s := if att = 0 then s
        else { s with cor := { s.cor with attNext := Tab.setNum s.cor.attNext k 0 } }.setFld (F.COR_Fk_GATT_ATT k) (att - 1)
      let r := s.signRegs
      let layers := stackLayers r k
      let pick (n : Nat) : Option LaySource × Bool := if layers.contains n then s.selectSource r n else (none, false)
      let phase := Tab.num s.pix.phase k
      let l : Load := {
        bank := bank, bankE1 := bankE1, regs := r, tables := s.tabs.beads, front := s.tabs.front,
        srcs := (List.range 8).map fun n => (pick n).1,
        gains := s.cor.gains, att := s.fld (F.COR_Fk_GATT_ATT k), phase := phase,
        cap := if s.clasp.lce then some (s.fld F.CLS_LCEG_GREY) else none,
        done := [], lines := [], packed := [], dose := [], sums := [], shifted := [], under := [], empty := [],
        sigs := s.feedSigs k, sent := false, rowsIn := [], rowCount := [] }
      let s := s.each (List.range 8) fun s n => if (pick n).2 then s.setOn (F.LAY_x_STAT_FMT_ERR n) true else s
      let s := { s with
        pix := { s.pix with
          loads := Tab.setOpt s.pix.loads k (some l), phase := Tab.setNum s.pix.phase k ((phase + 1) % 4) },
        -- sums that have not come by now are late (R150)
        cor := { s.cor with overdue := Tab.setNum s.cor.overdue k (Tab.lst s.cor.waiting k).length } }
      let s := s.each (s.chains.filter fun p => !s.skips (p / 32) k) fun s p =>
        s.setPort p { s.port p with loads := (s.port p).loads ++ [k] }
      -- what the line buffers hold has been read before the load
      let s := s.each (layers ++ [8]) fun s n => if s.bufTaken k n then s else s.setBuf n []
      s.captureStart r k

/-- Removes a load: nothing of it is shifted any more (R165, R192). -/
def State.loadDrop (s : State) (k : Nat) : State :=
  let s := { s with pix := { s.pix with loads := Tab.setOpt s.pix.loads k none } }
  s.each s.chains fun s p => s.setPort p { s.port p with loads := (s.port p).loads.filter (· != k) }

/-! ## Beads (R17, R20) -/

/-- The lines of a row of the facet map that a load of a feed uses (R126). -/
def facetLines (r : Tab Word) (k y : Nat) : List Nat :=
  let base := baseBytes (if regFld r (F.COR_Fk_FCTRL_MAPSEL k) = 0 then regFld r (F.COR_Fk_FMAPA_BASE k)
    else regFld r (F.COR_Fk_FMAPB_BASE k))
  linesOf (base + 14336 * y) 14336

/-- The 224 blocks of a row of the facet map; each that comes poisoned counts for the feed, with its event (R131). [log 101] -/
def State.facetBlocks (s : State) (r : Tab Word) (k y : Nat) : State × List Delivered :=
  let (s, ds) := s.takeLines 8 (facetLines r k y)
  (s.each (ds.filter (·.poisoned)) fun s _ => (s.incSat (F.COR_Fk_FSTAT_POISON k)).raise 81 k, ds)

/-- The records of a map row (R126, R131): identity where a block that a record overlaps came poisoned. -/
def facetRecords (ds : List Delivered) : List Facet :=
  let bytes := spanBytes ds 0 14336
  (List.range 1024).map fun x =>
    let bad (b : Nat) : Bool := match ds[b]? with
      | some d => d.poisoned
      | none => true
    if bad (14 * x / 64) || bad ((14 * x + 13) / 64) then facetIdentity else facetOf (slice bytes (14 * x) 14)

/-- Adds a line's values to zone sums: `f` gives a pixel's three values (R139, R144). -/
def addSums (t : Tab Nat) (y : Nat) (f : Px → List Nat) (line : List Px) : Tab Nat :=
  (List.range 64).foldl (fun t zx =>
    let px := (line.drop (16 * zx)).take 16
    (List.range 3).foldl (fun t c =>
      let key := 3 * (64 * (y / 16) + zx) + c
      Tab.setNum t key (Tab.num t key + sumN (px.map fun p => (f p).getD c 0))) t) t

/-- What GUARD sums of a pixel: Y, R, R + G + B (R144). -/
def guardValues (r : Tab Word) (k : Nat) (p : Px) : List Nat := [luma r k p, p.c0, p.c0 + p.c1 + p.c2]

/-- A context forms its next line (R17) out of lines that are there, and the facet records of its row. -/
def Load.runCtx (l : Load) (fc : List (Nat × Ctx)) (i : Nat) (x : Ctx) (facets : List Facet) : Load :=
  let row := Tab.num l.done i
  let r := l.regs
  let n := x.layer
  let k := x.feed
  let y := 128 * x.isle + row
  let (w, _, _) := bandRect r n x.isle
  let inp := l.feedLine fc k x.isle x.kind row
  let store (o : List Px) : Load :=
    { l with lines := Tab.setLst l.lines (8192 * i + row) o, done := Tab.setNum l.done i (row + 1) }
  match x.kind with
  | 0 => store (hscl r l.tables n (l.rowIn n x.isle row) (rectLeft r n) w)
  | 1 =>
    let (taps, ph) := vTaps r n x.isle row
    store (vscl l.tables n (regFld r (F.LAY_x_CTRL_VSET n)) ph (taps.map (l.layerLine fc n x.isle 1)) w)
  | 2 => store (plut r l.tables n (l.layerLine fc n x.isle 2 row))
  | 3 =>
    let under := match beneath r k n with
      | none => background r k
      | some m => match findCtx fc 3 (some m) with
        | some z => l.line z.1 row
        | none => background r k
    store (if l.shows n x.isle row then
        overlay (keyb r n) (rectCol r n) (l.layerLine fc n x.isle 3 (row - rectRow r n x.isle)) under
      else under)
  | 4 => store (qlut r l.tables k inp)
  | 5 => store (if regFld r (F.COR_Fk_FCTRL_EN k) = 0 then inp else facetRow r l.tables k none (List.zip facets inp))
  | 6 => store (zgain r l.gains y inp)
  | 7 =>
    let o := guardLine r k l.att inp
    { store o with sums := addSums l.sums y (guardValues r k) o }
  | 8 => { store (dithLine r k l.phase y inp) with dose := addSums l.dose y Px.comps inp }
  | _ =>
    let cap (v : Nat) : Nat := match l.cap with
      | some g => Nat.min v g
      | none => v
    let vals := (inp.map fun p => p.comps.map cap).flatten
    { l with packed := Tab.setLst l.packed (128 * x.isle + row) vals, done := Tab.setNum l.done i (row + 1) }

/-- A context takes the fetched rows and the map row that it needs and forms its next line (R17, R86, R131). -/
def State.runCtx (s : State) (l : Load) (fc : List (Nat × Ctx)) (i : Nat) (x : Ctx) : State × Load :=
  let y := 128 * x.isle + Tab.num l.done i
  let (s, l) := (l.fetched fc i x).foldl (fun a n => a.1.fetchTo a.2 fc n.1 x.isle n.2) (s, l)
  let (s, facets) := if x.kind = 5 ∧ regFld l.regs (F.COR_Fk_FCTRL_EN x.feed) = 1 then
      let b := s.facetBlocks l.regs x.feed y
      (b.1, facetRecords b.2)
    else (s, [])
  (s, l.runCtx fc i x facets)

/-- A line buffer or the facet reader has run empty while a bank load needs data (R89, R132), once per bank load;
`n` = 8 is the facet map. [log 22] -/
def State.countEmpty (s : State) (k n : Nat) : State :=
  match Tab.opt s.pix.loads k with
  | none => s
  | some l =>
    if Tab.on l.empty n then s
    else
      let s := { s with pix := { s.pix with
        loads := Tab.setOpt s.pix.loads k (some { l with empty := Tab.setOn l.empty n true }) } }
      if n = 8 then (s.incSat (F.COR_Fk_FSTAT_EMPTY k)).raise 82 k else (s.incSat (F.LAY_x_STAT_EMPTY n)).raise 78 n

/-- What a context takes for its next row out of the line buffers of the fetchers, or of the facet map reader, 8: for each
the lines that make up the rows not delivered yet. -/
def Load.needs (l : Load) (fc : List (Nat × Ctx)) (i : Nat) (x : Ctx) : List (Nat × List Nat) :=
  let rows (n last : Nat) : List Nat := (List.range (last + 1 - l.rowsOf n x.isle)).flatMap fun j =>
    l.rowLines fc n x.isle (l.rowsOf n x.isle + j)
  (((l.fetched fc i x).filter fun e => decide (l.rowsOf e.1 x.isle ≤ e.2)).map fun e => (e.1, rows e.1 e.2)) ++
    (if x.kind = 5 ∧ regFld l.regs (F.COR_Fk_FCTRL_EN x.feed) = 1 then
      [(8, facetLines l.regs x.feed (128 * x.isle + Tab.num l.done i))] else [])

/-- Whether a line buffer holds what a context takes out of it, or, where the fetched data come in time as `ready` says, the
memory gives the rest at once (R86, R254). [log 20, 21] -/
def State.hasRows (s : State) (ready : Bool) (e : Nat × List Nat) : Bool :=
  let rest := e.2.filter fun a => !(Tab.lst s.pix.buf e.1).any fun d => d.flat == a
  rest.isEmpty || (ready && s.queueIdle e.1 && rest.all s.flatOpen)

/-- Whether the beads of a die have a clock and are not gated as a whole (R363, R368, R370). -/
def State.beadsRun (s : State) (die : Nat) : Bool :=
  s.clocked (4 + die) && !s.isGated (13 + die) && s.fld F.PWR_STAT_STATE == 0

/-- Whether fetched rows and map rows can reach the isles of a die (R26, R86, R370). -/
def State.fetchRuns (s : State) (die : Nat) : Bool := s.fld (straitState die) == 2 && !s.isGated 8

/-- BEAD_CONTEXT_SELECT: among the contexts whose input lines are there the bead runs one for one line (R17, R20); bit
`c` of `ready` says that the fetched rows that context `c` takes come in time, bit `c` of `room` that the line it writes
finds room. A context for which a line buffer has run empty counts as R89 and R132 say; one whose rows a strait holds up
does not. [log 20] -/
def State.beadSelect (s : State) (isle strand bead ready room : Nat) : State :=
  let cs := Secs.ctxs s.conf.secs
  let die := isle / 4
  let needs (x : Nat × Ctx) : List (Nat × List Nat) := match Tab.opt s.pix.loads x.2.feed with
    | none => []
    | some l => l.needs (feedCtxs cs isle x.2.feed) x.1 x.2
  let here := (List.zip (List.range cs.length) cs).filter fun x =>
    x.2.isle == isle && x.2.strand == strand && x.2.bead == bead && s.beadsRun die &&
    (match Tab.opt s.pix.loads x.2.feed with
     | none => false
     | some l => l.ctxReady (feedCtxs cs isle x.2.feed) x.1 x.2)
  let has (x : Nat × Ctx) (e : Nat × List Nat) : Bool := s.hasRows (ready / 2 ^ x.2.ctx % 2 == 1) e
  let go := here.filter fun x =>
    room / 2 ^ x.2.ctx % 2 == 1 && ((needs x).isEmpty || (s.fetchRuns die && (needs x).all (has x)))
  let dry := (here.filter fun _ => s.fetchRuns die).flatMap fun x =>
    ((needs x).filter fun e => !has x e).map fun e => (x.2.feed, e.1)
  let s := s.each dry fun s x => s.countEmpty x.1 x.2
  let base := 4 * (32 * isle + 8 * strand + bead)
  let reqs (c : Nat) : List Nat := (go.filter fun x => x.2.cls == c).map fun x => x.2.ctx
  let bead := 32 * isle + 8 * strand + bead
  match arbitrate base s.pix.beadPtr ((List.range 4).map reqs) with
  | none => { s with pix := { s.pix with beadGated := Tab.setOn s.pix.beadGated bead true } }
  | some (c, w) =>
    let s := { s with pix := { s.pix with
      beadPtr := Tab.setNum s.pix.beadPtr c (w + 1), beadCur := Tab.setNum s.pix.beadCur bead w,
      beadGated := Tab.setOn s.pix.beadGated bead false, beadRan := Tab.setOn s.pix.beadRan bead true } }
    match go.find? fun x => x.2.cls == c - base && x.2.ctx == w with
    | none => s
    | some x => match Tab.opt s.pix.loads x.2.feed with
      | none => s
      | some l =>
        let (s, l) := s.runCtx l (feedCtxs cs isle x.2.feed) x.1 x.2
        { s with pix := { s.pix with loads := Tab.setOpt s.pix.loads x.2.feed (some l) } }

/-- BEAD_CONTEXT_SELECT. -/
def execBeadContextSelect (isle : Fin 8) (strand : Fin 4) (bead : Fin 8) (inputs : BeadInputs) (s : State) :
    Host.Outcome State Fault Refusal :=
  effect (·.beadSelect isle.val strand.val bead.val inputs.ready.toNat inputs.room.toNat) s

/-! ## The chains (R181, R182, R191, R192, R211) -/

/-- The subpixels of a port (R211): driver and channel as 64 * driver + channel, and the place in a row of 3,072
values. -/
def portCols (c : Secs) (p : Nat) : List (Nat × Nat) :=
  let block := ((Secs.get c 4 0).drop (6400 * (p / 8) + 256)).take 6144
  let entries := (chunks 2 block).map leNat
  ((List.zip entries (List.range 3072)).filter fun e =>
    bits 15 15 e.1 == 1 && bits 14 12 e.1 == Secs.slot c p).map fun e => (bits 10 0 e.1, e.2)

/-- The value slots of a line in shift order, the value on SD0 and the one on SD1 (R191); 0 where no subpixel
stands (R211). [log 23] -/
def portSlots (nic : Nat) (cols : List (Nat × Nat)) (vals : List Nat) : List (Nat × Nat) :=
  let v (key : Nat) : Nat := match cols.find? fun e => e.1 == key with
    | some e => vals.getD e.2 0
    | none => 0
  (List.range (24 * nic)).map fun i =>
    let key := 64 * (nic - 1 - i / 24) + (23 - i % 24)
    (v key, v (key + 24))

/-- What a data line carries: a value that is missing is replaced by the last one shifted (R181). -/
def substitute (missing : List Nat) (line : Nat) : Nat → Nat → List Nat → List Nat
  | _, _, [] => []
  | i, last, v :: t =>
    let o := if missing.contains (2 * i + line) then last else v
    o :: substitute missing line (i + 1) o t

/-- Whether an engine die is throttled (R384). [log 24] -/
def State.slowed (s : State) (die : Nat) : Bool := s.on (if die = 0 then F.THM_STAT_THR_E0 else F.THM_STAT_THR_E1)

/-- The underrun counter of a port (R182). -/
def undrFld (p : Nat) : Fld := if p % 2 = 0 then F.TIM_UNDRj_EVEN (p / 2) else F.TIM_UNDRj_ODD (p / 2)

/-- Whether a port may not shift a load now (R385): with three or four feeds a paced load of feed `k` shifts only outside
slot `k`. -/
def State.slotBars (s : State) (p k : Nat) : Bool :=
  s.slowed (p / 32) && decide (3 ≤ s.tim.active.length) && (match (s.port p).row with
    | none => false
    | some r => s.tset.slotAt r == some k)

/-- The bank that a load writes in the drivers of a port. -/
def Load.bankOf (l : Load) (p : Nat) : Nat := if p < 32 then l.bank else l.bankE1

/-- CHAIN_LINE_SHIFT: the next line of the load at the head of the port's order, then its BWR. `missing` names the value
slots found empty, 2 * slot + data line. A row that PACK has not emitted keeps a load from beginning, and later leaves
every slot empty; a throttled die waits for the whole line (R385). [log 25, 136] -/
def State.lineShift (s : State) (p : Nat) (missing : List Nat) : State :=
  let nic := s.nic p
  let x := s.port p
  let die := p / 32
  match x.loads.head? with
  | none => s
  | some k => match Tab.opt s.pix.loads k with
    | none => s
    | some l =>
      let rows := Secs.portRows s.conf.secs p
      let j := Tab.num l.shifted p
      let slow := s.slowed die
      match rows[j]? with
      | none => s
      | some row =>
        let vals := Tab.lst l.packed (128 * (p / 8) + row)
        if nic = 0 ∨ s.fld (straitState die) ≠ 2 ∨ !s.clocked (4 + die) ∨ s.mute p ∨
            (vals.isEmpty ∧ (j = 0 ∨ slow)) ∨ s.slotBars p k then s
        else
          let slots := portSlots nic (portCols s.conf.secs p) vals
          let all := List.range (48 * nic)
          let gone := if slow then [] else if vals.isEmpty then all else all.filter missing.contains
          let sd0 := substitute gone 0 0 (x.last.getD 0 0) (slots.map (·.1))
          let sd1 := substitute gone 1 0 (x.last.getD 1 0) (slots.map (·.2))
          let x := { x with
            drv := x.drv.shift nic sd0 sd1,
            last := [sd0.getLastD (x.last.getD 0 0), sd1.getLastD (x.last.getD 1 0)],
            loads := if j + 1 = rows.length then x.loads.drop 1 else x.loads }
          let first := !gone.isEmpty && !Tab.on l.under die
          let l := { l with
            shifted := Tab.setNum l.shifted p (j + 1),
            under := if gone.isEmpty then l.under else Tab.setOn l.under die true }
          let s := { s with pix := { s.pix with loads := Tab.setOpt s.pix.loads k (some l) } }.setPort p x
          let s := s.addSat (undrFld p) gone.length
          let s := if first then s.raise (104 + die) (die + 1) else s
          s.sendFrame p 3 (l.bankOf p * 2 ^ 18 + (Secs.rowEntry s.conf.secs (p / 8) row).2.2 * 2 ^ 12) true

/-- CHAIN_LINE_SHIFT. -/
def execChainLineShift (port : Fin 64) (missing : List Nat) (s : State) : Host.Outcome State Fault Refusal :=
  effect (·.lineShift port.val missing) s

/-! ## End of a bank load (R164, R183, R184) -/

/-- The signature of an isle: its ports in ascending order, each port's values in shift order (R183). [log 23] -/
def State.isleSig (s : State) (l : Load) (isle : Nat) : Word :=
  let ports := (List.range 8).map (8 * isle + ·)
  crc32c ((ports.map fun p =>
    let cols := portCols s.conf.secs p
    ((Secs.portRows s.conf.secs p).map fun row =>
      ((portSlots (s.nic p) cols (Tab.lst l.packed (128 * isle + row))).map fun v =>
        leBytes 2 v.1 ++ leBytes 2 v.2).flatten).flatten).flatten)

/-- The freeze count of a feed. -/
def fzFld (k : Nat) : Fld := ⟨R.TIM_FZSTAT, 8 * k + 7, 8 * k⟩

/-- The freeze detector at a completed bank load (R184): the bank load before it is the last one that was completed, an
abandoned one has no signature. [log 138] -/
def State.freezeCheck (s : State) (k : Nat) (l : Load) (sig : Word) : State :=
  let hist := Tab.lst s.tim.sigHist k
  let back := if regFld l.regs (F.COR_Fk_DCTRL_MODE k) = 0 then 3 else 0
  let same := hist[back]? == some sig
  let moved := Tab.lst s.tim.inHist k != l.sigs
  let n := if !same then 0 else if moved then satAdd 255 (s.fld (fzFld k)) 1 else s.fld (fzFld k)
  let s := { s with tim := { s.tim with
    sigHist := Tab.setLst s.tim.sigHist k ((sig :: hist).take 4), inHist := Tab.setLst s.tim.inHist k l.sigs,
    fzRaised := if n = 0 then Tab.setOn s.tim.fzRaised k false else s.tim.fzRaised } }.setFld (fzFld k) n
  let limit := Nat.max 1 (s.fld F.TIM_FZCTRL_K)
  if limit ≤ n ∧ s.fld F.TIM_FZCTRL_FZEN / 2 ^ k % 2 = 1 ∧ !Tab.on s.tim.fzRaised k then
    ({ s with tim := { s.tim with fzRaised := Tab.setOn s.tim.fzRaised k true } }.setFld F.TIM_FZFLAG_FREEZE
      (Nat.lor (s.fld F.TIM_FZFLAG_FREEZE) (2 ^ k))).raise (106 + k) k
  else s

/-- Whether every port of a die that does not skip a load has shifted and written its last line (R164). [log 26] -/
def State.loadShifted (s : State) (k : Nat) (l : Load) : Bool :=
  s.chains.all fun p => s.skips (p / 32) k || decide ((Secs.portRows s.conf.secs p).length ≤ Tab.num l.shifted p)

/-- What a completed load leaves in the dies that took part: the bank completed last (R164) and the sums of their zones
(R139). -/
def State.loadTaken (s : State) (k : Nat) (l : Load) : State :=
  let mark (t : Tab Nat) (die : Nat) : Tab Nat :=
    if s.skips die k then t else Tab.setNum t (dieFeed die k) ((if die = 0 then l.bank else l.bankE1) + 1)
  let old := Tab.lst s.cor.dose k
  let part (die : Nat) (p : Nat × Nat → Bool) : Tab Nat := (if s.skips die k then old else l.dose).filter p
  { s with
    tim := { s.tim with shown := mark (mark s.tim.shown 0) 1 },
    cor := { s.cor with
      dose := Tab.setLst s.cor.dose k (part 0 (fun x => decide (x.1 < 6144)) ++ part 1 (fun x => decide (6144 ≤ x.1))) } }

/-- Whether a load is complete (R164): shifted and written, after PACK has emitted every row of it. [log 26] -/
def State.loadReady (s : State) (k : Nat) (l : Load) : Bool := s.loadShifted k l && s.packed k l && !s.skipsAll k

/-- BANK_LOAD_COMPLETE: the bank is the completed one of the dies that took part; a load that no die skipped gives the
output signature, the freeze check and the GUARD sums (R150, R183, R184). [log 25, 26] -/
def State.loadComplete (s : State) (k : Nat) : State :=
  match Tab.opt s.pix.loads k with
  | none => s
  | some l =>
    if s.loadReady k l then
      let whole := !s.skips 0 k && !s.skips 1 k
      let s := (s.loadTaken k l).loadDrop k
      if whole then
        let sig := crc32c (((List.range 8).map fun i => leBytes 4 (s.isleSig l i).toNat).flatten)
        let s := s.setReg (R.TIM_Fk_OSIG k) sig
        let s := if l.sent then s else
          { s with cor := { s.cor with waiting := Tab.setLst s.cor.waiting k (Tab.lst s.cor.waiting k ++ [l.sums]) } }
        s.freezeCheck k l sig
      else s
    else s

/-- BANK_LOAD_COMPLETE. -/
def execBankLoadComplete (feed : Fin 4) (s : State) : Host.Outcome State Fault Refusal :=
  effect (·.loadComplete feed.val) s

/-! ## Writeback (R107 to R112) -/

/-- ⌊√n⌋ by bits from the top. -/
def isqrt (n : Nat) : Nat :=
  (List.range 32).reverse.foldl (fun r b => if (r + 2 ^ b) * (r + 2 ^ b) ≤ n then r + 2 ^ b else r) 0

/-- The code of a captured component (R108): linear, or round(1023 √(v / 0x3FFFF)). -/
def captureCode (enc : Bool) (v : Nat) : Nat :=
  if enc then
    -- round(√q) with q = 1023² v / 0x3FFFF: the largest c with (2 c - 1)² ≤ 4 q
    (isqrt (4 * 1023 * 1023 * v / 0x3FFFF) + 1) / 2
  else Nat.min 1023 ((v + 128) / 256)

/-- A captured line from the D tile rows of its block (R108). -/
def captureLine (dec : Nat) (enc : Bool) (rows : List (List Px)) : List Byte :=
  ((List.range (1024 / dec)).map fun i =>
    let px := (rows.map fun r => (r.drop (dec * i)).take dec).flatten
    let code (f : Px → Nat) : Nat := captureCode enc ((sumN (px.map f) + dec * dec / 2) / (dec * dec))
    leBytes 4 (code (·.c0) * 2 ^ 20 + code (·.c1) * 2 ^ 10 + code (·.c2))).flatten

/-- First byte of a buffer of a capture ring (R109). -/
def captureBase (base dec b : Nat) : Nat := base + b * (ceilDiv ((1024 / dec) * (1024 / dec) * 4) 4096 * 4096)

/-- Whether a whole line of writeback of a feed finds room (R15, R37, R370): its strait queue, as `room` says, over a
strait that is up; its DRAM queue, where it completes a captured line of `blocks` blocks of 64 bytes; and the block runs. A
captured line longer than the sixteen entries of its queue asks for the whole queue. [log 136] -/
def State.writebackRoom (s : State) (k die : Nat) (room : Bool) (blocks : Nat) : Bool :=
  room && s.fld (straitState die) == 2 && !s.isGated 7 && s.hubRuns &&
    (blocks == 0 || (decide ((Tab.lst s.mem.queues (17 + k)).length + Nat.min 16 blocks ≤ 16) &&
      (Tab.lst s.mem.behind (17 + k)).isEmpty))

/-- WRITEBACK_LINE: a tile line of the QLUT output is taken, or dropped for want of room (R15, R112). [log 136] -/
def State.writebackLine (s : State) (k y : Nat) (room : Bool) : State :=
  match Tab.opt s.pix.capture k, Tab.opt s.pix.loads k with
  | some c, some l =>
    match findCtx (feedCtxs (Secs.ctxs s.conf.secs) (y / 128) k) 4 none with
    | none => s
    | some x =>
      if Tab.num l.done x.1 ≤ y % 128 ∨ Tab.on c.written y then s
      else
        let put (c : Capture) (s : State) : State := { s with pix := { s.pix with capture := Tab.setOpt s.pix.capture k (some c) } }
        let rows := Tab.setLst c.rows y (l.line x.1 (y % 128))
        let block := (List.range c.dec).map fun i => Tab.lst rows (y / c.dec * c.dec + i)
        let stores := block.all fun b => !b.isEmpty
        if !s.writebackRoom k (y / 512) room (if stores then 64 / c.dec else 0) then
          (put { c with written := Tab.setOn c.written y true, dropped := true } s
            |>.incSat (F.LAY_Fk_WBSTAT_DROP k)).raise 80 k
        else
          let s := put { c with written := Tab.setOn c.written y true, rows := rows } s
          if stores then
            let bytes := captureLine c.dec c.enc block
            (s.writeFlat (17 + k) (captureBase c.base c.dec c.buf + 4096 / c.dec * (y / c.dec)) bytes).snoop (8 + k) bytes
          else s
  | _, _ => s

/-- WRITEBACK_LINE. -/
def execWritebackLine (feed : Fin 4) (line : Fin 1024) (straitRoom : Bool) (s : State) : Host.Outcome State Fault Refusal :=
  effect (·.writebackLine feed.val line.val straitRoom) s

/-- WRITEBACK_PUBLISH: every line is accounted for; the frame is published or, with a dropped line, counted (R109);
ONESHOT stops the capture (R111). [log 27] -/
def State.writebackPublish (s : State) (k : Nat) : State :=
  match Tab.opt s.pix.capture k with
  | none => s
  | some c =>
    if !(List.range 1024).all (Tab.on c.written) then s
    else
      let s := { s with pix := { s.pix with capture := Tab.setOpt s.pix.capture k none } }
      let s :=
        if c.dropped then s.incSat (F.LAY_Fk_WBSTAT_INCOMPLETE k)
        else
          let s := s.setFld (F.LAY_Fk_WBSTAT_LAST k) c.buf
          let s := { s with pix := { s.pix with
            monDue := Tab.setOn s.pix.monDue k true, monSeq := Tab.setNum s.pix.monSeq k (Tab.num s.pix.monSeq k + 1) } }
          if s.on (F.LAY_Fk_WBCTRL_ONESHOT k) then
            { s with pix := { s.pix with held := Tab.setOn s.pix.held k true } }
              |>.setOn (F.LAY_Fk_WBCTRL_EN k) false |>.setShadFld (F.LAY_Fk_WBCTRL_EN k) 0
          else s
      s.snoopBoundary (8 + k)

/-- WRITEBACK_PUBLISH. -/
def execWritebackPublish (feed : Fin 4) (s : State) : Host.Outcome State Fault Refusal :=
  effect (·.writebackPublish feed.val) s

end Sys2Proof.Machine
end

