-- ==== Sys2Proof/Machine/Correction.lean ====
section
/-! DEFINITION. The flash guard (R144 to R150) and the zone model (R136 to R142). -/

namespace Sys2Proof.Machine

/-! ## Flash guard -/

/-- The zone means of a bank load's sums (R144): Y, R and S of each zone in turn. -/
def zoneMeans (sums : Tab Nat) : List Nat := (List.range 12288).map fun i => Tab.num sums i / 256

/-- Sums of a bank load have reached H. -/
def State.takeSums (s : State) (k : Nat) (sums : Tab Nat) : State :=
  { s with cor := { s.cor with
    means := Tab.setLst s.cor.means k (zoneMeans sums), sumsIn := Tab.setOn s.cor.sumsIn k true } }

/-- Whether a zone is saturated red (R144). -/
def redZone (s : State) (k : Nat) (m : List Nat) (z : Nat) : Bool :=
  let red := m.getD (3 * z + 1) 0
  decide (s.fld (F.COR_Fk_GRED_RED_MIN k) ≤ red) &&
    decide (s.fld (F.COR_Fk_GAREA_RRATIO k) * m.getD (3 * z + 2) 0 ≤ red * 256)

/-- Number of zones with a property. -/
def zoneCount (p : Nat → Bool) : Nat := (below 4096 p).length

/-- The luminance direction of a frame (R145), none where it is no transition: true is up. -/
def State.lumDirection (s : State) (k : Nat) (cur prev : List Nat) : Option Bool :=
  let y (m : List Nat) (z : Nat) : Nat := m.getD (3 * z) 0
  let dy := s.fld (F.COR_Fk_GDY_DY k)
  let dark := s.fld (F.COR_Fk_GDARK_YDARK k)
  let moved (a b : Nat) : Bool := decide (a < b) && decide (dy ≤ b - a) && decide (a ≤ dark)
  let u := zoneCount fun z => moved (y prev z) (y cur z)
  let d := zoneCount fun z => moved (y cur z) (y prev z)
  if Nat.max u d < Nat.max 1 (s.fld (F.COR_Fk_GAREA_AREA_L k)) then none
  else if u = d then some (Tab.num s.cor.lastLum k != 2) else some (decide (d < u))

/-- The red direction of a frame (R145). -/
def State.redDirection (s : State) (k : Nat) (cur prev : List Nat) : Option Bool :=
  let q := zoneCount (redZone s k cur)
  let p := zoneCount (redZone s k prev)
  if (Nat.max q p - Nat.min q p) < Nat.max 1 (s.fld (F.COR_Fk_GAREA_AREA_R k)) then none else some (decide (p < q))

/-- Whether a transition is counted (R146): none of its measure lies in the window, or the latest went the other way. -/
def countedDir (window : List (Option Bool)) (dir : Option Bool) : Option Bool :=
  match dir with
  | none => none
  | some d => match window.findSome? id with
    | none => some d
    | some e => if d = e then none else some d

/-- WIN (R146). -/
def State.guardWin (s : State) : Nat := ceilDiv s.tset.frNum s.tset.frDen

/-- ATT_T (R148). -/
def State.attTarget (s : State) (k : Nat) : Nat :=
  let f (v : Nat) : Int := ((v : Int) - 1) * 65536 / 0x3FFFF
  let a := f (s.fld (F.COR_Fk_GDY_DY k))
  let b := f (s.fld (F.COR_Fk_GRED_RED_MIN k))
  Nat.max 1 (if a ≤ b then a else b).toNat

/-- ATT decided for the next bank load. -/
def State.decideAtt (s : State) (k att : Nat) : State :=
  { s with cor := { s.cor with attNext := Tab.setNum s.cor.attNext k (att + 1) } }

/-- The ATT decided last. -/
def State.attDecided (s : State) (k : Nat) : Nat :=
  let a := Tab.num s.cor.attNext k
  if a = 0 then s.fld (F.COR_Fk_GATT_ATT k) else a - 1

/-- The limit state after a frame's classification (R149). [log 32, 147] -/
def State.guardLimit (s : State) (k nl nr : Nat) : State :=
  let fl := Nat.max 1 (s.fld (F.COR_Fk_GCTRL_FL_MAX k))
  let fr := Nat.max 1 (s.fld (F.COR_Fk_GCTRL_FR_MAX k))
  let engage := decide (2 * fl - 1 ≤ nl) || decide (2 * fr - 1 ≤ nr)
  let t := s.attTarget k
  let hold (s : State) : State := ((s.setFld (F.COR_Fk_GSTAT_STATE k) 1).decideAtt k t).raise 94 k
  let rise (s : State) : State :=
    let a := Nat.min 0x10000 (s.attDecided k + t)
    (s.setFld (F.COR_Fk_GSTAT_STATE k) (if a = 0x10000 then 0 else 2)).decideAtt k a
  match s.fld (F.COR_Fk_GSTAT_STATE k) with
  | 0 => if engage then hold s else s.decideAtt k 0x10000
  | 1 => if engage then s.decideAtt k t else rise s
  | _ => if engage then hold s else rise s

/-- MODE of a feed is off (R145, R147): no history, both counts 0, no latest transition; the state is OPEN, and ATT is
0x1_0000 at the next bank load (R149). -/
def State.guardOff (s : State) (k : Nat) : State :=
  let s := { s with cor := { s.cor with
    window := Tab.setLst s.cor.window k [], lastLum := Tab.setNum s.cor.lastLum k 0, prev := Tab.setLst s.cor.prev k [] } }
  let s := ((s.setFld (F.COR_Fk_GSTAT_NL k) 0).setFld (F.COR_Fk_GSTAT_NR k) 0).setFld (F.COR_Fk_GSTAT_STATE k) 0
  s.decideAtt k 0x10000

/-- A frame is classified (R145 to R149): `fresh` says that the means of a new bank load have arrived, `late` that the
next load has started before them (R150). [log 31, 147] -/
def State.guardClassify (s : State) (k : Nat) (fresh late : Bool) : State :=
  let mode := s.fld (F.COR_Fk_GCTRL_MODE k)
  let done (s : State) : State := { s with cor := { s.cor with
    sumsIn := Tab.setOn s.cor.sumsIn k false, judged := Tab.setOn s.cor.judged k true } }
  if mode = 0 ∨ mode = 3 then (done s).guardOff k
  else
    let cur := Tab.lst s.cor.means k
    let prev := Tab.lst s.cor.prev k
    let first := prev.isEmpty
    let old := (Tab.lst s.cor.window k).take (s.guardWin - 1)
    let lum := countedDir (old.map (·.lum)) (if fresh && !first then s.lumDirection k cur prev else none)
    let red := countedDir (old.map (·.red)) (if fresh && !first then s.redDirection k cur prev else none)
    let win := (⟨lum, red⟩ : GuardFrame) :: old
    let nl := (win.filter fun f => f.lum.isSome).length
    let nr := (win.filter fun f => f.red.isSome).length
    let nl0 := s.fld (F.COR_Fk_GSTAT_NL k)
    let nr0 := s.fld (F.COR_Fk_GSTAT_NR k)
    let s := { s with cor := { s.cor with
      window := Tab.setLst s.cor.window k win,
      lastLum := (match lum with
        | none => s.cor.lastLum
        | some u => Tab.setNum s.cor.lastLum k (if u then 2 else 1)),
      prev := if fresh then Tab.setLst s.cor.prev k cur else s.cor.prev } }
    let s := (s.setFld (F.COR_Fk_GSTAT_NL k) (Nat.min 255 nl)).setFld (F.COR_Fk_GSTAT_NR k) (Nat.min 255 nr)
    let fl := Nat.max 1 (s.fld (F.COR_Fk_GCTRL_FL_MAX k))
    let fr := Nat.max 1 (s.fld (F.COR_Fk_GCTRL_FR_MAX k))
    let s := if nl0 / 2 ≤ fl ∧ fl < nl / 2 then s.raise (86 + k) k else s
    let s := if nr0 / 2 ≤ fr ∧ fr < nr / 2 then s.raise (90 + k) k else s
    let s := done s
    if mode = 2 then
      let s := s.guardLimit k nl nr
      if late then (s.incSat (F.COR_Fk_GSTAT_LATE k)).raise 95 k else s
    else (s.setFld (F.COR_Fk_GSTAT_STATE k) 0).decideAtt k 0x10000

/-- The frame of a feed at a frame start (R145, R146): one that was classified when its bank load began counts once; one
whose sums are still to come is classified when they come (R150). [log 30] -/
def State.guardFrame (s : State) (k : Nat) : State :=
  let owed := !(Tab.lst s.cor.waiting k).isEmpty
  let s := if Tab.on s.cor.sumsIn k then s.guardClassify k true false
    else if Tab.on s.cor.judged k then s
    else if owed then { s with cor := { s.cor with decide := Tab.setOn s.cor.decide k true } }
    else s.guardClassify k false false
  { s with cor := { s.cor with judged := Tab.setOn s.cor.judged k false } }

/-- The oldest sums that were still to come reach H (R150): where another load has started since theirs ended they are late,
and where a frame start has passed without them the frame is classified now. [log 30] -/
def State.sumsArrive (s : State) (k : Nat) (sums : Tab Nat) (rest : List (Tab Nat)) : State :=
  let late := Tab.num s.cor.overdue k != 0
  let owed := Tab.on s.cor.decide k
  let s := { s with cor := { s.cor with
    waiting := Tab.setLst s.cor.waiting k rest, decide := Tab.setOn s.cor.decide k false,
    overdue := Tab.setNum s.cor.overdue k (Tab.num s.cor.overdue k - 1) } }.takeSums k sums
  if late || owed then
    let s := s.guardClassify k true late
    { s with cor := { s.cor with judged := Tab.setOn s.cor.judged k false } }
  else s

/-- GUARD_SUMS_COMPLETE: the last isle's sums of a bank load have arrived over the straits (R26, R144, R150): the oldest
that were still to come, or those of the load in progress. [log 30] -/
def State.guardSums (s : State) (k : Nat) : State :=
  let cs := Secs.ctxs s.conf.secs
  if s.straitSkips 0 || s.straitSkips 1 then s
  else match Tab.lst s.cor.waiting k with
  | sums :: rest => s.sumsArrive k sums rest
  | [] =>
    match Tab.opt s.pix.loads k with
    | none => s
    | some l =>
      let done := (List.range 8).all fun isle =>
        match findCtx (feedCtxs cs isle k) 7 none with
        | none => false
        | some x => decide (128 ≤ Tab.num l.done x.1)
      if l.sent ∨ !done then s
      else
        { s with pix := { s.pix with loads := Tab.setOpt s.pix.loads k (some { l with sent := true }) } }.takeSums k l.sums

/-- GUARD_SUMS_COMPLETE. -/
def execGuardSumsComplete (feed : Fin 4) (s : State) : Host.Outcome State Fault Refusal :=
  effect (·.guardSums feed.val) s

/-- A commit has changed MODE of a feed from `old`: to off, what R145 and R147 clear is cleared; from limit to another
mode the state is OPEN, and ATT is 0x1_0000 at the next bank load (R149). -/
def State.guardModeSet (s : State) (k old : Nat) : State :=
  let mode := s.fld (F.COR_Fk_GCTRL_MODE k)
  if mode = 0 ∨ mode = 3 then (if old = 1 ∨ old = 2 then s.guardOff k else s)
  else if old = 2 ∧ mode ≠ 2 then (s.setFld (F.COR_Fk_GSTAT_STATE k) 0).decideAtt k 0x10000
  else s

/-- BANK_LOAD_START: sums that have arrived are decided on before the load's first line (R150). -/
def execBankLoadStart (feed : Fin 4) (s : State) : Host.Outcome State Fault Refusal :=
  effect (fun s =>
    let s := if Tab.on s.cor.sumsIn feed.val && !s.loadHeld feed.val then s.guardClassify feed.val true false else s
    s.loadStart feed.val) s

/-! ## Zone model: temperatures (R137) -/

/-- Port and driver that carry the green subpixel of a pixel, where its entries are valid (R211). -/
def greenAt (c : Secs) (x y : Nat) : Option (Nat × Nat) :=
  let row := Secs.rowEntry c (y / 128) (y % 128)
  let col := Secs.colEntry c (y / 128) x 1
  if row.1 && col.1 then (Secs.portOf c (y / 128) row.2.1 col.2.1).map fun p => (p, col.2.2.1) else none

/-- The reference driver of a zone. -/
def refDriver (c : Secs) (z : Nat) : Option (Nat × Nat) :=
  let x := 16 * (z % 64)
  let y := 16 * (z / 64)
  match greenAt c (x + 8) (y + 8) with
  | some d => some d
  | none => (List.range 256).findSome? fun i => greenAt c (x + i % 16) (y + i / 16)

/-- The driver temperature of a zone where it is not stale (R205). -/
def State.driverTemp (s : State) (z : Nat) : Option Int :=
  match refDriver s.conf.secs z with
  | none => none
  | some (p, d) =>
    let t := Tab.num s.cor.temp (32 * p + d)
    if t = 0 ∨ Nat.max 1 (s.fld F.COR_ZM_CTRL_STALE) < Tab.num s.cor.tempAge (32 * p + d) then none
    else some (4 * ((t - 1 : Nat) : Int) - 1600)

/-- Interpolation in a table of 33 entries of 16 bits. -/
def tableLerp (t : Tab Word) (base i f bits_ : Nat) (sgn : Bool) : Int :=
  let e (j : Nat) : Int := let v := (Tab.word t (base + 4 * j)).toNat % 65536
    if sgn then signed 16 v else (v : Int)
  lerp bits_ f (e i) (e (i + 1))

/-- Whether a channel is in the converter's sequence (R143, R391). -/
def State.sequenced (s : State) (ch : Nat) : Bool :=
  (List.range (s.fld F.ADC_CTRL_LAST + 1)).any fun i => s.fld (F.ADC_SLOTs_CH i) == ch

/-- The thermistor temperature of an isle where its thermistor has a result (R137, R143). [log 34] -/
def State.ntcTemp (s : State) (isle : Nat) : Option Int :=
  let w := (if isle < 4 then s.reg R.COR_ZM_NTC0 else s.reg R.COR_ZM_NTC1).toNat
  let b := w / 256 ^ (isle % 4) % 256
  let ch := b % 32
  if b < 128 ∨ 24 ≤ ch ∨ !s.sequenced ch ∨ !s.on (F.ADC_MEANn_VALID ch) ∨ s.on (F.ADC_MEANn_OVR ch) then none
  else
    let a := s.fld (F.ADC_MEANn_MEAN ch)
    some (tableLerp s.tabs.front 0x281400 (a / 128) (a % 128) 7 true)

/-- T_z of a zone, whether its driver is stale, and whether neither source serves (R137). [log 33] -/
def State.zoneTemp (s : State) (z : Nat) : Int × Bool × Bool :=
  match s.driverTemp z, s.ntcTemp (z / 512) with
  | some d, some n =>
    let b : Int := s.fld F.COR_ZM_CTRL_BLEND
    ((d * (256 - b) + n * b + 128) / 256, false, false)
  | none, some n => (n, true, false)
  | some d, none => (d, false, false)
  | none, none => ((Tab.opt s.cor.tz z).getD (signed 16 (s.fld F.COR_ZM_TREF_TREF)), true, true)

/-- The temperatures of all zones are taken (R137). -/
def State.zoneTemps (s : State) : State :=
  let all := (List.range 4096).map s.zoneTemp
  let tz := (List.zip (List.range 4096) all).foldl (fun t x => Tab.setOpt t x.1 (some x.2.1)) ([] : Tab (Option Int))
  let s' := { s with cor := { s.cor with tz := tz } }
  let s' := if all.any (·.2.1) then s'.incSat F.COR_ZM_STAT_STALE else s'
  match all.findIdx? (·.2.2) with
  | none => s'
  | some z => s'.raise 83 z

/-! ## Zone model: dose and ageing (R139 to R141) -/

/-- L_k in µs (R139). [log 35] -/
def State.slotUs (s : State) (k : Nat) : Nat :=
  let t := s.tset
  t.lenOf k * t.frDen * 1000000 / (t.frNum * t.rows s.nlines)

/-- A 16-bit field by colour out of two registers: R in [15:0] and G in [31:16] of the first, B in [15:0] of the
second. -/
def State.zmColour (s : State) (a0 a1 c : Nat) : Nat :=
  match c with
  | 0 => bits 15 0 (s.reg a0).toNat
  | 1 => bits 31 16 (s.reg a0).toNat
  | _ => bits 15 0 (s.reg a1).toNat

/-- The dose that a zone and colour gain in this frame (R139). -/
def State.zoneDose (s : State) (i : Nat) : Nat :=
  let cur := s.zmColour R.COR_ZM_CUR0 R.COR_ZM_CUR1 (i % 3)
  sumN ((s.tim.active.filter fun k => s.shownOn (i / 6144) k != 0).map fun k =>
    Tab.num (Tab.lst s.cor.dose k) i * cur * s.slotUs k / 2 ^ 29)

/-- The ageing efficiency of an accumulator (R141). [log 147] -/
def State.ageEff (s : State) (c a : Nat) : Nat :=
  let sh := Nat.max 8 (s.fld (match c with
    | 0 => F.COR_ZM_AGE_SHIFT_R
    | 1 => F.COR_ZM_AGE_SHIFT_G
    | _ => F.COR_ZM_AGE_SHIFT_B))
  let i := a / 2 ^ sh
  let base := 0x281500 + 0x100 * c
  if 32 ≤ i then (Tab.word s.tabs.front (base + 128)).toNat % 65536
  else (tableLerp s.tabs.front base i (a / 2 ^ (sh - 8) % 256) 8 false).toNat

/-- One 64-byte block of the accumulator array (R140): doses are added, efficiencies taken where `update` says so. -/
def State.zoneBlock (s : State) (update : Bool) (dose : Nat → Nat) (b : Nat) : State :=
  let base := baseBytes (s.fld F.COR_ZM_ACCBASE_BASE) + 64 * b
  let idx := (List.range 6).map (6 * b + ·)
  let doses := idx.map dose
  let shown := s.tim.active.any fun k => s.shownOn (b / 1024) k != 0
  if Tab.on s.cor.stuck b ∨ (!update ∧ !shown) then s
  else
    let (s, d) := s.lineRead 22 base
    if d.poisoned then
      ({ s with cor := { s.cor with stuck := Tab.setOn s.cor.stuck b true } }.setOn F.COR_ZM_STAT_AGE_POISON true).raise 84 (2 * b)
    else
      s.each (List.zip idx doses) fun s x =>
        let i := x.1
        let o := 32 * (i / 3 % 2) + 8 * (i % 3)
        let v := Nat.min (2 ^ 64 - 1) (leAt d.data o 8 + x.2)
        let s := if x.2 = 0 then s else s.writeFlat 22 (base + o) (leBytes 8 v)
        if update then { s with cor := { s.cor with eff := Tab.setNum s.cor.eff i (s.ageEff (i % 3) v + 1) } } else s

/-- One pass over the array. -/
def State.zonePass (s : State) (update : Bool) (dose : Nat → Nat) : State :=
  s.each (List.range 2048) fun s b => s.zoneBlock update dose b

/-! ## Zone model: gains (R138, R142) -/

/-- The thermal efficiency (R138). -/
def State.thermEff (s : State) (c : Nat) (tz : Int) : Nat :=
  let kt : Int := s.zmColour R.COR_ZM_KT0 R.COR_ZM_KT1 c
  (clampI 0x400 0xFFFF (0x8000 - kt * (tz - signed 16 (s.fld F.COR_ZM_TREF_TREF)) / 32)).toNat

/-- The target gain of a zone and colour, and whether GMAX limits it (R140, R142). [log 33] -/
def State.gainTarget (s : State) (i : Nat) : Nat × Bool :=
  let gmax := s.fld F.COR_ZM_LIM_GMAX
  let c := i % 3
  let tz := (Tab.opt s.cor.tz (i / 3)).getD 0
  let e := Tab.num s.cor.eff i
  let eage := if e = 0 then (Tab.word s.tabs.front (0x281500 + 0x100 * c)).toNat % 65536 else e - 1
  if eage = 0 then (gmax, true)
  else
    let g := s.zmColour R.COR_ZM_TGT0 R.COR_ZM_TGT1 c * 2 ^ 30 / (s.thermEff c tz * eage)
    (Nat.min gmax g, decide (gmax < g))

/-- A gain moved towards its target by at most a step (R142). -/
def slew (step old target : Nat) : Nat :=
  if target ≤ old + step ∧ old ≤ target + step then target else if old < target then old + step else old - step

/-- New gains for all zones (R142); the first after APPLY or after EN became set are not slewed (R136). -/
def State.zoneGains (s : State) (first : Bool) : State :=
  let s := s.zoneTemps
  let t := (List.range 12288).map s.gainTarget
  let step := s.fld F.COR_ZM_LIM_MAX_STEP
  let new := (List.zip (List.range 12288) t).foldl (fun g x =>
    Tab.setNum g x.1 (if first then x.2.1 else slew step (Tab.num s.cor.gains x.1) x.2.1)) ([] : Tab Nat)
  let sat := (t.filter (·.2)).length
  let s := { s with cor := { s.cor with gains := new } }.addSat F.COR_ZM_STAT_SAT sat
  match t.findIdx? (·.2) with
  | none => s
  | some _ =>
    let low := (List.range 4096).find? fun z => (List.range 3).any fun c => (t.getD (3 * z + c) (0, false)).2
    s.raise 85 (low.getD 0)

/-- The probe registers show the probed zone (R143). -/
def State.zoneProbe (s : State) : State :=
  let z := s.fld F.COR_ZM_PROBE_ZONE
  let g (c : Nat) : Nat := Tab.num s.cor.gains (3 * z + c)
  (((s.setFld F.COR_ZM_PROBE_T_TZ (unsigned 16 ((Tab.opt s.cor.tz z).getD 0))).setFld F.COR_ZM_PROBE_G0_G_R (g 0)).setFld
    F.COR_ZM_PROBE_G0_G_G (g 1)).setFld F.COR_ZM_PROBE_G1_G_B (g 2)

/-- A pass and, where they are due, the gains after it (R136, R140, R142). -/
def State.zoneRun (s : State) (update first : Bool) (dose : Nat → Nat) : State :=
  let s := s.zonePass update dose
  if update then (s.zoneGains first).zoneProbe else s

/-- A pass of this frame: at once, or, while the memory cannot serve it or another waits before it, as soon as it can, with
the doses as they are now (R37, R266, R362). [log 21] -/
def State.zoneAsk (s : State) (update first : Bool) : State :=
  if s.engineFree 22 && s.cor.passes.isEmpty then s.zoneRun update first s.zoneDose
  else
    let doses := (List.range 12288).foldl (fun t i => Tab.setNum t i (s.zoneDose i)) ([] : Tab Nat)
    { s with cor := { s.cor with passes := s.cor.passes ++ [(update, first, doses)] } }

/-- Passes that waited are made once the memory serves them. -/
def State.zoneOwed (s : State) : State :=
  if s.engineFree 22 then
    ({ s with cor := { s.cor with passes := [] } }).each s.cor.passes fun s p => s.zoneRun p.1 p.2.1 (Tab.num p.2.2)
  else s

/-- The zone model at APPLY (R136, R137, R140). -/
def State.zoneApply (s : State) : State :=
  let en := s.on F.COR_ZM_CTRL_EN
  let s := { s with cor := { s.cor with tz := [], eff := [], dose := [], ran := en, passes := [] } }
  if !en then s
  else if s.on F.COR_ZM_CTRL_ACC_HOLD then (s.zoneGains true).zoneProbe
  else s.zoneAsk true true

/-- The zone model at a frame start (R136, R139, R140). -/
def State.zoneFrame (s : State) : State :=
  let s := { s with cor := { s.cor with tempAge := s.cor.tempAge.map fun (x : Nat × Nat) => (x.1, x.2 + 1) } }
  -- a driver that has just reported has age 0 and is not listed
  let s := s.each (s.cor.temp.map fun (x : Nat × Nat) => x.1) fun s i =>
    if Tab.num s.cor.tempAge i = 0 then { s with cor := { s.cor with tempAge := Tab.setNum s.cor.tempAge i 1 } } else s
  if !s.on F.COR_ZM_CTRL_EN then { s with cor := { s.cor with ran := false } }
  else
    let first := !s.cor.ran
    let s := { s with cor := { s.cor with ran := true } }
    let due := first || s.fld F.TIM_FRAME_COUNT % Nat.max 1 (s.fld F.COR_ZM_CTRL_UPD) == 0
    if s.on F.COR_ZM_CTRL_ACC_HOLD then
      let s := s.incSat F.COR_ZM_STAT_HELD
      if due then (s.zoneGains first).zoneProbe else s
    else s.zoneAsk due first

/-- AGE_POISON_CLEAR: the flag is cleared and updates of the stopped blocks resume (R140). -/
def State.agePoisonClear (s : State) : State :=
  { s with cor := { s.cor with stuck := [] } }.setOn F.COR_ZM_STAT_AGE_POISON false

/-- AGE_POISON_CLEAR. -/
def execAgePoisonClear (s : State) : Host.Outcome State Fault Refusal := effect (·.agePoisonClear) s

end Sys2Proof.Machine
end

