-- ==== Sys2Proof/Machine/Readback.lean ====
section
/-! DEFINITION. Readbacks: the checks of R203 to R207, Clasp's part in them (R347, R348), the age array and the fault
maps (R217 to R223), coverage (R229), the glint planner (R225 to R227) and the headroom flags (R231). -/

namespace Sys2Proof.Machine

/-! ## Records (R203) -/

/-- A field of a record. -/
def recBits (r : BitVec 512) (msb lsb : Nat) : Nat := bits msb lsb r.toNat

/-- Whether a record is accepted: MARKER and CRC over bits 511:392 (R203, R207). -/
def recOk (r : BitVec 512) : Bool :=
  recBits r 511 504 == 0xA5 && crc8 (beBytes 15 (recBits r 511 392)) == recBits r 391 384

/-- The result of line `l` of the part, channel `ch`. -/
def recResult (r : BitVec 512) (l ch : Nat) : Nat := recBits r (96 * l + 2 * ch + 1) (96 * l + 2 * ch)

/-- The record of a driver: driver n − 1 arrives first (R203). -/
def recOf (records : List (BitVec 512)) (nic d : Nat) : Option (BitVec 512) :=
  match records[nic - 1 - d]? with
  | none => none
  | some r => if recOk r then some r else none

/-- The current code of a colour in a record. -/
def recCur (r : BitVec 512) (c : Nat) : Nat := recBits r (479 + 8 * c) (472 + 8 * c)

/-- The event data of a port and driver (R416). [log 44] -/
def chnData (p d : Nat) : Nat := 256 * d + p

/-- A diagnostic of Clasp fails (R347): its bit is latched and the event raised; the next Clasp cycle of an armed state
enters FAULT. Every failure raises the event, a bit that is latched stays so. DISARMED and UNUSED keep their state, and
UNUSED ignores the pairs (R340). [log 126] -/
def State.claspFault (s : State) (bit : Nat) : State :=
  let c := s.fld F.CLS_FAULT_CAUSE
  if s.fld F.CLS_STAT_STATE = 5 ∧ bit < 4 then s
  else
    let s := s.setFld F.CLS_FAULT_CAUSE (Nat.lor c (2 ^ bit))
    s.raise 128 (s.fld F.CLS_FAULT_CAUSE)

/-- The probe registers show the last accepted status word of the probed driver (R216). -/
def State.chnProbe (s : State) : State :=
  let w := (Tab.get (fun _ => 0) s.chn.status (32 * s.fld F.CHN_PROBE_PORT + s.fld F.CHN_PROBE_IC)).toNat
  s.each (List.range 4) fun s i => s.setReg (R.CHN_PROBE_STw i) (BitVec.ofNat 32 (w / 2 ^ (32 * i)))

/-! ## Age array and maps (R218 to R223) -/

/-- First byte of the age entries of a port's line (R219). -/
def State.ageLine (s : State) (p line : Nat) : Nat :=
  baseBytes (s.fld F.DIA_AGEBASE_BASE) + 2 * ((p * 64 + line) * 32 * 48)

/-- The band row of a port's scan line. -/
def lineRow (c : Secs) (p line : Nat) : Option Nat := (Secs.portRows c p).find? fun r => (Secs.rowEntry c (p / 8) r).2.2 == line

/-- Tracked positions of a port: entry number in a line (48 * driver + channel) and place in a row of 3,072 values
(R218). -/
def tracked (c : Secs) (p : Nat) : List (Nat × Nat) := (portCols c p).map fun e => (48 * (e.1 / 64) + e.1 % 64, e.2)

/-- At APPLY every tracked entry is written as 0 (R219). [log 66, 147] -/
def State.ageClear (s : State) : State :=
  s.each s.chains fun s p =>
    let t := tracked s.conf.secs p
    s.each ((List.range s.nlines).filter fun l => (lineRow s.conf.secs p l).isSome) fun s l =>
      s.each t fun s e => s.writeFlat 23 (s.ageLine p l + 2 * e.1) [0, 0]

/-- DIA_CTRL in force (R230). -/
def State.dia (s : State) (f : Fld) : Nat := f.of s.diag.ctrl

/-- AGE_LIM in force. -/
def State.ageLim (s : State) : Nat := Nat.max 8 (s.dia F.DIA_CTRL_AGE_LIM)

/-- DCONF in force. -/
def State.dconf (s : State) : Nat := Nat.max 1 (s.dia F.DIA_CTRL_DCONF)

/-- Whether diagnosis runs (R224, R227, R230). -/
def State.diaOn (s : State) : Bool := s.dia F.DIA_CTRL_EN == 1 && s.dia F.DIA_CTRL_HOLD == 0

/-- A poisoned block of the age array is rewritten (R223): tracked entries with AGE_LIM; the others' contents are
undefined, so free values. [log 38] -/
def State.ageRepair (s : State) (p a : Nat) (isTracked : Nat → Bool) : State :=
  let entry (i : Nat) : Nat := if isTracked i then s.ageLim else (Config.freeWord (s.freeCtr + i)).toNat % 65536
  let bytes := ((List.range 32).map fun i => leBytes 2 (entry i)).flatten
  let s := { s with freeCtr := s.freeCtr + 32 }
  ((s.writeFlat 23 a bytes).incSat F.DIA_STAT_POISON).raise 120 p

/-- The update of an age entry by a result (R220): LAST, CONF and AGE. -/
def ageStep (last conf age r : Nat) (blanked : Bool) : Nat × Nat × Nat :=
  if r = 0 then (last, conf, if blanked then age else Nat.min 4095 (age + 1))
  else (r, if r < 2 then 0 else if r = last then Nat.min 3 (conf + 1) else 1, 0)

/-- Whether a subpixel is due (R225). -/
def State.isDue (s : State) (last conf age : Nat) : Bool :=
  decide (s.ageLim ≤ age) ||
  (decide (2 ≤ last) && decide (conf < s.dconf) && decide (Nat.max 1 (s.dia F.DIA_CTRL_RECHK) ≤ age))

/-- A subpixel is newly declared (R221). -/
def State.declare (s : State) (stuck : Bool) (off : Nat) : State :=
  let s := s.incSat (if stuck then F.DIA_STAT_NEWSTUCK else F.DIA_STAT_NEWDEAD)
  let s := s.setReg R.DIA_LAST (BitVec.ofNat 32 (b2n stuck * 2 ^ 31 + off))
  let raised := if stuck then s.diag.stuckRaised else s.diag.deadRaised
  if raised then s
  else
    let s := { s with diag := if stuck then { s.diag with stuckRaised := true } else { s.diag with deadRaised := true } }
    s.raise (if stuck then 119 else 118) (s.reg R.DIA_LAST).toNat

/-- Counts one for an isle. -/
def bump (t : Tab Nat) (i : Nat) (b : Bool) : Tab Nat := if b then Tab.setNum t i (Tab.num t i + 1) else t

/-- The blocks of a line's age entries that hold tracked entries are read; a poisoned one is rewritten (R223). Answers the
entries by block. -/
def State.ageRead (s : State) (p base : Nat) (mine : Nat → Nat → Bool) : State × Tab (List Nat) :=
  ((List.range 48).filter fun b => (List.range 32).any (mine b)).foldl (fun acc b =>
    let (s, d) := acc.1.lineRead 23 (base + 64 * b)
    if d.poisoned then (s.ageRepair p (base + 64 * b) (mine b), Tab.setLst acc.2 b (List.replicate 32 s.ageLim))
    else (s, Tab.setLst acc.2 b ((List.range 32).map fun i => leAt d.data (2 * i) 2))) (s, [])

/-- One tracked entry `v` takes its result (R220, R221, R229); answers whether it is due now. [log 40] -/
def State.ageEntry (s : State) (p a v off r : Nat) (blanked : Bool) : State × Bool :=
  let (last, conf, age) := (bits 15 14 v, bits 13 12 v, bits 11 0 v)
  let (last', conf', age') := ageStep last conf age r blanked
  let s := s.writeFlat 23 a (leBytes 2 (last' * 2 ^ 14 + conf' * 2 ^ 12 + age'))
  let faulty := decide (2 ≤ r) && decide (s.dconf ≤ conf')
  let s := if faulty then
      s.writeFlat 23 (baseBytes (s.fld (if r = 3 then F.DIA_STUCKBASE_BASE else F.DIA_DEADBASE_BASE)) + off) [1]
    else s
  let s := if faulty && conf' == s.dconf && !(r == last && conf == conf') then s.declare (r == 3) off else s
  let due := s.isDue last' conf' age'
  let isle := p / 8
  let s := { s with diag := { s.diag with
    obs := bump s.diag.obs isle (r != 0), due := bump s.diag.due isle due, sat := bump s.diag.sat isle (age' == 4095) } }
  let s := if age' = 4095 ∧ age ≠ 4095 ∧ !Tab.on s.diag.uncovered 0 then
      ({ s with diag := { s.diag with uncovered := Tab.setOn s.diag.uncovered 0 true } }).raise 121 isle
    else s
  (s, due)

/-- The age entries of a part take a readback's results; answers the due subpixels as (48 * line of the part + channel,
driver). -/
def State.ageUpdate (s : State) (p part nic : Nat) (records : List (BitVec 512)) (blanked : Bool) :
    State × List (Nat × Nat) :=
  let t := tracked s.conf.secs p
  (List.range 4).foldl (fun acc l =>
    let line := 4 * part + l
    match lineRow s.conf.secs p line with
    | none => acc
    | some row =>
      let base := acc.1.ageLine p line
      let mine (b i : Nat) : Bool := t.any fun e => e.1 == 32 * b + i
      let (s, held) := acc.1.ageRead p base mine
      t.foldl (fun acc e =>
        let d := e.1 / 48
        let ch := e.1 % 48
        let r := match recOf records nic d with
          | none => 0
          | some rec => recResult rec l ch
        let v := (Tab.lst held (e.1 / 32)).getD (e.1 % 32) 0
        let (s, due) := acc.1.ageEntry p (base + 2 * e.1) v (3072 * (128 * (p / 8) + row) + e.2) r blanked
        (s, if due then (48 * l + ch, d) :: acc.2 else acc.2)) (s, acc.2)) (s, [])

/-! ## Glint planner (R225, R227) -/

/-- G_p (R225). -/
def glintQuota (parts : Nat) : Nat := Nat.min 4 ((56 - parts) / parts)

/-- ALLMIN (R230). -/
def State.allMin (s : State) : Nat :=
  Nat.max 1 (Nat.min 32 (32 * s.dia F.DIA_CTRL_ALLMIN_HI + s.fld F.DIA_ALLMIN_N))

/-- The planner walks the part's pairs from the port's pointer, around the end, and places its glints (R225). [log 39] -/
def State.glintPlan (s : State) (p part : Nat) (due : List (Nat × Nat)) : State :=
  let x := s.port p
  if !s.on F.CHN_CTRL_GLINT_EN ∨ !s.diaOn ∨ s.on (F.CHN_Cnn_ERR_SILENT p) ∨ x.drv.blank ∨ s.blankReqs p ≠ 0 then s
  else
    let start := Tab.num x.plan part
    let order := (List.range 192).map fun i => (start + i) % 192
    let picked := (order.filter fun i => due.any fun d => d.1 == i).take (glintQuota s.parts)
    let glint (i : Nat) : Glint :=
      let ds := (due.filter fun d => d.1 == i).map (·.2)
      ⟨decide (s.allMin ≤ ds.length), (minN? ds).getD 0, i % 48, 4 * part + i / 48, false⟩
    match picked.getLast? with
    | none => s
    | some last => s.setPort p { x with
        glints := x.glints ++ picked.map glint, plan := Tab.setNum x.plan part ((last + 1) % 192) }

/-! ## Headroom flags (R231) -/

/-- The headroom flags of an accepted record reach the domains of its isle. -/
def State.headroomFlags (s : State) (p : Nat) (r : BitVec 512) : State :=
  s.each [2 * (p / 8), 2 * (p / 8) + 1] fun s n =>
    if s.pmbCfg n F.PMB_LDn_CFG_PORTS / 2 ^ (p % 8) % 2 = 1 then
      let cols := below 3 fun c => s.pmbCfg n F.PMB_LDn_CFG_COL / 2 ^ c % 2 == 1
      let low := cols.any fun c => recBits r (457 + 2 * c) (457 + 2 * c) == 1
      let high := cols.all fun c => recBits r (456 + 2 * c) (456 + 2 * c) == 1
      let l := s.loop n
      s.setLoop n { l with low := l.low || low, seen := true, notHigh := l.notHigh || !high }
    else s

/-! ## READBACK_RECEIVE -/

/-- What an accepted record does beside the age array (R137, R204, R207, R216, R231, R347). [log 36] -/
def State.takeRecord (s : State) (p d : Nat) (r : BitVec 512) : State :=
  let x := s.port p
  let key := 32 * p + d
  let s := { s with
    chn := { s.chn with status := Tab.put (fun _ => 0) s.chn.status key (BitVec.ofNat 128 (recBits r 511 384)) },
    cor := { s.cor with temp := Tab.setNum s.cor.temp key (recBits r 471 462 + 1), tempAge := Tab.setNum s.cor.tempAge key 0 } }
  let s := if recBits r 444 444 = 1 then s.setOn (F.CHN_Cnn_ERR_FRAMEERR p) true else s
  -- after a reset of a driver the port's banks hold no valid data (R207)
  let s := if recBits r 443 443 = 1 then
      ((s.setPort p { s.port p with drv := { (s.port p).drv with banks := [] } }).setOn (F.CHN_Cnn_ERR_POR p) true).raise 114 (chnData p d)
    else s
  let s := if (List.range 3).all fun c => recCur r c == x.codes.getD c 0 then s
    else (s.setOn (F.CHN_Cnn_ERR_CURMIS p) true).raise 115 (chnData p d)
  let s := if recBits r 442 442 = 1 then (s.setOn (F.CHN_Cnn_ERR_TSD p) true).raise 116 (chnData p d) else s
  let s := if x.sdk && recBits r 445 445 == 0 then s.claspFault 9 else s
  if Tab.on x.lit ((x.reading.getD 0) + 32) then s.headroomFlags p r else s

/-- The hottest driver of a readback; the lowest-numbered at equal temperatures (R215). [log 36] -/
def hottest (l : List (Nat × BitVec 512)) : Option (Nat × Nat) :=
  l.foldl (fun best x =>
    let t := recBits x.2 471 462
    match best with
    | none => some (x.1, t)
    | some b => if b.2 < t ∨ (t = b.2 ∧ x.1 < b.1) then some (x.1, t) else some b) none

/-- Clasp's check of the current caps (R348): two readbacks of a part in a row above a cap. -/
def State.capCheck (s : State) (p part : Nat) (acc : List (Nat × BitVec 512)) : State :=
  let x := s.port p
  if !s.clasp.lce ∨ !x.capped ∨ acc.isEmpty then s
  else
    let past := acc.any fun r => (List.range 3).any fun c => decide (s.cap c < recCur r.2 c)
    let same := acc.all fun r => (List.range 3).all fun c => recCur r.2 c == x.codes.getD c 0
    let s := if past && Tab.on x.past part then s.claspFault 8 else s
    -- a code above its cap that is the one last sent is sent again, capped; any other is under R207
    let s := s.whenDo (past && same) fun s => s.queueFrames p ((List.range 3).map s.curFrame)
    s.setPort p { s.port p with past := Tab.setOn x.past part past }

/-- The monitor sampler of an in-service SDO calibration takes a readback (R401): the tap passes when its bits equal the
main sampler's in every accepted record; a readback without one is repeated, and the fourth in a row ends the run. [log 73] -/
def State.monitorTap (s : State) (p : Nat) (acc : List Nat) (monitor : List Bool) (nic : Nat) : State :=
  let group := 1 + p / 32
  if s.fld F.CAL_STAT_BUSY / 2 ^ group % 2 = 0 ∨ (s.port p).bringup ≠ .up ∨ 64 ≤ (Tab.lst s.cal.mon p).length then s
  else if acc.isEmpty then
    { s with cal := { s.cal with monEmpty := Tab.setNum s.cal.monEmpty p (Nat.min 4 (Tab.num s.cal.monEmpty p + 1)) } }
  else if 4 ≤ Tab.num s.cal.monEmpty p then s
  else
    let pass := acc.all fun d => monitor.getD (nic - 1 - d) false
    { s with cal := { s.cal with
      mon := Tab.setLst s.cal.mon p (Tab.lst s.cal.mon p ++ [pass]), monEmpty := Tab.setNum s.cal.monEmpty p 0 } }

/-- A port's readback at bring-up (R200 step 5): the next part, or the port is up, or it fails. -/
def State.bringUpStep (s : State) (p part : Nat) (bad : Bool) : State :=
  if bad then s.bringUpFails p
  else if part + 1 < s.parts then s.sendRdbk p (part + 1)
  else s.setPort p { s.port p with bringup := .up, part := 0 }

/-- Whether the results of a readback can be taken: they pass over the strait of the isle's die (R26), and the diagnosis
reads the age array. Until then they stay in the port's queue (R37). [log 21, 25] -/
def State.readbackRuns (s : State) (p : Nat) : Bool :=
  s.fld (straitState (p / 32)) == 2 && (!s.diaOn || s.engineFree 23)

/-- READBACK_RECEIVE (R207): the records in the order of their arrival, and the first 8 bits of the extra record. [log 36, 116] -/
def State.readback (s : State) (p : Nat) (records : List (BitVec 512)) (extra : Nat) (monitor : List Bool) : State :=
  let nic := s.nic p
  let x := s.port p
  match x.reading with
  | none => s
  | some part =>
    if nic = 0 ∨ !s.readbackRuns p then s
    else
      let acc := (List.range nic).filterMap fun d => (recOf records nic d).map fun r => (d, r)
      let lost := (List.range nic).filter fun d => (recOf records nic d).isNone
      let up := x.bringup != .reading
      let s := if lost.isEmpty then s
        else (s.addSat (F.CHN_Cnn_ERR_RBERR p) lost.length).raise 110 (chnData p (lost.headD 0))
      let silent := if acc.isEmpty then x.silent + 1 else 0
      let s := if 2 ≤ silent then s.setOn (F.CHN_Cnn_ERR_SILENT p) true else s
      let s := if silent = 2 then s.raise 111 p else s
      let s := if extra = 0 then s else (s.setOn (F.CHN_Cnn_ERR_LENGTH p) true).raise 112 p
      let s := s.each acc fun s r => s.takeRecord p r.1 r.2
      let s := match hottest acc with
        | none => s
        | some (d, t) => (s.setFld (F.CHN_Cnn_TMAX_IC p) d).setFld (F.CHN_Cnn_TMAX_TEMP p) t
      let wrong := acc.any fun r => recBits r.2 503 496 != x.rbCount || recBits r.2 444 443 != 0
      let miscur := acc.any fun r => (List.range 3).any fun c => recCur r.2 c != x.codes.getD c 0
      -- during bring-up the finding raises its event without a resync (R200)
      let s := if wrong then (if up then s.resync p else s.raise 113 p)
        else if miscur then s.queueFrames p ((List.range 3).map s.curFrame) else s
      let s := s.capCheck p part acc
      let s := s.monitorTap p (acc.map (·.1)) monitor nic
      let y := s.port p
      let s := s.setPort p { y with
        silent := silent, heard := y.heard || !acc.isEmpty, reading := none }
      let s := s.chnProbe
      let blanked := Tab.on x.dark (part + 32)
      let s := if s.diaOn then
          let (s, due) := s.ageUpdate p part nic records blanked
          s.glintPlan p part due
        else s
      if up then s else s.bringUpStep p part (wrong || !lost.isEmpty || extra != 0)

/-- READBACK_RECEIVE. -/
def execReadbackReceive (port : Fin 64) (records : List (BitVec 512)) (extra : Byte) (monitor : List Bool) (s : State) :
    Host.Outcome State Fault Refusal :=
  effect (·.readback port.val records extra.toNat monitor) s

end Sys2Proof.Machine
end

