-- ==== Sys2Proof/Machine/Adc.lean ====
section
/-! DEFINITION. The converter and its sequencer (R388 to R397). -/

namespace Sys2Proof.Machine

/-- Raises the sequencer's status bits to what State holds (R398). -/
def State.adcSync (s : State) : State :=
  ((s.setOn F.ADC_STAT_BUSY s.adc.running).setOn F.ADC_STAT_PENDING s.adc.pending).setFld F.ADC_STAT_SLOT
    (if s.adc.running then s.adc.slot else 0)

/-- The next conversion is chosen at a conversion boundary (R393) and takes the settings of its slot and channel as they
are now (R391). While the block is asked to stop or has stopped, a sequence goes on to its slot boundary (R368), no
capture converts (R367), and the diode service goes on (R390). -/
def State.adcNext (s : State) : State :=
  match s.adc.owner with
  | some _ => s
  | none =>
    let req (b : Bool) : List Nat := if b then [0] else []
    let captures := !s.stopping 0 && s.adc.capture.isSome && decide (0 < s.adc.capLeft)
    let runs := s.adc.running && (!s.isGated 0 || s.adc.halting)
    match arbitrate 0 s.adc.ptr [req (!s.adc.diodes.isEmpty), req captures, req runs] with
    | none => s
    | some (c, i) =>
      let w := s.reg (R.ADC_SLOTs s.adc.slot)
      let cal := s.reg (R.ADC_CALn (F.ADC_SLOTs_CH s.adc.slot |>.of w))
      { s with adc := { s.adc with
        owner := some c, ptr := Tab.setNum s.adc.ptr c (i + 1), slotWord := w, calWord := cal } }

/-- Conversions of a slot by the settings of its present conversion (R391). -/
def State.slotCount (s : State) : Nat := 2 ^ Nat.min 8 ((F.ADC_SLOTs_AVG s.adc.slot).of s.adc.slotWord)

/-- The channel of a slot by the settings of its present conversion (R391). -/
def State.slotCh (s : State) : Nat := (F.ADC_SLOTs_CH s.adc.slot).of s.adc.slotWord

/-- A slot begins. -/
def State.adcSlot (s : State) (i : Nat) : State :=
  { s with adc := { s.adc with slot := i, count := 0, sum := 0, ovr := false, high := false } }

/-- A sequence starts. -/
def State.adcBegin (s : State) : State :=
  ({ s with adc := { s.adc with running := true, pending := false, ovrRaised := false, trigRaised := false } }.adcSlot 0).adcNext.adcSync

/-- A sequence is over; one that is pending starts, unless the block stops (R367, R392). -/
def State.adcOver (s : State) : State :=
  let again := s.adc.pending && !s.stopping 0
  let s := { s with adc := { s.adc with running := false, pending := false, ending := false, halting := false } }
  if again then s.adcBegin else s

/-- A running sequence ends at the next conversion boundary, and none is pending (R398, R423). -/
def State.adcAbort (s : State) : State :=
  let s := { s with adc := { s.adc with pending := false } }
  if !s.adc.running then s.adcSync
  else if s.adc.owner.isNone then s.adcOver.adcSync
  else ({ s with adc := { s.adc with ending := true } }).adcSync

/-- The block has stopped: a sequence that still runs ends at its slot boundary (R368). -/
def State.adcHalt (s : State) : State :=
  ({ s with adc := { s.adc with pending := false, halting := s.adc.running } }).adcNext.adcSync

/-- A trigger (R392); none is taken while the block is asked to stop or has stopped (R367). -/
def State.adcTrigger (s : State) : State :=
  if !s.on F.ADC_CTRL_EN || s.stopping 0 then s
  else if !s.adc.running then s.adcBegin
  else if !s.adc.pending then { s with adc := { s.adc with pending := true } }.adcSync
  else
    let first := !s.adc.trigRaised
    let s := { s with adc := { s.adc with trigRaised := true } }.incSat F.ADC_STAT_TRIG_OVR
    if first then s.raise 132 0 else s

/-- Whether a trigger source is enabled: 0 frame start, 1 scan row, 2 timer, 3 pin; none while the block is stopped. -/
def State.adcEnabled (s : State) (src : Nat) : Bool := s.fld F.ADC_CTRL_TRIGEN / 2 ^ src % 2 == 1 && !s.stopping 0

/-- A trigger of an enabled source. -/
def State.adcSource (s : State) (src : Nat) : State := if s.adcEnabled src then s.adcTrigger else s

/-- ADC_START: a write of 1 to START. -/
def execAdcStart (s : State) : Host.Outcome State Fault Refusal := effect (·.adcTrigger) s

/-- ADC_TIMER: a period of the timer has ended. -/
def execAdcTimer (s : State) : Host.Outcome State Fault Refusal :=
  effect (fun s => if s.fld F.ADC_TMR_PERIOD = 0 then s else s.adcSource 2) s

/-- ADC_PIN_TRIGGER: an edge of ADC_TRIG. -/
def execAdcPinTrigger (rising : Bool) (s : State) : Host.Outcome State Fault Refusal :=
  effect (fun s => if rising == (s.fld F.ADC_CTRL_PINPOL == 0) then s.adcSource 3 else s) s

/-- Clearing EN ends a sequence at the next conversion boundary, clears PENDING and every VALID (R398). -/
def State.adcDisable (s : State) : State :=
  (s.each (List.range 32) fun s n => s.setOn (F.ADC_MEANn_VALID n) false).adcAbort

/-- DIODE_SERVICE: the three diode conversions fall due (R390). -/
def execDiodeService (s : State) : Host.Outcome State Fault Refusal :=
  effect (fun s => if s.pwr.deep then s else { s with adc := { s.adc with diodes := [0, 1, 2] } }.adcNext) s

/-- The corrected code (R397). -/
def corrected (gain ofs c : Nat) : Nat :=
  clampN 0xFFF (((((16 * c : Nat) : Int) - signed 16 ofs) * gain + 2 ^ 17) / 2 ^ 18)

/-- The comparators that watch a slot evaluate its VAL (R395). -/
def State.adcWindows (s : State) (slot val : Nat) : State :=
  s.each ((List.range 8).filter fun w => s.on (F.ADC_WINw_CFG_EN w) && s.fld (F.ADC_WINw_CFG_SLOT w) == slot) fun s w =>
    let lo := s.fld (F.ADC_WINw_LO_LO w)
    let hi := s.fld (F.ADC_WINw_HI_HI w)
    let hit := if s.on (F.ADC_WINw_CFG_INSIDE w) then decide (lo ≤ val) && decide (val ≤ hi)
      else decide (val < lo) || decide (hi < val)
    let rise := hit && !s.on (F.ADC_WINw_CFG_STATE w)
    let s := s.setOn (F.ADC_WINw_CFG_STATE w) hit
    if rise then (s.setOn (F.ADC_WINw_CFG_HIT w) true).raise (135 + w) val else s

/-- The end of a slot (R391): results, comparators, next slot or end of the sequence; a block that stops ends the sequence
here (R368). -/
def State.adcSlotEnd (s : State) : State :=
  let i := s.adc.slot
  let n := s.slotCh
  let val := s.adc.sum / 2 ^ Nat.min 8 ((F.ADC_SLOTs_SHIFT i).of s.adc.slotWord)
  let mean := Nat.min 0xFFF (s.adc.sum / s.slotCount)
  let s := s.setFld (F.ADC_VALn_VAL n) val
  let s := ((s.setFld (F.ADC_MEANn_MEAN n) mean).setOn (F.ADC_MEANn_VALID n) true).setOn (F.ADC_MEANn_OVR n) s.adc.ovr
  let s := s.setOn (F.ADC_MEANn_HIGH n) (s.adc.ovr && s.adc.high)
  let s := s.adcWindows i (s.fld (F.ADC_VALn_VAL n))
  if i < s.fld F.ADC_CTRL_LAST then (if s.stopping 0 then s.adcOver else s.adcSlot (i + 1))
  else (s.setFld F.ADC_SEQCNT_COUNT (s.fld F.ADC_SEQCNT_COUNT + 1)).adcOver

/-- The channel of the conversion being made. -/
def State.adcChannel (s : State) : Nat :=
  match s.adc.owner with
  | some 0 => 29 + s.adc.diodes.headD 0
  | some 1 => s.adc.scalCh
  | _ => s.slotCh

/-- A conversion that counts, for its owner (R390, R391, R396). -/
def State.adcResult (s : State) (code : Nat) (ovr : Overrange) : State :=
  let past := ovr != .none
  match s.adc.owner with
  | some 0 => { s with adc := { s.adc with diodes := s.adc.diodes.drop 1 } }
  | some 1 => { s with adc := { s.adc with
      capLeft := s.adc.capLeft - 1, capSum := s.adc.capSum + code, capOvr := s.adc.capOvr || past } }
  | _ =>
    let w := s.adc.calWord
    let raw := past || (F.ADC_SLOTs_CALBYP s.adc.slot).of s.adc.slotWord == 1
    let v := if raw then code else corrected ((F.ADC_CALn_GAIN 0).of w) ((F.ADC_CALn_OFS 0).of w) code
    let s := { s with adc := { s.adc with
      sum := s.adc.sum + v, count := s.adc.count + 1, ovr := s.adc.ovr || past,
      high := if past then ovr == .high else s.adc.high } }
    if s.slotCount ≤ s.adc.count then s.adcSlotEnd else s

/-- A channel has overranged (R394): its bit of ADC_OVR, and the event once per sequence. [log 42] -/
def State.adcOvr (s : State) (ch : Nat) : State :=
  let quiet := s.adc.running && s.adc.ovrRaised
  let s := s.setReg R.ADC_OVR (s.reg R.ADC_OVR ||| BitVec.ofNat 32 (2 ^ ch))
  if quiet then s else { s with adc := { s.adc with ovrRaised := true } }.raise 133 ch

/-- The raw code of an input voltage in µV at a reference voltage in µV (R388). -/
def rawCode (vin : Int) (vref : Nat) : Nat := clampN 0xFFF (vin * 4096 / vref)

/-- Whether the input detectors find a voltage overrange (R394). -/
def rangeOf (vin : Int) (vref : Nat) : Overrange :=
  if vin < -20000 then .low else if (vref : Int) + 20000 < vin then .high else .none

/-- ADC_CONVERSION_DONE: the converter has finished a conversion (R391, R393, R394). One that follows an overrange
conversion is discarded. A sequence that is to end ends here, whatever was converted (R398). [log 42] -/
def State.adcDone (s : State) (code : Nat) (ovr : Overrange) : State :=
  if s.adc.owner.isNone then s
  else
    let skip := s.adc.discard
    let code := match ovr with
      | .none => code
      | .low => 0
      | .high => 0xFFF
    let past := ovr != .none
    let s := { s with adc := { s.adc with discard := past } }
    let s := if past then s.adcOvr s.adcChannel else s
    let lost := s.adc.ending && s.adc.owner == some 2
    let s := if skip then s.incSat F.ADC_STAT_DISC else if lost then s else s.adcResult code ovr
    let s := { s with adc := { s.adc with owner := none } }
    ((if s.adc.ending then s.adcOver else s).adcNext).adcSync

/-- ADC_CONVERSION_DONE: the voltage at the converter's input and VREF, in µV. -/
def execAdcConversionDone (vin : Int) (vref : Nat) (s : State) : Host.Outcome State Fault Refusal :=
  effect (·.adcDone (rawCode vin vref) (rangeOf vin vref)) s

/-! ## System calibration (R396) -/

/-- A capture starts. -/
def State.scalBegin (s : State) (full : Bool) : State :=
  ({ s with adc := { s.adc with
    capture := some full, capLeft := 256, capSum := 0, capOvr := false, scalCh := s.fld F.ADC_SCAL_CH } }.setOn
    F.ADC_SCAL_BUSY true).adcNext

/-- The capture or its computation fails: ERR and its event. -/
def State.scalErr (s : State) (ch : Nat) : State := (s.setOn F.ADC_SCAL_ERR true).raise 134 ch

/-- SCAL_ZERO. -/
def State.scalZero (s : State) : State := if s.on F.ADC_SCAL_BUSY then s else s.scalBegin false

/-- SCAL_FULL. -/
def State.scalFull (s : State) : State :=
  if s.on F.ADC_SCAL_BUSY then s
  else if s.on F.ADC_SCAL_ZDONE then s.scalBegin true else s.scalErr (s.fld F.ADC_SCAL_CH)

/-- GAIN and OFS from the two captures, none where the rule refuses them. -/
def scalSolve (z f cz cf : Nat) : Option (Nat × Int) :=
  if f ≤ z ∨ cf ≤ cz then none
  else
    let gain := (roundDiv (((cf - cz) * 2 ^ 18 : Nat) : Int) (f - z)).toNat
    if gain < 0x2000 ∨ 0xFFFF < gain then none
    else
      let ofs : Int := (z : Int) - roundDiv ((cz * 2 ^ 18 : Nat) : Int) gain
      if ofs < -32768 ∨ 32767 < ofs then none else some (gain, ofs)

/-- Overrange conversions of a capture (R394): what each sets, raises and makes the converter discard. -/
def State.scalOvr (s : State) (ch n : Nat) : State :=
  if n = 0 then s else (s.adcOvr ch).addSat F.ADC_STAT_DISC n

/-- SCAL_CAPTURE_DONE: `sum` adds the conversions of the capture that no ADC_CONVERSION_DONE has brought, `ovr` is how many
of them were overrange. The conversion being made is the capture's where the capture holds the converter: one that was to
be discarded is (R394), and its end is the boundary at which a sequence that is to end does (R398). [log 41] -/
def State.scalDone (s : State) (sum ovr : Nat) : State :=
  match s.adc.capture with
  | none => s
  | some full =>
    let mean := (s.adc.capSum + sum) / 16
    let bad := s.adc.capOvr || ovr != 0
    let ch := s.adc.scalCh
    let s := s.scalOvr ch ovr
    let own := s.adc.owner == some 1
    let skip := own && s.adc.discard
    let s := if skip then s.incSat F.ADC_STAT_DISC else s
    let s := { s with adc := { s.adc with
      capture := none, capLeft := 0, owner := if own then none else s.adc.owner,
      discard := s.adc.discard && !skip } }.setOn F.ADC_SCAL_BUSY false
    let s :=
      if !full then
        let s := s.setFld F.ADC_SCAL_ZF_Z mean
        if bad then (s.setOn F.ADC_SCAL_ZDONE false).scalErr ch else s.setOn F.ADC_SCAL_ZDONE true
      else
        let s := s.setFld F.ADC_SCAL_ZF_F mean
        let r := scalSolve (s.fld F.ADC_SCAL_ZF_Z) mean (s.fld F.ADC_SCAL_TGT_CZ) (s.fld F.ADC_SCAL_TGT_CF)
        match (if bad then none else r) with
        | none => s.scalErr ch
        | some (g, o) => ((s.setFld (F.ADC_CALn_GAIN ch) g).setFld (F.ADC_CALn_OFS ch) (unsigned 16 o)).setOn F.ADC_SCAL_ZDONE false
    if own && s.adc.ending then s.adcOver.adcNext.adcSync else s.adcNext

/-- SCAL_ZERO. -/
def execScalZero (s : State) : Host.Outcome State Fault Refusal := effect (·.scalZero) s

/-- SCAL_FULL. -/
def execScalFull (s : State) : Host.Outcome State Fault Refusal := effect (·.scalFull) s

/-- SCAL_CAPTURE_DONE. -/
def execScalCaptureDone (sum ovr : Nat) (s : State) : Host.Outcome State Fault Refusal :=
  effect (·.scalDone sum ovr) s

end Sys2Proof.Machine
end

