-- ==== Sys2Proof/Machine/Rows.lean ====
section
/-! DEFINITION. A port's row periods (R156, R158, R159, R162, R165, R176, R190, R196, R201, R202, R208, R209, R226). -/

namespace Sys2Proof.Machine

/-! ## What a row period shows -/

/-- The timing set that holds from the next frame start (R174, R176): the one that TSEL names in the active registers. -/
def State.nextSet (s : State) : TimSet := timSet s.regs (s.fld F.TIM_CTRL_TSEL)

/-- The SCAN entry of a row period. -/
def State.scanEntry (s : State) (row : Nat) : Nat := Secs.scanLine s.conf.secs (row % s.nlines)

/-- The segment of a row period: the scan cycle of its slot modulo S (R158); outside every slot the rows stay dark and
the manual gives no segment, so a free value. [log 120] -/
def State.segmentOf (s : State) (t : TimSet) (row : Nat) : Nat :=
  match t.slotAt row with
  | some k => (row - t.ofsOf k) / s.nlines % t.segments s.nlines
  | none => s.freeWord.toNat % 64

/-- The payload of ROW (R194, R196): FS in a frame's first row, DARK where the SCAN entry is NLINES or above. -/
def State.rowPayload (s : State) (t : TimSet) (row : Nat) : Nat :=
  b2n (row == 0) * 2 ^ 19 + b2n (decide (s.nlines ≤ s.scanEntry row)) * 2 ^ 18 + s.scanEntry row % 64 * 2 ^ 12 +
    s.segmentOf t row % 64 * 2 ^ 6

/-- Whether a row period has on-window pulses on a port (R159, R176, R177, R190, R330). -/
def State.pulses (s : State) (p row : Nat) : Bool :=
  match s.tset.slotAt row with
  | none => false
  | some k => s.slotBank s.tset (p / 32) k != 0 && !s.chn.gclkStop && !s.chn.gclkGate && s.clocked 3

/-- When a channel of a port's driver is lit in the row period that runs (R198): a row period without pulses lights
nothing. -/
def State.lit (s : State) (p driver ch : Nat) : List (Nat × Nat) :=
  let x := s.port p
  match x.row with
  | none => []
  | some row => if s.pulses p row then x.drv.light driver ch else []

/-! ## Frames of a row period (R202, R208, R209) -/

/-- DCLK periods of a frame (R193). -/
def frameTime (f : Frame) : Nat := f.w + 12

/-- DCLK periods that a row period leaves for frames: STRB takes two, and a frame ends one period before the next
(R193, R209). [log 121] -/
def State.rowBudget (s : State) (p : Nat) : Nat :=
  let t := s.tset
  Secs.portHz s.conf.secs p * t.frDen / (t.frNum * t.rows s.nlines) - 3

/-- The BSEL before the first row of a slot (R159). -/
def State.bselFrames (s : State) (t : TimSet) (p next : Nat) : List Frame :=
  let bank (k : Nat) : Nat := s.slotBank t (p / 32) k
  (t.feeds.filter fun k => t.ofsOf k == next && t.lenOf k != 0 && bank k != 0).map fun k =>
    newFrame 4 ((bank k - 1) * 2 ^ 18)

/-- The frames that select and switch the row period that follows: ROW, and BSEL before a slot's first row (R159, R196,
R209). What selects a frame's first row beside its ROW goes out at the end of the row period before it (`edgeFrames`). -/
def State.rowFrames (s : State) (p next : Nat) : List Frame :=
  let t := if next = 0 then s.nextSet else s.tset
  newFrame 2 (s.rowPayload t next) :: (if next = 0 then [] else s.bselFrames t p next)

/-- What the last row period of a frame sends before its end for the frame that begins (R164, R176, R209): the BSEL of a
slot that starts with it, and PWM and WIN of a changed set. It names the bank and the set in force once the frame starts. [log 119] -/
def State.edgeFrames (s : State) (p : Nat) : List Frame :=
  let t := s.tset
  s.bselFrames t p 0 ++ (if (s.port p).set = s.tim.set then []
    else [newFrame 8 (pwmPayload t s.nlines), newFrame 12 (winPayload t s.nlines)])

/-- The DCLK periods that the last row period keeps for those frames. -/
def edgeTime : Nat := frameTime (newFrame 4 0) + frameTime (newFrame 8 0) + frameTime (newFrame 12 0)

/-- Whether a glint may be sent in the row period before row `next` (R226, R227). [log 121] -/
def State.glintFits (s : State) (p next : Nat) (g : Glint) : Bool :=
  let t := if next = 0 then s.nextSet else s.tset
  let bit := (t.slotAt next).getD 4
  let x := s.port p
  s.scanEntry next == g.line && decide (g.line < s.nlines) && s.dia F.DIA_CTRL_REGION / 2 ^ bit % 2 == 1 &&
    s.diaOn && !s.isGated 9 && !s.on (F.CHN_Cnn_ERR_SILENT p) && !x.drv.blank && s.blankReqs p == 0

/-- The GLNT frame of a planned glint. -/
def glintFrame (g : Glint) : Frame :=
  ⟨6, b2n g.all * 2 ^ 19 + (if g.all then 0 else g.driver * 2 ^ 14) + g.channel * 2 ^ 8 + g.line, false, false, g.deferred⟩

/-- The frames that may go out of those that wait on a port, with their place in its lists: frames first, then glints that fit. A SYNC of a
resync waits for the frames before it. -/
def State.waitingFrames (s : State) (p next : Nat) : List (Frame × Nat) :=
  let x := s.port p
  let q := (List.zip x.queue (List.range x.queue.length)).filter fun e =>
    (e.1.w != 11 || !(x.queue.take e.2).any (·.resync)) && (e.1.w != 6 || s.glintMay p e.1)
  let g := (List.zip x.glints (List.range x.glints.length)).filter fun e =>
    s.glintFits p next e.1 && s.glintMay p (glintFrame e.1)
  q ++ g.map fun e => (glintFrame e.1, 1000 + e.2)

/-- Takes a frame out of a port's lists. -/
def Port.take (x : Port) (i : Nat) : Port :=
  if i < 1000 then { x with queue := x.queue.eraseIdx i } else { x with glints := x.glints.eraseIdx (i - 1000) }

/-- Frames are chosen under R33 as long as they fit into the rest of the row period. -/
def State.sendWaiting (s : State) (p next : Nat) : Nat → Nat → State
  | 0, _ => s
  | fuel + 1, room =>
    let l := (s.waitingFrames p next).filter fun e => decide (frameTime e.1 ≤ room) && s.countFree p e.1
    let reqs (c : Nat) : List Nat := (l.filter fun e => (frameClass e.1).1 == c).map fun e => (frameClass e.1).2
    match arbitrate 0 (s.port p).ptr ((List.range 4).map reqs) with
    | none => s
    | some (c, i) =>
      match l.find? fun e => frameClass e.1 == (c, i) with
      | none => s
      | some (f, j) => ((s.setPort p ((s.port p).take j)).sendOut p f true).sendWaiting p next fuel (room - frameTime f)

/-- Frames due beyond the sixty-fourth wait for the next frame (R209): DEFER for each, the event once per frame. [log 121] -/
def State.deferFrames (s : State) (p next : Nat) : State :=
  let x := s.port p
  let late := (s.waitingFrames p next).filter fun e => !s.countFree p e.1 && !e.1.deferred
  if late.isEmpty then s
  else
    let mark (i : Nat) : Bool := late.any fun e => e.2 == i
    let queue := (List.zip x.queue (List.range x.queue.length)).map fun e =>
      if mark e.2 then { e.1 with deferred := true } else e.1
    let glints := (List.zip x.glints (List.range x.glints.length)).map fun e =>
      if mark (1000 + e.2) then { e.1 with deferred := true } else e.1
    (s.setPort p { x with queue := queue, glints := glints }).defer p late.length

/-- RDBK of the next part of this frame falls due (R202); one that still waits from the frame before goes first (R209). -/
def State.rdbkDue (s : State) (p row : Nat) : State :=
  let x := s.port p
  let waits := x.queue.any fun f => f.w == 5
  if s.on F.CHN_CTRL_RB_EN ∧ !s.isGated 9 ∧ x.reading = none ∧ !waits ∧ x.part < s.parts ∧
      x.part * s.tset.rows s.nlines ≤ row * 16 then
    (s.setPort p { x with part := x.part + 1 }).queueFrames p [newFrame 5 (x.part * 2 ^ 16)]
  else s

/-! ## Slots of the scheme of three or four feeds (R164, R165) -/

/-- A bank load that is not complete at its deadline (R165): what is left of it is abandoned. Where only parts that dies
skip are missing, the event is all (R28). [log 25] -/
def State.loadLate (s : State) (k : Nat) : State :=
  let late := Tab.on s.tim.due k || ((Tab.opt s.pix.loads k).isSome && !s.skipsAll k)
  if late ∨ s.skips 0 k ∨ s.skips 1 k then
    let s := (s.loadDrop k).raise (96 + k) k
    let s := { s with tim := { s.tim with
      due := Tab.setOn s.tim.due k false,
      skipped := [0, 1].foldl (fun t die => Tab.setOn t (dieFeed die k) false) s.tim.skipped } }
    if late then (s.setOn F.TIM_STAT_LOAD_LATE true).incSat F.TIM_STAT_LATE_LOADS else s
  else s

/-- Whether a die is throttled, so that deadlines move to the next load frame (R385). -/
def State.paced (s : State) : Bool := s.slowed 0 || s.slowed 1

/-- The start and the end of slots at a row of the frame, with three or four feeds active. [log 10] -/
def State.slotEvents (s : State) (row : Nat) : State :=
  let t := s.tset
  if s.tim.active.length < 3 then s
  else
    let rows := t.rows s.nlines
    let s := s.each s.tim.active fun s k =>
      if t.ofsOf k = row ∧ !(s.paced ∧ s.tim.skip) then
        let begun := (Tab.opt s.pix.loads k).isSome || Tab.on s.tim.due k
        let took := [0, 1].filter fun die => !s.skips die k
        let s := s.loadLate k
        -- the slot shows bank k, as far as it was written
        if begun then
          s.each took fun s die => if s.shownOn die k = 0 then s
            else { s with tim := { s.tim with shown := Tab.setNum s.tim.shown (dieFeed die k) (k + 1) } }
        else s
      else s
    s.each s.tim.active fun s k =>
      if (t.ofsOf k + t.lenOf k) % rows = row ∧ s.mayLoad ∧ !s.pwr.firstLoads ∧ (Tab.opt s.pix.loads k).isNone then
        { s with tim := { s.tim with due := Tab.setOn s.tim.due k true } }
      else s

/-! ## ROW_BOUNDARY -/

/-- A frame's first row on a port: its counts and its parts start again; what waits goes on waiting (R202, R209). -/
def Port.newFrame (x : Port) : Port :=
  { x with sent := 0, deferRaised := false, part := 0,
           queue := x.queue.map fun f => { f with deferred := false },
           glints := x.glints.map fun g => { g with deferred := false } }

/-- The frames that the row period before `next` owes it fall due and are chosen with all that waits (R208, R209). [log 121] -/
def State.sendRow (s : State) (p next : Nat) : State :=
  let fs := s.rowFrames p next
  let s := (s.usedFree).queueFrames p fs
  (s.sendWaiting p next 80 (s.rowBudget p - (if next = 0 then edgeTime else 0))).deferFrames p next

/-- The frames at the end of a frame's last row period go out on a port (R176, R209). -/
def State.sendEdge (s : State) (p : Nat) : State :=
  let s := s.each (s.edgeFrames p) fun s f => s.frameCmd p f.w f.payload true
  s.setPort p { s.port p with set := s.tim.set }

/-- A port's boundary of row period `row` (R196). [log 119] -/
def State.rowStart (s : State) (p row : Nat) : State :=
  let rows := s.tset.rows s.nlines
  let s := s.whenDo (row == 0) (·.sendEdge p)
  let x := s.port p
  let x := if row = 0 then x.newFrame else x
  let s := s.setPort p { x with row := some row }
  -- row timing that only starts sends the ROW and BSEL of its first row period ahead of it
  let ahead : Bool := match x.drv.rowNext with
    | none => true
    | some r => row == 0 && bits 19 19 r == 0
  let s := if ahead then s.sendRow p row else s
  let s := s.sendFrame p 1 0 true
  let x := s.port p
  let all (t : Tab Bool) : Tab Bool := (List.range 16).foldl (fun t i => Tab.setOn t i true) t
  let s := s.setPort p { x with
    dark := if x.drv.blank then all x.dark else x.dark,
    lit := if s.pulses p row then all x.lit else x.lit }
  let s := s.blankSync
  let next := if row + 1 = rows then 0 else row + 1
  (s.rdbkDue p row).sendRow p next

/-- ROW_BOUNDARY: a row period of a port begins. The reference port's boundaries also mark the slots and the scan-row
trigger of the converter, except row 0, which the frame start has marked. [log 10] -/
def State.rowBoundary (s : State) (p : Nat) : State :=
  if s.mute p ∨ !s.tim.running ∨ s.tim.relock = .locking ∨ (s.port p).bringup ≠ .up ∨ !s.clocked 3 then s
  else
    let row := match (s.port p).row with
      | none => 0
      | some r => r + 1
    if s.tset.rows s.nlines ≤ row then s
    else
      let s := if s.refPort = some p ∧ row ≠ 0 then
          let s := s.slotEvents row
          if s.fld F.ADC_ROW_ROW = row then s.adcSource 1 else s
        else s
      s.rowStart p row

/-- ROW_BOUNDARY. -/
def execRowBoundary (port : Fin 64) (s : State) : Host.Outcome State Fault Refusal := effect (·.rowBoundary port.val) s

end Sys2Proof.Machine
end

