-- ==== Sys2Proof/Machine/Pmbus.lean ====
section
/-! DEFINITION. Headroom loops and PMBus masters (R232 to R237). -/

namespace Sys2Proof.Machine

/-! ## Transactions (R235) -/

/-- The transactions that wait on a bus. -/
def State.setTxns (s : State) (bus : Nat) (l : List PmbTxn) : State :=
  { s with pmb := { s.pmb with waiting := Tab.setLst s.pmb.waiting bus l } }

/-- The bus of a domain. -/
def State.domBus (s : State) (n : Nat) : Nat := s.pmbCfg n F.PMB_LDn_CFG_BUS

/-- The code of VOUT_COMMAND for a setpoint in mV (R235): LINEAR16 with exponent −(EXP + 8). -/
def voutCode (exp mv : Nat) : Nat := (roundDiv ((mv * 2 ^ (exp + 8) : Nat) : Int) 1000).toNat

/-- The data word that a transaction carries; a code that does not fit into 16 bits has no stated value. [log 11] -/
def State.wireOf (s : State) (t : PmbTxn) : Nat :=
  let v := if t.kind = 1 then voutCode (s.pmbCfg t.domain F.PMB_LDn_CFG_EXP) t.data else t.data
  if v < 65536 then v else s.freeWord.toNat % 65536

/-- A free bus takes its next transaction under R33; writes of a domain whose loop must not write wait (R234). -/
def State.pmbNext (s : State) (bus : Nat) : State :=
  match Tab.opt s.pmb.running bus with
  | some _ => s
  | none =>
    let due := (Tab.lst s.pmb.waiting bus).filter fun t => !t.waiting && !s.stopping 3 && (decide (2 ≤ t.kind) || !s.loopHeld t.domain)
    let reqs (c : Nat) : List Nat := (due.filter fun t => t.cls == c).map (·.domain)
    match arbitrate (4 * bus) s.pmb.ptr ((List.range 4).map reqs) with
    | none => s
    | some (c, n) =>
      match due.find? fun t => t.cls == c - 4 * bus && t.domain == n with
      | none => s
      | some t =>
        { s with freeCtr := s.freeCtr + 1, pmb := { s.pmb with
          running := Tab.setOpt s.pmb.running bus (some { t with wire := s.wireOf t }), ptr := Tab.setNum s.pmb.ptr c (n + 1),
          waiting := Tab.setLst s.pmb.waiting bus ((Tab.lst s.pmb.waiting bus).erase t) } }

/-- A transaction falls due. -/
def State.pmbAsk (s : State) (n kind cls data : Nat) : State :=
  let b := s.domBus n
  s.setTxns b (Tab.lst s.pmb.waiting b ++ [⟨n, kind, cls, data, 0, 0, false⟩])

/-- Transactions of a domain that wait and satisfy a test are dropped. -/
def State.pmbDrop (s : State) (n : Nat) (p : PmbTxn → Bool) : State :=
  s.each [0, 1] fun s b => s.setTxns b ((Tab.lst s.pmb.waiting b).filter fun t => !(t.domain == n && p t))

/-- VOUT_COMMAND with a setpoint in mV (R233, R235); one that still waits is replaced. A domain that failed sends
none (R236). [log 122] -/
def State.pmbSet (s : State) (n v : Nat) : State :=
  if (s.loop n).failed then s
  else
    let cls := if s.fld (F.PMB_LDn_STAT_VSET n) < v then 0 else 1
    ((s.pmbDrop n fun t => t.kind == 1).setFld (F.PMB_LDn_STAT_VSET n) v).pmbAsk n 1 cls v

/-- The reads of a group fall due; those that still wait are dropped and counted. -/
def State.pmbReads (s : State) (n : Nat) : State :=
  let old := sumN ([0, 1].map fun b => ((Tab.lst s.pmb.waiting b).filter fun t => t.domain == n && decide (2 ≤ t.kind)).length)
  let s := (s.pmbDrop n fun t => decide (2 ≤ t.kind)).addSat (F.PMB_LDn_STAT_SKIP n) old
  let s := s.setLoop n { s.loop n with round := 0, spoiled := false }
  ((s.pmbAsk n 2 2 0).pmbAsk n 3 3 0).pmbAsk n 4 3 0

/-! ## Prediction and setpoint (R232, R233) -/

/-- The largest dose sum of a zone and colour over the feeds shown. -/
def State.doseMax (s : State) (i : Nat) : Nat :=
  maxN ((s.tim.active.filter fun k => s.shownOn (i / 6144) k != 0).map fun k => Tab.num (Tab.lst s.cor.dose k) i)

/-- I_pred of a domain in mA, rounded down (R232). [log 122] -/
def State.predict (s : State) (n : Nat) : Nat :=
  let isle := n / 2
  let nP := (s.domPorts n).length
  let nA := (below 8 fun i => s.nic (8 * isle + i) != 0).length
  let t := s.tset
  let ich (c : Nat) : Nat := match c with
    | 0 => s.fld F.PMB_ICH0_ICH_R
    | 1 => s.fld F.PMB_ICH0_ICH_G
    | _ => s.fld F.PMB_ICH1_ICH_B
  let cols := below 3 fun c => s.fld (F.PMB_LDn_CFG_COL n) / 2 ^ c % 2 == 1
  let sum (c : Nat) : Nat := sumN ((List.range 512).map fun z => s.doseMax (3 * (512 * isle + z) + c))
  let num := nP * sumN (cols.map fun c => ich c * sum c)
  let den := nA * 4 * (s.nlines * t.segments s.nlines * t.gmul * t.rowclk s.nlines) * 1000
  num / den

/-- The setpoint for a predicted current in mA (R233). [log 123] -/
def State.setpoint (s : State) (n : Nat) (trim : Int) (i : Nat) : Nat :=
  let v : Int := s.fld (F.PMB_LDn_BASE_VBASE n) + (s.fld (F.PMB_LDn_BASE_R_D n) * i / 1000 : Nat) + trim
  (clampI (s.fld (F.PMB_LDn_V_VMIN n)) (s.fld (F.PMB_LDn_V_VMAX n)) v).toNat

/-- A stopped loop. -/
def stoppedLoop : PmbLoop := ⟨false, 0, 0, false, false, false, 0, 0, false, false, 0, false, 0, false⟩

/-- Shows TRIM and IPRED. -/
def State.loopShow (s : State) (n : Nat) : State :=
  let l := s.loop n
  (s.setFld (F.PMB_LDn_TRIM_TRIM n) (unsigned 16 l.trim)).setFld (F.PMB_LDn_TRIM_IPRED n) (Nat.min 65535 l.ipred)

/-- A loop starts (R234): where it must not write yet, OPERATION waits, and the current setpoint follows when that ends. -/
def State.loopStart (s : State) (n : Nat) : State :=
  let i := s.predict n
  let s := s.setLoop n { stoppedLoop with
    running := true, ipred := i, ipredMax := i, held := s.loopHeld n, regBits := (s.loop n).regBits }
  let held := s.loopHeld n
  let s := s.pmbAsk n 0 1 (s.fld (F.PMB_LDn_CFG_OPER n))
  (if held then s else s.pmbSet n (s.fld (F.PMB_LDn_V_VMAX n))).pmbReads n

/-- A running loop at a frame start (R232 to R234). -/
def State.loopRun (s : State) (n : Nat) : State :=
  let l := s.loop n
  let i := s.predict n
  let held := s.loopHeld n
  let ends := decide (s.fld F.PMB_CTRL_GRP + 1 ≤ l.frame + 1)
  let tlim : Int := s.fld (F.PMB_LDn_STEP_TLIM n)
  let trim :=
    if ends && !held then
      if l.low then clampI (-tlim) tlim (l.trim + s.fld (F.PMB_LDn_STEP_UP n))
      else if l.seen && !l.notHigh then clampI (-tlim) tlim (l.trim - s.fld (F.PMB_LDn_STEP_DN n))
      else clampI (-tlim) tlim l.trim
    else l.trim
  let top := Nat.max l.ipredMax i
  let last := s.fld (F.PMB_LDn_STAT_VSET n)
  let s := if ends && l.low && last == s.fld (F.PMB_LDn_V_VMAX n) then
    (s.setOn (F.PMB_LDn_STAT_NOHR n) true).raise 122 n else s
  let v := s.setpoint n trim (if ends then top else i)
  let l' : PmbLoop := { l with
    trim := trim, ipred := i, held := held, frame := if ends then 0 else l.frame + 1,
    ipredMax := if ends then i else top, low := l.low && !ends, seen := l.seen && !ends, notHigh := l.notHigh && !ends }
  let s := s.setLoop n l'
  let s := if held then s
    else if l.held then s.pmbSet n v
    else if last < v ∨ (ends ∧ v ≠ last) then s.pmbSet n v else s
  if ends then s.pmbReads n else s

/-- The loop of a domain at a frame start. [log 37, 123] -/
def State.loopFrame (s : State) (n : Nat) : State :=
  let bad := s.fld (F.PMB_LDn_V_VMAX n) == 0 || decide (s.fld (F.PMB_LDn_V_VMAX n) < s.fld (F.PMB_LDn_V_VMIN n)) ||
    (s.domPorts n).isEmpty
  let s := s.setOn (F.PMB_LDn_STAT_CFGERR n) bad
  let en := s.on F.PMB_CTRL_EN && s.on (F.PMB_LDn_CFG_EN n)
  let l := s.loop n
  let s :=
    if !en then (if l.running then (s.setLoop n { stoppedLoop with regBits := l.regBits }).pmbDrop n fun _ => true else s)
    else if l.running then s.loopRun n
    else if !bad && s.safeOut then s.loopStart n else s
  s.loopShow n

/-- Headroom and PMBus at a frame start: what the registers hold acts now (R237). -/
def State.headroomFrame (s : State) : State :=
  let s := { s with pmb := { s.pmb with
    cfg := (List.range 16).foldl (fun t n => Tab.put resetWord t (R.PMB_LDn_CFG n) (s.reg (R.PMB_LDn_CFG n))) s.pmb.cfg } }
  ((s.each (List.range 16) State.loopFrame).pmbNext 0).pmbNext 1

/-! ## Results (R235, R236) -/

/-- STATUS_WORD bits that count as a regulator fault. -/
def regFaultBits (v : Nat) : Nat := Nat.land v 0xE87C

/-- READ_VOUT in mV: LINEAR16 with exponent −(EXP + 8). [log 15] -/
def linear16 (exp v : Nat) : Nat := (roundDiv ((v * 1000 : Nat) : Int) (2 ^ (exp + 8))).toNat

/-- READ_IOUT in mA: LINEAR11. [log 15] -/
def linear11 (v : Nat) : Int :=
  let m := signed 11 v
  let e := signed 5 (v / 2 ^ 11)
  if 0 ≤ e then m * 1000 * 2 ^ e.toNat else roundDiv (m * 1000) (2 ^ (-e).toNat)

/-- A reading in its 16-bit field: what does not fit has no stated value (log entry 11). -/
def State.reading (s : State) (v : Int) : State × Nat :=
  if 0 ≤ v ∧ v < 65536 then (s, v.toNat) else (s.usedFree, s.freeWord.toNat % 65536)

/-- The data of a successful transaction. -/
def State.pmbData (s : State) (n kind v : Nat) : State :=
  match kind with
  | 2 =>
    let s := s.setFld (F.PMB_LDn_SW_STATUS n) v
    let f := regFaultBits v
    let old := (s.loop n).regBits
    let s := s.setLoop n { s.loop n with regBits := f }
    let s := if f = 0 then s else s.setOn (F.PMB_LDn_STAT_REGFLT n) true
    if old = 0 ∧ f ≠ 0 then s.raise 124 n else s
  | 3 =>
    let (s, mv) := s.reading (linear16 (s.pmbCfg n F.PMB_LDn_CFG_EXP) v)
    let s := s.setFld (F.PMB_LDn_MEAS_VOUT n) mv
    let set := s.fld (F.PMB_LDn_STAT_VSET n)
    let off := decide (Nat.max 50 (set / 32) < Nat.max mv set - Nat.min mv set)
    let twice := off && (s.loop n).vmisOnce
    let s := s.setLoop n { s.loop n with vmisOnce := off }
    if twice then (s.setOn (F.PMB_LDn_STAT_VMIS n) true).raise 125 n else s
  | 4 =>
    let (s, ma) := s.reading (linear11 v)
    s.setFld (F.PMB_LDn_MEAS_IOUT n) ma
  | _ => s

/-- A read of the group's round has succeeded: after a complete round a failed domain starts again (R236). [log 122] -/
def State.pmbRound (s : State) (n kind : Nat) : State :=
  let l := s.loop n
  if kind < 2 then s
  else if l.round + 1 < 3 then s.setLoop n { l with round := l.round + 1 }
  else if l.failed && !l.spoiled then s.setLoop n { stoppedLoop with regBits := l.regBits }
  else s.setLoop n { l with round := 0 }

/-- PMBUS_TRANSACTION_DONE: the transaction in progress on a bus has ended. [log 150] -/
def State.pmbDone (s : State) (bus : Nat) (o : PmbOutcome) : State :=
  match Tab.opt s.pmb.running bus with
  | none => s
  | some t =>
    let s := { s with pmb := { s.pmb with running := Tab.setOpt s.pmb.running bus none } }
    let s := match o with
      | .ok data => (s.pmbData t.domain t.kind data.toNat).pmbRound t.domain t.kind
      | _ =>
        let s := s.setLoop t.domain { s.loop t.domain with spoiled := true }
        -- a loop that has been stopped tries nothing again
        if !(s.loop t.domain).running then s
        else if t.fails < 2 then
          s.setTxns bus (Tab.lst s.pmb.waiting bus ++ [{ t with fails := t.fails + 1, waiting := true }])
        else
          let s := s.setLoop t.domain { s.loop t.domain with failed := true }
          ((s.pmbDrop t.domain fun u => u.kind == 1).setOn (F.PMB_LDn_STAT_FAIL t.domain) true).raise 123 t.domain
    s.pmbNext bus

/-- PMBUS_TRANSACTION_DONE. -/
def execPmbusTransactionDone (bus : Fin 2) (outcome : PmbOutcome) (s : State) : Host.Outcome State Fault Refusal :=
  effect (·.pmbDone bus.val outcome) s

/-- PMBUS_RETRY: 1 ms after a failure the transaction of the domain is due again. -/
def State.pmbRetry (s : State) (n : Nat) : State :=
  s.each [0, 1] fun s b =>
    (s.setTxns b ((Tab.lst s.pmb.waiting b).map fun t => if t.domain == n then { t with waiting := false } else t)).pmbNext b

/-- PMBUS_RETRY. -/
def execPmbusRetry (domain : Fin 16) (s : State) : Host.Outcome State Fault Refusal := effect (·.pmbRetry domain.val) s

end Sys2Proof.Machine
end

