-- ==== Sys2Proof/Machine/Clasp.lean ====
section
/-! DEFINITION. The Clasp safety function (R329 to R352). -/

namespace Sys2Proof.Machine

/-! ## Section and frames -/

/-- MODE bits of the LK registers: 0 USED, 1 FOLLOW, 2 START, 3 RESTART, 4 DIST (R354, R355). -/
def State.clsMode (s : State) (bit : Nat) : Bool := s.fld F.CLS_CFG_MODE / 2 ^ bit % 2 == 1

/-- The configuration byte of a pair. -/
def State.clsPair (s : State) (n : Nat) : Nat := s.fld (if n = 0 then F.CLS_CFG_PAIR0 else F.CLS_CFG_PAIR1)

/-- FUNC of a pair (R338). -/
def State.pairFunc (s : State) (n : Nat) : Nat := s.clsPair n % 4

/-- The device is the manager (R32, R313). -/
def State.manager (s : State) : Bool := s.ldr.mgr

/-- Whether a Spine port is ACTIVE (R280, R306). -/
def State.spnActive (s : State) (p : Nat) : Bool := s.fld (F.SPN_Pp_STAT_STATE p) == 5

/-- The ACTIVE SDN ports. -/
def State.sdnActive (s : State) : List Nat := [1, 2, 3, 4].filter s.spnActive

/-- CRC of a Clasp frame (R349): over the fold tag SRC << 8 | SEQ, then the bytes before it. -/
def claspCrc (src seq : Nat) (bytes : List Byte) : Nat := crc16 (leBytes 4 (src * 256 + seq) ++ bytes)

/-- A frame with its CRC, most significant byte first. -/
def claspFrame (src seq : Nat) (bytes : List Byte) : List Byte := bytes ++ beBytes 2 (claspCrc src seq bytes)

/-- Frames wait to be sent on some ports. -/
def State.claspSend (s : State) (ports : List Nat) (idx : Nat) (bytes : List Byte) : State :=
  { s with clasp := { s.clasp with sent := s.clasp.sent ++ ports.map fun p => (p, idx, bytes) } }

/-- The manager sends HB (1), CMD (2) or RST (4) on every ACTIVE SDN port (R349, R351). -/
def State.claspBroadcast (s : State) (type : Nat) : State :=
  let q := s.clasp.seqOut
  let body : List Byte := [BitVec.ofNat 8 (16 * type), BitVec.ofNat 8 q] ++
    (if type = 4 then [] else [BitVec.ofNat 8 s.clasp.archA])
  let s := s.claspSend s.sdnActive 0 (claspFrame 0 q body)
  { s with clasp := { s.clasp with seqOut := (q + 1) % 256 } }

/-- Whether the manager distributes: it is armed with DIST set, which is what RST asks (R349). -/
def State.claspDist (s : State) : Bool := s.manager && s.armed && s.clsMode 4

/-- Whether the manager sends HB and CMD: CLK_SRCFAIL is clear, too (R351). -/
def State.claspBeats (s : State) : Bool := s.claspDist && !s.on F.CLK_STAT_SRCFAIL

/-- A worker sends REQ on SUP (R349, R352). -/
def State.claspReq (s : State) (level : Nat) : State :=
  let q := s.clasp.reqSeq
  let src := s.fld F.SPN_STAT_ADDR
  let body : List Byte := [0x30, BitVec.ofNat 8 q, BitVec.ofNat 8 level] ++ leBytes 2 src
  let s := s.claspSend ([0].filter s.spnActive) 0 (claspFrame src q body)
  { s with clasp := { s.clasp with reqSeq := (q + 1) % 256 } }

/-! ## Inputs (R334 to R338) -/

/-- Filtered level of a line: 0 IN0_A, 1 IN0_B, 2 IN1_A, 3 IN1_B. -/
def State.clsFilt (s : State) (line : Nat) : Bool := s.fld F.CLS_IN_FILT / 2 ^ line % 2 == 1

/-- A pair is in demand: filtered A low or filtered B high (R335). -/
def State.pairDemand (s : State) (n : Nat) : Bool := !s.clsFilt (2 * n) || s.clsFilt (2 * n + 1)

/-- The filtered lines of a pair are equal (R336). -/
def State.pairEqual (s : State) (n : Nat) : Bool := s.clsFilt (2 * n) == s.clsFilt (2 * n + 1)

/-- Sets one bit of a field. -/
def State.setBit (s : State) (f : Fld) (i : Nat) (b : Bool) : State :=
  let v := s.fld f
  s.setFld f (v - v / 2 ^ i % 2 * 2 ^ i + b2n b * 2 ^ i)

/-- CLS_IN_CHANGE: the raw level of a line changes (R334). -/
def execClsInChange (line : Fin 4) (level : Bool) (s : State) : Host.Outcome State Fault Refusal :=
  effect (·.setBit F.CLS_IN_RAW line.val level) s

/-- Changes that have left the window of 100 ms, which is 33,333 Clasp cycles, are forgotten; CLS_TRANS shows the rest
(R337). -/
def State.clsPrune (s : State) : State :=
  s.each [0, 1] fun s n =>
    let l := (Tab.lst s.clasp.changes n).filter fun t => decide (s.clasp.cycle < t + 33333)
    ({ s with clasp := { s.clasp with changes := Tab.setLst s.clasp.changes n l } }).setFld
      (if n = 0 then F.CLS_TRANS_TR0 else F.CLS_TRANS_TR1) (Nat.min 255 l.length)

/-- CLS_FILTER_ACCEPT: a raw level has been stable for its filter time (R334). The ninth change in a window latches the
chatter fault of a pair in use (R337, R338). [log 126] -/
def State.filterAccept (s : State) (line : Nat) : State :=
  let raw := s.fld F.CLS_IN_RAW / 2 ^ line % 2 == 1
  if raw = s.clsFilt line then s
  else
    let n := line / 2
    let s := s.setBit F.CLS_IN_FILT line raw
    let s := { s with clasp := { s.clasp with
      changes := Tab.setLst s.clasp.changes n (Tab.lst s.clasp.changes n ++ [s.clasp.cycle]) } }.clsPrune
    if s.pairFunc n ≠ 0 ∧ 9 ≤ (Tab.lst s.clasp.changes n).length then s.claspFault (2 + n) else s

/-- CLS_FILTER_ACCEPT. -/
def execClsFilterAccept (line : Fin 4) (s : State) : Host.Outcome State Fault Refusal :=
  effect (·.filterAccept line.val) s

/-- DISC_TIMEOUT: the lines of a pair have been equal for DISC ms (R336). -/
def execDiscTimeout (pair : Fin 2) (s : State) : Host.Outcome State Fault Refusal :=
  effect (fun s => if s.pairFunc pair.val ≠ 0 ∧ s.pairEqual pair.val then s.claspFault pair.val else s) s

/-! ## Demand (R329, R338, R339, R352) -/

/-- The level that a pair requests: FUNC 1 requests 2, FUNC 2 requests 1 (R338). In UNUSED the pairs are ignored
(R340). -/
def State.pairLevel (s : State) (n : Nat) : Nat :=
  if s.fld F.CLS_STAT_STATE = 5 ∨ !s.pairDemand n then 0
  else match s.pairFunc n with
    | 1 => 2
    | 2 => 1
    | _ => 0

/-- The highest level that the pairs with a scope request: scope bit 2 is LOCAL, 3 is ARCH. [log 126] -/
def State.pairsLevel (s : State) (scope : Nat) : Nat :=
  maxN ([0, 1].map fun n => if s.clsPair n / 2 ^ scope % 2 = 1 then s.pairLevel n else 0)

/-- The archipelago level as the held levels and the manager's own pairs make it (R352). -/
def State.archWanted (s : State) : Nat :=
  if s.manager then maxN (s.pairsLevel 3 :: s.clasp.held.map fun (x : Nat × Nat) => x.2) else 0

/-- The level that an archipelago command asks of this device (R339 bit 2). -/
def State.archDemand (s : State) : Nat :=
  if s.fld F.CLS_STAT_STATE = 5 ∨ !s.clsMode 1 then 0 else if s.manager then s.archWanted else s.clasp.arch

/-- The active demand sources (R339). -/
def State.demBits (s : State) : Nat :=
  let pair (n : Nat) : Bool := s.clsPair n / 4 % 2 == 1 && s.pairLevel n != 0
  b2n (pair 0) + 2 * b2n (pair 1) + 4 * b2n (s.archDemand != 0) +
    8 * b2n (s.clsMode 1 && !s.manager && s.clasp.lost && s.fld F.CLS_STAT_STATE != 5) +
    16 * b2n (s.on F.CLS_CTRL_SDK_REQ) + 32 * b2n s.clasp.intDem + 64 * b2n (s.on F.CLK_STAT_SRCFAIL) +
    128 * b2n (s.on F.THM_STAT_SHUT) + 256 * b2n (s.fld F.CLS_FAULT_CAUSE != 0)

/-- D (R329). -/
def State.demand (s : State) : Nat :=
  if 8 ≤ s.demBits then 2 else Nat.max (s.pairsLevel 2) s.archDemand

/-- A source that requests level 1 is active, whatever else is demanded (R329). [log 125] -/
def State.lceWanted (s : State) : Bool :=
  s.archDemand == 1 || [0, 1].any fun n => s.clsPair n / 4 % 2 == 1 && s.pairLevel n == 1

/-! ## Actions (R330 to R332, R340) -/

/-- CUR frames for all colours on every port with drivers, in class 0 or class 3 (R332). -/
def State.curAll (s : State) (urgent : Bool) : State :=
  s.each s.chains fun s p => s.queueFrames p (((List.range 3).map s.curFrame).map fun f => { f with urgent := urgent })

/-- Safe Dark begins: supply off, GCLK stopped, chains blanked (R330). -/
def State.sdkEnter (s : State) : State :=
  let s := { s with
    clasp := { s.clasp with sdk := true, outA := false, outB := true, exit := 0 },
    chn := { s.chn with gclkStop := true } }
  (s.blankOn 0).holdLoops

/-- Safe Dark ends: SAFE_OUT is asserted; the rest follows at the next two frame starts (R331). -/
def State.sdkExit (s : State) : State :=
  { s with clasp := { s.clasp with sdk := false, outA := true, outB := false, exit := 2 } }

/-- The level of a state (R340). -/
def clsLevel (st : Nat) (sdk : Bool) : Nat :=
  match st with
  | 1 => 0
  | 2 => 1
  | 5 => if sdk then 2 else 0
  | _ => 2

/-- The state of a demand level. -/
def clsOf (d : Nat) : Nat := d + 1

/-- Luminance Ceiling begins: capped codes go out, and the check of R348 starts afresh. [log 125] -/
def State.lceEnter (s : State) : State :=
  let s := { s with clasp := { s.clasp with lce := true } }
  let s := s.each s.chains fun s p => s.setPort p { s.port p with past := [], unheard := 0, heard := true, capped := false }
  s.curAll true

/-- Clasp takes a state and its effects (R329, R340): SDK includes the caps of an LCE that it overrides, whether LCE was
in force before or is demanded meanwhile. [log 125] -/
def State.claspEnter (s : State) (st : Nat) : State :=
  let unused := st == 5
  let sdk := st == 0 || st == 3 || st == 4 || (unused && (s.demBits / 16 % 16 != 0 || !s.active))
  let lce := st == 2 || ((s.clasp.lce || s.lceWanted) && (st == 3 || st == 4))
  let s := if sdk == s.clasp.sdk then s else if sdk then s.sdkEnter else s.sdkExit
  let s := if lce == s.clasp.lce then s
    else if lce then s.lceEnter
    else { s with clasp := { s.clasp with lce := false } }.curAll false
  (s.setFld F.CLS_STAT_STATE st).setFld F.CLS_STAT_LEVEL (clsLevel st sdk)

/-! ## Archipelago level (R352) -/

/-- The manager's archipelago level: a rise acts at once, a fall under RESTART waits for a reset; a change is sent as
CMD. -/
def State.archUpdate (s : State) (release : Bool) : State :=
  if !s.manager ∨ !s.armed then s
  else
    let want := s.archWanted
    let old := s.clasp.archA
    let new := if old ≤ want ∨ release ∨ !s.clsMode 3 then want else old
    let s := { s with clasp := { s.clasp with archA := new } }
    if new = old ∨ !s.claspBeats then s else s.claspBroadcast 2

/-- CLS_ARCH (R356). [log 127] -/
def State.archShow (s : State) : State :=
  let l := (s.clasp.held.filter fun (x : Nat × Nat) => x.2 != 0).map fun (x : Nat × Nat) => x.1
  ((s.setFld F.CLS_ARCH_N l.length).setFld F.CLS_ARCH_FIRST (l.headD 0)).setFld F.CLS_ARCH_A s.archWanted

/-- A worker's REQ in the cycle in which the level of its ARCH pairs changes. -/
def State.reqUpdate (s : State) : State :=
  if s.manager ∨ !s.armed ∨ !s.on F.SPN_STAT_ADDR_VALID then s
  else
    let v := s.pairsLevel 3
    if v = s.clasp.reqLevel then s
    else { s with clasp := { s.clasp with reqLevel := v, reqLeft := if v = 0 then 2 else 0 } }.claspReq v

/-- REQ_RESEND: 1 ms after the last REQ (R352). -/
def State.reqResend (s : State) : State :=
  if s.manager ∨ !s.armed ∨ !s.on F.SPN_STAT_ADDR_VALID then s
  else if s.clasp.reqLevel ≠ 0 then s.claspReq s.clasp.reqLevel
  else if s.clasp.reqLeft ≠ 0 then
    { s with clasp := { s.clasp with reqLeft := s.clasp.reqLeft - 1 } }.claspReq 0
  else s

/-- REQ_RESEND. -/
def execReqResend (s : State) : Host.Outcome State Fault Refusal := effect (·.reqResend) s

/-! ## CLASP_CYCLE (R340, R341, R345) -/

/-- The state that an armed Clasp takes for a demand level, and WAIT. [log 125] -/
def State.claspNext (s : State) (d : Nat) : Nat × Bool :=
  let st := s.fld F.CLS_STAT_STATE
  let wait := s.on F.CLS_STAT_WAIT
  let cur := clsLevel st false
  if s.fld F.CLS_FAULT_CAUSE ≠ 0 ∨ st = 4 then (4, wait)
  else if cur < d then (clsOf d, wait)
  else if d < cur ∧ !wait then
    if s.clsMode 3 ∧ !s.clasp.follow then (st, true) else (clsOf d, false)
  else (st, wait)

/-- CLASP_CYCLE: `gclkActive` is what the monitors of the engine dies report. [log 124] -/
def State.claspCycle (s : State) (gclkActive : Bool) : State :=
  let s := { s with clasp := { s.clasp with cycle := s.clasp.cycle + 1 } }.clsPrune
  let s := if s.clasp.sdk && gclkActive then s.claspFault 9 else s
  let s := ((s.archUpdate false).archShow).reqUpdate
  let d := s.demand
  let s := s.setFld F.CLS_STAT_DEM s.demBits
  let s :=
    if s.armed then
      let (st, wait) := s.claspNext d
      (s.setOn F.CLS_STAT_WAIT wait).claspEnter st
    else s.claspEnter (s.fld F.CLS_STAT_STATE)
  { s with clasp := { s.clasp with lastD := d, follow := false, hbIn := false } }

/-- CLASP_CYCLE. -/
def execClaspCycle (gclkActive : Bool) (s : State) : Host.Outcome State Fault Refusal :=
  effect (·.claspCycle gclkActive) s

/-! ## Reset, disarm, arming (R342 to R345) -/

/-- The level that an output line reads back while it is driven: its own, unless the pad is stuck (R346). -/
def padRead (stuck : Option Bool) (driven : Bool) : Bool := stuck.getD driven

/-- Both lines read back as they are driven (R346). -/
def State.padsAgree (s : State) : Bool :=
  padRead s.clasp.padA s.clasp.outA == s.clasp.outA && padRead s.clasp.padB s.clasp.outB == s.clasp.outB

/-- The readback shows the lines negated: A low, B high (R346). [log 12] -/
def State.padsNegated (s : State) : Bool := !padRead s.clasp.padA false && padRead s.clasp.padB true

/-- Whether a Clasp reset is accepted (R342, R345). [log 126] -/
def State.resetOk (s : State) : Bool :=
  let st := s.fld F.CLS_STAT_STATE
  decide (2 ≤ st) && decide (st ≤ 4) &&
  ([0, 1].all fun n => s.pairFunc n == 0 ||
    (!s.pairEqual n && decide ((Tab.lst s.clasp.changes n).length ≤ 8))) &&
  s.padsAgree && decide (s.demand ≤ s.clasp.lastD) &&
  (st != 2 || !s.chains.any fun p => (List.range 16).any (Tab.on (s.port p).past))

/-- A Clasp reset (R341, R342, R349, R352). [log 124] -/
def State.claspReset (s : State) : State :=
  let s := s.clsPrune
  if !s.resetOk then s.incSat F.CLS_CNT_RESET_REJ
  else
    let st := s.fld F.CLS_STAT_STATE
    let s := { s with clasp := { s.clasp with intDem := false } }
    let s := ((s.setFld F.CLS_FAULT_CAUSE 0).setOn F.CLS_STAT_WAIT false).raise 129 0
    let s := if s.claspDist then s.claspBroadcast 4 else s
    let s := (s.archUpdate true).archShow
    let d := s.demand
    let s := { s with clasp := { s.clasp with lastD := d } }
    (s.setFld F.CLS_STAT_DEM s.demBits).claspEnter (if st = 4 then 3 else clsOf d)

/-- A disarm (R344). -/
def State.claspDisarm (s : State) : State :=
  if s.armed then
    let s := ((s.setOn F.CLS_STAT_WAIT false).setOn F.CLS_STAT_HBOK false).claspEnter 0
    ({ s with clasp := { s.clasp with follow := false } }).raise 127 0
  else s

/-- CLS_KEY: a write advances, completes or cancels a sequence (R342, R344). [log 124] -/
def State.clsKey (s : State) (v : Nat) : State :=
  let started := s.clasp.key
  let s := { s with clasp := { s.clasp with key := v == 0xC1A5 } }
  if started ∧ v = 0x2E5E then s.claspReset
  else if started ∧ v = 0xD15A then s.claspDisarm
  else s

/-- CLS_KEY. -/
def execClsKey (key : Word) (s : State) : Host.Outcome State Fault Refusal := effect (·.clsKey key.toNat) s

/-- KEY_TIMEOUT: 1 ms after the first word (R342). -/
def execKeyTimeout (s : State) : Host.Outcome State Fault Refusal :=
  effect (fun s => { s with clasp := { s.clasp with key := false } }) s

/-- The LK registers take the section (R355). -/
def State.loadLk (s : State) (c : List Byte) : State :=
  let w (off n : Nat) : Word := BitVec.ofNat 32 (leAt c off n)
  ((((s.setReg R.CLS_CFG (w 0 3)).setReg R.CLS_TIME (w 4 4)).setReg R.CLS_LCEC (w 8 3)).setReg R.CLS_LCEG (w 12 2)).setReg
    R.CLS_OUT (BitVec.ofNat 32 (byteOf c 14 % 8 + 256 * byteOf c 15))

/-- Whether the LK registers equal Clasp's copy and the copy's CRC holds (R347). [log 12] -/
def State.lkGood (s : State) : Bool :=
  claspOk s.clasp.copy &&
  [R.CLS_CFG, R.CLS_TIME, R.CLS_LCEC, R.CLS_LCEG, R.CLS_OUT].all fun a => (s.loadLk s.clasp.copy).reg a == s.reg a

/-- The parts of arming that fail, as bits of CLS_FAULT: PARAM, LOGIC, OUT (R343, R347). The self-test finds the logic, and
the readback of the outputs driven negated finds the pads, in the condition that State holds. [log 12] -/
def State.armFaults (s : State) (c : List Byte) : Nat :=
  b2n (!claspOk c) * 2 ^ 5 + b2n s.clasp.logicBad * 2 ^ 6 + b2n (!s.padsNegated) * 2 ^ 4

/-- Arming (R343): the copy, its CRC, the LK registers, the logic self-test, the readback of the negated outputs; what
fails is latched in CLS_FAULT (R347). -/
def State.claspArm (s : State) : State :=
  let c := Secs.get s.conf.secs 9 0
  let s := { s with clasp := { s.clasp with copy := c } }
  let bad := s.armFaults c
  let ok := bad == 0
  let s := if claspOk c then s.loadLk c else s
  if ok then
    let start := s.clsMode 2
    let s := { s with clasp := { s.clasp with
      arch := 0, lost := !s.manager && s.clsMode 1, hbRun := 0, hbTimer := false, seqIn := none, lastD := 2,
      follow := !start, reqLevel := 0, reqLeft := 0 } }
    (((s.setOn F.CLS_STAT_WAIT start).setOn F.CLS_STAT_HBOK false).claspEnter 3).raise 126 0
  else
    let s := (s.claspEnter 0).setOn F.CLS_STAT_ARMERR true
    let s := s.setFld F.CLS_FAULT_CAUSE (Nat.lor (s.fld F.CLS_FAULT_CAUSE) bad)
    s.raise 128 (s.fld F.CLS_FAULT_CAUSE)

/-- ARM: a write of 1 to CLS_CTRL.ARM (R343, R345). -/
def State.arm (s : State) : State :=
  let c := Secs.get s.conf.secs 9 0
  if s.fld F.CLS_STAT_STATE = 0 ∧ s.active ∧ byteOf c 0 % 2 = 1 then s.claspArm else s

/-- ARM. -/
def execArm (s : State) : Host.Outcome State Fault Refusal := effect (·.arm) s

/-- Clasp at APPLY of a full image (R340, R343). A Clasp that was armed between CHECK and APPLY of an image with another
CLASP section keeps its copy and the LK registers, while the running section becomes the image's. [log 12] -/
def State.claspApply (s : State) : State :=
  if s.armed then s
  else if byteOf (Secs.get s.conf.secs 9 0) 0 % 2 = 1 then s.claspArm
  else s.claspEnter 5

/-- SDK_REQ: a control path for software (R339). -/
def execSdkReq (on : Bool) (s : State) : Host.Outcome State Fault Refusal := effect (·.setOn F.CLS_CTRL_SDK_REQ on) s

/-! ## Self-diagnostics (R346, R347) -/

/-- What a readback shows of a driven pad: at the other level it is stuck there; at the driven level it is not stuck at the
other one. -/
def padFound (stuck : Option Bool) (driven read : Bool) : Option Bool :=
  if read ≠ driven then some read else if stuck = some driven then stuck else none

/-- An off-pulse test: while SAFE_OUT is asserted a line is pulsed towards its negated level, A low or B high, and the
readback must show it (R346). [log 12, 127] -/
def State.offPulse (s : State) (lineB read : Bool) : State :=
  if !s.safeOut then s
  else
    let s := if lineB then { s with clasp := { s.clasp with padB := padFound s.clasp.padB lineB read } }
      else { s with clasp := { s.clasp with padA := padFound s.clasp.padA lineB read } }
    if read = lineB then s else s.claspFault 4

/-- OFF_PULSE_TEST. -/
def execOffPulseTest (lineB : Bool) (readback : Bool) (s : State) : Host.Outcome State Fault Refusal :=
  effect (·.offPulse lineB readback) s

/-- OUTPUT_READBACK_CHECK: the levels read back RB_WIN cycles after a change. [log 12] -/
def State.readbackCheck (s : State) (a b : Bool) : State :=
  let s := { s with clasp := { s.clasp with
    padA := padFound s.clasp.padA s.clasp.outA a, padB := padFound s.clasp.padB s.clasp.outB b } }
  if s.padsAgree then s else s.claspFault 4

/-- OUTPUT_READBACK_CHECK. -/
def execOutputReadbackCheck (a b : Bool) (s : State) : Host.Outcome State Fault Refusal := effect (·.readbackCheck a b) s

/-- SELF_TEST: parameters and logic, every 10 ms. [log 12] -/
def State.selfTest (s : State) (ok : Bool) : State :=
  let s := { s with clasp := { s.clasp with logicBad := !ok } }
  let s := if s.armed && !s.lkGood then s.claspFault 5 else s
  if ok then s else s.claspFault 6

/-- SELF_TEST. -/
def execSelfTest (logicOk : Bool) (s : State) : Host.Outcome State Fault Refusal := effect (·.selfTest logicOk) s

/-- CLS_CLOCK_CHECK: CLS cycles counted in 1 ms of a qualified REF must lie within 25,000 ± 7 %. -/
def execClsClockCheck (clsCycles : Nat) (s : State) : Host.Outcome State Fault Refusal :=
  effect (fun s => if s.on F.CLK_STAT_XQUAL ∧ (clsCycles < 23250 ∨ 26750 < clsCycles) then s.claspFault 7 else s) s

/-- CLASP_WATCHDOG_EXPIRY: a Clasp cycle has not completed within 10 µs. -/
def execClaspWatchdogExpiry (s : State) : Host.Outcome State Fault Refusal := effect (·.claspFault 7) s

/-! ## Heartbeats and frames (R308, R349 to R352) -/

/-- HEARTBEAT_SEND: every 50 µs at the manager. -/
def execHeartbeatSend (s : State) : Host.Outcome State Fault Refusal :=
  effect (fun s => if s.claspBeats then s.claspBroadcast 1 else s) s

/-- HEARTBEAT_TIMEOUT: the running timer of a worker expires and it declares heartbeat loss, again where the timer was
restarted since the last loss, unless a frame was accepted in this Clasp cycle (R345, R351). [log 127] -/
def State.heartbeatTimeout (s : State) : State :=
  if s.manager ∨ !s.armed ∨ !s.clsMode 1 ∨ !s.clasp.hbTimer ∨ s.clasp.hbIn then s
  else
    let s := { s with clasp := { s.clasp with lost := true, hbRun := 0, hbTimer := false, seqIn := none } }
    ((s.setOn F.CLS_STAT_HBOK false).incSat F.CLS_CNT_HBLOSS).raise 130 0

/-- HEARTBEAT_TIMEOUT. -/
def execHeartbeatTimeout (s : State) : Host.Outcome State Fault Refusal := effect (·.heartbeatTimeout) s

/-- A frame of the manager breaks the run of accepted frames. -/
def State.hbBroken (s : State) (f : Fld) : State :=
  { s with clasp := { s.clasp with hbRun := 0 } }.incSat f

/-- A HB or CMD is accepted: its level, the timer's restart, and the run that ends a loss (R339, R351). -/
def State.hbAccept (s : State) (level : Nat) : State :=
  let run := s.clasp.hbRun + 1
  let lost := s.clasp.lost && decide (run < 3)
  let s := { s with clasp := { s.clasp with
    arch := Nat.min 2 level, hbRun := if s.clasp.lost then run else 0, lost := lost, hbIn := true, hbTimer := s.clsMode 1 } }
  s.setOn F.CLS_STAT_HBOK (!lost)

/-- HB, CMD or RST on SUP at a worker (R350): CRC with SRC 0, then SEQ 1 to 3 above the last accepted. -/
def State.claspDown (s : State) (bytes : List Byte) : State :=
  if s.manager ∨ s.fld F.CLS_STAT_STATE = 5 then s
  else
    let type := byteOf bytes 0 / 16
    let n := bytes.length - 2
    let q := byteOf bytes 1
    let good := beAt bytes n 2 == claspCrc 0 q (bytes.take n) && decide (3 ≤ bytes.length)
    if !good then s.hbBroken F.CLS_CNT_CRCERR
    else
      let d := match s.clasp.seqIn with
        | none => 1
        | some p => (q + 256 - p) % 256
      if d < 1 ∨ 3 < d then s.hbBroken F.CLS_CNT_SEQERR
      else
        -- a RST that is not accepted leaves the last accepted SEQ, except as a new base
        let taken := type != 4 || s.clsMode 1 || s.clasp.seqIn.isNone
        let s := { s with clasp := { s.clasp with seqIn := if taken then some q else s.clasp.seqIn } }
        if type = 4 then (if s.clsMode 1 then s.claspReset else s)
        else s.hbAccept (byteOf bytes 2 % 4)

/-- A frame that arrives on a Spine port, by the routes of R308: from SUP to the local Clasp and every ACTIVE SDN port;
from SDN to the local Clasp and, at a worker, to SUP. On an SDN port anything but REQ is discarded (R350). [log 128] -/
def State.claspArrive (s : State) (port : Nat) (bytes : List Byte) : State :=
  let type := byteOf bytes 0 / 16
  if port = 0 then
    let s := s.claspSend s.sdnActive 0 bytes
    if type = 3 then s else s.claspDown bytes
  else if type ≠ 3 then (if s.fld F.CLS_STAT_STATE = 5 then s else s.incSat F.CLS_CNT_CRCERR)
  else if !s.manager then s.claspSend ([0].filter s.spnActive) port bytes
  else if s.fld F.CLS_STAT_STATE = 5 then s
  else
    let src := leAt bytes 3 2
    let q := byteOf bytes 1
    let good := beAt bytes 5 2 == claspCrc src q (bytes.take 5) && bytes.length == 7
    if !good then s.incSat F.CLS_CNT_CRCERR
    else if Tab.num s.clasp.heldSeq src = q + 1 then s
    else
      { s with clasp := { s.clasp with
        held := Tab.setNum s.clasp.held src (Nat.min 2 (byteOf bytes 2 % 4)),
        heldSeq := Tab.setNum s.clasp.heldSeq src (q + 1) } }.archShow

/-! ## Frame starts (R331, R348) -/

/-- Clasp at a frame start: the last steps out of Safe Dark, and the ports that yielded no record in two frames while
Luminance Ceiling is in force. -/
def State.claspFrameStart (s : State) : State :=
  let s := match s.clasp.exit with
    | 2 => { s with clasp := { s.clasp with exit := 1 } }
    | 1 => ({ s with clasp := { s.clasp with exit := 0 }, chn := { s.chn with gclkStop := false } }).blankOff 0
    | _ => s
  if s.fld F.CLS_STAT_STATE ≠ 2 then s
  else
    s.each s.chains fun s p =>
      let x := s.port p
      let n := if x.heard then 0 else x.unheard + 1
      let s := s.setPort p { x with heard := false, unheard := n }
      if 2 ≤ n then s.claspFault 8 else s

end Sys2Proof.Machine
end

