-- ==== Sys2Proof/Machine/Symbols.lean ====
section
/-! DEFINITION. Symbols on the lanes: the 8b/10b code (R272), packets and ordered sets as symbols (R273 to R275, R279). -/

namespace Sys2Proof.Machine

/-! ## Symbols (R272, R306) -/

/-- A symbol: true marks a K-code. -/
abbrev Sym := Bool × Byte

/-- K28.5, COM. -/
def symCom : Sym := (true, 0xBC)
/-- K28.1, BHD. -/
def symBhd : Sym := (true, 0x3C)
/-- K28.3, TSK. -/
def symTsk : Sym := (true, 0x7C)
/-- K28.0, SKP. -/
def symSkp : Sym := (true, 0x1C)
/-- K27.7, SVP. -/
def symSvp : Sym := (true, 0xFB)
/-- K28.2, SCP. -/
def symScp : Sym := (true, 0x5C)
/-- K29.7, END. -/
def symEnd : Sym := (true, 0xFD)
/-- K30.7, ABT. -/
def symAbt : Sym := (true, 0xFE)
/-- K23.7, IDL. -/
def symIdl : Sym := (true, 0xF7)
/-- K28.6, CLP (R306). -/
def symClp : Sym := (true, 0xDC)

/-- Data symbols. -/
def dataSyms (bs : List Byte) : List Sym := bs.map fun b => (false, b)

/-- The K-codes that a port knows: a Spine port has CLP and no SVP (R272, R306). -/
def kSyms (spine : Bool) : List Sym :=
  [symCom, symBhd, symTsk, symSkp, symScp, symEnd, symAbt, symIdl] ++ (if spine then [symClp] else [symSvp])

/-! ## The 8b/10b code (R272; IEEE 802.3 Clause 36) -/

/-- The 6-bit group of the low five bits at negative disparity. [log 140] -/
def code6 : List Nat :=
  [0b100111, 0b011101, 0b101101, 0b110001, 0b110101, 0b101001, 0b011001, 0b111000,
   0b111001, 0b100101, 0b010101, 0b110100, 0b001101, 0b101100, 0b011100, 0b010111,
   0b011011, 0b100011, 0b010011, 0b110010, 0b001011, 0b101010, 0b011010, 0b111010,
   0b110011, 0b100110, 0b010110, 0b110110, 0b001110, 0b101110, 0b011110, 0b101011]

/-- The 4-bit group of the high three bits at negative disparity. [log 140] -/
def code4 : List Nat := [0b1011, 0b1001, 0b0101, 0b1100, 0b1101, 0b1010, 0b0110, 0b1110]

/-- The number of ones among the low `w` bits. -/
def ones (w v : Nat) : Nat := (below w fun i => v / 2 ^ i % 2 == 1).length

/-- A sub-group at a running disparity: complemented at positive disparity where it is unbalanced or is the balanced one
that has two forms. -/
def subGroup (w v twin : Nat) (positive : Bool) : Nat :=
  if positive && (2 * ones w v != w || v == twin) then 2 ^ w - 1 - v else v

/-- The code group of a data byte. -/
def dataGroup (positive : Bool) (b : Nat) : Nat :=
  let x := b % 32
  let v6 := code6.getD x 0
  let after := if 2 * ones 6 v6 = 6 then positive else !positive
  let v4 :=
    if b / 32 = 7 ∧ !after ∧ [17, 18, 20].contains x then 0b0111
    else if b / 32 = 7 ∧ after ∧ [11, 13, 14].contains x then 0b1000
    else subGroup 4 (code4.getD (b / 32) 0) 0b1100 after
  subGroup 6 v6 0b111000 positive * 16 + v4

/-- The code groups of the K-codes at negative disparity; at positive disparity they are complemented. -/
def kGroups : List (Byte × Nat) :=
  [(0x1C, 0b0011110100), (0x3C, 0b0011111001), (0x5C, 0b0011110101), (0x7C, 0b0011110011), (0xBC, 0b0011111010),
   (0xDC, 0b0011110110), (0xF7, 0b1110101000), (0xFB, 0b1101101000), (0xFD, 0b1011101000), (0xFE, 0b0111101000)]

/-- The code group of a symbol. -/
def symGroup (positive : Bool) (x : Sym) : Nat :=
  if x.1 then
    let v := ((kGroups.find? fun e => e.1 == x.2).map (·.2)).getD 0
    if positive then 1023 - v else v
  else dataGroup positive x.2.toNat

/-- The running disparity after a 10-bit group: a sub-group with more ones than zeros, or 000111 or 0011, leaves it
positive, one with fewer, or 111000 or 1100, negative. [log 140] -/
def rdAfter (positive : Bool) (g : Nat) : Bool :=
  let sub (w v low high : Nat) (p : Bool) : Bool :=
    if w < 2 * ones w v ∨ v = low then true else if 2 * ones w v < w ∨ v = high then false else p
  sub 4 (g % 16) 0b0011 0b1100 (sub 6 (g / 16) 0b000111 0b111000 positive)

/-- The running disparity after symbols. -/
def symsRd (positive : Bool) (l : List Sym) : Bool := l.foldl (fun p x => rdAfter p (symGroup p x)) positive

/-- Symbols as the 10-bit groups in which a lane sends them. -/
def codeSyms (positive : Bool) : List Sym → List Nat
  | [] => []
  | x :: t =>
    let g := symGroup positive x
    g :: codeSyms (rdAfter positive g) t

/-- A code error (R272): no symbol that the port knows has this group at this running disparity. [log 140] -/
def isCodeError (spine positive : Bool) (g : Nat) : Bool :=
  !((List.range 256).any fun b => dataGroup positive b == g) && !((kSyms spine).any fun x => symGroup positive x == g)

/-! ## Sets and packets as symbols -/

/-- A SKP ordered set as sent (R275). -/
def skpSet : List Sym := [symCom, symSkp, symSkp, symSkp]

/-- A packet from its start symbol to END or ABT. -/
def packetSyms (start : Sym) (bytes : List Byte) (abort : Bool) : List Sym :=
  [start] ++ dataSyms bytes ++ [if abort then symAbt else symEnd]

/-- What lane `n` of `w` carries of a symbol stream: symbol k travels on lane k mod w, and IDL fills the last payload
position (R273). -/
def laneSyms (w n : Nat) (l : List Sym) : List Sym :=
  (List.range ((l.length + w - 1) / w)).map fun j => l.getD (j * w + n) symIdl

end Sys2Proof.Machine
end

