-- ==== Sys2Proof/Machine/Link.lean ====
section
/-! DEFINITION. The lanes of the Weandi and Spine links: bring-up, block lock, upstream choice (R270 to R282, R293 to
R297, R305 to R307). Ports: 0 U, 1 D, 2 B, 3 SUP, 4 to 7 SDN0 to SDN3. -/

namespace Sys2Proof.Machine

/-! ## Ports and their registers -/

/-- Whether a port is a Weandi port. -/
def weandi (p : Nat) : Bool := decide (p < 3)

/-- STATE of a port (R280). -/
def linkStateF (p : Nat) : Fld := if p < 3 then F.LNK_Px_STAT_STATE p else F.SPN_Pp_STAT_STATE (p - 3)

/-- RATE of a port. -/
def linkRateF (p : Nat) : Fld := if p < 3 then F.LNK_Px_STAT_RATE p else F.SPN_Pp_STAT_RATE (p - 3)

/-- State code of a port: 0 DETECT, 1 TRAIN, 2 LOCK, 3 ALIGN, 4 CAPS, 5 ACTIVE. -/
def State.linkState (s : State) (p : Nat) : Nat := s.fld (linkStateF p)

/-- Whether a port is ACTIVE. -/
def State.linkActive (s : State) (p : Nat) : Bool := s.linkState p == 5

/-- A port. -/
def State.link (s : State) (p : Nat) : LinkPort := Tab.get (fun _ => LinkPort.idle) s.lnk.ports p

/-- Replaces a port. -/
def State.setLink (s : State) (p : Nat) (x : LinkPort) : State :=
  { s with lnk := { s.lnk with ports := Tab.put (fun _ => LinkPort.idle) s.lnk.ports p x } }

/-- A lane of a port. -/
def LinkPort.lane (x : LinkPort) (n : Nat) : Lane := Tab.get (fun _ => Lane.idle) x.lanes n

/-- Replaces a lane. -/
def LinkPort.setLane (x : LinkPort) (n : Nat) (l : Lane) : LinkPort :=
  { x with lanes := Tab.put (fun _ => Lane.idle) x.lanes n l }

/-- LOCKED and POLINV show the lanes. -/
def State.linkShow (s : State) (p : Nat) : State :=
  if weandi p then
    let x := s.link p
    let mask (f : Lane → Bool) : Nat := sumN ((List.range 4).map fun n => b2n (f (x.lane n)) * 2 ^ n)
    (s.setFld (F.LNK_Px_STAT_LOCKED p) (mask (·.locked))).setFld (F.LNK_Px_STAT_POLINV p) (mask (·.inv))
  else s

/-- What a lane sends: symbols, their groups from a running disparity on, and that disparity (R272). -/
def State.emit (s : State) (k : Nat) (positive : Bool) (l : List Sym) : State :=
  { s with lnk := { s.lnk with
    sent := Tab.setLst s.lnk.sent k l, coded := Tab.setLst s.lnk.coded k (codeSyms positive l),
    txRd := Tab.setOn s.lnk.txRd k positive } }

/-- The running disparity of a lane after what it sent last; IDL between does not change it (R272). [log 140] -/
def State.rdNow (s : State) (k : Nat) : Bool := symsRd (Tab.on s.lnk.txRd k) (Tab.lst s.lnk.sent k)

/-- The lanes of a port up to `w` carry a symbol stream (R273). -/
def State.sendSyms (s : State) (p w : Nat) (l : List Sym) : State :=
  s.each (List.range w) fun s n => s.emit (4 * p + n) (s.rdNow (4 * p + n)) (laneSyms w n l)

/-- The stream that the lanes carry ends otherwise (R296): it is coded from where it began. -/
def State.resendSyms (s : State) (p w : Nat) (l : List Sym) : State :=
  s.each (List.range w) fun s n => s.emit (4 * p + n) (Tab.on s.lnk.txRd (4 * p + n)) (laneSyms w n l)

/-- Lanes of a port each carry symbols of their own. -/
def State.sendEach (s : State) (p : Nat) (lanes : List Nat) (f : Nat → List Sym) : State :=
  s.each lanes fun s n => s.emit (4 * p + n) (s.rdNow (4 * p + n)) (f n)

/-- A lane hears symbols: its running disparity goes on, or is lost where what came is not known (R272). [log 140] -/
def State.hears (s : State) (k : Nat) (known : Bool) (l : List Sym) : State :=
  let rd := if known then (Tab.opt s.lnk.rxRd k).map fun p => symsRd p l else none
  { s with lnk := { s.lnk with rxRd := Tab.setOpt s.lnk.rxRd k rd } }

/-- The lanes of a port hear a symbol stream (R272, R273). -/
def State.hearSyms (s : State) (p w : Nat) (l : List Sym) : State :=
  s.each (List.range w) fun s n => s.hears (4 * p + n) true (laneSyms w n l)

/-- A lane receives a group: its running disparity goes on; the answer says whether the group is a code error (R272). [log 140] -/
def State.hearGroup (s : State) (p : Nat) (rx : RxGroup) : State × Bool :=
  let k := 4 * p + rx.lane.val
  let rd := (Tab.opt s.lnk.rxRd k).getD rx.positive
  ({ s with lnk := { s.lnk with rxRd := Tab.setOpt s.lnk.rxRd k (some (rdAfter rd rx.group.toNat)) } },
    isCodeError (!weandi p) rd rx.group.toNat)

/-- The block of R368 that a port belongs to. -/
def linkBlock (p : Nat) : Nat := [6, 4, 5].getD p 17

/-- Whether the port is enabled (R280, R293, R307). -/
def State.linkEnabled (s : State) (p : Nat) : Bool :=
  match p with
  | 0 | 1 => s.on (F.LNK_Px_CTRL_EN p)
  | 2 => s.on (F.LNK_Px_CTRL_EN 2) && (s.fld F.LNK_CTRL_BMODE == 1 || s.fld F.LNK_CTRL_BMODE == 2)
  | 3 => !s.manager
  | _ => s.fld F.SPN_CTRL_SDN_EN / 2 ^ (p - 4) % 2 == 1

/-- Whether a port can run: enabled, its block not stopped (R368), PLL_SER locked (R363), no thermal shutdown (R386). [log 78] -/
def State.linkRuns (s : State) (p : Nat) : Bool :=
  s.linkEnabled p && s.fld F.CLK_GSTAT_GATED / 2 ^ linkBlock p % 2 == 0 && s.fld F.CLK_STAT_LOCK / 4 % 2 == 1 &&
    !(weandi p && s.on F.THM_STAT_SHUT)

/-- Lanes of a code 0, 1, 2, 3 (R279, R303). -/
def lanesOf (code : Nat) : Nat := if code = 0 then 1 else if code = 1 then 2 else 4

/-- Code of 1, 2 or 4 lanes. -/
def lanesCode (n : Nat) : Nat := if n = 1 then 0 else if n = 2 then 1 else 2

/-- The most lanes that a port may use. -/
def State.maxLanes (s : State) (p : Nat) : Nat := if weandi p then lanesOf (s.fld (F.LNK_Px_CTRL_MAXLANES p)) else 1

/-- The highest rate code of a port. -/
def State.maxRate (s : State) (p : Nat) : Nat :=
  if weandi p then s.fld (F.LNK_Px_CTRL_MAXRATE p) else s.fld F.SPN_CTRL_MAXRATE

/-- Symbols per 10 ns on one lane of a Weandi port, by rate code (R270). -/
def rateSymbols (code : Nat) : Nat := [25, 50, 80, 100].getD code 25

/-- Symbol time in ps: Weandi (R270), Spine (R305). -/
def symbolPs (p rate : Nat) : Nat := if weandi p then [4000, 2000, 1250, 1000].getD rate 1000 else if rate = 0 then 8000 else 4000

/-- Rate × width of a Weandi port as it runs. -/
def State.linkSpeed (s : State) (p : Nat) : Nat := rateSymbols (s.fld (linkRateF p)) * (s.link p).width

/-! ## Upstreams (R293 to R297) -/

/-- The system time in ns (R315). -/
def State.now (s : State) : Nat := s.spn.clock / 2 ^ 24

/-- UPSEL as a port: 0 U, 2 B; none while it names neither. -/
def State.upstream (s : State) : Option Nat :=
  match s.fld F.LNK_STAT_UPSEL with
  | 0 => some 0
  | 1 => some 2
  | _ => none

/-- Whether a port is an upstream (R293). -/
def State.isUp (s : State) (p : Nat) : Bool := p == 0 || (p == 2 && s.fld F.LNK_CTRL_BMODE == 2)

/-- Whether an upstream port is usable (R294). -/
def State.usable (s : State) (p : Nat) : Bool := s.on (F.LNK_Px_STAT_USABLE p)

/-- The queues that forward what a port receives (R290). -/
def forwardQueues (p : Nat) : List Nat := if p = 0 then [32, 33] else [34]

/-- A packet to be sent as symbols. -/
def TxPkt.syms (x : TxPkt) : List Sym := packetSyms (if x.control then symScp else symSvp) x.bytes x.abort

/-- A Weandi port's lanes carry the packet that it sends (R273). -/
def State.txSyms (s : State) (p : Nat) : State :=
  match Tab.opt s.lnk.tx p with
  | none => s
  | some x => s.sendSyms p (s.link p).width x.syms

/-- The packet that a port sends ends with ABT (R296). -/
def State.txAgain (s : State) (p : Nat) : State :=
  match Tab.opt s.lnk.tx p with
  | none => s
  | some x => s.resendSyms p (s.link p).width x.syms

/-- Bytes that a packet takes in a queue, its start and end symbols too. -/
def TxPkt.size (x : TxPkt) : Nat := x.bytes.length + 2

/-- Bytes have left a queue in this cycle of REF (R291); what left 4,096 cycles ago, longer than any packet lasts, is
forgotten. -/
def State.drains (s : State) (q bytes : Nat) : State :=
  let l := (Tab.lst s.lnk.drained q).filter fun e => decide (s.lnk.cycle < e.1 + 4096)
  { s with lnk := { s.lnk with drained := Tab.setLst s.lnk.drained q (l ++ [(s.lnk.cycle, bytes)]) } }

/-- Bytes that have left a queue since the start symbol of a packet came, `age` cycles of REF ago (R291). [log 79] -/
def State.drainedSince (s : State) (q age : Nat) : Nat :=
  sumN (((Tab.lst s.lnk.drained q).filter fun e => decide (s.lnk.cycle < e.1 + age)).map (·.2))

/-- UPSEL moves to a port at a cycle of REF (R296): what the old upstream is forwarding ends with ABT, what waits behind it
is discarded. [log 77] -/
def State.upSwitch (s : State) (dst cycle : Nat) : State :=
  let old := match s.upstream with
    | some p => p
    | none => 3
  let s := if old = 3 then s
    else s.each (forwardQueues old) fun s n => s.drains n (sumN ((Tab.lst s.lnk.queues n).map TxPkt.size))
  let queues := if old = 3 then s.lnk.queues else (forwardQueues old).foldl (fun q n => Tab.setLst q n []) s.lnk.queues
  let tx := (List.range 3).foldl (fun t p =>
    match Tab.opt t p with
    | some x => if Tab.num s.lnk.txFrom p = old + 1 then Tab.setOpt t p (some { x with abort := true }) else t
    | none => t) s.lnk.tx
  let s := { s with lnk := { s.lnk with queues := queues, tx := tx, revert := none, switchAt := some (cycle, old) } }
  let s := s.each [0, 1, 2] State.txAgain
  (s.setFld F.LNK_STAT_UPSEL (if dst = 0 then 0 else 1)).incSat F.LNK_STAT_SWITCHES

/-- A trigger of R295 on the upstream that UPSEL names. -/
def State.upTrigger (s : State) : State :=
  match s.upstream with
  | none => s
  | some p =>
    if s.fld F.LNK_CTRL_BMODE = 2 ∧ s.on F.LNK_CTRL_FO_AUTO then
      let other := 2 - p
      if s.usable other then ((s.upSwitch other s.lnk.cycle).setOn F.LNK_STAT_FAILOVER true).raise 32 other
      else
        let s := (s.setOn F.LNK_STAT_NOSTBY true).raise 33 p
        if s.usable p then s else s.setFld F.LNK_STAT_UPSEL 3
    else s

/-- Whether an upstream is usable is judged again (R294); with UPSEL none the first to become usable is taken (R295). [log 77] -/
def State.upJudge (s : State) (p : Nat) : State :=
  if !s.isUp p then s
  else
    let x := s.link p
    let was := s.usable p
    let is := s.linkActive p && (if was then decide (x.upoff < 16) else decide (16 ≤ x.upok))
    if was = is then s
    else
      let s := s.setOn (F.LNK_Px_STAT_USABLE p) is
      if is then (if s.upstream.isNone then s.setFld F.LNK_STAT_UPSEL (if p = 0 then 0 else 1) else s)
      else
        let s := if p = 0 then { s with lnk := { s.lnk with revert := none } } else s
        if s.linkActive p ∧ s.upstream = some p then s.upTrigger else s

/-- UPSEL has already moved in this cycle of REF: a trigger and a SWITCH in one cycle cause one switch (R297). [log 77] -/
def State.switchedNow (s : State) : Bool := s.lnk.switchAt.any fun x => x.1 == s.lnk.cycle

/-- VIDEO_TIMEOUT (R295 trigger 3). -/
def State.videoTimeout (s : State) : State :=
  if !s.switchedNow ∧ s.upstream = some 0 ∧ s.fld F.LNK_FO_VTMO ≠ 0 ∧ s.lnk.bSince then s.upTrigger else s

/-- VIDEO_TIMEOUT. -/
def execVideoTimeout (s : State) : Host.Outcome State Fault Refusal := effect (·.videoTimeout) s

/-- REVERT_HOLD_EXPIRY (R297): the return to U waits for a line 0 on U that starts from now on. -/
def State.revertHold (s : State) : State :=
  if s.upstream = some 2 ∧ s.on F.LNK_CTRL_FO_REVERT ∧ s.usable 0 then
    { s with lnk := { s.lnk with revert := some s.lnk.cycle } }
  else s

/-- REVERT_HOLD_EXPIRY. -/
def execRevertHoldExpiry (s : State) : Host.Outcome State Fault Refusal := effect (·.revertHold) s

/-- A write of 1 to LNK_FO.SWITCH (R297). [log 77] -/
def State.foSwitch (s : State) : State :=
  match s.upstream with
  | none => s
  | some p =>
    if !s.switchedNow ∧ s.isUp (2 - p) ∧ s.usable (2 - p) then s.upSwitch (2 - p) s.lnk.cycle else s

/-- FO_SWITCH. -/
def execFoSwitch (s : State) : Host.Outcome State Fault Refusal := effect (·.foSwitch) s

/-! ## Bring-up (R280 to R282, R306, R307) -/

/-- The worker's time goes to HOLD (R317). -/
def State.timeHold (s : State) : State :=
  if s.manager ∨ s.fld F.SPN_TSTAT_STATE = 3 then s
  else
    let s := { s with spn := { s.spn with within := 0, beyond := 0 } }
    (s.setFld F.SPN_TSTAT_STATE 3).raise 54 0

/-- The index of a lane in CAL_LANEi (R407). -/
def laneIndex (p n : Nat) : Nat := if p < 3 then 4 * p + n else 9 + p

/-- The lane indices of a port. -/
def laneIndices (p : Nat) : List Nat := (List.range (if p < 3 then 4 else 1)).map (laneIndex p)

/-- A port leaves ACTIVE: a rerun of its lanes is abandoned (R406). -/
def State.linkDown (s : State) (p : Nat) : State :=
  let s := { s with cal := { s.cal with left := (laneIndices p).foldl (fun t i => Tab.setOn t i true) s.cal.left } }
  if weandi p then
    let s := ((s.incSat (F.LNK_Px_STAT_DOWNS p)).raise (26 + p) p).setOn (F.LNK_Px_STAT_USABLE p) false
    let s := if p = 0 then { s with lnk := { s.lnk with revert := none } } else s
    if s.isUp p ∧ s.upstream = some p then s.upTrigger else s
  else
    let q := p - 3
    let s := (s.incSat (F.SPN_Pp_STAT_DOWNS q)).raise (42 + q) q
    if q = 0 then s.timeHold else s

/-- A port enters ACTIVE (R280, R282, R314). [log 78] -/
def State.linkUp (s : State) (p : Nat) : State :=
  if weandi p then
    let slow := decide (s.linkSpeed p < rateSymbols (s.maxRate p) * s.maxLanes p)
    let s := (s.raise (23 + p) p).setOn (F.LNK_Px_STAT_SLOW p) slow
    let s := if slow then s.raise 30 p else s
    s.upJudge p
  else
    let q := p - 3
    let s := s.raise (37 + q) q
    if q = 0 then s
    else
      let s := { s with spn := { s.spn with sdnSeen := true } }
      if s.spn.walked ∧ !s.on (F.SPN_Pp_STAT_RVALID q) then s.raise 52 q else s

/-- A first calibration of a port's lanes begins: no pair has been tried (R403). -/
def State.lanesUntried (s : State) (p : Nat) : State :=
  { s with cal := { s.cal with first := (laneIndices p).foldl (fun t i => Tab.setNum t (64 * 3 + i) 0) s.cal.first } }

/-- The lanes of a port have shown no running disparity yet (R272). -/
def State.lanesDeaf (s : State) (p : Nat) : State := s.each (List.range 4) fun s n => s.hears (4 * p + n) false []

/-- A port enters a state (R280). -/
def State.linkGo (s : State) (p st : Nat) : State :=
  let old := s.linkState p
  let x := s.link p
  let s := s.setFld (linkStateF p) st
  let s := if old = 5 ∧ st ≠ 5 then s.linkDown p else s
  let fresh : LinkPort := { LinkPort.idle with slow := x.slow, holdoff := x.holdoff, attempt := x.attempt, detected := x.detected }
  match st with
  | 0 => ((s.setLink p { fresh with detected := 0, attempt := false }).lanesDeaf p).linkShow p
  | 1 => (((s.setLink p fresh).lanesDeaf p).lanesUntried p).linkShow p
  | 3 => s.setLink p { x with ts2 := [], ack := false, ackSent := 0, ackGot := 0, upok := 0, upoff := 0 }
  | 4 => s.setLink p { x with ts2 := [], ack := false, ackSent := 0, ackGot := 0 }
  | 5 => (s.setLink p { x with attempt := false }).linkUp p
  | _ => s

/-- A port enters TRAIN at a rate. -/
def State.linkTrain (s : State) (p rate : Nat) (attempt : Bool) : State :=
  (((s.setFld (linkRateF p) rate).setLink p { s.link p with attempt := attempt })).linkGo p 1

/-- A port that may no longer run goes to DETECT; clearing its enable clears FAILMASK (R280, R281). -/
def State.linkCheck (s : State) (p : Nat) : State :=
  let s := if s.linkRuns p ∨ s.linkState p = 0 then s else s.linkGo p 0
  if s.linkEnabled p then s
  else
    let s := s.setLink p { s.link p with slow := false, holdoff := false }
    if weandi p then s.setFld (F.LNK_Px_STAT_FAILMASK p) 0 else s

/-- Every port is checked. -/
def State.linkCheckAll (s : State) : State := s.each (List.range 8) State.linkCheck

/-- RECEIVER_DETECT: in DETECT, each millisecond. -/
def State.receiverDetect (s : State) (p lanes : Nat) : State :=
  let lanes := if weandi p then lanes else lanes % 2
  if s.linkRuns p ∧ s.linkState p = 0 ∧ !(s.link p).holdoff ∧ lanes % 2 = 1 then
    (s.setLink p { s.link p with detected := lanes }).linkTrain p 0 false
  else s

/-- RECEIVER_DETECT. -/
def execReceiverDetect (port : Fin 8) (lanes : BitVec 4) (s : State) : Host.Outcome State Fault Refusal :=
  effect (·.receiverDetect port.val lanes.toNat) s

/-- LINK_STATE_TIMEOUT: the port returns to DETECT; an attempt at a new rate is not made again (R281, R306). -/
def State.linkTimeout (s : State) (p : Nat) : State :=
  let st := s.linkState p
  if 1 ≤ st ∧ st ≤ 4 then
    let rate := s.fld (linkRateF p)
    let s := if (s.link p).attempt then
        (if weandi p then s.setBit (F.LNK_Px_STAT_FAILMASK p) rate true
         else if rate = 1 then s.setLink p { s.link p with slow := true } else s)
      else s
    s.linkGo p 0
  else s

/-- LINK_STATE_TIMEOUT. -/
def execLinkStateTimeout (port : Fin 8) (s : State) : Host.Outcome State Fault Refusal := effect (·.linkTimeout port.val) s

/-- ROLE_HOLDOFF_END. -/
def execRoleHoldoffEnd (port : Fin 8) (s : State) : Host.Outcome State Fault Refusal :=
  effect (fun s => s.setLink port.val { s.link port.val with holdoff := false }) s

/-- A write of 1 to RETRAIN (R280). -/
def State.linkRetrain (s : State) (p : Nat) : State := if s.linkActive p then s.linkTrain p 0 false else s

/-- RETRAIN. -/
def execRetrain (port : Fin 3) (s : State) : Host.Outcome State Fault Refusal := effect (·.linkRetrain port.val) s

/-- CLRFAIL. -/
def execClrfail (port : Fin 3) (s : State) : Host.Outcome State Fault Refusal :=
  effect (·.setFld (F.LNK_Px_STAT_FAILMASK port.val) 0) s

/-- Lane 0 has finished adapting in TRAIN (R280, R403). [log 75] -/
def State.linkAdapted (s : State) (p : Nat) : State := if s.linkState p = 1 then s.linkGo p 2 else s

/-! ## Training sets (R278 to R281) -/

/-- Whether a lane has symbol lock. [log 75] -/
def Lane.symLock (l : Lane) : Bool := decide (8 ≤ l.ts1)

/-- Whether lanes 0 to `w` - 1 satisfy a test. -/
def LinkPort.upTo (x : LinkPort) (w : Nat) (f : Lane → Bool) : Bool := (List.range w).all fun n => f (x.lane n)

/-- The width that the lanes in symbol lock give (R280); 0 while lane 0 has none. -/
def State.widthNow (s : State) (p : Nat) : Nat :=
  (([4, 2, 1].filter fun w => decide (w ≤ s.maxLanes p)).find? fun w => (s.link p).upTo w Lane.symLock).getD 0

/-- W is fixed. [log 75] -/
def State.fixWidth (s : State) (p : Nat) : State :=
  let w := s.widthNow p
  if w = 0 then s
  else
    let s := s.setLink p { s.link p with width := w }
    if weandi p then s.setFld (F.LNK_Px_STAT_WIDTH p) (lanesCode w) else s

/-- In LOCK: whether the width is settled and the partner is locked too. -/
def State.lockAdvance (s : State) (p : Nat) : State :=
  if s.linkState p ≠ 2 then s
  else
    let x := s.link p
    let all := (List.range 4).all fun n => x.detected / 2 ^ n % 2 == 0 || (x.lane n).symLock
    let s := if x.width = 0 ∧ all then s.fixWidth p else s
    let x := s.link p
    if x.width ≠ 0 ∧ x.upTo x.width Lane.symLock ∧ 8 ≤ (x.lane 0).lockedTs1 then s.linkGo p 3 else s

/-- LANE_WIDTH_TIMEOUT: 1 ms after lane 0 gained symbol lock. -/
def State.widthTimeout (s : State) (p : Nat) : State :=
  if s.linkState p = 2 ∧ (s.link p).width = 0 ∧ ((s.link p).lane 0).symLock then (s.fixWidth p).lockAdvance p else s

/-- LANE_WIDTH_TIMEOUT. -/
def execLaneWidthTimeout (port : Fin 8) (s : State) : Host.Outcome State Fault Refusal := effect (·.widthTimeout port.val) s

/-- The value of a symbol. -/
def symAt (l : List (Bool × Byte)) (i : Nat) : Nat := (l.getD i (false, 0)).2.toNat

end Sys2Proof.Machine

namespace Sys2Proof

open Sys2Proof.Machine

/-- Whether a training set opens as R279 shows, with `d` as its third symbol, and holds no code error. -/
def TrainSet.opens (t : TrainSet) (d : Byte) : Bool :=
  t.syms.length == 16 && !t.codeError && t.syms.take 3 == [symCom, symTsk, (false, d)]

end Sys2Proof

namespace Sys2Proof.Machine

/-- A lane hears a training set. -/
def State.hearSet (s : State) (p n : Nat) (t : TrainSet) : State :=
  s.hears (4 * p + n) (!t.codeError && t.inverted == ((s.link p).lane n).inv) t.syms

/-- TS1_RECEIVE (R279, R280); an inverted lane inverts its input in LOCK (R278). -/
def State.ts1 (s : State) (p n : Nat) (t : TrainSet) : State :=
  let s := s.hearSet p n t
  let st := s.linkState p
  let x := s.link p
  if (st = 1 ∨ st = 2) ∧ x.detected / 2 ^ n % 2 = 1 then
    let l := x.lane n
    let l := if t.inverted != l.inv then { l with inv := if st = 2 then !l.inv else l.inv, ts1 := 0, lockedTs1 := 0 }
      else if t.opens 0x4A then
        { l with ts1 := Nat.min 8 (l.ts1 + 1),
                 lockedTs1 := if 8 ≤ l.lockedTs1 then 8 else if symAt t.syms 4 % 2 = 1 then l.lockedTs1 + 1 else 0 }
      else { l with ts1 := if 8 ≤ l.ts1 then 8 else 0, lockedTs1 := if 8 ≤ l.lockedTs1 then 8 else 0 }
    ((s.setLink p (x.setLane n l)).linkShow p).lockAdvance p
  else s

/-- TS1_RECEIVE. -/
def execTs1Receive (port : Fin 8) (lane : Fin 4) (ts : TrainSet) (s : State) : Host.Outcome State Fault Refusal :=
  effect (·.ts1 port.val lane.val ts) s

/-- ROLE of a Weandi port, SIDE of a Spine port (R279, R306). -/
def State.linkRole (s : State) (p : Nat) : Nat :=
  match p with
  | 0 => 1
  | 1 => 0
  | 2 => b2n (s.fld F.LNK_CTRL_BMODE == 2)
  | 3 => 1
  | _ => 0

/-- The rate codes a port offers (R281, R306). -/
def State.linkOffer (s : State) (p : Nat) : List Nat :=
  let fail := if weandi p then s.fld (F.LNK_Px_STAT_FAILMASK p) else if (s.link p).slow then 2 else 0
  below 4 fun r => r == 0 || (decide (r ≤ s.maxRate p) && fail / 2 ^ r % 2 == 0)

/-- The rate that two TS2 agree on. -/
def State.linkAgree (s : State) (p rates target : Nat) : Nat :=
  Nat.min (maxN ((s.linkOffer p).filter fun r => rates / 2 ^ r % 2 == 1)) target

/-- The port has sent 8 TS2 with ACK and received 2: ACTIVE (R281). -/
def State.capsAdvance (s : State) (p : Nat) : State :=
  let x := s.link p
  if s.linkState p = 4 ∧ x.ack ∧ 8 ≤ x.ackSent ∧ 2 ≤ x.ackGot then s.linkGo p 5 else s

/-- What the partner said, in its registers. -/
def State.linkPeer (s : State) (p : Nat) (v : Nat → Nat) : State :=
  let id := v 6 + 256 * v 7
  if weandi p then
    ((((s.setFld (F.LNK_Px_PEER_RATES p) (v 4 % 16)).setFld (F.LNK_Px_PEER_LANES p) (v 5 % 4)).setFld
      (F.LNK_Px_PEER_ROLE p) (v 5 / 4 % 2)).setFld (F.LNK_Px_PEER_EXT p) (v 5 / 16 % 2)).setFld (F.LNK_Px_PEER_ID p) id
  else s.setFld (F.SPN_Pp_STAT_PEER (p - 3)) id

/-- The partner's capabilities are taken (R281). -/
def State.takeCaps (s : State) (p : Nat) (v : Nat → Nat) : State :=
  let s := s.linkPeer p v
  let role := if weandi p then v 5 / 4 % 2 else v 5 % 2
  if role = s.linkRole p then
    let s := if weandi p then (s.setOn (F.LNK_Px_STAT_ROLEERR p) true).raise 29 p
      else (s.setOn (F.SPN_Pp_STAT_ROLEERR (p - 3)) true).raise 36 (p - 3)
    (s.setLink p { s.link p with holdoff := true }).linkGo p 0
  else
    let rate := s.linkAgree p (if weandi p then v 4 % 16 else v 4 % 4) (v 8)
    if rate ≠ s.fld (linkRateF p) then s.linkTrain p rate true
    else
      let x := s.link p
      let w := if weandi p then Nat.min x.width (lanesOf (v 5 % 4)) else 1
      let s := s.setLink p { x with width := w, ack := true, ackSent := 0 }
      if weandi p then s.setFld (F.LNK_Px_STAT_WIDTH p) (lanesCode w) else s

/-- TS2_RECEIVE (R279, R281): two identical valid TS2 on lane 0 give the partner's capabilities. -/
def State.ts2 (s : State) (p n : Nat) (t : TrainSet) : State :=
  let s := s.hearSet p n t
  if s.linkState p ≠ 4 ∨ n ≠ 0 then s
  else
    let v := t.syms.map fun x => x.2.toNat
    let good := t.opens 0x45 && t.inverted == ((s.link p).lane 0).inv &&
      symAt t.syms 15 == crc8 (((t.syms.drop 2).take 13).map (·.2))
    if !good then s.setLink p { s.link p with ts2 := [] }
    else
      let x := s.link p
      let again := x.ts2 == v
      let s := s.setLink p { x with
        ts2 := v, ackGot := if symAt t.syms 5 / 8 % 2 = 1 then Nat.min 2 (x.ackGot + 1) else x.ackGot }
      (if again ∧ !x.ack then s.takeCaps p (symAt t.syms) else s).capsAdvance p

/-- TS2_RECEIVE. -/
def execTs2Receive (port : Fin 8) (lane : Fin 4) (ts : TrainSet) (s : State) : Host.Outcome State Fault Refusal :=
  effect (·.ts2 port.val lane.val ts) s

/-! ## Blocks (R274 to R278) -/

end Sys2Proof.Machine

namespace Sys2Proof

open Sys2Proof.Machine

/-- Whether a header is valid (R274). -/
def HeaderRx.valid (h : HeaderRx) : Bool :=
  h.syms.length == 8 && !h.codeError && h.syms.take 2 == [symCom, symBhd] && ((h.syms.drop 2).all fun x => !x.1) &&
    symAt h.syms 7 == crc8 (((h.syms.drop 2).take 5).map (·.2))

end Sys2Proof

namespace Sys2Proof.Machine

/-- What a header position does to a lane's block lock (R277), and whether it is a bad header. [log 76] -/
def Lane.judge (l : Lane) (valid expected : Bool) : Lane × Bool :=
  if l.locked then
    let bad := !(valid && expected)
    let js := (bad :: l.judged).take 32
    if 4 ≤ (js.filter id).length then ({ l with locked := false, headers := 0, judged := [] }, bad)
    else ({ l with judged := js }, bad)
  else if l.headers = 0 then ({ l with headers := b2n valid }, false)
  else if expected then
    if !valid then ({ l with headers := 0 }, false)
    else if l.headers = 16 then ({ l with locked := true, headers := 17, judged := [] }, false)
    else ({ l with headers := l.headers + 1 }, false)
  else (l, false)

/-- The alignment of a port in ALIGN (R278): the flags it sets, and CAPS when lanes 0 to W - 1 match. -/
def State.alignCheck (s : State) (p : Nat) : State :=
  let x := s.link p
  if s.linkState p ≠ 3 ∨ !x.upTo x.width (·.locked) then s
  else
    let heads := (List.range x.width).filterMap fun n => (x.lane n).last.map fun h => (n, h)
    match (x.lane 0).last with
    | none => s
    | some (q0, _, t0) =>
      let order := heads.any fun e => weandi p && e.2.2.1 != e.1
      let ps := 64 * symbolPs p (s.fld (linkRateF p))
      let far := heads.any fun e =>
        let d := (e.2.1 + 256 - q0) % 256
        let t := if e.2.2.2 ≤ t0 then t0 - e.2.2.2 else e.2.2.2 - t0
        if d = 0 then decide (ps < 1000 * t) else d != 1 && d != 255
      let same := heads.all fun e => e.2.1 == q0
      let s := if weandi p ∧ order then s.setOn (F.LNK_Px_STAT_LANEORD p) true else s
      let s := if weandi p ∧ far then s.setOn (F.LNK_Px_STAT_DESKEW p) true else s
      if same ∧ !order ∧ !far then s.linkGo p 4 else s

/-- UPOK of lane 0 (R294). -/
def LinkPort.countUp (x : LinkPort) (valid up : Bool) : LinkPort :=
  if !valid then { x with upok := 0, upoff := 0 }
  else if up then { x with upok := Nat.min 16 (x.upok + 1), upoff := 0 }
  else { x with upok := 0, upoff := Nat.min 16 (x.upoff + 1) }

/-- A header position of a lane, from ALIGN onward (R277, R278, R294). [log 76] -/
def State.headerIn (s : State) (p n : Nat) (h : HeaderRx) : State :=
  let s := s.hears (4 * p + n) (!h.codeError) h.syms
  if s.linkState p < 3 then s
  else
    let valid := h.valid
    let x := s.link p
    let (l, bad) := (x.lane n).judge valid h.atExpected
    let l := if valid then { l with last := some (symAt h.syms 2, symAt h.syms 3 / 64, h.timeNs) } else l
    let x := x.setLane n l
    let x := if n = 0 then x.countUp (valid && (h.atExpected || !l.locked)) (symAt h.syms 4 % 2 == 1) else x
    let s := (s.setLink p x).linkShow p
    let s := if bad then s.incSat (if weandi p then F.LNK_Px_LANEn_BADHDR p n else F.SPN_Pp_ERR_BADHDR (p - 3)) else s
    let s := if s.linkActive p ∧ !x.upTo x.width (·.locked) then s.linkGo p 3 else s
    let s := s.alignCheck p
    if weandi p ∧ n = 0 then s.upJudge p else s

/-- UPOK of the headers that D, and B in downstream use, send (R294). -/
def State.upokSent (s : State) (p : Nat) : Bool :=
  (p == 1 || (p == 2 && s.fld F.LNK_CTRL_BMODE == 1)) && s.upstream.isSome

/-- The block header that a lane sends (R274); on a Spine port symbols 3 and 4 are 0 (R306). -/
def State.headerSyms (s : State) (p n : Nat) : List Sym :=
  let body : List Byte := [BitVec.ofNat 8 (s.link p).seq, BitVec.ofNat 8 (if weandi p then 64 * n else 0),
    BitVec.ofNat 8 (b2n (s.upokSent p)), 0, 0]
  [symCom, symBhd] ++ dataSyms (body ++ [BitVec.ofNat 8 (crc8 body)])

/-- The TS1 that a lane sends (R279, R280). -/
def State.ts1Syms (s : State) (p n : Nat) : List Sym :=
  [symCom, symTsk] ++ dataSyms ([0x4A, BitVec.ofNat 8 (64 * n), BitVec.ofNat 8 (b2n ((s.link p).lane n).symLock)] ++
    List.replicate 11 0x4A)

/-- The rate code that a port proposes (R281): the highest that both offers share; before the partner's is known, the
highest that it offers itself. [log 75] -/
def State.linkTarget (s : State) (p : Nat) : Nat :=
  let heard := (s.link p).ts2
  maxN ((s.linkOffer p).filter fun r => heard.isEmpty || heard.getD 4 0 / 2 ^ r % 2 == 1)

/-- The TS2 that a lane sends (R279, R306). -/
def State.ts2Syms (s : State) (p n : Nat) : List Sym :=
  let x := s.link p
  let rates := sumN ((s.linkOffer p).map fun r => 2 ^ r)
  let who := (if s.on F.SPN_STAT_ADDR_VALID then s.fld F.SPN_STAT_ADDR else 0xFFF) + 4096 * (if weandi p then p else p - 3)
  let caps := if weandi p then lanesCode x.width + 4 * s.linkRole p else s.linkRole p
  let body : List Byte := [0x45, BitVec.ofNat 8 (64 * n), BitVec.ofNat 8 rates, BitVec.ofNat 8 (caps + 8 * b2n x.ack)] ++
    leBytes 2 who ++ [BitVec.ofNat 8 (s.linkTarget p)] ++ List.replicate 6 0
  [symCom, symTsk] ++ dataSyms (body ++ [BitVec.ofNat 8 (crc8 body)])

/-- The SKP ordered set, where it is due (R275). -/
def skpIf (due : Bool) : List Sym := if due then skpSet else []

/-- A training set goes out on the detected lanes in TRAIN and LOCK, after every 32 a SKP ordered set (R275, R280). [log 140] -/
def State.trainOut (s : State) (p : Nat) : State :=
  let x := s.link p
  let due := decide (31 ≤ x.sets)
  let s := s.sendEach p (below 4 fun n => x.detected / 2 ^ n % 2 == 1) fun n => s.ts1Syms p n ++ skpIf due
  s.setLink p { x with sets := if due then 0 else x.sets + 1 }

/-- The payload of a block in CAPS (R279): a TS2, and IDL in the rest of its 248 symbols (R274). -/
def State.capsSyms (s : State) (p n : Nat) : List Sym := s.ts2Syms p n ++ List.replicate 232 symIdl

/-- A block header is sent on every lane at once (R274), after the SKP ordered set that follows a block of odd SEQ (R275);
in CAPS its block carries a TS2 (R279). -/
def State.headerOut (s : State) (p : Nat) : State :=
  let x := s.link p
  let caps := s.linkState p == 4
  let s := s.sendEach p (List.range x.width) fun n =>
    skpIf x.odd ++ s.headerSyms p n ++ (if caps then s.capsSyms p n else [])
  let x := { x with seq := (x.seq + 1) % 256, odd := x.seq % 2 == 1,
                    ackSent := if caps ∧ x.ack then Nat.min 8 (x.ackSent + 1) else x.ackSent }
  (s.setLink p x).capsAdvance p

/-- SKP_RECEIVE (R276, R402): the elastic buffer is kept near 16 symbols; a new THR applies. -/
def State.skp (s : State) (p n fill : Nat) : State :=
  let x := s.link p
  let f := if 20 < fill then fill - 1 else if fill < 12 then fill + 1 else fill
  let s := s.hears (4 * p + n) true skpSet
  let s := s.setLink p (x.setLane n { x.lane n with fill := f })
  let i := laneIndex p n
  match Tab.opt s.cal.thr i with
  | none => s
  | some v => ({ s with cal := { s.cal with thr := Tab.setOpt s.cal.thr i none } }).setFld (F.CAL_LANEi_THR i) v

/-- SKP_RECEIVE. -/
def execSkpReceive (port : Fin 8) (lane : Fin 4) (fill : Nat) (s : State) : Host.Outcome State Fault Refusal :=
  effect (·.skp port.val lane.val fill) s

/-- The CODEERR counter of a lane. -/
def codeErrF (p n : Nat) : Fld := if p < 3 then F.LNK_Px_LANEn_CODEERR p n else F.SPN_Pp_ERR_CODEERR (p - 3)

/-- CODE_ERROR: a 10-bit group that a lane receives outside a packet; it counts where it is a code error (R272, R306). [log 140] -/
def State.codeError (s : State) (p : Nat) (rx : RxGroup) : State :=
  let (s, bad) := s.hearGroup p rx
  s.whenDo bad (·.incSat (codeErrF p rx.lane.val))

/-- CODE_ERROR. [log 76, 140] -/
def execCodeError (port : Fin 8) (rx : RxGroup) (s : State) : Host.Outcome State Fault Refusal :=
  effect (·.codeError port.val rx) s

/-- ELASTIC_BUFFER_SLIP (R276). -/
def execElasticBufferSlip (port : Fin 8) (lane : Fin 4) (s : State) : Host.Outcome State Fault Refusal :=
  effect (fun s => (s.hears (4 * port.val + lane.val) false []).incSat (if port.val < 3 then F.LNK_Px_LANEn_EBUF port.val lane.val else F.SPN_Pp_DROP_EBUF (port.val - 3))) s

end Sys2Proof.Machine
end

