-- ==== Sys2Proof/Machine/Packets.lean ====
section
/-! DEFINITION. Packets on the Weandi ports (R272, R273, R283 to R292, R298 to R300, R304), the monitor stream (R110,
R286), and the requester that Weandi and Spine share (R300, R320). -/

namespace Sys2Proof.Machine

/-! ## Queues (R290 to R292) -/

/-- The forward queue from one port to another (R290). -/
def forwardQueue (src dst : Nat) : Nat :=
  match src, dst with
  | 0, 1 => 32
  | 0, 2 => 33
  | 2, 1 => 34
  | 1, 0 => 35
  | 1, 2 => 36
  | _, _ => 37

/-- Bytes that a queue holds; a packet takes its start and end symbols too. [log 79] -/
def State.queueFill (s : State) (q : Nat) : Nat := sumN ((Tab.lst s.lnk.queues q).map TxPkt.size)

/-- A packet enters a queue. -/
def State.enqueue (s : State) (q : Nat) (x : TxPkt) : State :=
  { s with lnk := { s.lnk with queues := Tab.setLst s.lnk.queues q (Tab.lst s.lnk.queues q ++ [x]) } }

/-- EV_LNK_DROP, at most once per millisecond (R291). [log 45] -/
def State.dropEvent (s : State) (p : Nat) : State :=
  let quiet := match s.lnk.dropAt with
    | some t => decide (s.lnk.cycle < t + 25000)
    | none => false
  if quiet then s else ({ s with lnk := { s.lnk with dropAt := some s.lnk.cycle } }).raise 31 p

/-- A packet is queued for forwarding as a whole, or dropped (R291): the room is that at its start symbol, `age` cycles of
REF ago. [log 79] -/
def State.forward (s : State) (src dst age : Nat) (x : TxPkt) : State :=
  let q := forwardQueue src dst
  if s.queueFill q + s.drainedSince q age + 18452 ≤ 65536 then s.enqueue q x
  else (s.incSat (F.LNK_Px_DROP_FWDDROP src)).dropEvent src

/-- How a packet stands to the upstream that UPSEL names (R287, R296): on another port; from it; begun on the old upstream
before UPSEL moved, so that its copies are cut; or begun on the new one before, so that it is not taken. -/
inductive UpPart where
  | other | taken | cut | early
deriving DecidableEq, Repr

/-- How a packet stands whose start symbol came `age` cycles of REF ago (R296). [log 77] -/
def State.upPart (s : State) (p age : Nat) : UpPart :=
  let named := s.isUp p && s.upstream == some p
  match s.lnk.switchAt with
  | none => if named then .taken else .other
  | some (t, old) =>
    if t ≤ s.lnk.cycle - age then (if named then .taken else .other)
    else if named then .early
    else if p = old then .cut
    else .other

/-- The ports that a control packet, or a video packet with these forward bits, is forwarded to (R287, R288). -/
def State.forwardTo (s : State) (p : Nat) (part : UpPart) (toD toB : Bool) : List Nat :=
  let bdown := s.fld F.LNK_CTRL_BMODE == 1
  if part = .taken ∨ part = .cut then (if toD then [1] else []) ++ (if toB && bdown then [2] else [])
  else if p == 1 || (p == 2 && bdown) then
    match s.upstream with
    | some u => if u = p ∨ !s.isUp u then [] else [u]
    | none => []
  else []

/-- Forwarding of a packet that has been checked (R287, R289): one that fails, or that UPSEL has left (R296), goes on, ending
with ABT, only where the forwarding is cut-through. [log 80] -/
def State.forwardAll (s : State) (p age : Nat) (dsts : List Nat) (control good : Bool) (bytes : List Byte) : State :=
  s.each dsts fun s d =>
    if good then s.forward p d age ⟨control, bytes, false⟩
    else if s.linkSpeed d ≤ s.linkSpeed p then s.forward p d age ⟨control, bytes, true⟩ else s

/-! ## Video (R273, R283 to R285, R293) -/

end Sys2Proof.Machine

namespace Sys2Proof

open Sys2Proof.Machine

/-- The header of a video packet. -/
def VideoPkt.header (v : VideoPkt) : List Byte :=
  leBytes 2 v.streamId.toNat ++ leBytes 4 v.fseq.toNat ++ leBytes 2 v.line.toNat ++ leBytes 2 v.npix.toNat ++ [v.fmt, v.rsv]

/-- A packet's bytes between its start and end symbols (R283). -/
def VideoPkt.wire (v : VideoPkt) : List Byte := v.header ++ v.payload ++ leBytes 4 v.crc.toNat

/-- The pixels of a packet. -/
def VideoPkt.pixels (v : VideoPkt) : Nat := v.npix.toNat % 8192

/-- Whether a packet's length fits (R285). -/
def VideoPkt.framed (v : VideoPkt) : Bool :=
  let f := v.fmt.toNat % 16
  decide (f < 6) && v.pixels != 0 && !(f == 3 && v.pixels % 2 == 1) && v.payload.length == (v.pixels * wireBits f + 7) / 8

/-- Whether a packet's CRC holds (R283). -/
def VideoPkt.crcOk (v : VideoPkt) : Bool := crc32c (leBytes 4 v.fseq.toNat ++ v.header ++ v.payload) == v.crc

end Sys2Proof

namespace Sys2Proof.Machine

/-- The forward bits of a stream (R288). -/
def State.forwardBits (s : State) (stream : Nat) : Bool × Bool :=
  match (List.range 32).find? fun i => s.on (F.LNK_FWDi_VALID i) && s.fld (F.LNK_FWDi_STREAM_ID i) == stream with
  | some i => (s.on (F.LNK_FWDi_FWD_D i), s.on (F.LNK_FWDi_FWD_B i))
  | none => (s.on F.LNK_FWD_CTRL_DEF_D, s.on F.LNK_FWD_CTRL_DEF_B)

/-- The PORT codes of the slots that a port's packets reach (R293). -/
def State.slotPorts (s : State) (p : Nat) (part : UpPart) : List Nat :=
  let b := p == 2 && s.fld F.LNK_CTRL_BMODE == 2
  (if b then [1] else []) ++ (if part = .taken then [0] else [])

/-- A packet goes to the slots that accept its stream (R74, R285). -/
def State.toSlots (s : State) (p : Nat) (ports : List Nat) (v : VideoPkt) : State :=
  s.each ports fun s q =>
    match s.slotOf q v.streamId.toNat with
    | none => s
    | some m =>
      if s.fld (F.LAY_Wm_CTRL_FORMAT m) ≠ v.fmt.toNat % 16 then s.incSat (F.LNK_Px_PKT_FMTERR p)
      else s.inputPacket m v.fseq.toNat (v.line.toNat % 8192) v.pixels v.payload

/-- A packet that did not end with END is discarded (R272, R285). [log 80] -/
def State.badEnd (s : State) (p : Nat) (e : PktEnd) : State :=
  match e with
  | .good => s
  | .abort => s.incSat (F.LNK_Px_PKT_ABTRX p)
  | .codeError rx => (s.codeError p rx).incSat (F.LNK_Px_PKT_ABTRX p)

/-- The lanes of a port hear a packet up to its end (R272). [log 140] -/
def State.hearPacket (s : State) (p w : Nat) (start : Sym) (bytes : List Byte) (e : PktEnd) : State :=
  let body := start :: dataSyms bytes
  s.hearSyms p w (match e with
    | .good => body ++ [symEnd]
    | .abort => body ++ [symAbt]
    | .codeError _ => body)

/-- Bytes that a receive queue Q43 or Q44 holds. [log 79] -/
def State.rxFill (s : State) (p : Nat) : Nat :=
  sumN ((Tab.lst s.lnk.rxVideo p).map fun x => 18 + x.2.payload.length)

/-- The receive queue of a port for the input writer (R290). -/
def rxQueue (p : Nat) : Nat := if p = 0 then 43 else 44

/-- Whether the input writer can store: every rank can be accessed and nothing waits in its queues. [log 80] -/
def State.writerRuns (s : State) : Bool :=
  s.hubRuns && s.memOpen && s.mem.reconfig.isNone && (List.range 8).all fun m => s.queueIdle (9 + m)

/-- The input writer takes the oldest packet of a receive queue, unless it is stalled (R37, R290). -/
def State.writerTake (s : State) (p : Nat) : State :=
  match Tab.lst s.lnk.rxVideo p with
  | [] => s
  | (ports, v) :: rest =>
    if s.writerRuns then
      ({ s with lnk := { s.lnk with rxVideo := Tab.setLst s.lnk.rxVideo p rest } }.drains (rxQueue p)
        (18 + v.payload.length)).toSlots p ports v
    else s

/-- The input writer takes what waits in Q43 and Q44. [log 80] -/
def State.writerTakeAll (s : State) : State :=
  s.each [0, 2] fun s p => s.each (Tab.lst s.lnk.rxVideo p) fun s _ => s.writerTake p

/-- EV and count of a packet that finds its receive queue full (R291). -/
def State.rxDropped (s : State) (p : Nat) (f : Fld) : State := (s.incSat f).dropEvent p

/-- A good packet enters its receive queue, towards the input writer. -/
def State.rxEnter (s : State) (p : Nat) (ports : List Nat) (v : VideoPkt) : State :=
  if ports.isEmpty then s
  else
    { s with lnk := { s.lnk with
      rxVideo := Tab.setLst s.lnk.rxVideo p (Tab.lst s.lnk.rxVideo p ++ [(ports, v)]) } }.writerTakeAll

/-- UPSEL returns to U at the start of a video packet on U with LINE 0, if that start came after the hold ran out (R297). -/
def State.revertAt (s : State) (p : Nat) (v : VideoPkt) : State :=
  if p = 0 ∧ (s.lnk.revert.any fun t => decide (t + v.age ≤ s.lnk.cycle)) ∧ s.on F.LNK_CTRL_FO_REVERT ∧ s.upstream = some 2 ∧ v.line.toNat % 8192 = 0 then
    s.upSwitch 0 (s.lnk.cycle - v.age)
  else s

/-- A video packet on an ACTIVE port. One towards the slots needs room for the longest in its receive queue (R291); its
forwarding has queues of its own. [log 80] -/
def State.videoIn (s : State) (p : Nat) (v : VideoPkt) : State :=
  if v.startLane ≠ 0 then s.incSat (F.LNK_Px_PKT_LENERR p)
  else
    let s := (s.revertAt p v).writerTakeAll
    let part := s.upPart p v.age
    let good := v.ending == .good && v.framed && v.crcOk
    let here := s.slotPorts p part
    let room := decide (s.rxFill p + s.drainedSince (rxQueue p) v.age + 18452 ≤ 65536)
    let s := if !room ∧ here ≠ [] then s.rxDropped p (F.LNK_Px_DROP_RXDROP p) else s
    let s := if v.ending ≠ .good then s.badEnd p v.ending
      else if !v.framed then s.incSat (F.LNK_Px_PKT_LENERR p)
      else if !v.crcOk then s.incSat (F.LNK_Px_PKT_CRCERR p)
      else
        let s := if p = 1 then s else { s with lnk := { s.lnk with bSince := p == 2 } }
        if room then s.rxEnter p here v else s
    let (d, b) := s.forwardBits v.streamId.toNat
    s.forwardAll p v.age (s.forwardTo p part d b) false (good && part != .cut) v.wire

/-- VIDEO_PACKET_RECEIVE: the lanes hear the packet, and it is handled. [log 80] -/
def State.video (s : State) (p : Nat) (v : VideoPkt) : State :=
  if s.linkActive p then (s.hearPacket p (s.link p).width symSvp v.wire v.ending).videoIn p v else s

/-- VIDEO_PACKET_RECEIVE. -/
def execVideoPacketReceive (port : Fin 3) (pkt : VideoPkt) (s : State) : Host.Outcome State Fault Refusal :=
  effect (·.video port.val pkt) s

/-! ## Transmit (R292) -/

/-- The queues that feed a Weandi transmitter: class, index, queue. -/
def txQueues (p : Nat) : List (Nat × Nat × Nat) :=
  match p with
  | 0 => [(0, 0, 38), (1, 1, 35), (1, 2, 37), (2, 0, 41)]
  | 1 => [(0, 0, 39), (1, 0, 32), (1, 2, 34)]
  | _ => [(0, 0, 40), (1, 0, 33), (1, 1, 36), (2, 0, 42)]

/-- A Weandi transmitter's packet boundary; it sends nothing while its clock or that of the queues stands (R363). -/
def State.weandiSelect (s : State) (p : Nat) : State :=
  if !s.linkActive p ∨ !s.clocked 2 ∨ !s.hubRuns then s
  else
    let qs := (txQueues p).filter fun e => !(Tab.lst s.lnk.queues e.2.2).isEmpty
    let reqs (c : Nat) : List Nat := (qs.filter fun e => e.1 == c).map fun e => e.2.1
    let ptrs : Tab Nat := (List.range 3).map fun c => (c, Tab.num s.lnk.ptr (4 * p + c))
    match arbitrate 0 ptrs [reqs 0, reqs 1, reqs 2] with
    | none => { s with lnk := { s.lnk with tx := Tab.setOpt s.lnk.tx p none, txFrom := Tab.setNum s.lnk.txFrom p 0 } }
    | some (c, i) =>
      match qs.find? fun e => e.1 == c && e.2.1 == i with
      | none => s
      | some e =>
        let l := Tab.lst s.lnk.queues e.2.2
        let s := s.drains e.2.2 (sumN ((l.take 1).map TxPkt.size))
        { s with lnk := { s.lnk with
          tx := Tab.setOpt s.lnk.tx p l.head?, txFrom := Tab.setNum s.lnk.txFrom p (if c = 1 then i + 1 else 0),
          queues := Tab.setLst s.lnk.queues e.2.2 (l.drop 1), ptr := Tab.setNum s.lnk.ptr (4 * p + c) (i + 1) } }.txSyms p

/-! ## Monitor stream (R110, R286) -/

/-- The pixels of a captured line as RGB10 on the wire: 30 bits each, least significant first. -/
def packed30 (px : List Nat) : List Byte :=
  ((chunks 4 px).map fun c =>
    let n := (List.zip c (List.range c.length)).foldl (fun a e => a + e.1 % 2 ^ 30 * 2 ^ (30 * e.2)) 0
    leBytes ((30 * c.length + 7) / 8) n).flatten

/-- The port of a monitor frame; none where it is discarded. -/
def State.monPort (s : State) (k : Nat) : Option Nat :=
  if s.on (F.LAY_Fk_WBCTRL_MON_PORT k) then (if s.fld F.LNK_CTRL_BMODE = 2 then some 2 else none)
  else if s.upstream = some 2 then some 2 else some 0

/-- The monitor reader takes up the latest published frame (R110). It reads it with the WBBASE and DEC in force now, which
a commit may have changed since the capture. [log 139] -/
def State.monBegin (s : State) (k : Nat) : State :=
  if (Tab.opt s.pix.monitor k).isSome ∨ !Tab.on s.pix.monDue k ∨ !s.on (F.LAY_Fk_WBCTRL_MON_EN k) ∨
      s.stopping 7 then s
  else
    let s := { s with pix := { s.pix with monDue := Tab.setOn s.pix.monDue k false } }
    match s.monPort k with
    | none => s
    | some p =>
      let b := s.fld (F.LAY_Fk_WBSTAT_LAST k)
      let m : Monitor := ⟨b, 0, baseBytes (s.fld (F.LAY_Fk_WBBASE_BASE k)), wbDec s.regs k,
        s.fld (F.LAY_Fk_WBCTRL_MON_STREAM k), p, Tab.num s.pix.monSeq k⟩
      ({ s with pix := { s.pix with monitor := Tab.setOpt s.pix.monitor k (some m) } }).setFld (F.LAY_Fk_WBSTAT_SENDING k) b

/-- First byte of a line of a capture buffer (R109). -/
def Monitor.lineBase (m : Monitor) (y : Nat) : Nat :=
  m.base + m.buf * (((1024 / m.dec) * (1024 / m.dec) * 4 + 4095) / 4096 * 4096) + 4096 / m.dec * y

/-- The packet of a monitor line out of the bytes of its line in memory (R283, R286). -/
def Monitor.packet (m : Monitor) (line : List Byte) : TxPkt :=
  let n := 1024 / m.dec
  let payload := packed30 ((chunks 4 line).map leNat)
  let v : VideoPkt := ⟨0, BitVec.ofNat 16 m.stream, BitVec.ofNat 32 m.seq, BitVec.ofNat 16 m.line, BitVec.ofNat 16 n, 1, 0,
    payload, 0, .good, 0⟩
  let bytes := v.header ++ payload
  ⟨false, bytes ++ leBytes 4 (crc32c (leBytes 4 m.seq ++ bytes)).toNat, false⟩

/-- The bytes that a monitor packet takes in its queue: header, 30 bits a pixel, CRC, start and end symbols. -/
def Monitor.size (m : Monitor) : Nat := 12 + 1024 / m.dec / 4 * 15 + 4 + 2

/-- The frame being sent ends: its last line was reached, or its port is gone. -/
def State.monEnd (s : State) (k : Nat) : State :=
  ({ s with pix := { s.pix with monitor := Tab.setOpt s.pix.monitor k none } }).setFld (F.LAY_Fk_WBSTAT_SENDING k) 3

/-- The next line of a monitor frame falls due. -/
def State.monAdvance (s : State) (k : Nat) (m : Monitor) : State :=
  if m.line + 1 < 1024 / m.dec then
    { s with pix := { s.pix with monitor := Tab.setOpt s.pix.monitor k (some { m with line := m.line + 1 }) } }
  else s.monEnd k

/-- MONITOR_PACKET_SEND: the next line of the frame being sent, on the port that the rules name for this packet; a full
transmit queue stalls the reader, a port that is not ACTIVE loses the packet, and without a port the frame is discarded. -/
def State.monSend (s : State) (k : Nat) : State :=
  let s := s.monBegin k
  match Tab.opt s.pix.monitor k with
  | none => s
  | some m =>
    match s.monPort k with
    | none => s.monEnd k
    | some p =>
      let m := { m with port := p }
      let q := if p = 0 then 41 else 42
      let base := m.lineBase m.line
      let len := 4 * (1024 / m.dec)
      if !s.linkActive p then s.monAdvance k m
      else if 16384 < s.queueFill q + m.size ∨ !s.engineReady 21 base len then s
      else
        let (s, ds) := s.readLines 21 base len
        (s.enqueue q (m.packet (spanBytes ds base len))).monAdvance k m

/-- MONITOR_PACKET_SEND. -/
def execMonitorPacketSend (feed : Fin 4) (s : State) : Host.Outcome State Fault Refusal := effect (·.monSend feed.val) s

/-- A monitor send in progress is abandoned (R368). -/
def State.monAbandon (s : State) : State :=
  s.each (List.range 4) State.monEnd

/-! ## Requesters (R300, R320) -/

/-- The fields through which a requester shows itself. -/
structure ReqFields where
  send : Fld
  stall : Fld
  waits : Fld
  inflight : Fld
  quar : Fld
  late : Fld
  stray : Fld
  valid : Fld
  status : Fld
  tag : Fld
  cnt : Fld
  src : Fld
  issued : Fld
  issuedTag : Fld
  rdata : Nat
  event : Nat
  spine : Bool

/-- The control requester of the Weandi ports (R304). -/
def cmFields : ReqFields :=
  ⟨F.LNK_CM_CTRL_SEND, F.LNK_CM_STAT_STALL, F.LNK_CM_STAT_PENDING, F.LNK_CM_STAT_INFLIGHT, F.LNK_CM_STAT_QUAR,
    F.LNK_CM_STAT_LATE, F.LNK_CM_STAT_STRAY, F.LNK_CM_RSP_VALID, F.LNK_CM_RSP_STATUS, F.LNK_CM_RSP_TAG, F.LNK_CM_RSP_CNT,
    F.LNK_CM_RSP_SRC, F.LNK_CM_ISSUED_VALID, F.LNK_CM_ISSUED_TAG, R.LNK_CM_RDATAk 0, 35, false⟩

/-- The remote access requester of the Spine (R327). -/
def raFields : ReqFields :=
  ⟨F.SPN_RA_CTRL_SEND, F.SPN_RA_STAT_STALL, F.SPN_RA_STAT_PENDING, F.SPN_RA_STAT_INFLIGHT, F.SPN_RA_STAT_QUAR,
    F.SPN_RA_STAT_LATE, F.SPN_RA_STAT_STRAY, F.SPN_RA_RSP_VALID, F.SPN_RA_RSP_STATUS, F.SPN_RA_RSP_TAG, F.SPN_RA_RSP_CNT,
    F.SPN_RA_RSP_SRC, F.SPN_RA_ISSUED_VALID, F.SPN_RA_ISSUED_TAG, R.SPN_RA_RDATAk 0, 56, true⟩

/-- The requester that the fields belong to. -/
def State.requester (s : State) (f : ReqFields) : Requester := if f.spine then s.spn.ra else s.lnk.cm

/-- Tags in a state: 1 outstanding, 2 in quarantine. -/
def Requester.count (q : Requester) (st : Nat) : Nat := (below 64 fun t => Tab.num q.tags t == st).length

/-- Replaces a requester; its status fields show it. -/
def State.setRequester (s : State) (f : ReqFields) (q : Requester) : State :=
  let s := if f.spine then { s with spn := { s.spn with ra := q } } else { s with lnk := { s.lnk with cm := q } }
  let s := ((s.setOn f.send q.waiting.isSome).setOn f.waits q.waiting.isSome).setFld f.inflight (q.count 1)
  let s := s.setFld f.quar (q.count 2)
  match q.results with
  | [] => ((((s.setOn f.valid false).setFld f.status 0).setFld f.tag 0).setFld f.cnt 0).setFld f.src 0
  | r :: _ => ((((s.setOn f.valid true).setFld f.status r.status).setFld f.tag r.tag).setFld f.cnt r.cnt).setFld f.src r.src

/-- A result enters the response queue. -/
def Requester.push (q : Requester) (r : AccessRes) : Requester := { q with results := q.results ++ [r] }

/-- Whether the request that waits must go on waiting (R300). -/
def Requester.full (q : Requester) : Bool := decide (16 ≤ q.count 1 + q.results.length)

/-- The lowest free tag. -/
def Requester.freeTag (q : Requester) : Option Nat := (List.range 64).find? fun t => Tab.num q.tags t == 0

/-- The request that waits is refused, ends without a link, or takes a tag (R300). `up` says whether its port is ACTIVE;
the answer is the request that goes out with its tag. [log 81] -/
def State.reqNext (s : State) (f : ReqFields) (up : AccessReq → Bool) : State × Option (AccessReq × Nat) :=
  let q := s.requester f
  match q.waiting with
  | none => ((s.setRequester f q).setOn f.stall false, none)
  | some r =>
    if q.full then ((s.setRequester f q).setOn f.stall true, none)
    else if 2 ≤ r.op ∨ !up r then
      let q := { q with waiting := none }.push ⟨if 2 ≤ r.op then 3 else 4, 0, r.cnt, r.dst, []⟩
      ((s.setRequester f q).setOn f.stall false, none)
    else match q.freeTag with
      | none => ((s.setRequester f q).setOn f.stall true, none)
      | some t =>
        let asked := Tab.put (fun _ => (0, 0)) q.asked t (r.dst, r.cnt)
        let q := { q with waiting := none, tags := Tab.setNum q.tags t 1, asked := asked }
        ((((s.setRequester f q).setOn f.stall false).setOn f.issued true).setFld f.issuedTag t, some (r, t))

/-- A response (R300): an answer, late, or stray. -/
def State.reqAnswer (s : State) (f : ReqFields) (r : AccessRes) : State :=
  let q := s.requester f
  match Tab.num q.tags r.tag with
  | 1 => s.setRequester f ({ q with tags := Tab.setNum q.tags r.tag 2 }.push r)
  | 2 => (s.incSat f.late).raise f.event r.tag
  | _ => s.incSat f.stray

/-- A tag was not answered in time (R300). -/
def State.reqTimeout (s : State) (f : ReqFields) (t : Nat) : State :=
  let q := s.requester f
  if Tab.num q.tags t = 1 then
    let (dst, cnt) := Tab.get (fun _ => (0, 0)) q.asked t
    s.setRequester f ({ q with tags := Tab.setNum q.tags t 2 }.push ⟨2, t, cnt, dst, []⟩)
  else s

/-- A tag leaves quarantine (R300). -/
def State.reqFree (s : State) (f : ReqFields) (t : Nat) : State :=
  let q := s.requester f
  if Tab.num q.tags t = 2 then s.setRequester f { q with tags := Tab.setNum q.tags t 0 } else s

/-- Reading the response register removes the oldest result and loads its data (R304, R327). -/
def State.reqRead (s : State) (f : ReqFields) : State :=
  let q := s.requester f
  match q.results with
  | [] => s
  | r :: rest =>
    let s := s.each (List.zip r.words (List.range r.words.length)) fun s e => s.setReg (f.rdata + 4 * e.2) e.1
    s.setRequester f { q with results := rest }

/-! ## Control packets (R298, R299) -/

/-- The fold tag of a control packet. -/
def ctlTag (h : List Byte) : Nat :=
  byteOf h 1 % 64 * 2 ^ 25 + byteOf h 1 / 64 % 2 * 2 ^ 24 + leAt h 4 2 % 4096 * 4096 + leAt h 2 2 % 4096

/-- The bytes of words. -/
def wordsBytes (ws : List Word) : List Byte := (ws.map fun w => leBytes 4 w.toNat).flatten

/-- A control packet's bytes with its CRC. -/
def ctlBytes (h : List Byte) (ws : List Word) : List Byte :=
  let b := h ++ wordsBytes ws
  b ++ leBytes 4 (crc32c (leBytes 4 (ctlTag h) ++ b)).toNat

/-- OP of a control packet. -/
def ctlOp (h : List Byte) : Nat := byteOf h 0 / 16

/-- The words that a control packet of its OP and STATUS carries. -/
def ctlWords (h : List Byte) : Nat :=
  if ctlOp h = 1 ∨ (ctlOp h = 8 ∧ byteOf h 0 % 16 = 0) then byteOf h 9 % 16 + 1 else 0

end Sys2Proof.Machine

namespace Sys2Proof

open Sys2Proof.Machine

/-- Whether a control packet keeps R298. -/
def CtlPkt.framed (c : CtlPkt) : Bool := c.hdr.length == 12 && c.words.length == ctlWords c.hdr

/-- Its bytes between its start and end symbols (R298). -/
def CtlPkt.wire (c : CtlPkt) : List Byte := c.hdr ++ wordsBytes c.words ++ leBytes 4 c.crc.toNat

/-- Whether its CRC holds. -/
def CtlPkt.crcOk (c : CtlPkt) : Bool :=
  crc32c (leBytes 4 (ctlTag c.hdr) ++ c.hdr ++ wordsBytes c.words) == c.crc

end Sys2Proof

namespace Sys2Proof.Machine

/-- Whether the device consumes a control packet (R299). -/
def State.ctlMine (s : State) (c : CtlPkt) : Bool :=
  s.on F.SPN_STAT_ADDR_VALID && leAt c.hdr 2 2 % 4096 == s.fld F.SPN_STAT_ADDR &&
    (decide (ctlOp c.hdr < 2) || byteOf c.hdr 1 / 64 % 2 == 0)

/-- The answer to a control request: DST and SRC exchanged, the same TAG and EXT, on the port it came on. [log 81] -/
def State.ctlAnswer (s : State) (p : Nat) (h : List Byte) (status : Nat) (ws : List Word) : State :=
  let hdr : List Byte := [BitVec.ofNat 8 (128 + ctlOp h * 16 + status), h.getD 1 0] ++ slice h 4 2 ++ slice h 2 2 ++
    slice h 6 4 ++ [0, 0]
  s.enqueue (38 + p) ⟨true, ctlBytes hdr ws, false⟩

/-- A register as a control RD returns it, RC fields left as they are (R299). -/
def State.peek (s : State) (a : Nat) : Word :=
  match regRow? a with
  | none => 0
  | some r => readFields r.fields (s.reg a)

/-- LNK_RD: SYS_ID and the link range. [log 109] -/
def State.lnkRead (s : State) (p : Nat) (h : List Byte) : State :=
  let a := leAt h 6 3
  let n := byteOf h 9 % 16 + 1
  if (a = 0 ∧ n = 1) ∨ (0x50000 ≤ a ∧ a + 4 * n ≤ 0x51000) then
    let as := (List.range n).map fun i => a / 4 * 4 + 4 * i
    -- R440: a read of an unmapped address returns 0 and raises its event
    let s := s.each (as.filter fun a => (regRow? a).isNone) fun s a => s.raise 5 a
    s.ctlAnswer p h 0 (as.map s.peek)
  else s.ctlAnswer p h 3 []

/-- LNK_WR: the mailbox. -/
def State.lnkWrite (s : State) (p : Nat) (h : List Byte) (ws : List Word) : State :=
  let a := leAt h 6 3
  let n := byteOf h 9 % 16 + 1
  if !(R.LNK_MBOXk 0 ≤ a ∧ a + 4 * n ≤ R.LNK_MBOXk 16) then s.ctlAnswer p h 3 []
  else if s.on F.LNK_MBOX_STAT_NEW then s.ctlAnswer p h 1 []
  else
    let s := s.each (List.zip ws (List.range n)) fun s e => s.setReg (a / 4 * 4 + 4 * e.2) e.1
    let s := ((s.setOn F.LNK_MBOX_STAT_NEW true).setFld F.LNK_MBOX_STAT_EXT (byteOf h 1 / 64)).setFld F.LNK_MBOX_STAT_SRC
      (leAt h 4 2)
    (s.raise 34 (s.reg R.LNK_MBOX_STAT).toNat).ctlAnswer p h 0 []

/-- Whether a transmit control queue holds no more than it can (R290). -/
def State.ctlFits (s : State) (p : Nat) : Bool := decide (s.queueFill (38 + p) ≤ 2048)

/-- The request that waits at the control requester goes out, if it can (R300); a full transmit queue stalls it (R290). -/
def State.cmNext (s : State) : State :=
  let (t, out) := s.reqNext cmFields fun r => decide (r.port < 3) && s.linkActive r.port
  match out with
  | none => t
  | some (r, tag) =>
    let hdr : List Byte := [BitVec.ofNat 8 (16 * r.op), BitVec.ofNat 8 tag] ++ leBytes 2 r.dst ++
      leBytes 2 (t.fld F.SPN_STAT_ADDR) ++ leBytes 3 r.addr ++ [BitVec.ofNat 8 r.cnt, 0, 0]
    let t := t.enqueue (38 + r.port) ⟨true, ctlBytes hdr (if r.op = 1 then r.words else []), false⟩
    if t.ctlFits r.port then t else s.setRequester cmFields s.lnk.cm

/-- CM_SEND: a write of 1 to SEND (R300). [log 81] -/
def State.cmSend (s : State) : State :=
  if s.lnk.cm.waiting.isSome then s
  else
    let n := s.fld F.LNK_CM_REQ0_CNT
    let r : AccessReq := ⟨s.fld F.LNK_CM_REQ0_OP, s.fld F.LNK_CM_REQ0_PORT, n, s.fld F.LNK_CM_REQ0_DST,
      s.fld F.LNK_CM_REQ1_ADDR, 0, (List.range (n + 1)).map fun k => s.reg (R.LNK_CM_WDATAk k)⟩
    ({ s with lnk := { s.lnk with cm := { s.lnk.cm with waiting := some r } } }).cmNext

/-- CM_SEND. -/
def execCmSend (s : State) : Host.Outcome State Fault Refusal := effect (·.cmSend) s

/-- CM_TIMEOUT. -/
def execCmTimeout (tag : Fin 64) (s : State) : Host.Outcome State Fault Refusal :=
  effect (fun s => (s.reqTimeout cmFields tag.val).cmNext) s

/-- CM_RSP_READ. -/
def execCmRspRead (s : State) : Host.Outcome State Fault Refusal := effect (fun s => (s.reqRead cmFields).cmNext) s

/-- A control response for this device. -/
def State.cmAnswer (s : State) (h : List Byte) (ws : List Word) : State :=
  (s.reqAnswer cmFields ⟨byteOf h 0 % 16, byteOf h 1 % 64, byteOf h 9 % 16, leAt h 4 2 % 4096, ws⟩).cmNext

/-- What the device does with a control packet for it (R299, R300). [log 81] -/
def State.ctlServe (s : State) (p : Nat) (c : CtlPkt) : State :=
  match ctlOp c.hdr with
  | 0 => s.lnkRead p c.hdr
  | 1 => s.lnkWrite p c.hdr c.words
  | 8 => s.cmAnswer c.hdr c.words
  | _ => s.cmAnswer c.hdr []

/-- The device takes the oldest control packet of a receive queue; one whose answer finds the transmit queue full waits
(R290), and so does all while the register bus stands (R363). -/
def State.ctlTake (s : State) (p : Nat) : State :=
  match Tab.lst s.lnk.rxCtl p with
  | [] => s
  | c :: rest =>
    let t := ({ s with lnk := { s.lnk with rxCtl := Tab.setLst s.lnk.rxCtl p rest } }.drains (45 + p)
      (18 + 4 * c.words.length)).ctlServe p c
    if t.ctlFits p ∧ s.hubRuns then t else s

/-- The device takes what waits in a control receive queue. -/
def State.ctlTakeAll (s : State) (p : Nat) : State := s.each (Tab.lst s.lnk.rxCtl p) fun s _ => s.ctlTake p

/-- A transmitter has taken a packet: what waited for room goes on. [log 80] -/
def State.ctlGoOn (s : State) (p : Nat) : State := (s.ctlTakeAll p).cmNext

/-- Bytes that a control receive queue holds. [log 79] -/
def State.ctlFill (s : State) (p : Nat) : Nat :=
  sumN ((Tab.lst s.lnk.rxCtl p).map fun c => 18 + 4 * c.words.length)

/-- A control packet on an ACTIVE port: checked, then consumed or forwarded (R285, R287, R299). One for the device needs
room for the longest in its receive queue (R291). [log 80] -/
def State.controlIn (s : State) (p : Nat) (c : CtlPkt) : State :=
  if c.startLane ≠ 0 then s.incSat (F.LNK_Px_PKT_LENERR p)
  else
    let good := c.ending == .good && c.framed && c.crcOk
    let mine := s.ctlMine c
    let part := s.upPart p c.age
    let s := if c.ending ≠ .good then s.badEnd p c.ending
      else if !c.framed then s.incSat (F.LNK_Px_PKT_LENERR p)
      else if !c.crcOk then s.incSat (F.LNK_Px_PKT_CRCERR p)
      else s
    if mine then
      if 2048 < s.ctlFill p + s.drainedSince (45 + p) c.age + 84 then s.rxDropped p (F.LNK_Px_DROP_CTLDROP p)
      else if good then
        { s with lnk := { s.lnk with rxCtl := Tab.setLst s.lnk.rxCtl p (Tab.lst s.lnk.rxCtl p ++ [c]) } }.ctlTakeAll p
      else s
    else s.forwardAll p c.age (s.forwardTo p part true true) true (good && part != .cut) c.wire

/-- A control packet of the type its command names: the lanes hear it, and it is handled. [log 80] -/
def State.control (s : State) (op p : Nat) (c : CtlPkt) : State :=
  if s.linkActive p ∧ ctlOp c.hdr = op then
    (s.hearPacket p (s.link p).width symScp c.wire c.ending).controlIn p c
  else s

/-- LNK_RD. -/
def execLnkRd (port : Fin 3) (pkt : CtlPkt) (s : State) : Host.Outcome State Fault Refusal :=
  effect (·.control 0 port.val pkt) s

/-- LNK_WR. -/
def execLnkWr (port : Fin 3) (pkt : CtlPkt) (s : State) : Host.Outcome State Fault Refusal :=
  effect (·.control 1 port.val pkt) s

/-- LNK_RDR. -/
def execLnkRdr (port : Fin 3) (pkt : CtlPkt) (s : State) : Host.Outcome State Fault Refusal :=
  effect (·.control 8 port.val pkt) s

/-- LNK_WRR. -/
def execLnkWrr (port : Fin 3) (pkt : CtlPkt) (s : State) : Host.Outcome State Fault Refusal :=
  effect (·.control 9 port.val pkt) s

/-- LNK_INVALID_CONTROL: a control packet with an undefined OP (R298) on an ACTIVE port. -/
def execLnkInvalidControl (port : Fin 3) (s : State) : Host.Outcome State Fault Refusal :=
  effect (fun s =>
    let s := s.lanesDeaf port.val
    if s.linkActive port.val then s.incSat (F.LNK_Px_PKT_LENERR port.val) else s) s

end Sys2Proof.Machine
end

