-- ==== Sys2Proof/Machine/Genlock.lean ====
section
/-! DEFINITION. The frame reference (R166 to R168). -/

namespace Sys2Proof.Machine

/-- Whether a reference is selected (R166). -/
def State.refSelected (s : State) : Bool :=
  s.tim.running && (s.fld F.TIM_GCTRL_SRC == 1 || (s.fld F.TIM_GCTRL_SRC == 2 && !s.manager))

/-- A period in REF cycles against T_exp of the set in force: within ±2 % (R167). -/
def State.inRange (s : State) (p : Nat) : Bool :=
  let t := s.tset
  let e := 25000000 * t.frDen
  decide (98 * e ≤ 100 * p * t.frNum) && decide (100 * p * t.frNum ≤ 102 * e)

/-- T_exp of the set in force, in 2^-24 ns. -/
def State.expected (s : State) : Nat := 1000000000 * 2 ^ 24 * s.tset.frDen / s.tset.frNum

/-- The reference period that the frame starts follow: the last one that was in range. [log 63] -/
def State.refUnits (s : State) : Nat := if s.tim.refLen = 0 then s.expected else s.tim.refLen * 40 * 2 ^ 24

/-- How far the frame starts lie behind the reference instant plus GDLY × 40 ns, along the shorter direction (R166, R169). [log 63, 147] -/
def State.phaseError (s : State) : Int :=
  let t : Int := s.refUnits
  let d := ((s.tim.frameAt : Int) - ((s.tim.lastRef + 40 * s.fld F.TIM_GDLY_DLY : Nat) : Int) * 2 ^ 24) % t
  if 2 * d ≤ t then d else d - t

/-- A phase error of one GCLK period or more, which the slew goes on closing (R169): GCLK is M × F. -/
def State.phaseOpen (s : State) : Bool :=
  let m : Nat := s.tset.ratio s.nlines
  decide ((s.expected : Int) ≤ s.tim.phase.natAbs * m)

/-- By how much the slew changes the frame that begins (R169): at most SLEW × 0.1 % of T_exp, and the frame lasts at least
0.98 × T_exp. [log 63] -/
def State.slewStep (s : State) : Int :=
  let lim : Int := (Nat.min 20 (Nat.max 1 (s.fld F.TIM_GCTRL_SLEW)) * s.expected / 1000 : Nat)
  let floor : Int := (98 * s.expected / 100 : Nat)
  let step := clampI (-lim) lim (-s.tim.phase)
  if s.refUnits + step < floor then floor - s.refUnits else step

/-- LOCKED is entered (R167, R169): the phase error is what the slew has to close. -/
def State.refLocks (s : State) : State :=
  let s := { s with tim := { s.tim with phase := s.phaseError } }
  ((s.setFld F.TIM_GSTAT_STATE 1).setOn F.TIM_GSTAT_SLEWING s.phaseOpen).raise 100 0

/-- A reference period has ended (R167, R168). [log 91] -/
def State.refPeriod (s : State) (p : Nat) (ok : Bool) : State :=
  let good := if ok then s.tim.good + 1 else 0
  let poor := if ok then 0 else s.tim.poor + 1
  let s := { s with tim := { s.tim with good := good, poor := poor } }
  let l := (p :: s.tim.periods).take 16
  let s : State :=
    if ok then State.setFld { s with tim := { s.tim with periods := l, refLen := p } } F.TIM_GPER_PERIOD (16 * sumN l / l.length)
    else s.incSat F.TIM_GSTAT_BAD
  if s.fld F.TIM_GSTAT_STATE = 1 then
    if 3 ≤ poor then
      (((s.setFld F.TIM_GSTAT_STATE 2).setOn F.TIM_GSTAT_LOST true).setOn F.TIM_GSTAT_SLEWING false).raise 101 0
    else s
  else if 8 ≤ good then s.refLocks
  else s

/-- ACQUIRE is entered (R167, R168): its moment starts the first period; the periods are cleared where F has changed. -/
def State.acquire (s : State) (clear : Bool) : State :=
  let s := { s with tim := { s.tim with
    good := 0, poor := 0, lastRef := s.now, periods := if clear then [] else s.tim.periods,
    refLen := if clear then 0 else s.tim.refLen, phase := 0 } }
  let s := (s.setFld F.TIM_GSTAT_STATE 0).setOn F.TIM_GSTAT_SLEWING false
  if clear then s.setFld F.TIM_GPER_PERIOD 0 else s

/-- GENLOCK_EDGE: an edge of the pin, `p` REF cycles after the previous instant. -/
def State.genlockEdge (s : State) (rising : Bool) (p : Nat) : State :=
  let s := if rising = !s.on F.TIM_GCTRL_POL then { s with tim := { s.tim with lastEdge := some s.lnk.cycle } } else s
  if s.refSelected ∧ s.fld F.TIM_GCTRL_SRC = 1 ∧ rising = !s.on F.TIM_GCTRL_POL then
    ({ s with tim := { s.tim with lastRef := s.now } }).refPeriod p (s.inRange p)
  else s

/-- GENLOCK_EDGE. -/
def execGenlockEdge (rising : Bool) (refCycles : Nat) (s : State) : Host.Outcome State Fault Refusal :=
  effect (·.genlockEdge rising refCycles) s

/-- GENLOCK_VIRTUAL_INSTANT: no instant within 1.02 T_exp of the previous one. [log 91] -/
def State.virtualInstant (s : State) : State :=
  if s.refSelected then
    let t := s.tset
    ({ s with tim := { s.tim with lastRef := s.tim.lastRef + 1020000000 * t.frDen / t.frNum } }).refPeriod 0 false
  else s

/-- GENLOCK_VIRTUAL_INSTANT. -/
def execGenlockVirtualInstant (s : State) : Host.Outcome State Fault Refusal := effect (·.virtualInstant) s

/-- The instant that a frame-sync message carries, in ns (R166, R318). [log 91] -/
def State.refMessage (s : State) (t : Nat) : State :=
  if s.refSelected ∧ s.fld F.TIM_GCTRL_SRC = 2 then
    let p := (t - s.tim.lastRef) / 40
    ({ s with tim := { s.tim with lastRef := t } }).refPeriod p (s.inRange p)
  else s

end Sys2Proof.Machine
end

