-- ==== Sys2Proof/Machine/Spine.lean ====
section
/-! DEFINITION. The Spine: general frames, routing, time, walk, multicast, fault reports (R308 to R328). Ports here are
those of R326: 0 SUP, 1 to 4 SDN0 to SDN3. -/

namespace Sys2Proof.Machine

/-! ## Frames (R309, R310) -/

end Sys2Proof.Machine

namespace Sys2Proof

open Sys2Proof.Machine

/-- TYPE. -/
def SpnFrame.type (f : SpnFrame) : Nat := byteOf f.hdr 0 / 16
/-- STATUS. -/
def SpnFrame.status (f : SpnFrame) : Nat := byteOf f.hdr 0 % 16
/-- TAG. -/
def SpnFrame.tag (f : SpnFrame) : Nat := byteOf f.hdr 1 % 64
/-- DST. -/
def SpnFrame.dst (f : SpnFrame) : Nat := leAt f.hdr 2 2 % 4096
/-- MODE. -/
def SpnFrame.mode (f : SpnFrame) : Nat := leAt f.hdr 2 2 / 4096 % 4
/-- SRC. -/
def SpnFrame.src (f : SpnFrame) : Nat := leAt f.hdr 4 2 % 4096
/-- ADDR. -/
def SpnFrame.addr (f : SpnFrame) : Nat := leAt f.hdr 6 3
/-- CNT. -/
def SpnFrame.cnt (f : SpnFrame) : Nat := byteOf f.hdr 9 % 64
/-- SESSION. -/
def SpnFrame.session (f : SpnFrame) : Nat := leAt f.hdr 10 2
/-- AUX. -/
def SpnFrame.aux (f : SpnFrame) : Nat := leAt f.hdr 12 4
/-- A data word as a number. -/
def SpnFrame.word (f : SpnFrame) (i : Nat) : Nat := (f.words.getD i 0).toNat

end Sys2Proof

namespace Sys2Proof.Machine

/-- The CRC of a frame: fold tag TAG << 24 | SRC << 12 | DST first. -/
def spnCrc (h : List Byte) (ws : List Word) : Word :=
  let t := byteOf h 1 % 64 * 2 ^ 24 + leAt h 4 2 % 4096 * 4096 + leAt h 2 2 % 4096
  crc32c (leBytes 4 t ++ h ++ wordsBytes ws)

/-- A frame. -/
def spnMake (type status tag mode dst src addr session aux : Nat) (ws : List Word) : SpnFrame :=
  let h : List Byte := [BitVec.ofNat 8 (16 * type + status), BitVec.ofNat 8 tag] ++ leBytes 2 (mode * 4096 + dst) ++
    leBytes 2 src ++ leBytes 3 addr ++ [BitVec.ofNat 8 (ws.length - 1)] ++ leBytes 2 session ++ leBytes 4 aux
  ⟨h, ws, spnCrc h ws⟩

end Sys2Proof.Machine

namespace Sys2Proof

open Sys2Proof.Machine

/-- Whether a frame's word count fits its type (R310). -/
def SpnFrame.framed (f : SpnFrame) : Bool :=
  let n := f.words.length
  f.hdr.length == 16 &&
  (match f.type with
   | 0 | 6 | 7 | 9 => n == 0
   | 1 => n == f.cnt + 1
   | 2 => decide (1 ≤ n) && decide (n ≤ 64)
   | 3 => n == 1
   | 4 | 10 => n == 3
   | 5 | 11 => n == 4
   | 8 => n == (if f.status = 0 then f.cnt + 1 else 0)
   | _ => false)

/-- Whether a frame's CRC holds. -/
def SpnFrame.crcOk (f : SpnFrame) : Bool := spnCrc f.hdr f.words == f.crc

/-- The class of a frame (R312). -/
def SpnFrame.cls (f : SpnFrame) : Nat :=
  if f.type = 2 then 2 else if 4 ≤ f.type ∧ f.type ≤ 7 then 0 else 1

end Sys2Proof

namespace Sys2Proof.Machine

/-- The device's address as frames carry it. -/
def State.spnAddr (s : State) : Nat := s.fld F.SPN_STAT_ADDR

/-! ## Transmit (R308, R312) -/

/-- A frame's bytes from its header to its CRC (R309). -/
def spnBytes (f : SpnFrame) : List Byte := f.hdr ++ wordsBytes f.words ++ leBytes 4 f.crc.toNat

/-- Bytes that wait in a class buffer of a transmitter. -/
def State.spnFill (s : State) (p c : Nat) : Nat :=
  sumN ((Tab.lst s.spn.queues (4 * p + c)).map fun e => 22 + 4 * e.2.words.length)

/-- The size of a class buffer. -/
def classRoom (c : Nat) : Nat := if c = 0 then 1024 else 4096

/-- Whether a class buffer admits one more frame. -/
def State.spnRoom (s : State) (p c : Nat) : Bool := decide (s.spnFill p c + 278 ≤ classRoom c)

/-- A frame enters a class buffer. -/
def State.spnPut (s : State) (p idx : Nat) (f : SpnFrame) : State :=
  let k := 4 * p + f.cls
  { s with spn := { s.spn with queues := Tab.setLst s.spn.queues k (Tab.lst s.spn.queues k ++ [(idx, f)]) } }

/-- Whether a class buffer has room for a frame. -/
def State.spnFits (s : State) (p : Nat) (f : SpnFrame) : Bool :=
  decide (s.spnFill p f.cls + 22 + 4 * f.words.length ≤ classRoom f.cls)

/-- The local frames that wait for a class buffer enter it as far as they fit (R312). [log 88] -/
def State.spnUnstall (s : State) (p c : Nat) : State :=
  let k := 4 * p + c
  s.each (Tab.lst s.spn.stalled k) fun s _ =>
    match Tab.lst s.spn.stalled k with
    | [] => s
    | f :: rest =>
      if s.spnFits p f then { s with spn := { s.spn with stalled := Tab.setLst s.spn.stalled k rest } }.spnPut p 0 f else s

/-- A frame for a transmitter's class buffer (R312, R324): a local one (index 0) stalls its writer for lack of room, a
forwarded one is dropped. [log 88] -/
def State.spnSend (s : State) (p idx : Nat) (f : SpnFrame) : State :=
  if idx = 0 then
    let k := 4 * p + f.cls
    { s with spn := { s.spn with stalled := Tab.setLst s.spn.stalled k (Tab.lst s.spn.stalled k ++ [f]) } }.spnUnstall p f.cls
  else if s.spnRoom p f.cls then s.spnPut p idx f
  else
    let s := s.incSat (F.SPN_Pp_DROP_DROP p)
    let s := if f.type = 11 then { s with flt := { s.flt with unsent := s.flt.unsent + 1 } } else s
    let quiet := match s.spn.dropAt with
      | some t => decide (s.lnk.cycle < t + 25000)
      | none => false
    if quiet then s else ({ s with spn := { s.spn with dropAt := some s.lnk.cycle } }).raise 47 p

/-- A frame goes to every ACTIVE SDN port. -/
def State.spnCopy (s : State) (idx : Nat) (f : SpnFrame) : State := s.each s.sdnActive fun s p => s.spnSend p idx f

/-- A Spine transmitter's boundary: a Clasp frame goes first (R308), then the general frames by class (R312); it sends
nothing while its clock or that of the buffers stands (R363). -/
def State.spineSelect (s : State) (p : Nat) : State :=
  if !s.spnActive p ∨ !s.clocked 2 ∨ !s.hubRuns then s
  else
    let ptrs (base : Nat) : Tab Nat := (List.range 3).map fun c => (c, Tab.num s.spn.ptr (4 * p + base + c))
    let mine := s.clasp.sent.filter fun e => e.1 == p
    match arbitrate 0 (ptrs 3) [mine.map fun e => e.2.1] with
    | some (_, i) =>
      match mine.find? fun e => e.2.1 == i with
      | none => s
      | some e =>
        { s with
          clasp := { s.clasp with sent := s.clasp.sent.erase e },
          spn := { s.spn with txClasp := Tab.setLst s.spn.txClasp p e.2.2, ptr := Tab.setNum s.spn.ptr (4 * p + 3) (i + 1) }
        }.sendSyms (3 + p) 1 (packetSyms symClp e.2.2 false)
    | none =>
      let q (c : Nat) : List (Nat × SpnFrame) := Tab.lst s.spn.queues (4 * p + c)
      match arbitrate 0 (ptrs 0) ((List.range 3).map fun c => (q c).map (·.1)) with
      | none => { s with spn := { s.spn with tx := Tab.setOpt s.spn.tx p none } }
      | some (c, i) =>
        match (q c).find? fun e => e.1 == i with
        | none => s
        | some e =>
          let s := { s with spn := { s.spn with
            tx := Tab.setOpt s.spn.tx p (some e.2), queues := Tab.setLst s.spn.queues (4 * p + c) ((q c).erase e),
            ptr := Tab.setNum s.spn.ptr (4 * p + c) (i + 1) } }
          (s.sendSyms (3 + p) 1 (packetSyms symScp (spnBytes e.2) false)).spnUnstall p c

/-- PACKET_SELECT. -/
def execPacketSelect (port : Fin 8) (s : State) : Host.Outcome State Fault Refusal :=
  effect (fun s => if port.val < 3 then (s.weandiSelect port.val).ctlGoOn port.val else s.spineSelect (port.val - 3)) s

/-! ## Routing (R311) -/

/-- Where a unicast frame goes: this device, a port, or nowhere. -/
inductive Route where
  | here | port (p : Nat) | nowhere
deriving DecidableEq, Repr

/-- The route of an address. [log 82] -/
def State.spnWay (s : State) (dst : Nat) : Route :=
  if s.on F.SPN_STAT_ADDR_VALID ∧ dst = s.spnAddr then .here
  else
    let hit (p : Nat) : Bool := s.on (F.SPN_Pp_STAT_RVALID p) && decide (s.fld (F.SPN_Pp_RANGE_LO p) ≤ dst) &&
      decide (dst ≤ s.fld (F.SPN_Pp_RANGE_HI p))
    match [1, 2, 3, 4].find? hit with
    | some p => if s.spnActive p then .port p else .nowhere
    | none => if !s.manager ∧ s.spnActive 0 then .port 0 else .nowhere

/-- A frame for one device goes on towards it; without a route it is discarded and an RD or WR answered with STATUS 4. [log 82] -/
def State.spnUnicast (s : State) (idx : Nat) (f : SpnFrame) : State × Bool :=
  match s.spnWay f.dst with
  | .here => (s, true)
  | .port p => (s.spnSend p idx f, false)
  | .nowhere =>
    let s := s.incSat F.SPN_ERR_NOROUTE
    if f.type < 2 then
      let a := spnMake (8 + f.type) 4 f.tag 0 f.src f.dst f.addr 0 0 []
      match s.spnWay f.src with
      | .port p => (s.spnSend p 0 a, false)
      | _ => (s, false)
    else (s, false)

/-- Routes a frame; the answer says whether the device consumes it. `idx` is its source of R312: 0 this device, 1 SUP,
2 to 5 SDN0 to SDN3. -/
def State.spnRoute (s : State) (idx : Nat) (f : SpnFrame) : State × Bool :=
  match f.mode with
  | 0 => s.spnUnicast idx f
  | 3 => if s.manager then (s, true) else (s.spnSend 0 idx f, false)
  | m =>
    if 2 ≤ idx then (s.incSat F.SPN_ERR_FRMERR, false)
    else (s.spnCopy idx f, m == 1 || s.fld F.SPN_GRP_GROUPS / 2 ^ (f.dst % 16) % 2 == 1)

/-- A frame of the type its command names arrives on an ACTIVE port: heard (R272), checked (R310), then handled. [log 88] -/
def State.spnArrive (s : State) (type p : Nat) (f : SpnFrame) (g : State → State) : State :=
  if !s.spnActive p ∨ f.type ≠ type then s
  else
    let s := s.hearPacket (3 + p) 1 symScp (spnBytes f) .good
    if !f.framed then s.incSat F.SPN_ERR_FRMERR
    else if !f.crcOk then s.incSat (F.SPN_Pp_ERR_CRCERR p)
    else g s

/-- SPN_INVALID_FRAME (R310) on an ACTIVE port. -/
def execSpnInvalidFrame (port : Fin 5) (crcFailed : Bool) (s : State) : Host.Outcome State Fault Refusal :=
  effect (fun s => if !s.spnActive port.val then s
    else (s.lanesDeaf (3 + port.val)).incSat (if crcFailed then F.SPN_Pp_ERR_CRCERR port.val else F.SPN_ERR_FRMERR)) s

/-! ## Clasp frames (R308, R350) -/

/-- A Clasp frame of the type its command names; one of another type is not that command. One that ends in ABT or a code
error is discarded and counted (R308). Ports that are not ACTIVE receive nothing. [log 128] -/
def State.claspTyped (s : State) (type port : Nat) (bytes : List Byte) (ending : PktEnd) : State :=
  if byteOf bytes 0 / 16 ≠ type ∨ !s.spnActive port then s
  else
    let s := s.hearPacket (3 + port) 1 symClp bytes ending
    match ending with
    | .good => s.claspArrive port bytes
    | .abort => s.incSat F.SPN_ERR_CLPERR
    | .codeError rx => (s.codeError (3 + port) rx).incSat F.SPN_ERR_CLPERR

/-- HB. -/
def execHb (port : Fin 5) (bytes : List Byte) (ending : PktEnd) (s : State) : Host.Outcome State Fault Refusal :=
  effect (·.claspTyped 1 port.val bytes ending) s

/-- CMD. -/
def execCmd (port : Fin 5) (bytes : List Byte) (ending : PktEnd) (s : State) : Host.Outcome State Fault Refusal :=
  effect (·.claspTyped 2 port.val bytes ending) s

/-- REQ. -/
def execReq (port : Fin 5) (bytes : List Byte) (ending : PktEnd) (s : State) : Host.Outcome State Fault Refusal :=
  effect (·.claspTyped 3 port.val bytes ending) s

/-- RST. -/
def execRst (port : Fin 5) (bytes : List Byte) (ending : PktEnd) (s : State) : Host.Outcome State Fault Refusal :=
  effect (·.claspTyped 4 port.val bytes ending) s

/-! ## System time (R315 to R317) -/

/-- The count is 64 bits of ns with 24 fraction bits. -/
def clockWrap (v : Int) : Nat := (v % 2 ^ 88).toNat

/-- One REF cycle of the count: 40 ns at the corrected rate. [log 7] -/
def State.timeTick (s : State) : State :=
  let d : Int := (40 * 2 ^ 24 * (1000000 + s.spn.rate)) / 1000000
  { s with spn := { s.spn with clock := clockWrap (s.spn.clock + d) } }

/-- The 64 bits of the count. -/
def State.time64 (s : State) : Nat := s.now % 2 ^ 64

/-- TSET_WRITE (R315): on the manager the count is loaded. -/
def State.tsetWrite (s : State) (hi : Word) : State :=
  let s := s.setReg R.SPN_TSET_HI hi
  if s.manager then
    { s with spn := { s.spn with clock := (hi.toNat * 2 ^ 32 + (s.reg R.SPN_TSET_LO).toNat) * 2 ^ 24 } }
  else s

/-- TSET_WRITE. -/
def execTsetWrite (hi : Word) (s : State) : Host.Outcome State Fault Refusal := effect (·.tsetWrite hi) s

/-- A read of SPN_TIME_LO latches SPN_TIME_HI for its requester (R315, R439). -/
def State.timeLoRead (s : State) (r : Nat) : State :=
  { s with host := { s.host with timeHi := Tab.setWord s.host.timeHi r (BitVec.ofNat 32 (s.time64 / 2 ^ 32)) } }

/-- TIME_LO_READ. -/
def execTimeLoRead (requester : Fin 3) (s : State) : Host.Outcome State Fault Refusal :=
  effect (·.timeLoRead requester.val) s

/-- TIME_HOLD_TIMEOUT. -/
def execTimeHoldTimeout (s : State) : Host.Outcome State Fault Refusal := effect (·.timeHold) s

/-- The words of a 64-bit time. -/
def timeWords (t : Nat) : List Word := [BitVec.ofNat 32 t, BitVec.ofNat 32 (t / 2 ^ 32)]

/-- The parent sends TIME after a header whose SEQ is a multiple of 64 (R316). -/
def State.timeSend (s : State) (p seq t1 : Nat) : State :=
  let age := Tab.num s.spn.t4Age p
  let t4 := if age < 2 then Tab.opt s.spn.t4 p else none
  let s := { s with spn := { s.spn with t4Age := Tab.setNum s.spn.t4Age p (age + 1) } }
  let aux := match t4 with
    | some (q, _) => seq + 256 * q + 65536
    | none => seq
  let w4 := match t4 with
    | some (_, t) => timeWords t
    | none => [0, 0]
  s.spnSend p 0 (spnMake 5 0 0 0 0 s.spnAddr 0 0 aux (timeWords t1 ++ w4))

/-- A timestamp of the device's own count (R315, R316): `ns` places the instant within the present cycle of REF. [log 83] -/
def State.stamp (s : State) (ns : Nat) : Nat := (s.time64 + ns % 40) % 2 ^ 64

/-- BLOCK_HEADER_SEND: a block header and the timestamp that goes with it (R274, R316); in TRAIN and LOCK the port sends
training sets in its place, and nothing while its clock stands (R363). [log 140] -/
def State.headerSend (s : State) (p timeNs : Nat) : State :=
  let st := s.linkState p
  if st = 0 ∨ !s.clocked 2 then s
  else if st < 3 then s.trainOut p
  else
    let seq := (s.link p).seq
    let t := s.stamp timeNs
    let s := s.headerOut p
    if weandi p ∨ seq % 64 ≠ 0 then s
    else if p = 3 then { s with spn := { s.spn with t3 := Tab.setNum s.spn.t3 seq (t + 1) } }
    else s.timeSend (p - 3) seq t

/-- BLOCK_HEADER_SEND. -/
def execBlockHeaderSend (port : Fin 8) (timeNs : Nat) (s : State) : Host.Outcome State Fault Refusal :=
  effect (·.headerSend port.val timeNs) s

/-- BLOCK_HEADER_RECEIVE (R277, R278, R294, R316). -/
def State.headerReceive (s : State) (p n : Nat) (h : HeaderRx) : State :=
  let on := decide (3 ≤ s.linkState p) && h.valid && !weandi p && symAt h.syms 2 % 64 == 0
  let seq := symAt h.syms 2
  let t := s.stamp h.timeNs
  let s := s.headerIn p n h
  if !on then s
  else if p = 3 then { s with spn := { s.spn with t2 := Tab.setNum s.spn.t2 seq (t + 1) } }
  else { s with spn := { s.spn with
    t4 := Tab.setOpt s.spn.t4 (p - 3) (some (seq, t)), t4Age := Tab.setNum s.spn.t4Age (p - 3) 0 } }

/-- BLOCK_HEADER_RECEIVE. -/
def execBlockHeaderReceive (port : Fin 8) (lane : Fin 4) (hdr : HeaderRx) (s : State) : Host.Outcome State Fault Refusal :=
  effect (·.headerReceive port.val lane.val hdr) s

/-- Half of a number of ns; the manual does not say which way an odd one goes. [log 84] -/
def halfNs (v : Int) (up : Bool) : Int := if v % 2 = 0 then v / 2 else v / 2 + (if up then 1 else 0)

/-- A valid exchange at a worker (R317): `x` is twice d, `y` twice o. [log 84] -/
def State.timeExchange (s : State) (x y : Int) : State :=
  let w := s.freeWord.toNat
  let s := s.usedFree
  let d := halfNs x (w % 2 == 1)
  let o := halfNs y (w / 2 % 2 == 1)
  let s := s.setFld F.SPN_DELAY_D (if 0 ≤ d ∧ d < 65536 then d.toNat else w / 4 % 65536)
  let s := s.setFld F.SPN_TSTAT_OFS (unsigned 16 (clampI (-32768) 32767 o))
  let st := s.fld F.SPN_TSTAT_STATE
  if st = 3 then
    ({ s with spn := { s.spn with within := 0, beyond := 0 } }).setFld F.SPN_TSTAT_STATE 1
  else if 2000 < y ∨ y < -2000 then
    let s := { s with spn := { s.spn with clock := clockWrap (s.spn.clock - y * 2 ^ 23), within := 0, beyond := 0 } }
    (((s.setOn F.SPN_TSTAT_STEP true).setFld F.SPN_TSTAT_STATE 1).raise 53 (unsigned 32 o))
  else
    let near := decide (-8 ≤ y) && decide (y ≤ 8)
    let far := decide (y < -16) || decide (16 < y)
    let within := if near then s.spn.within + 1 else 0
    let beyond := if far then s.spn.beyond + 1 else 0
    let rate : Int := ((w / 2 ^ 18 % 1001 : Nat) : Int) - 500
    let s := { s with spn := { s.spn with rate := rate, within := within, beyond := beyond } }
    if st = 1 ∧ 16 ≤ within then ({ s with spn := { s.spn with beyond := 0 } }).setFld F.SPN_TSTAT_STATE 2
    else if st = 2 ∧ 4 ≤ beyond then ({ s with spn := { s.spn with within := 0 } }).setFld F.SPN_TSTAT_STATE 1
    else s

/-- TIME at the child (R316). [log 83] -/
def State.timeIn (s : State) (f : SpnFrame) : State :=
  let t2 := Tab.num s.spn.t2 (f.aux % 256)
  let t3 := Tab.num s.spn.t3 (f.aux / 256 % 256)
  if f.aux / 65536 % 2 = 0 ∨ t2 = 0 ∨ t3 = 0 then s
  else
    let a : Int := (t2 - 1 : Nat) - ((f.word 0 + 2 ^ 32 * f.word 1 : Nat) : Int)
    let b : Int := ((f.word 2 + 2 ^ 32 * f.word 3 : Nat) : Int) - (t3 - 1 : Nat)
    s.timeExchange (a + b) (a - b)

/-- TIME. -/
def execTime (port : Fin 5) (frame : SpnFrame) (s : State) : Host.Outcome State Fault Refusal :=
  effect (fun s => s.spnArrive 5 port.val frame fun s =>
    if port.val = 0 ∧ !s.manager then s.timeIn frame else s) s

/-! ## Frame sync (R318) -/

/-- An FSYNC that the device consumes. [log 83] -/
def State.fsyncTake (s : State) (f : SpnFrame) : State :=
  let t := f.word 0 + 2 ^ 32 * f.word 1
  if t ≤ s.time64 then (s.incSat F.SPN_FS_FSLATE).raise 55 (f.word 2)
  else (s.setFld F.SPN_FCNT_COUNT (f.word 2)).refMessage t

/-- FSYNC. -/
def execFsync (port : Fin 5) (frame : SpnFrame) (s : State) : Host.Outcome State Fault Refusal :=
  effect (fun s => s.spnArrive 4 port.val frame fun s =>
    let (s, mine) := s.spnRoute (port.val + 1) frame
    if mine then s.fsyncTake frame else s) s

/-- The manager broadcasts the time of the next frame start. -/
def State.fsyncSend (s : State) (t count : Nat) : State :=
  if s.manager then
    let f := spnMake 4 0 0 1 0 0 0 0 0 (timeWords t ++ [BitVec.ofNat 32 count])
    (s.spnCopy 0 f).fsyncTake f
  else s

/-! ## Topology walk (R313, R314) -/

/-- The address from the last walk is compared with the ROLE section's (R313). -/
def State.addrCheck (s : State) : State :=
  let v := leAt (Secs.get s.conf.secs 10 0) 2 2
  if v / 32768 = 1 ∧ s.spn.walked ∧ v % 4096 ≠ s.spnAddr then
    (s.setOn F.SPN_STAT_ADDRMIS true).raise 49 s.spnAddr
  else s

/-- A walk ends in this device: DONE on SUP, or the manager's result. -/
def State.walkEnd (s : State) (w : Walk) : State :=
  let s := ({ s with spn := { s.spn with walk := none } }).setOn F.SPN_WALK_BUSY false
  let s := if s.manager then
      let s := (s.setFld F.SPN_WALK_COUNT w.next).setFld F.SPN_WALK_UNADDR w.unaddr
      let s := if w.unaddr = 0 then s else
        let s := s.setOn F.SPN_WALK_OVER true
        s.raise 50 (s.reg R.SPN_WALK).toNat
      s.raise 51 (s.reg R.SPN_WALK).toNat
    else s.spnSend 0 0 (spnMake 7 0 0 0 0 s.spnAddr w.next 0 w.unaddr [])
  s.addrCheck

/-- The walk goes on at SDN port `k` or the next one that is ACTIVE. [log 85] -/
def State.walkOn (s : State) (w : Walk) (k : Nat) : State :=
  match [0, 1, 2, 3].find? fun i => decide (k ≤ i) && s.spnActive (i + 1) with
  | some i =>
    let s := { s with spn := { s.spn with walk := some { w with sdn := i } } }
    s.spnSend (i + 1) 0 (spnMake 6 0 0 0 0 s.spnAddr w.next 0 ((w.depth + 1) % 8 + 8 * b2n w.past) [])
  | none => s.walkEnd w

/-- A WALK is handled. [log 85] -/
def State.walkIn (s : State) (next depth : Nat) (past : Bool) : State :=
  let out := past || decide (6 < depth) || decide (4095 < next)
  let s := ((s.setOn F.SPN_STAT_ADDR_VALID (!out)).setFld F.SPN_STAT_ADDR (if out then 0xFFF else next)).setFld
    F.SPN_STAT_DEPTH depth
  let s := ({ s with spn := { s.spn with walked := true } }).setOn F.SPN_WALK_BUSY true
  let s := s.each [1, 2, 3, 4] fun s p => if s.spnActive p then s else s.setOn (F.SPN_Pp_STAT_RVALID p) false
  s.walkOn ⟨if out then next else next + 1, depth, out, b2n out, 0⟩ 0

/-- WALK. -/
def execWalk (port : Fin 5) (frame : SpnFrame) (s : State) : Host.Outcome State Fault Refusal :=
  effect (fun s => s.spnArrive 6 port.val frame fun s =>
    if port.val = 0 ∧ !s.manager then
      s.walkIn (frame.addr % 8192) (frame.aux % 8) (frame.aux / 8 % 2 == 1)
    else s) s

/-- The DONE that the walk awaits, or its timeout. -/
def State.doneIn (s : State) (k : Nat) (result : Option (Nat × Nat)) : State :=
  match s.spn.walk with
  | none => s
  | some w =>
    if w.sdn ≠ k then s
    else
      let n := match result with
        | some r => r.1
        | none => w.next
      let u := match result with
        | some r => r.2
        | none => 0
      let s := if result.isNone then s.setOn F.SPN_WALK_TMO true else s
      let p := k + 1
      let s := if w.next < n then
          ((s.setOn (F.SPN_Pp_STAT_RVALID p) true).setFld (F.SPN_Pp_RANGE_LO p) w.next).setFld (F.SPN_Pp_RANGE_HI p) (n - 1)
        else s.setOn (F.SPN_Pp_STAT_RVALID p) false
      s.walkOn { w with next := n, unaddr := w.unaddr + u } (k + 1)

/-- DONE. -/
def execDone (port : Fin 5) (frame : SpnFrame) (s : State) : Host.Outcome State Fault Refusal :=
  effect (fun s => s.spnArrive 7 port.val frame fun s =>
    if port.val = 0 then s else s.doneIn (port.val - 1) (some (frame.addr % 8192, frame.aux % 8192))) s

/-- DONE_TIMEOUT. -/
def execDoneTimeout (sdn : Fin 4) (s : State) : Host.Outcome State Fault Refusal := effect (·.doneIn sdn.val none) s

/-- WALK_START: manager only, not while a walk runs. -/
def State.walkStart (s : State) : State :=
  if s.manager ∧ !s.on F.SPN_WALK_BUSY then s.walkIn 0 0 false else s

/-- WALK_START. -/
def execWalkStart (s : State) : Host.Outcome State Fault Refusal := effect (·.walkStart) s

/-- AUTOWALK_TIMER: 20 ms after the first SDN port entered ACTIVE. [log 85] -/
def State.autoWalk (s : State) : State :=
  if s.manager ∧ s.on F.SPN_CTRL_AUTOWALK ∧ s.spn.sdnSeen ∧ !s.spn.autoDone then
    ({ s with spn := { s.spn with autoDone := true } }).walkStart
  else s

/-- AUTOWALK_TIMER. -/
def execAutowalkTimer (s : State) : Host.Outcome State Fault Refusal := effect (·.autoWalk) s

/-- The ROLE section at APPLY (R313). -/
def State.roleApply (s : State) : State :=
  let b := Secs.get s.conf.secs 10 0
  let s := ((s.setOn F.SPN_CTRL_AUTOWALK (byteOf b 0 / 2 % 2 == 1)).setFld F.SPN_CTRL_SDN_EN (byteOf b 1 % 16)).setFld
    F.SPN_CTRL_MAXRATE (byteOf b 1 / 16 % 2)
  let s := (s.setFld F.SPN_GRP_GROUPS (leAt b 4 2)).setFld F.SPN_RA_CTRL_RTT (leAt b 6 2)
  let s := if (byteOf b 0 % 2 == 1) != s.manager then (s.setOn F.SPN_STAT_ROLEMIS true).raise 48 0 else s
  s.linkCheckAll.addrCheck

/-! ## Remote access requester (R320) -/

/-- The request that waits at the remote access requester goes out, if it can; one to the device itself is kept for its
own register access. -/
def State.raNext (s : State) : State :=
  let (s, out) := s.reqNext raFields fun r => s.spnWay r.dst != .nowhere
  match out with
  | none => s
  | some (r, t) =>
    let f := spnMake r.op 0 t 0 r.dst s.spnAddr r.addr 0 r.page (if r.op = 1 then r.words else [])
    -- a read names its word count in CNT
    let h := f.hdr.set 9 (BitVec.ofNat 8 r.cnt)
    let f : SpnFrame := ⟨h, f.words, spnCrc h f.words⟩
    match s.spnWay r.dst with
    | .here => { s with spn := { s.spn with self := s.spn.self ++ [f] } }
    | .port p => s.spnSend p 0 f
    | .nowhere => s

/-- RA_SEND: a write of 1 to SEND. -/
def State.raSend (s : State) : State :=
  if s.spn.ra.waiting.isSome then s
  else
    let n := s.fld F.SPN_RA_REQ0_CNT
    let r : AccessReq := ⟨s.fld F.SPN_RA_REQ0_OP, 0, n, s.fld F.SPN_RA_REQ0_DST, s.fld F.SPN_RA_REQ1_ADDR,
      s.fld F.SPN_RA_REQ0_PAGE, (List.range (n + 1)).map fun k => s.reg (R.SPN_RA_WDATAk k)⟩
    ({ s with spn := { s.spn with ra := { s.spn.ra with waiting := some r } } }).raNext

/-- A response for this device. -/
def State.raAnswer (s : State) (f : SpnFrame) : State :=
  (s.reqAnswer raFields ⟨f.status, f.tag, f.cnt, f.src, f.words⟩).raNext

/-- The answer to a request (R319). [log 82] -/
def spnReply (f : SpnFrame) (status : Nat) (ws : List Word) : SpnFrame :=
  let a := spnMake (8 + f.type) status f.tag 0 f.src f.dst f.addr 0 0 ws
  let h := a.hdr.set 9 (BitVec.ofNat 8 f.cnt)
  ⟨h, ws, spnCrc h ws⟩

/-- An answer goes out, or comes to the device's own requester. -/
def State.spnReplyTo (s : State) (a : SpnFrame) : State :=
  let (s, mine) := s.spnUnicast 0 a
  if mine then s.raAnswer a else s

/-! ## Image multicast (R321 to R323) -/

/-- MC_START: a write of 1 to START on the manager. -/
def State.mcStart (s : State) : State :=
  if s.manager ∧ !s.on F.SPN_MC_CTRL_BUSY then
    ({ s with spn := { s.spn with mcNext := some 0, mcCrc := crcInit 0 } }).setOn F.SPN_MC_CTRL_BUSY true
  else s

/-- MC_START. -/
def execMcStart (s : State) : Host.Outcome State Fault Refusal := effect (·.mcStart) s

/-- The results of a session are rolled up (R323). -/
def State.rollEnd (s : State) (r : RollUp) : State :=
  let s := { s with spn := { s.spn with roll := none } }
  let tmo := Nat.min 255 r.tmo
  let (addr, reason) := r.first.getD (0, 0)
  if s.manager then
    let s := (s.setFld F.SPN_MC_RES0_FAIL r.fail).setFld F.SPN_MC_RES0_OK r.ok
    let s := (((s.setOn F.SPN_MC_RES1_FVALID r.first.isSome).setFld F.SPN_MC_RES1_TMO tmo).setFld F.SPN_MC_RES1_REASON
      reason).setFld F.SPN_MC_RES1_FIRST addr
    let s := s.setOn F.SPN_MC_CTRL_BUSY false
    s.raise (if r.fail = 0 ∧ tmo = 0 then 57 else 58) (s.reg R.SPN_MC_RES0).toNat
  else
    let ws : List Word := [BitVec.ofNat 32 (r.fail * 65536 + r.ok),
      BitVec.ofNat 32 (b2n r.first.isSome * 2 ^ 31 + reason % 16 * 65536 + addr), BitVec.ofNat 32 tmo]
    s.spnSend 0 0 (spnMake 10 0 0 3 0 s.spnAddr 0 r.session 0 ws)

/-- The device waits for the IMGR of its ACTIVE SDN ports that have a range; its own result is its reason, if it is a
member. [log 87] -/
def State.rollBegin (s : State) (session : Nat) (mine : Option Nat) : State :=
  let waits := s.sdnActive.filter fun p => s.on (F.SPN_Pp_STAT_RVALID p)
  let bad : Bool := match mine with
    | some r => r != 0
    | none => false
  let r : RollUp := ⟨session, waits, b2n (mine == some 0), b2n bad, if bad then some (s.spnAddr, mine.getD 0) else none, 0⟩
  if waits.isEmpty then s.rollEnd r else { s with spn := { s.spn with roll := some r } }

/-- The lower of two failed addresses, with its reason. -/
def lowerFail (a b : Option (Nat × Nat)) : Option (Nat × Nat) :=
  match a, b with
  | none, x => x
  | x, none => x
  | some x, some y => if x.1 ≤ y.1 then some x else some y

/-- An IMGR from a child. -/
def State.imgrIn (s : State) (p : Nat) (f : SpnFrame) : State :=
  match s.spn.roll with
  | some r =>
    if r.session = f.session ∧ r.waits.contains p then
      let w1 := f.word 1
      let first := if w1 / 2 ^ 31 = 1 then some (w1 % 4096, w1 / 65536 % 16) else none
      let r := { r with waits := r.waits.erase p, ok := r.ok + f.word 0 % 8192, fail := r.fail + f.word 0 / 65536 % 8192,
                        first := lowerFail r.first first, tmo := r.tmo + f.word 2 % 256 }
      if r.waits.isEmpty then s.rollEnd r else { s with spn := { s.spn with roll := some r } }
    else (s.spnRoute (p + 1) f).1
  | none => (s.spnRoute (p + 1) f).1

/-- IMGR. -/
def execImgr (port : Fin 5) (frame : SpnFrame) (s : State) : Host.Outcome State Fault Refusal :=
  effect (fun s => s.spnArrive 10 port.val frame fun s => s.imgrIn port.val frame) s

/-- IMGR_WAIT_TIMEOUT. -/
def execImgrWaitTimeout (s : State) : Host.Outcome State Fault Refusal :=
  effect (fun s => match s.spn.roll with
    | some r => s.rollEnd { r with tmo := r.tmo + r.waits.length, waits := [] }
    | none => s) s

/-- MODE and DST of the multicast engine's frames, as its registers have them (R321); a group stands in the place of DST
(R310). [log 86] -/
def State.mcTarget (s : State) : Nat × Nat :=
  match s.fld F.SPN_MC_CTRL_MODE with
  | 0 => (0, s.fld F.SPN_MC_CTRL_DST)
  | 2 => (2, s.fld F.SPN_MC_CTRL_GROUP)
  | _ => (1, s.fld F.SPN_MC_CTRL_DST)

/-- The ports that the engine's frames go to. -/
def State.mcPorts (s : State) : List Nat :=
  let (m, d) := s.mcTarget
  if m = 0 then (match s.spnWay d with
    | .port p => [p]
    | _ => [])
  else s.sdnActive

/-- MC_CHUNK_SEND: the next chunk, and IMGE after the last (R321). A full buffer stalls the engine (R312), and so does a memory that cannot be read now (R37). [log 21, 86] -/
def State.mcChunk (s : State) : State :=
  match s.spn.mcNext with
  | none => s
  | some off =>
    let base := baseBytes (s.fld F.SPN_MC_BASE_BASE)
    let len := Nat.min 16777216 (s.fld F.SPN_MC_LEN_LEN)
    let n := Nat.min 256 (len - off)
    if (s.mcPorts.any fun p => !s.spnRoom p 2) ∨ (n ≠ 0 ∧ !s.engineReady 26 (base + off) n) ∨ !s.hubRuns then s
    else
      let (m, d) := s.mcTarget
      let sess := s.fld F.SPN_MC_SESS_SESSION
      let s := if n = 0 then s
        else
          let (s, ds) := s.readLines 26 (base + off) n
          let bytes := spanBytes ds (base + off) n
          let s := { s with spn := { s.spn with mcCrc := crcRun 0 s.spn.mcCrc bytes } }
          (s.spnRoute 0 (spnMake 2 0 0 m d 0 0 sess off ((chunks 4 bytes).map leWord))).1
      if off + 256 < len then { s with spn := { s.spn with mcNext := some (off + 256) } }
      else
        let s := { s with spn := { s.spn with mcNext := none } }
        let s := (s.spnRoute 0 (spnMake 3 0 0 m d 0 0 sess len [crcFinal 0 s.spn.mcCrc])).1
        s.rollBegin sess none

/-- MC_CHUNK_SEND. -/
def execMcChunkSend (s : State) : Host.Outcome State Fault Refusal := effect (·.mcChunk) s

/-- What SPN_MC_RX shows (R328). -/
def State.mcShow (s : State) (active : Bool) (reason session : Nat) : State :=
  ((s.setOn F.SPN_MC_RX_ACTIVE active).setFld F.SPN_MC_RX_REASON reason).setFld F.SPN_MC_RX_SESSION session

/-- A chunk at the expected offset is written to the staging area (R322). -/
def State.mcStore (s : State) (f : SpnFrame) : State :=
  let bytes := wordsBytes f.words
  let s := (s.writeFlat 26 (s.stageBase + f.aux) bytes).snoop 0x0F bytes
  { s with spn := { s.spn with rxNext := f.aux + bytes.length } }

/-- IMG at a member (R322); an image that meets a busy loader raises EV_CFG_BUSY (R53). [log 86] -/
def State.imgTake (s : State) (f : SpnFrame) : State :=
  let sess := f.session
  let active := s.on F.SPN_MC_RX_ACTIVE
  let cur := s.fld F.SPN_MC_RX_SESSION
  if f.aux = 0 ∧ (!active ∨ cur ≠ sess) then
    if s.ldrState ≠ 0 then (s.mcShow false 1 sess).raise 22 3 else (s.mcShow true 0 sess).mcStore f
  else if active ∧ cur = sess then
    if f.aux = s.spn.rxNext then s.mcStore f else s.mcShow false 2 sess
  else if !active ∧ cur ≠ sess then s.mcShow false 2 sess
  else s

/-- The reason with which IMGE ends a session that is being received (R322, R53), and the machine after the staging area
was read for its CRC. [log 86] -/
def State.imgeFinding (s : State) (f : SpnFrame) : State × Nat :=
  let len := f.aux
  if 16777216 < len then (s, 4)
  else if s.spn.rxNext < len then (s, 2)
  else
    let (s, ds) := s.readLines 26 s.stageBase len
    if (crc32c (spanBytes ds s.stageBase len)).toNat ≠ f.word 0 then (s, 3)
    else if s.ldrState ≠ 0 then (s, 1)
    else (s, 0)

/-- IMGE at a member: the reason it ends with; it is a boundary of stream 0x0F (R411). [log 86] -/
def State.imgeTake (s : State) (f : SpnFrame) : State × Nat :=
  let s := s.snoopBoundary 0x0F
  let sess := f.session
  let active := s.on F.SPN_MC_RX_ACTIVE
  let cur := s.fld F.SPN_MC_RX_SESSION
  if active ∧ cur = sess then
    let (s, r) := s.imgeFinding f
    let s := s.mcShow false r sess
    let s := if r = 0 then (s.setFld F.CFG_LOAD_LEN_LEN f.aux).loadBegin 3 false
      else if r = 1 then s.raise 22 3
      else s
    (s, r)
  else if cur = sess then (s, s.fld F.SPN_MC_RX_REASON)
  else if active then (s, 2)
  else (s.mcShow false 2 sess, 2)

/-- IMG at a member, or IMGE and the roll-up of its result. -/
def State.imgDo (s : State) (f : SpnFrame) : State :=
  if f.type = 2 then s.imgTake f
  else
    let (s, r) := s.imgeTake f
    s.rollBegin f.session (some r)

/-- Whether a member can take an IMG or IMGE now: IMGE reads the staging area and starts the loader (R37, R322, R370). -/
def State.imgReady (s : State) (f : SpnFrame) : Bool :=
  f.type == 2 || (s.engineFree 26 && !s.isGated 10)

/-- The IMG and IMGE that a member holds are taken as far as they can, at most `n`. [log 21, 86] -/
def State.imgRun (s : State) : Nat → State
  | 0 => s
  | n + 1 => match s.spn.held with
    | [] => s
    | x :: rest =>
      if s.imgReady x.2 then ({ s with spn := { s.spn with held := rest } }.imgDo x.2).imgRun n else s

/-- An IMG or IMGE of which the device is a member: in order with those that wait. -/
def State.imgMine (s : State) (p : Nat) (f : SpnFrame) : State :=
  { s with spn := { s.spn with held := s.spn.held ++ [(p, f)] } }.imgRun (s.spn.held.length + 1)

/-- IMGE: a member's result, then the roll-up. [log 87] -/
def State.imgeIn (s : State) (p : Nat) (f : SpnFrame) : State :=
  let (s, mine) := s.spnRoute (p + 1) f
  if mine ∧ f.mode ≠ 3 ∧ s.on F.SPN_STAT_ADDR_VALID then s.imgMine p f
  else if p = 0 then s.rollBegin f.session none
  else s

/-- IMGE. -/
def execImge (port : Fin 5) (frame : SpnFrame) (s : State) : Host.Outcome State Fault Refusal :=
  effect (fun s => s.spnArrive 3 port.val frame fun s => s.imgeIn port.val frame) s

/-! ## Fault reports (R324, R328) -/

/-- SPN_FIN_STAT and SPN_FIN0 show the inbox. -/
def State.finShow (s : State) : State :=
  let s := s.setFld F.SPN_FIN_STAT_COUNT s.spn.inbox.length
  match s.spn.inbox with
  | [] => s.setReg R.SPN_FIN0 0
  | r :: _ =>
    ((((s.setOn F.SPN_FIN0_VALID true).setFld F.SPN_FIN0_CLASS r.cls).setFld F.SPN_FIN0_EVENT r.event).setFld
      F.SPN_FIN0_LOST r.lost).setFld F.SPN_FIN0_SRC r.src

/-- A fault report at the manager. [log 88] -/
def State.fltTake (s : State) (f : SpnFrame) : State :=
  if 64 ≤ s.spn.inbox.length then s.incSat F.SPN_FIN_STAT_OVF
  else
    let w := f.word 0
    let r : FaultRep := ⟨f.src, w / 2 ^ 24, w / 4 % 256, w % 4, f.words.drop 1⟩
    (({ s with spn := { s.spn with inbox := s.spn.inbox ++ [r] } }).finShow).raise 59 f.src

/-- A fault report that passes through: this device adds its own LOST. -/
def State.fltPass (s : State) (idx : Nat) (f : SpnFrame) : State :=
  let w := f.word 0
  let lost := Nat.min 255 (w / 2 ^ 24 + s.flt.unsent)
  let ws := BitVec.ofNat 32 (lost * 2 ^ 24 + w % 2 ^ 24) :: f.words.drop 1
  let room := idx = 0 ∨ s.spnRoom 0 1
  let s := if room then { s with flt := { s.flt with unsent := 0 } } else s
  s.spnSend 0 idx ⟨f.hdr, ws, spnCrc f.hdr ws⟩

/-- FLT. -/
def execFlt (port : Fin 5) (frame : SpnFrame) (s : State) : Host.Outcome State Fault Refusal :=
  effect (fun s => s.spnArrive 11 port.val frame fun s =>
    if frame.mode ≠ 3 then
      let (s, mine) := s.spnRoute (port.val + 1) frame
      if mine ∧ s.manager then s.fltTake frame else s
    else if s.manager then s.fltTake frame else s.fltPass (port.val + 1) frame) s

/-- FIN_READ: the oldest entry is removed; its words are latched. -/
def State.finRead (s : State) : State :=
  match s.spn.inbox with
  | [] => s
  | r :: rest =>
    let s := s.each [0, 1, 2] fun s i => s.setReg (R.SPN_FIN1 + 4 * i) (r.words.getD i 0)
    ({ s with spn := { s.spn with inbox := rest } }).finShow

/-- FIN_READ. -/
def execFinRead (s : State) : Host.Outcome State Fault Refusal := effect (·.finRead) s

end Sys2Proof.Machine
end

