-- ==== Sys2Proof/Machine/Clocks.lean ====
section
/-! DEFINITION. Reference clocks, loops, selectors and gates (R360 to R369). Loops: 0 PLL_HUB, 1 PLL_MEM, 2 PLL_SER,
3 PLL_SCAN, 4 PLL_ENG0, 5 PLL_ENG1, the order of CLK_STAT.LOCK. -/

namespace Sys2Proof.Machine

/-! ## Selectors (R366) -/

/-- A selector's number. -/
def selIndex : ClockSel → Nat
  | .ref => 0
  | .hub => 1
  | .mem => 2
  | .eng0 => 3
  | .eng1 => 4

/-- A selector is asked for an input. -/
def State.askClock (s : State) (i v : Nat) : State := { s with clk := { s.clk with want := Tab.setNum s.clk.want i v } }

/-- Whether the input that a selector has makes no edge (R363, R366): a crystal that has stopped, a loop whose domain
receives none. [log 93] -/
def State.inputDead (s : State) (i : Nat) : Bool :=
  match i with
  | 0 => Tab.num s.clk.sel 0 == 1 && s.clk.dead
  | 1 => Tab.num s.clk.sel 1 == 1 && !s.clocked 0
  | 2 => Tab.num s.clk.sel 2 == 1 && !s.clocked 1
  | 3 => !s.clocked 4
  | _ => !s.clocked 5

/-- CLOCK_SWITCH: the switch that was asked for is complete; it was forced where the old input makes no edge, or made none
in the first 32 cycles of the new clock. [log 93] -/
def State.clockSwitch (s : State) (i edge : Nat) : State :=
  let v := Tab.num s.clk.want i
  if v = Tab.num s.clk.sel i then s
  else
    let forced := s.inputDead i || decide (32 ≤ edge)
    let s := { s with clk := { s.clk with sel := Tab.setNum s.clk.sel i v } }
    let s := if i = 0 then s.setFld F.CLK_STAT_REFSRC v else s
    if forced then (s.setOn F.CLK_STAT_SWFORCED true).raise 11 0 else s

/-- CLOCK_SWITCH. -/
def execClockSwitch (sel : ClockSel) (edge : Nat) (s : State) : Host.Outcome State Fault Refusal :=
  effect (·.clockSwitch (selIndex sel) edge) s

/-! ## Loops (R363) -/

/-- A loop is started; in the shutdown state those that R386 stops are not. [log 95] -/
def State.pllStart (s : State) (l : Nat) : State :=
  if s.on F.THM_STAT_SHUT ∧ l ≠ 0 ∧ l ≠ 2 then s
  else { s with clk := { s.clk with started := Tab.setOn s.clk.started l true } }

/-- A loop is stopped. -/
def State.pllStop (s : State) (l : Nat) : State :=
  ({ s with clk := { s.clk with
    started := Tab.setOn s.clk.started l false, coast := Tab.setOn s.clk.coast l false,
    relocking := Tab.setOn s.clk.relocking l false, fails := Tab.setNum s.clk.fails l 0 } }).setBit F.CLK_STAT_LOCK l false

/-- Every running loop coasts (R362). -/
def State.coastAll (s : State) : State :=
  s.each (List.range 6) fun s l =>
    if Tab.on s.clk.started l then
      ({ s with clk := { s.clk with
        coast := Tab.setOn s.clk.coast l true, relocking := Tab.setOn s.clk.relocking l false } }).setBit F.CLK_STAT_LOCK l false
    else s

/-- A controller completes what is in flight and places its ranks in self-refresh (R252, R362, R372). [log 100] -/
def State.ctlSleeps (s : State) (c : Nat) : State :=
  let s := s.finishOps c
  { s with mem := { s.mem.cleanEcc c with asleep := Tab.setOn s.mem.asleep (8 + c) true } }

/-- What R362 does from "SRCFAIL is set" onward: the loops coast, the controllers complete what is in flight and sleep, the
links go down, the qualification starts again. [log 93] -/
def State.sourceFails (s : State) : State :=
  let s := (((s.setOn F.CLK_STAT_SRCFAIL true).raise 9 0).coastAll.ctlSleeps 0).ctlSleeps 1
  { s with clk := { s.clk with windows := 0 } }.linkCheckAll

/-- The crystal is lost, stopped or off its frequency (R362): REF goes to the RC oscillator. [log 93] -/
def State.xtalLost (s : State) (stopped : Bool) : State :=
  if s.on F.CLK_STAT_XQUAL then
    ({ s with clk := { s.clk with dead := stopped } }.askClock 0 0 |>.setOn F.CLK_STAT_XQUAL false).sourceFails
  else s

/-- The crystal qualifies (R361): REF goes to it, the loops are started, or relock after a loss. -/
def State.xtalQualified (s : State) : State :=
  let s := ({ s with clk := { s.clk with dead := false } }.askClock 0 1).setOn F.CLK_STAT_XQUAL true
  let first := s.clk.coast.isEmpty
  let s := { s with clk := { s.clk with coast := [] } }
  -- after a loss only the loops that ran relock; in DOZE the others stay off
  if first ∧ !s.on F.CLK_STAT_SRCFAIL then s.each (List.range 6) State.pllStart else s

/-- XTAL_QUAL_WINDOW: a window of 1,024 CLS cycles ends (R361, R362). -/
def State.qualWindow (s : State) (cycles : Nat) (swing : Bool) : State :=
  let near := decide (944 ≤ cycles) && decide (cycles ≤ 1104)
  let qualified := s.on F.CLK_STAT_XQUAL
  if qualified ∧ !near then s
  else if qualified ∧ s.clk.coast.isEmpty then s
  else
    let n := if near && swing then s.clk.windows + 1 else 0
    let s := { s with clk := { s.clk with windows := if 32 ≤ n then 0 else n } }
    if 32 ≤ n then s.xtalQualified else s

/-- XTAL_QUAL_TIMEOUT: 20 ms after reset release. -/
def execXtalQualTimeout (s : State) : Host.Outcome State Fault Refusal :=
  effect (fun s => if s.on F.CLK_STAT_XQUAL ∨ s.on F.CLK_STAT_SRCFAIL then s
    else (s.setOn F.CLK_STAT_XTAL_FAIL true).raise 8 0) s

/-- SRCFAIL_CLEAR: a write of 1 to SRCFAIL, without effect while XQUAL is clear (R362). -/
def State.srcfailClear (s : State) : State :=
  if s.on F.CLK_STAT_XQUAL then s.setOn F.CLK_STAT_SRCFAIL false else s

/-- SRCFAIL_CLEAR. -/
def execSrcfailClear (s : State) : Host.Outcome State Fault Refusal := effect (·.srcfailClear) s

/-- PLL_SCAN is locked where a relock waits for it (R177): the frame starts of the new set may come. -/
def State.scanLocked (s : State) : State :=
  if s.tim.relock = .locking then { s with tim := { s.tim with relock := .locked } } else s

/-- Step 1 of a relock (R177): global blank, RELOCK, its event, GCLK gated at every port. -/
def State.relockBegin (s : State) : State :=
  let s := { s with tim := { s.tim with relock := .locking }, chn := { s.chn with gclkGate := true } }
  ((s.blankOn 4).setOn F.TIM_STAT_RELOCK true).raise 103 (s.fld F.TIM_FRAME_COUNT)

/-- A loop locks: its domain receives clock edges (R363). The loop of an engine die without power-good does not (R462). -/
def State.pllLock (s : State) (l : Nat) : State :=
  if !Tab.on s.clk.started l ∨ s.locked l ∨ !s.on F.CLK_STAT_XQUAL ∨ Tab.on s.clk.coast l ∨ (l = 3 ∧ !s.tim.running) ∨
    (4 ≤ l ∧ s.strait.noPower) then s
  else
    let s := ({ s with clk := { s.clk with
      fails := Tab.setNum s.clk.fails l 0, relocking := Tab.setOn s.clk.relocking l false } }).setBit F.CLK_STAT_LOCK l true
    match l with
    | 0 => s.askClock 1 1
    | 1 =>
      let s := s.askClock 2 1
      -- after a loss the controllers leave self-refresh; those that a power state has stopped wait for the wake table
      { s with mem := { s.mem with
        asleep := Tab.setOn (Tab.setOn s.mem.asleep 8 (s.isGated 15)) 9 (s.isGated 16) } }
    | 3 => s.scanLocked
    | _ => s

/-- PLL_SCAN_LOCKED (R177 step 2): PLL_SCAN has locked at the new M. -/
def execPllScanLocked (s : State) : Host.Outcome State Fault Refusal :=
  effect (fun s => if s.tim.relock = .locking then ((s.setBit F.CLK_STAT_LOCK 3 true).scanLocked).bringUpDue else s) s

/-- PLL_UNLOCK (R363). [log 93] -/
def State.pllUnlock (s : State) (l : Nat) : State :=
  if !s.locked l then s
  else
    let s := ({ s with clk := { s.clk with
      relocking := Tab.setOn s.clk.relocking l true, fails := Tab.setNum s.clk.fails l 0 } }).setBit F.CLK_STAT_LOCK l false
    if l = 3 then (if s.tim.running then s.relockBegin else s)
    else (s.setOn F.CLK_STAT_LOCKERR true).raise 10 (s.fld F.CLK_STAT_LOCK)

/-- PLL_UNLOCK. -/
def execPllUnlock (loop : Fin 6) (s : State) : Host.Outcome State Fault Refusal := effect (·.pllUnlock loop.val) s

/-- An attempt to relock has failed (R363): at the third the loop coasts, and R362 follows. [log 94] -/
def State.lockFails (s : State) (l : Nat) : State :=
  if !Tab.on s.clk.relocking l ∨ l = 3 then s
  else
    let n := Tab.num s.clk.fails l + 1
    let s := { s with clk := { s.clk with fails := Tab.setNum s.clk.fails l (if 3 ≤ n then 0 else n) } }
    if 3 ≤ n then s.sourceFails else s

/-! ## Gates (R367, R368) -/

/-- A block stops or restarts. -/
def State.gated (s : State) (b : Nat) (on : Bool) : State := s.setBit F.CLK_GSTAT_GATED b on

/-- A block takes up what waits. -/
def State.blockGoesOn (s : State) (b : Nat) : State :=
  match b with
  | 0 => s.adcNext
  | 1 => s.chkAsk
  | 2 => s.flashNext
  | 3 => (s.pmbNext 0).pmbNext 1
  | _ => s

/-- A block restarts: its gate opens, and it takes up what waits (R367, R375). -/
def State.blockStarts (s : State) (b : Nat) : State :=
  let s := (s.gated b false).blockGoesOn b
  match b with
  | 4 | 5 | 6 | 17 => s.linkCheckAll
  | 15 => { s with mem := { s.mem with asleep := Tab.setOn s.mem.asleep 8 false } }
  | 16 => { s with mem := { s.mem with asleep := Tab.setOn s.mem.asleep 9 false } }
  | _ => s

/-- A block is asked to stop. -/
def State.askStop (s : State) (b : Nat) : State := { s with clk := { s.clk with asked := Tab.setOn s.clk.asked b true } }

/-- Whether a power state keeps a block with a software gate stopped, or is asking it to stop: its gate does not open when
its CLK_GATE bit falls. In an entry to DOZE or DEEP it is the block being asked, and those that the entry has passed. [log 94] -/
def State.gateHeld (s : State) (b : Nat) : Bool :=
  match s.pwr.phase with
  | .steady => decide (2 ≤ s.fld F.PWR_STAT_STATE)
  | .entering t => t != 1 && (decide (2 ≤ s.fld F.PWR_STAT_STATE) || !(s.pwr.todo.drop 1).contains b)
  | _ => s.pwr.todo.contains 8

/-- Whether an entry is asking a block to stop (R372). [log 94] -/
def State.entryAsks (s : State) (b : Nat) : Bool :=
  match s.pwr.phase with
  | .entering _ => s.pwr.todo.head? == some b
  | _ => false

/-- GATE_REQUEST: a write to CLK_GATE. A bit that rises asks its block to stop, a bit that falls opens its gate, unless a
power state keeps it; a refused gate is tried again only after its bit has been cleared. [log 94] -/
def State.gateRequest (s : State) (v : Nat) : State :=
  let old := s.fld F.CLK_GATE_GATE
  let s := s.setFld F.CLK_GATE_GATE v
  s.each (List.range 6) fun s b =>
    let was := old / 2 ^ b % 2
    let now := v / 2 ^ b % 2
    if now = 1 ∧ was = 0 then (if s.isGated b then s else s.askStop b)
    else if now = 0 ∧ was = 1 then
      let s := if s.entryAsks b then s else { s with clk := { s.clk with asked := Tab.setOn s.clk.asked b false } }
      if s.gateHeld b then s else s.blockStarts b
    else s

/-- GATE_REQUEST. -/
def execGateRequest (gate : BitVec 6) (s : State) : Host.Outcome State Fault Refusal := effect (·.gateRequest gate.toNat) s

/-- What stopping does to a block (R368, R370). -/
def State.blockStops (s : State) (b : Nat) : State :=
  let s := { s with clk := { s.clk with asked := Tab.setOn s.clk.asked b false } }.gated b true
  match b with
  | 0 => s.adcHalt
  | 7 => s.monAbandon
  | 4 | 5 | 6 | 17 => s.linkCheckAll
  | 12 => s.pllStop 3
  | 13 => (s.setFld (straitState 0) 0).pllStop 4
  | 14 => (s.setFld (straitState 1) 0).pllStop 5
  | 15 => s.ctlSleeps 0
  | 16 => s.ctlSleeps 1
  | _ => s

/-- A refused gate (R367): GATE_REFUSED, GATE_BLK, its event. -/
def State.gateRefused (s : State) (b : Nat) : State :=
  let s := { s with clk := { s.clk with asked := Tab.setOn s.clk.asked b false } }
  (((s.setOn F.CLK_STAT_GATE_REFUSED true).setFld F.CLK_STAT_GATE_BLK b).raise 12 b).blockGoesOn b

end Sys2Proof.Machine
end

