-- ==== Sys2Proof/Machine/Cal.lean ====
section
/-! DEFINITION. Timing calibration (R399 to R407). Groups: 0 DRAM, 1 and 2 the chain ports of E0 and E1, 3 receive
lanes. -/

namespace Sys2Proof.Machine

/-! ## Passing points (R400 to R402) -/

/-- What a pair of runs brought for an item, as points and codes: `codes` are the coarse values of a byte lane, LAT of a
port, the counts of a lane; `fines` the fine values of a byte lane; `maps` say which points pass. A run with a clear
`found` failed outright. -/
structure CalItem where
  item : Nat
  found : Bool
  codes1 : List Nat
  codes2 : List Nat
  fines1 : List Nat
  fines2 : List Nat
  maps1 : List (List Bool)
  maps2 : List (List Bool)
deriving DecidableEq, Repr

/-- The taps of a byte lane's bits at which all sixteen samples match (R400). -/
def byteMaps (r : ByteRun) : List (List Bool) := r.samples.map fun l => l.map fun v => v == BitVec.allOnes 16

/-- A byte lane's pair. [log 73] -/
def byteItem (i : Nat) (a b : ByteRun) : CalItem :=
  ⟨i, true, a.codes, b.codes, a.fines, b.fines, byteMaps a, byteMaps b⟩

/-- A lane's pair. [log 73] -/
def laneItem (i : Nat) (a b : LaneRun) : CalItem :=
  ⟨i, true, a.counts, b.counts, [], [], [a.phases, a.thresholds], [b.phases, b.thresholds]⟩

/-- LAT of a run: the smallest offset at which the first record has its marker and its CRC (R401). -/
def sdoLat (r : SdoRun) : Option Nat :=
  let n := r.capture.findIdx recOk
  if n < r.capture.length then some n else none

/-- Whether a readback of `n` drivers passes at its tap: every record is good, and the extra record is empty (R401, R207). -/
def TapRead.passes (n : Nat) (r : TapRead) : Bool := r.records.length == n && r.records.all recOk && r.extra == 0

/-- A port's pair at bring-up, with `n` drivers. [log 73] -/
def sdoItem (n p : Nat) (a b : SdoRun) : CalItem :=
  ⟨p, (sdoLat a).isSome && (sdoLat b).isSome, (sdoLat a).toList, (sdoLat b).toList, [], [],
    [a.taps.map (TapRead.passes n)], [b.taps.map (TapRead.passes n)]⟩

/-- What came for an item of a group; none where it is of another. -/
def State.calItem (s : State) (g : Nat) : CalPair → Option CalItem
  | .byteLane i a b => if g = 0 then some (byteItem i a b) else none
  | .lane i a b => if g = 3 then some (laneItem i a b) else none
  | .sdo p a b => if g = 1 ∨ g = 2 then some (sdoItem (s.nic p) p a b) else none

/-- The readbacks of a bring-up run: one, and where it gave LAT one for each of the 32 taps (R401). [log 73] -/
def sdoReads (r : SdoRun) : Nat := if (sdoLat r).isSome then 33 else 1


/-- The longest run of passing points: its first point and its width, the lower run of two equal ones. -/
def longestRun (l : List Bool) : Nat × Nat :=
  let step (a : (Nat × Nat) × (Nat × Nat)) (x : Bool × Nat) : (Nat × Nat) × (Nat × Nat) :=
    let (best, cur) := a
    if x.1 then
      let cur := if cur.2 = 0 then (x.2, 1) else (cur.1, cur.2 + 1)
      (if best.2 < cur.2 then cur else best, cur)
    else (best, (0, 0))
  ((List.zip l (List.range l.length)).foldl step ((0, 0), (0, 0))).1

/-- The centre of the longest run: first + ⌊(width − 1) / 2⌋. -/
def runCentre (l : List Bool) : Nat := (longestRun l).1 + ((longestRun l).2 - 1) / 2

/-- The lowest code with the most passing phases (R402). -/
def bestCode (counts : List Nat) : Nat := counts.findIdx fun n => n == maxN counts

/-- Whether two results lie within TOL of each other. -/
def within (tol a b : Nat) : Bool := decide (a ≤ b + tol) && decide (b ≤ a + tol)

/-- TOL (R407). -/
def State.calTol (s : State) : Nat := Nat.max 1 (s.fld F.CAL_CTRL_TOL)

/-- Whether the two runs of a pair agree (R403): taps and thresholds within TOL, codes equal. A lane's code is the one
its counts choose, and its phases give no result of their own. -/
def State.pairAgrees (s : State) (g : Nat) (x : CalItem) : Bool :=
  let m1 := if g = 3 then x.maps1.drop 1 else x.maps1
  let m2 := if g = 3 then x.maps2.drop 1 else x.maps2
  let codes (l : List Nat) : List Nat := if g = 3 then [bestCode l] else l
  let near (a b : List Nat) : Bool := a.length == b.length && (List.zip a b).all fun y => within s.calTol y.1 y.2
  x.found && codes x.codes1 == codes x.codes2 && near x.fines1 x.fines2 &&
  (m1 ++ m2).all (fun l => (longestRun l).2 != 0) && near (m1.map runCentre) (m2.map runCentre)

/-! ## Flags (R403, R404) -/

/-- A pair disagrees. -/
def State.calBad (s : State) (g item : Nat) : State :=
  let s := (s.setBit F.CAL_STAT_BADCAL g true).incSat F.CAL_STAT_BADCNT
  let s := ((s.setOn F.CAL_BAD_VALID true).setFld F.CAL_BAD_GROUP g).setFld F.CAL_BAD_ITEM item
  s.raise 143 (s.reg R.CAL_BAD).toNat

/-- An eye width against its group's minimum. -/
def State.calEye (s : State) (g width : Nat) : State :=
  let least := if g = 0 then s.fld F.CAL_LIM_MINEYE_DQ else if g = 3 then s.fld F.CAL_LIM_MINEYE_LANE
    else s.fld F.CAL_LIM_MINEYE_SDO
  if width < least then (s.setBit F.CAL_STAT_LOWEYE g true).raise 144 g else s

/-- The probe registers show the probed bit and byte lane (R407). -/
def State.calProbe (s : State) : State :=
  let rank := s.fld F.CAL_PROBE_RANK
  let by_ := s.fld F.CAL_PROBE_BYTE
  let k := 32 * rank + 8 * by_ + s.fld F.CAL_PROBE_BIT
  let s := ((s.setFld F.CAL_PROBE_DQ_RDTAP (Tab.num s.cal.rdTap k)).setFld F.CAL_PROBE_DQ_WRTAP (Tab.num s.cal.wrTap k))
  let s := ((s.setFld F.CAL_PROBE_DQ_RDEYE (Tab.num s.cal.rdEye k)).setFld F.CAL_PROBE_DQ_WREYE (Tab.num s.cal.wrEye k))
  s.setReg R.CAL_PROBE_BY (Tab.word s.cal.byte (4 * rank + by_))

/-- The reference diode of a group: 0 H, 1 E0, 2 E1. -/
def calDiode (g : Nat) : Nat := if g = 3 then 0 else g

/-- CAL_TREF takes the reference diode's reading (R405). [log 72] -/
def State.calTref (s : State) (g : Nat) : State := s.setFld (F.CAL_TREFg_TEMP g) (s.fld (F.THM_Dd_TEMP (calDiode g)))

/-! ## Results of an agreeing pair (R400 to R403) -/

/-- A DRAM byte lane: leveling in full training only, read gate, deskew and eye widths. -/
def State.applyByte (s : State) (x : CalItem) (full : Bool) : State :=
  let old := (Tab.word s.cal.byte x.item).toNat
  let put (w msb lsb v : Nat) : Nat := (putBits (BitVec.ofNat 32 w) msb lsb v).toNat
  let w := if full then put (put old 29 24 (x.fines2.getD 0 0)) 21 20 (x.codes2.getD 0 0) else old
  let w := put (put w 13 8 (x.fines2.getD 1 0)) 5 4 (x.codes2.getD 1 0)
  let map (i : Nat) : List Bool := x.maps2.getD i []
  let fill (t : Tab Nat) (f : Nat → Nat) : Tab Nat := (List.range 8).foldl (fun t b => Tab.setNum t (8 * x.item + b) (f b)) t
  let c := s.cal
  let s := { s with cal := { c with
    byte := Tab.setWord c.byte x.item (BitVec.ofNat 32 w),
    rdTap := fill c.rdTap fun b => runCentre (map b), wrTap := fill c.wrTap fun b => runCentre (map (8 + b)),
    rdEye := fill c.rdEye fun b => (longestRun (map b)).2, wrEye := fill c.wrEye fun b => (longestRun (map (8 + b))).2 } }
  (s.calEye 0 ((minN? (x.maps2.map fun l => (longestRun l).2)).getD 0)).calProbe

/-- A port's tap and eye width. -/
def State.applyTap (s : State) (p : Nat) (taps : List Bool) : State :=
  let w := (longestRun taps).2
  let s := s.setFld (F.CHN_Cnn_SDO_TAP p) (runCentre taps)
  let r := R.CAL_SDOj (p / 4)
  (s.setReg r (putBits (s.reg r) (8 * (p % 4) + 7) (8 * (p % 4)) w)).calEye (1 + p / 32) w

/-- THR of a map of thresholds, −32 first. -/
def thrOf (l : List Bool) : Nat := unsigned 6 ((runCentre l : Int) - 32)

/-- A lane: eye width and height at once; EQ and THR at once in TRAIN, THR at the next SKP ordered set in ACTIVE. -/
def State.applyLane (s : State) (x : CalItem) (train : Bool) : State :=
  let i := x.item
  let w := (longestRun (x.maps2.getD 0 [])).2
  let thr := x.maps2.getD 1 []
  let s := (s.setFld (F.CAL_LANEi_EYE_W i) w).setFld (F.CAL_LANEi_EYE_H i) (longestRun thr).2
  let s := if train then (s.setFld (F.CAL_LANEi_EQ i) (bestCode x.codes2)).setFld (F.CAL_LANEi_THR i) (thrOf thr)
    else { s with cal := { s.cal with thr := Tab.setOpt s.cal.thr i (some (thrOf thr)) } }
  s.calEye 3 w

/-! ## First calibrations (R200, R241, R280, R403) -/

/-- Pairs of an item that have disagreed. [log 72] -/
def State.calTried (s : State) (g item n : Nat) : State :=
  { s with cal := { s.cal with first := Tab.setNum s.cal.first (64 * g + item) n } }

/-- Whether an item has failed its first calibration: three pairs have disagreed. -/
def State.calFailed (s : State) (g item : Nat) : Bool := decide (3 ≤ Tab.num s.cal.first (64 * g + item))

/-- A pair of a first calibration: `ok` applies an agreeing pair, `fail` follows the third disagreement. -/
def State.calFirst (s : State) (g : Nat) (x : CalItem) (ok fail : State → State) : State :=
  if s.pairAgrees g x then ok (s.calTried g x.item 0)
  else
    let n := Tab.num s.cal.first (64 * g + x.item) + 1
    let s := (s.calTried g x.item n).calBad g x.item
    if 3 ≤ n then fail s else s

/-- The link port and lane of a lane index. -/
def lanePort (i : Nat) : Nat × Nat := if i < 12 then (i / 4, i % 4) else (i - 9, 0)

/-- Whether the controllers are in their full training: at start-up, or for a new section (R241, R244). -/
def State.fullTraining (s : State) : Bool := !s.mem.trained || s.mem.reconfig.isSome

/-- TREF of a group of chain ports, when its last port has ended its calibration. -/
def State.portsTref (s : State) (g : Nat) : State :=
  if s.chains.any fun p => 1 + p / 32 == g && (s.port p).bringup == .calibrating then s else s.calTref g

/-- One item of a first calibration. -/
def State.firstItem (s : State) (g : Nat) (x : CalItem) : State :=
  match g with
  | 0 => if s.fullTraining ∧ !s.calFailed 0 x.item ∧ x.item < 16 then s.calFirst 0 x (·.applyByte x true) id else s
  | 3 =>
    let (p, n) := lanePort x.item
    if p < 8 ∧ n < (if weandi p then 4 else 1) ∧ s.linkState p = 1 then
      s.calFirst 3 x (fun s => (s.applyLane x true).calTref 3)
        fun s => (((s.calTried 3 x.item 0).setFld (F.CAL_LANEi_EQ x.item) 8).setFld (F.CAL_LANEi_THR x.item) 0).calTref 3
    else s
  | _ =>
    let p := x.item
    if 1 + p / 32 = g ∧ s.nic p ≠ 0 ∧ (s.port p).bringup = .calibrating then
      s.calFirst g x
        (fun s => ((s.setFld (F.CHN_Cnn_SDO_LAT p) (x.codes2.getD 0 0)).applyTap p (x.maps2.getD 0 [])).bringUpRead p
          |>.portsTref g)
        fun s => ((s.calTried g p 0).bringUpFails p).portsTref g
    else s

/-- The readbacks of a port's runs go out on its chain (R200 step 4, R401): its drivers take each RDBK of part 0. -/
def State.calReads (s : State) (x : CalPair) : State :=
  match x with
  | .sdo p a b =>
    if (s.port p).bringup = .calibrating then
      s.each (List.range (sdoReads a + sdoReads b)) fun s _ => s.sendFrame p 5 0 true
    else s
  | _ => s

/-- One pair that came for a group's first calibration. -/
def State.firstPair (s : State) (g : Nat) (x : CalPair) : State :=
  match s.calItem g x with
  | none => s
  | some i => (s.calReads x).firstItem g i

/-- The ports whose lane 0 has finished adapting in TRAIN go on to LOCK (R280, R403). -/
def State.lanesAdapted (s : State) (g : Nat) (items : List CalItem) : State :=
  if g ≠ 3 then s
  else s.each items fun s x =>
    let (p, n) := lanePort x.item
    if p < 8 ∧ n = 0 ∧ Tab.num s.cal.first (64 * 3 + x.item) = 0 then s.linkAdapted p else s

/-! ## Reruns (R405, R406) -/

/-- Whether the controllers keep their ranks in self-refresh. -/
def State.memAsleep (s : State) : Bool := Tab.on s.mem.asleep 8 || Tab.on s.mem.asleep 9

/-- Whether a rerun of a group runs. -/
def State.calBusy (s : State) (g : Nat) : Bool := s.fld F.CAL_STAT_BUSY / 2 ^ g % 2 == 1

/-- A rerun of a group is due: it starts, unless the group is busy or waits after a bad rerun; group 0 is deferred while
the controllers are in self-refresh. [log 72] -/
def State.calStart (s : State) (g : Nat) : State :=
  if s.calBusy g ∨ s.lnk.cycle + 1 ≤ Tab.num s.cal.wait g then s
  else if g = 0 ∧ (s.memAsleep ∨ s.on F.THM_STAT_SHUT) then { s with cal := { s.cal with held := true } }
  else
    let s := s.setBit F.CAL_STAT_BUSY g true
    match g with
    | 0 =>
      let ranks := (List.range 4).filter fun r => s.fld F.MEM_STAT_TRAINED / 2 ^ r % 2 == 1 && !Tab.on s.mem.asleep r
      { s with mem := { s.mem with recalDue := ranks.foldl (fun t r => Tab.setNum t r 2) [] } }
    | 3 => { s with cal := { s.cal with left := [] } }
    | _ =>
      let ports := (List.range 32).map (32 * (g - 1) + ·)
      { s with cal := { s.cal with
        mon := ports.foldl (fun t p => Tab.setLst t p []) s.cal.mon,
        monEmpty := ports.foldl (fun t p => Tab.setNum t p 0) s.cal.monEmpty } }

/-- A deferred rerun of group 0 starts with a commit window (R406). -/
def State.calDeferred (s : State) : State :=
  if s.cal.held ∧ !s.memAsleep ∧ !s.on F.THM_STAT_SHUT then
    { s with cal := { s.cal with held := false } }.calStart 0
  else s

/-- CAL_RUN: RUN bits written as 1. -/
def execCalRun (groups : BitVec 4) (s : State) : Host.Outcome State Fault Refusal :=
  effect (fun s => s.each ((List.range 4).filter fun g => groups.toNat / 2 ^ g % 2 == 1) State.calStart) s

/-- Whether a group has something to rerun. -/
def State.calItems (s : State) (g : Nat) : Bool :=
  match g with
  | 0 => s.fld F.MEM_STAT_INSVC != 0
  | 3 => (List.range 8).any fun p => s.linkState p == 5
  | _ => s.chains.any fun p => 1 + p / 32 == g && (s.port p).bringup == .up

/-- The check at a reading of a diode (R405): groups with that reference diode whose temperature has moved. [log 72] -/
def State.calAuto (s : State) (d : Nat) : State :=
  s.each (List.range 4) fun s g =>
    let failed := s.on ([F.THM_STAT_SENS_H, F.THM_STAT_SENS_E0, F.THM_STAT_SENS_E1].getD d F.THM_STAT_SENS_H)
    let t := signed 16 (s.fld (F.THM_Dd_TEMP d))
    let r := signed 16 (s.fld (F.CAL_TREFg_TEMP g))
    let dt := Nat.min 30 (Nat.max 2 (s.fld F.CAL_CTRL_DT))
    if calDiode g = d ∧ s.fld F.CAL_CTRL_AUTO / 2 ^ g % 2 = 1 ∧ !failed ∧ s.calItems g ∧ dt * 16 < (t - r).natAbs then s.calStart g
    else s

/-- Whether a port takes part in a rerun (R406). -/
def State.calPort (s : State) (p : Nat) : Bool :=
  s.nic p != 0 && (s.port p).bringup == .up && s.on F.CHN_CTRL_RB_EN && !s.on (F.CHN_Cnn_ERR_SILENT p) && !s.isGated 11

/-- A port's in-service runs are over: 64 monitored readbacks, or four in a row without a record (R401). -/
def State.calPortDone (s : State) (p : Nat) : Bool :=
  decide (64 ≤ (Tab.lst s.cal.mon p).length) || decide (4 ≤ Tab.num s.cal.monEmpty p)

/-- One item of a rerun; the answer says whether it disagreed. -/
def State.rerunItem (s : State) (g : Nat) (x : CalItem) : State × Bool :=
  if s.pairAgrees g x then
    match g with
    | 0 => (s.applyByte x false, false)
    | 3 => (s.applyLane x false, false)
    | _ => (s.applyTap x.item (x.maps2.getD 0 []), false)
  else (s.calBad g x.item, true)

/-- Whether a lane's rerun goes on: the lane is in ACTIVE and has not left it since the rerun began (R406). -/
def State.laneStays (s : State) (i : Nat) : Bool := s.linkState (lanePort i).1 == 5 && !Tab.on s.cal.left i

/-- The items of a rerun: those that the runs brought for ranks and for lanes that have stayed in ACTIVE; for ports what
their monitor samplers found. -/
def State.rerunItems (s : State) (g : Nat) (items : List CalItem) : List CalItem :=
  match g with
  | 0 => items.filter fun x => decide (x.item < 16)
  | 3 => items.filter fun x => decide (x.item < 17) && s.laneStays x.item
  | _ =>
    ((s.chains.filter fun p => 1 + p / 32 == g && s.calPort p).map fun p =>
      let l := Tab.lst s.cal.mon p
      ⟨p, decide (64 ≤ l.length), [], [], [], [], [l.take 32], [l.drop 32]⟩)

/-- A rerun ends (R403 to R405). -/
def State.rerunEnd (s : State) (g : Nat) (bad : Bool) : State :=
  let s := (s.setBit F.CAL_STAT_BUSY g false).incSat F.CAL_STAT_RUNS
  if bad then { s with cal := { s.cal with wait := Tab.setNum s.cal.wait g (s.lnk.cycle + 1 + 25000000) } } else s.calTref g

/-- Whether the runs of a rerun are over. -/
def State.rerunReady (s : State) (g : Nat) : Bool :=
  match g with
  | 0 => (List.range 4).all fun r => Tab.num s.mem.recalDue r == 0 && !Tab.on s.mem.hold r
  | 3 => true
  | _ => (s.chains.filter fun p => 1 + p / 32 == g && s.calPort p).all s.calPortDone

/-- Whether what came ends the rerun of a group: for lanes, a lane that has stayed in ACTIVE, or nothing at all. -/
def State.rerunCame (s : State) (g : Nat) (items : List CalItem) : Bool :=
  match g with
  | 0 => !s.fullTraining
  | 3 => items.isEmpty || items.any fun x => s.laneStays x.item
  | _ => true

/-- CAL_RUN_DONE: pairs of runs have ended, of first calibrations and of a rerun that runs. [log 73] -/
def State.calDone (s : State) (g : Nat) (pairs : List CalPair) : State :=
  let items := pairs.filterMap (s.calItem g)
  let s := (s.each pairs fun s x => s.firstPair g x).lanesAdapted g items
  if s.calBusy g ∧ s.rerunReady g ∧ s.rerunCame g items then
    let (s, bad) := (s.rerunItems g items).foldl (fun a x =>
      let (s, b) := a.1.rerunItem g x
      (s, a.2 || b)) (s, false)
    s.rerunEnd g bad
  else s

/-- CAL_RUN_DONE. -/
def execCalRunDone (group : Fin 4) (items : List CalPair) (s : State) : Host.Outcome State Fault Refusal :=
  effect (·.calDone group.val items) s

/-! ## Full training (R241, R244, R400) -/

/-- Full training is over: TREF, and a new count of pairs for the next one. -/
def State.trainingEnds (s : State) : State :=
  (s.calTref 0).each (List.range 16) fun s i => s.calTried 0 i 0

/-- A rank has failed its training where one of its byte lanes has. -/
def State.rankBad (s : State) (r : Nat) : Bool := (List.range 4).any fun b => s.calFailed 0 (4 * r + b)

end Sys2Proof.Machine
end

