-- ==== Sys2Proof/Machine/FrameStart.lean ====
section
/-! DEFINITION. FRAME_START: the timing set in force, the content refresh divider, deadlines and due bank loads, the
steps of a restructure and of a relock, and the per-frame work of the other blocks (R30, R72, R73, R145, R155, R163 to
R165, R169, R174 to R179, R200, R229, R230, R318, R364, R371, R385, R392, R464). -/

namespace Sys2Proof.Machine

/-! ## Content refresh divider (R178, R179, R385) -/

/-- m_t (R385): s = ((OCC + 1) / 1024) / k. -/
def State.throttleDiv (s : State) : Nat :=
  let k : Nat × Nat :=
    if s.slowed 0 || s.slowed 1 then
      match s.fld F.THM_CTRL_MODE with
      | 0 => (1, 2)
      | 2 => (7, 8)
      | _ => (1, 4)
    else (1, 1)
  let n := (s.fld F.CFG_OCC_MAX_OCC + 1) * k.2
  let d := 1024 * k.1
  if n ≤ d then 1 else if n ≤ 2 * d then 2 else if n ≤ 4 * d then 4 else 8

/-- The code of a divider: 0 = 1, 1 = 2, 2 = 4, 3 = 8. -/
def divCode (m : Nat) : Nat := if m < 2 then 0 else if m < 4 then 1 else if m < 8 then 2 else 3

/-- The signature of a stream: 0 to 7 slots (R78), 8 to 15 the host surfaces of the layers (R83). -/
def State.streamSig (s : State) (i : Nat) : Word := s.reg (if i < 8 then R.LAY_Wm_SIG i else R.LAY_x_SIG (i - 8))

/-- The stream of a layer (R178), none where it has none. -/
def State.layerStream (s : State) (n : Nat) : Option Nat :=
  let src := s.fld (F.LAY_x_CTRL_SRC n)
  if s.on (F.LAY_x_CTRL_EN n) then (if src < 8 then some src else if src = 8 then some (8 + n) else none) else none

/-- The active streams (R178). -/
def State.streams (s : State) : List Nat :=
  (s.tim.active.map fun k => (stackLayers s.regs k).filterMap s.layerStream).flatten

/-- Whether a signature of an active stream differs from its value at the previous frame start (R178). -/
def State.sigsMoved (s : State) : Bool := s.streams.any fun i => s.streamSig i != Tab.word s.tim.sigs i

/-- STILL (R178). [log 61] -/
def State.stillFrame (s : State) : State :=
  let moved := s.sigsMoved
  let ramp := (List.range 4).any fun k => s.fld (F.COR_Fk_GSTAT_STATE k) == 2
  let n := if moved || ramp || s.tim.commitSince then 0 else satAdd 255 (s.fld F.TIM_SSTAT_STILL) 1
  { s with tim := { s.tim with
    commitSince := false, sigs := (List.range 16).foldl (fun t i => Tab.setWord t i (s.streamSig i)) [] } }.setFld
    F.TIM_SSTAT_STILL n

/-- m (R179): its change starts the count of frames again. The frame in which a signature's change returns m_s to 1 is a
load frame even where m_t keeps m as it was. -/
def State.divider (s : State) (moved : Bool) : State :=
  let nstill := Nat.max 4 (s.fld F.TIM_SCTRL_NSTILL)
  let div := [2, 4, 8, 8].getD (s.fld F.TIM_SCTRL_DIV) 8
  let ms := if s.on F.TIM_SCTRL_EN && decide (nstill ≤ s.fld F.TIM_SSTAT_STILL) then div else 1
  let mt := s.throttleDiv
  let m := Nat.max ms mt
  let j := if m = s.tim.m then s.tim.mFrame + 1 else 0
  let returned := moved && decide (1 < s.tim.ms) && ms == 1
  let s := { s with tim := { s.tim with m := m, mFrame := j % m, ms := ms, skip := j % m != 0 && !returned } }
  let s := (s.setFld F.TIM_SSTAT_M (divCode m)).setOn F.TIM_SSTAT_THROTTLED (decide (ms < mt))
  let s := s.setFld F.THM_STAT_MT (divCode mt)
  if 1 < mt then s.setOn F.THM_STAT_DIVDROP true else s

/-! ## Timing set in force (R163, R174 to R177) -/

/-- Whether a set has another frame rate than the one in force. -/
def State.rateDiffers (s : State) (t : TimSet) : Bool := t.frNum * s.tset.frDen != s.tset.frNum * t.frDen

/-- Whether the change to a set is a relock change (R175). -/
def State.relockChange (s : State) (t : TimSet) : Bool :=
  !s.tim.set.isEmpty && (s.rateDiffers t || t.ratio s.nlines != s.tset.ratio s.nlines)

/-- The set that TSEL names is in force: a newly active feed is dark until its first load (R176). -/
def State.takeSet (s : State) : State :=
  let t := s.nextSet
  let fresh := t.feeds.filter fun k => !s.tim.active.contains k
  let shown := fresh.foldl (fun x k => Tab.setNum (Tab.setNum x (dieFeed 0 k) 0) (dieFeed 1 k) 0) s.tim.shown
  let s := { s with tim := { s.tim with set := t.words, active := t.feeds, shown := shown } }
  let s := s.setFld F.TIM_STAT_TSEL_ACT (s.fld F.TIM_CTRL_TSEL)
  (s.setFld F.TIM_DERIVED_ROWCLK (t.rowclk s.nlines)).setFld F.TIM_DERIVED_S (t.segments s.nlines)

/-- Every load in progress is abandoned and counts as late (R165). [log 60] -/
def State.allLate (s : State) : State := s.each (List.range 4) State.loadLate

/-- Every load in progress stops with the old pipeline (R72). [log 60] -/
def State.allDrop (s : State) : State :=
  let s := s.each (List.range 4) State.loadDrop
  { s with tim := { s.tim with due := [], skipped := [] } }

/-- CLK_ENG takes effect through the selectors (R364). -/
def State.clkEngFrame (s : State) : State :=
  let w := s.reg R.CLK_ENG
  if w = s.tim.clkEng then s
  else
    let code (die : Nat) : Nat := w.toNat / 2 ^ (8 * die) % 16
    (({ s with tim := { s.tim with clkEng := w } }).askClock 3 (code 0)).askClock 4 (code 1)

/-- A committed timing change takes effect at the frame start (R174 to R177): a relock begins, or the new set holds.
Deadlines of the frame that ends are judged by the feeds it had. [log 59] -/
def State.timingFrame (s : State) : State :=
  let t := s.nextSet
  let old := s.tim.active
  let relock := s.relockChange t
  let differs := s.rateDiffers t
  let scheme := (decide (old.length ≤ 2)) != (decide (t.feeds.length ≤ 2))
  let s := if t.words = s.tim.set ∧ s.fld F.TIM_STAT_TSEL_ACT = s.fld F.TIM_CTRL_TSEL then s else s.takeSet
  let s := s.stillFrame.divider s.sigsMoved
  let s := if relock ∨ scheme then s.allLate
    else if old.length ≤ 2 ∧ !(s.paced ∧ s.tim.skip) then s.each old State.loadLate else s
  -- a feed that is no longer active loads nothing
  let gone := old.filter fun k => !t.feeds.contains k
  let s := s.each gone fun s k => { s with tim := { s.tim with due := Tab.setOn s.tim.due k false } }.loadDrop k
  if relock then ((s.relockBegin).setBit F.CLK_STAT_LOCK 3 false).acquire differs else s

/-! ## Blanked starts: restructure, relock, bring-up (R72, R73, R177, R200, R464) -/

/-- The blank request and the clock gate of a restructure and a relock end together, when both are done (R73). -/
def State.release4 (s : State) : State :=
  if s.tim.relock = .none ∧ s.ldr.restruct = .none then
    ({ s with chn := { s.chn with gclkGate := false } }.setOn F.TIM_STAT_RELOCK false).blankOff 4
  else s

/-- Whether the full image that waits has another frame rate or another PLL_SCAN ratio than the set in force (R73, R175). -/
def State.imageRelocks (s : State) : Bool :=
  let secs := mergedSecs s.conf.secs s.ldr.secs false
  let r := loadWords s.regs (imageLoads s.ldr.secs secs false)
  let t := timSet r (regFld r F.TIM_CTRL_TSEL)
  s.rateDiffers t || t.ratio (Secs.nlines secs) != s.tset.ratio s.nlines

/-- A restructure begins (R72): the loads stop, the tile is blanked, APPLY writes. RELOCK is set from here on where the
image brings a relock with it (R73). [log 60, 61] -/
def State.restructBegin (s : State) : State :=
  let s := s.whenDo s.imageRelocks (·.setOn F.TIM_STAT_RELOCK true)
  ({ s with ldr := { s.ldr with restruct := .writing } }.allDrop.blankOn 4).ldrGo 6

/-- The steps that fall at this frame start. [log 61, 62] -/
def State.restructFrame (s : State) : State :=
  let relock : Relock := match s.tim.relock with
    | .locked => .loading
    | .loading => .none
    | r => r
  let s := { s with tim := { s.tim with relock := relock } }
  match s.ldr.restruct with
  | .waiting => if s.ldrState = 5 ∧ s.ldr.commit ≠ .arrived then s.restructBegin else s
  | .writing => if s.ldrState ≠ 6 ∧ s.mem.reconfig.isNone then
      { s with ldr := { s.ldr with restruct := .running } }
    else s
  | .running => ({ s with ldr := { s.ldr with restruct := .none } }).release4
  | .none => s.release4

/-- The first lit frame after a bring-up: the frame after the one in which row timing starts (R200, R464). -/
def State.lightFrame (s : State) : State :=
  if s.fld F.CHN_STAT_BLANK_SRC / 2 ^ 6 % 2 = 0 ∨ s.bringingUp then s
  else if s.chn.lightAt = 0 then { s with chn := { s.chn with lightAt := 1 } }
  else { s with chn := { s.chn with lightAt := 0, lit := true } }.blankOff 6

/-- Bank loads that fall due (R164): with one or two feeds at this frame start, with three or four at the ends of their
slots; `first` is the first frame of a set, which no slot has ended before. After a wake every feed's first load falls due
at the first frame start that loads (R375). -/
def State.dueFrame (s : State) (first : Bool) : State :=
  let all (s : State) : State := s.each s.tim.active fun s k =>
    if !s.mayLoad ∨ (Tab.opt s.pix.loads k).isSome then s else { s with tim := { s.tim with due := Tab.setOn s.tim.due k true } }
  if s.tim.active.length ≤ 2 then all { s with pwr := { s.pwr with firstLoads := s.pwr.firstLoads && !s.mayLoad } }
  else
    let s := if first then s else s.slotEvents 0
    if s.pwr.firstLoads && s.mayLoad then all { s with pwr := { s.pwr with firstLoads := false } } else s

/-! ## Other blocks -/

/-- The count registers of an isle (R229). -/
def State.coverIsle (s : State) (i : Nat) : State :=
  (((s.setFld (F.DIA_In_OBS_N i) (Tab.num s.diag.obs i)).setFld (F.DIA_In_DUE_N i) (Tab.num s.diag.due i)).setFld
    (F.DIA_In_SAT_N i) (Tab.num s.diag.sat i)).setFld (F.DIA_In_GLINT_N i) (Tab.num s.diag.glint i)

/-- Diagnosis at a frame start (R229, R230). -/
def State.diagFrame (s : State) : State :=
  { s.each (List.range 8) State.coverIsle with diag := ⟨s.reg R.DIA_CTRL, [], [], [], [], false, false, []⟩ }

/-- The straits whose dies return to scan (R30): what they showed before the failure is not shown again. -/
def State.straitFrame (s : State) : State :=
  s.each [0, 1] fun s die =>
    if Tab.on s.strait.expect die then
      let shown := (List.range 4).foldl (fun t k => Tab.setNum t (dieFeed die k) 0) s.tim.shown
      { s with strait := { s.strait with expect := Tab.setOn s.strait.expect die false },
               tim := { s.tim with shown := shown } }.blankOff (2 + die)
    else s

/-- One trigger of the converter, though frame start and row 0 name the same instant (R392). -/
def State.adcFrame (s : State) : State :=
  if s.adcEnabled 0 ∨ (s.adcEnabled 1 ∧ s.fld F.ADC_ROW_ROW = 0) then s.adcTrigger else s

/-- IDLE is left at a frame start (R371). -/
def State.idleLeave (s : State) : State :=
  if s.fld F.PWR_STAT_STATE = 1 ∧ s.pwr.phase = .steady ∧ s.pwr.leave then
    let s := { s with pwr := { s.pwr with leave := false, forced := false } }
    let s := s.each [7, 8, 9] fun s b => s.gated b false
    (s.setFld F.PWR_STAT_STATE 0).pwrUnblank
  else s

/-- The length of a relock (R177): 2 ms without a reference; with one the next frame start comes with an instant that may
not have come yet, within 1.02 × T_exp after that. [log 63] -/
def State.relockPeriod (s : State) : State × Nat :=
  let two := 2000000 * 2 ^ 24
  if s.refSelected then (s.usedFree, two + s.freeWord.toNat * (102 * s.expected / 100) / 2 ^ 32) else (s, two)

/-- The length of the frame that begins, in units of 2^-24 ns, as the manager fixes it (R166 to R169, R177, R318): the
relock, F without a reference, the measured rate in free-run, the reference period and the slew while it follows a
reference. [log 63, 92] -/
def State.framePeriod (s : State) : State × Nat :=
  if s.tim.relock = .locking then s.relockPeriod
  else if !s.refSelected then (s, s.expected)
  else if s.fld F.TIM_GSTAT_STATE ≠ 1 then
    let p := s.fld F.TIM_GPER_PERIOD
    (s, if p = 0 then s.expected else p * 40 * 2 ^ 24 / 16)
  else (s, ((s.refUnits : Int) + if s.on F.TIM_GSTAT_SLEWING then s.slewStep else 0).toNat)

/-- The slew ends at the frame start that finds the phase error below one GCLK period (R169). [log 63] -/
def State.slewFrame (s : State) : State :=
  if s.on F.TIM_GSTAT_SLEWING ∧ !s.phaseOpen then s.setOn F.TIM_GSTAT_SLEWING false else s

/-- The frame that begins closes part of the phase error (R169). -/
def State.slewMove (s : State) : State :=
  if s.fld F.TIM_GSTAT_STATE = 1 ∧ s.on F.TIM_GSTAT_SLEWING then
    { s with tim := { s.tim with phase := s.tim.phase + s.slewStep } }
  else s

/-- FSYNC of the manager (R318). -/
def State.syncFrame (s : State) : State :=
  let (s, p) := { s with tim := { s.tim with frameAt := s.spn.clock } }.framePeriod
  (s.fsyncSend ((s.spn.clock + p) / 2 ^ 24 % 2 ^ 64) ((s.fld F.TIM_FRAME_COUNT + 1) % 2 ^ 32)).slewMove

/-- Whether frames run: PLL_SCAN runs locked or coasts, and no relock waits for it. -/
def State.framesRun (s : State) : Bool :=
  s.tim.running && (s.locked 3 || Tab.on s.clk.coast 3) && s.tim.relock != .locking && !s.isGated 12 &&
  !s.on F.THM_STAT_SHUT

/-- FRAME_START. [log 64, 119] -/
def State.frameStart (s : State) : State :=
  if !s.framesRun then s
  else
    let first := s.fld F.TIM_FRAME_COUNT == 0 || s.tim.relock == .locked || s.ldr.restruct == .writing
    let s := s.setFld F.TIM_FRAME_COUNT ((s.fld F.TIM_FRAME_COUNT + 1) % 2 ^ 32)
    let s := s.setOn F.TIM_STAT_WINDOW false
    let s := { s with tim := { s.tim with winClosed := false } }
    let s := s.each s.tim.active State.guardFrame
    let s := s.timingFrame.clkEngFrame
    let s := s.restructFrame.lightFrame.straitFrame.idleLeave
    let s := s.dueFrame first
    let s := if s.isGated 9 then s else s.zoneFrame.diagFrame.headroomFrame
    let s := s.adcFrame.claspFrameStart.slewFrame
    let s := s.each s.chains fun s p => s.setPort p { s.port p with row := none }
    let s := { s with tim := { s.tim with front := s.tim.shown } }
    s.syncFrame

/-- FRAME_START. -/
def execFrameStart (s : State) : Host.Outcome State Fault Refusal := effect (·.frameStart) s

end Sys2Proof.Machine
end

