-- ==== Sys2Proof/Machine/Apply.lean ====
section
/-! DEFINITION. Commits, commit windows and APPLY (R52, R54 to R59, R70 to R73, R105, R118 to R120, R160, R171 to R175,
R200, R210, R214, R219, R242, R244, R313, R343, R376, R443). -/

namespace Sys2Proof.Machine

/-! ## What a change of the active registers brings with it -/

/-- A STEP takes effect (R90): CLAMP and its event once for a new value that the limit made. -/
def State.putStep (s : State) (n : Nat) (f : Fld) (raw v : Nat) : State :=
  if s.fld f = v then s
  else
    let s := s.setFld f v
    if raw = v then s else (s.setOn (F.LAY_x_STAT_CLAMP n) true).raise 79 n

/-- HSTEP and VSTEP of the video layers (R90): a new value takes effect, sets CLAMP and raises its event when the commit or
the image that brings it is applied, not at the first bank load after it. [log 142] -/
def State.scaleSteps (s : State) : State :=
  let cs := Secs.ctxs s.conf.secs
  s.each (List.range 4) fun s n =>
    let has (kind : Nat) : Bool := cs.any fun x => x.kind == kind && x.layer == n
    let raw (kind a b : Nat) : Nat := if has kind then rawStep a b else 0x100000
    let one (kind a b : Nat) : Nat := if has kind then stepOf a b else 0x100000
    let r := s.regs
    let s := s.putStep n (F.LAY_x_HSTEP_STEP n) (raw 0 (srcW r n) (dstW r n)) (one 0 (srcW r n) (dstW r n))
    s.putStep n (F.LAY_x_VSTEP_STEP n) (raw 1 (srcH r n) (dstH r n)) (one 1 (srcH r n) (dstH r n))

/-- A flag that has risen since some registers `old`. -/
def State.rises (s : State) (old : Tab Word) (f : Fld) : Bool := regFld old f == 0 && s.on f

/-- What follows from new values of the active registers (R79, R84, R90, R111, R145, R147, R149, R214, R280, R295). -/
def State.regsChanged (s : State) (old : Tab Word) : State :=
  let s := s.each (List.range 8) fun s m => if s.rises old (F.LAY_Wm_CTRL_EN m) then s.slotEnabled m else s
  let s := s.each (List.range 4) fun s k =>
    if s.rises old (F.LAY_Fk_WBCTRL_EN k) then { s with pix := { s.pix with held := Tab.setOn s.pix.held k false } } else s
  let mode (k : Nat) : Nat := regFld old (F.COR_Fk_GCTRL_MODE k)
  let s := s.each (below 4 fun k => mode k != s.fld (F.COR_Fk_GCTRL_MODE k)) fun s k => s.guardModeSet k (mode k)
  let code (r : Tab Word) (c : Nat) : Nat := bits (8 * c + 7) (8 * c) (Tab.get resetWord r R.CHN_CUR).toNat
  let moved := (List.range 3).filter fun c => code old c != code s.regs c
  let s := s.each s.chains fun s p => s.queueFrames p (moved.map s.curFrame)
  s.scaleSteps.linkCheckAll

/-- CFG_OCC_MAX of the running configuration (R59). -/
def State.occShow (s : State) (v : Nat) : State := s.setReg R.CFG_OCC_MAX (BitVec.ofNat 32 v)

/-! ## Commits (R54, R70 to R73, R105, R172, R173) -/

/-- COMMIT reads 0 again. -/
def State.commitEnd (s : State) : State :=
  let s := { s with ldr := { s.ldr with commit := .idle, snap := [] } }
  ((s.setOn F.TIM_COMMIT_COMMIT false).setOn F.TIM_COMMIT_PENDING false).cfgPending

/-- A commit is applied (R173): the snapshot's shadowed fields, the dirty tables. -/
def State.commitApply (s : State) : State :=
  let old := s.regs
  let s := { s with regs := withShadows s.regs s.ldr.snap }
  let s := (s.commitEnd.swapTables).regsChanged old
  if s.active then
    ({ s with tim := { s.tim with commitSince := true } }).occShow (occMax (s.candidate s.conf.secs s.regs))
  else s

/-- A commit arrives (R71, R173). -/
def State.commitArrive (s : State) : State :=
  if !s.active ∨ s.on F.TIM_STAT_WINDOW then s.commitApply
  else
    let s := ({ s with ldr := { s.ldr with commit := .arrived } }.setOn F.TIM_COMMIT_PENDING true).cfgPending
    if s.tim.winClosed then (s.setOn F.TIM_STAT_COMMIT_LATE true).raise 102 (s.fld F.TIM_FRAME_COUNT) else s

/-- A commit proceeds (R54, R70, R71): the snapshot is taken; a changed admitted register asks for admission, which
pauses a load. -/
def State.commitGo (s : State) : State :=
  let s := { s with ldr := { s.ldr with snap := s.shad } }
  if s.active && changesAdmitted s.regs s.shad then
    { s with ldr := { s.ldr with commit := .admitting, paused := decide (1 ≤ s.ldrState) && decide (s.ldrState ≤ 3) } }
  else s.commitArrive

/-- A commit refused because an image waits (R54, R69). -/
def State.commitRefuse (s : State) (reason item : Nat) : State := (s.refuse 1 reason item).commitEnd

/-- A write of 1 to COMMIT (R54, R172, R386). [log 70] -/
def State.commit (s : State) : State :=
  if s.on F.THM_STAT_SHUT then s
  else if s.on F.TIM_COMMIT_COMMIT then s.incSat F.TIM_COMMIT_IGNORED
  else
    let s := s.setOn F.TIM_COMMIT_COMMIT true
    if 5 ≤ s.ldrState then s.commitRefuse 0x33 0
    else if s.ldrState = 4 then { s with ldr := { s.ldr with commit := .held } }
    else s.commitGo

/-- COMMIT. -/
def execCommit (s : State) : Host.Outcome State Fault Refusal := effect (·.commit) s

/-- A commit that an image's admission held goes on (R54). -/
def State.commitResume (s : State) : State :=
  if s.ldr.commit = .held then (if 5 ≤ s.ldrState then s.commitRefuse 0x33 0 else s.commitGo) else s

/-- The admission of the image ends (R52): WAIT, or IDLE after a dry run; with no configuration running, a full image
goes on to APPLY at once. A restructure that no frame start can begin, after a wake that failed (R376), begins at once,
with its blank (R72). [log 69] -/
def State.imageAdmitted (s : State) : State :=
  match s.imageFinding with
  | some (r, i) => s.loadRefuse r i
  | none =>
    let s := s.setAdmit (if s.ldr.dry then 2 else 0) 0 0
    if s.ldr.dry then s.ldrGo 0
    else
      let p := isPartial s.ldr.img
      let s := { s with ldr := { s.ldr with occ := occMax s.imageCandidate, partialWait := p } }
      if !s.active then s.ldrGo 6
      else if p then (if s.on F.TIM_STAT_WINDOW then s.ldrGo 6 else s.ldrGo 5)
      else if s.framesRun then { s with ldr := { s.ldr with restruct := .waiting } }.ldrGo 5
      else s.restructBegin

/-- ADMISSION_DONE: of the commit under admission, else of the image in ADMIT (R54, R58, R60, R70, R71); the loader does
nothing while it is gated (R370) or its clock stands (R363). -/
def State.admissionDone (s : State) : State :=
  if s.isGated 10 ∨ !s.hubRuns then s
  else if s.ldr.commit = .admitting then
    let s := match admission (s.candidate s.conf.secs (withShadows s.regs s.ldr.snap)) with
      | some (r, i) => s.commitRefuse r i
      | none => (s.setAdmit 1 0 0).commitArrive
    { s with ldr := { s.ldr with paused := false } }
  else if s.ldrState = 4 then s.imageAdmitted.cfgPending.commitResume
  else s

/-- ADMISSION_DONE. -/
def execAdmissionDone (s : State) : Host.Outcome State Fault Refusal := effect (·.admissionDone) s

/-- ABORT (R52, R56): in FETCH to ADMIT the load is refused with 0x07; a commit it held goes on. A flash transfer of the
load that has started is not interrupted (R447): it runs to its end and its bytes are dropped. [log 68] -/
def State.abort (s : State) : State :=
  if 1 ≤ s.ldrState ∧ s.ldrState ≤ 4 then
    let s := { s with flash := { s.flash with
      running := if s.flash.running = some FlashJob.fetch then some FlashJob.dropped else s.flash.running,
      waiting := s.flash.waiting.filter fun j => decide (j ≠ FlashJob.fetch) } }
    (s.loadRefuse 7 0).commitResume
  else s

/-- ABORT. -/
def execAbort (s : State) : Host.Outcome State Fault Refusal := effect (·.abort) s

/-- COMMIT_WINDOW_OPEN (R171, R173): a commit that has arrived is applied, then a partial image (R55, R72). -/
def State.windowOpen (s : State) : State :=
  if !s.framesRun ∨ s.on F.TIM_STAT_WINDOW ∨ s.tim.winClosed then s
  else
    let s := { s with mem := { s.mem with recalMade := false } }.setOn F.TIM_STAT_WINDOW true
    let s := if s.ldr.commit = .arrived then s.commitApply else s
    -- R406: a deferred recalibration starts with a window
    let s := s.calDeferred
    if s.ldrState = 5 ∧ s.ldr.partialWait then s.ldrGo 6 else s

/-- COMMIT_WINDOW_OPEN. -/
def execCommitWindowOpen (s : State) : Host.Outcome State Fault Refusal := effect (·.windowOpen) s

/-- COMMIT_WINDOW_CLOSE (R171). -/
def State.windowClose (s : State) : State :=
  if s.framesRun then { s with tim := { s.tim with winClosed := true } }.setOn F.TIM_STAT_WINDOW false else s

/-- COMMIT_WINDOW_CLOSE. -/
def execCommitWindowClose (s : State) : Host.Outcome State Fault Refusal := effect (·.windowClose) s

/-! ## APPLY (R52) -/

/-- The words of the LUTCOEF records, with their addresses (R120); fuel is the length. -/
def lutWords : Nat → List Byte → List (Nat × Word)
  | 0, _ => []
  | fuel + 1, b =>
    if b.isEmpty then []
    else
      let off := leAt b 0 4
      let len := leAt b 4 4
      let pad := (8 - len % 8) % 8
      ((List.range (len / 4)).map fun i => (0x200000 + off + 4 * i, BitVec.ofNat 32 (leAt b (8 + 4 * i) 4))) ++
        lutWords fuel (b.drop (8 + len + pad))

/-- A word of LUTCOEF (R120): front and back of a table entry, a locket bank from LB3 on, or nothing. -/
def State.lutWrite (s : State) (a : Nat) (w : Word) : State :=
  match tableWord a with
  | some (t, mask) =>
    { s with tabs := { s.tabs with
      front := Tab.setWord s.tabs.front a (w &&& mask), back := Tab.setWord s.tabs.back a (w &&& mask),
      rewrite := if inBeads t then Tab.setOn s.tabs.rewrite t true else s.tabs.rewrite } }
  | none => if 0x330000 ≤ a ∧ a < 0x400000 then s.setLocket a w else s

/-- The LUTCOEF section (R120). -/
def State.lutApply (s : State) (b : List Byte) : State :=
  (if s.tabs.copying.isEmpty then s else s.tableCopyDone).each (lutWords b.length b) fun s x => s.lutWrite x.1 x.2

/-- The CHAIN section (R210, R214, R215). -/
def State.chainApply (s : State) (b : List Byte) : State :=
  let s := (s.setFld F.CHN_DCLK_RATE_E0 (byteOf b 0)).setFld F.CHN_DCLK_RATE_E1 (byteOf b 1)
  let cur := BitVec.ofNat 32 (leAt b 2 3)
  let s := (s.setReg R.CHN_CUR cur).setShad R.CHN_CUR cur
  s.each (List.range 64) fun s p =>
    let o := 16 + 8 * p
    let x := byteOf b (o + 2)
    s.setReg (R.CHN_Cnn_CFG p) (BitVec.ofNat 32
      (x / 8 % 8 * 2 ^ 19 + x % 8 * 2 ^ 16 + byteOf b (o + 1) * 2 ^ 8 + x / 64 % 2 * 2 ^ 6 + byteOf b o))

/-- Whether a DRAM section differs from the configuration in force (R244): rate, order, positions and spare. [log 65] -/
def State.dramDiffers (s : State) (d : List Byte) : Bool :=
  let pos := sumN ((List.range 4).map fun i => byteOf d (4 + i) % 8 * 16 ^ i)
  let sp := byteOf d 8
  byteOf d 0 != s.fld F.MEM_CFG_RATE || byteOf d 3 != s.fld F.MEM_CFG_ORDER || pos != s.fld F.MEM_CFG_POS ||
  decide (128 ≤ sp) != s.on F.MEM_STAT_SPARE_VALID || (decide (128 ≤ sp) && sp % 4 != s.fld F.MEM_STAT_SPARE)

/-- The DRAM section at APPLY (R242, R244). -/
def State.dramApply (s : State) (d : List Byte) : State :=
  let s := s.each [0, 1] fun s c => (s.setFld (F.MEM_Mc_WB_HWM c) (byteOf d 10)).setFld (F.MEM_Mc_WB_LWM c) (byteOf d 11)
  let s := (s.setFld F.MEM_ECC_CE_LIM (leAt d 16 2)).setFld F.MEM_ECC_CE_WIN (leAt d 18 2)
  let s := (s.setFld F.MEM_HR_CFG_THRESH (leAt d 20 2)).setFld F.MEM_HR_CFG_INTERVAL (leAt d 22 2)
  let s := (s.setOn F.MEM_SPARE_CTRL_AUTO (byteOf d 24 % 2 == 1)).setFld F.MEM_SPARE_CTRL_MIG_GAP (byteOf d 25)
  let s := (s.setOn F.MEM_SCRUB_EN (byteOf d 24 / 2 % 2 == 1)).setFld F.MEM_SCRUB_PERIOD (leAt d 26 2)
  if s.dramDiffers d then { s with mem := { s.mem with reconfig := some d } } else s

/-- What APPLY does in the DRAM, once the controllers have taken up the section (R136, R219, R244). [log 66] -/
def State.applyDram (s : State) : State := s.ageClear.zoneApply

/-- LB1 and LB2 take the structural sections (R378); how they lie there is not stated, so their words are free values
(log entry 13). -/
def State.lockSections (s : State) : State := (s.lockLose 1 false).lockLose 2 false

/-- Everything that a bank load, a feed or the loop of a frame has kept starts again (R72, R153, R163, R178, R184); the
writeback of a feed starts again with it: LAST and SENDING are 3 and a hold of R111 ends. [log 130, 143] -/
def State.feedsReset (s : State) : State :=
  let s := s.allDrop
  -- captures in progress are abandoned (R411)
  let s := s.each (List.range 4) fun s k => s.whenDo (Tab.opt s.pix.capture k).isSome (·.snoopBoundary (8 + k))
  let s := { s with
    pix := { s.pix with phase := [], capture := [], monitor := [], monDue := [], monSeq := [], held := [], beadPtr := [] },
    tim := { s.tim with shown := [], front := [], active := [], sigHist := [], inHist := [], fzRaised := [], m := 1,
                        mFrame := 0, skip := false, commitSince := true },
    cor := { s.cor with
      means := [], prev := [], sumsIn := [], window := [], lastLum := [], attNext := [], decide := [], waiting := [],
      judged := [] },
    chn := { s.chn with lightAt := 0 } }
  let s := (s.setFld F.TIM_FRAME_COUNT 0).setReg R.TIM_FZSTAT 0
  let s := s.each (List.range 4) fun s k =>
    let s := ((s.setFld (F.COR_Fk_GSTAT_NL k) 0).setFld (F.COR_Fk_GSTAT_NR k) 0).setFld (F.COR_Fk_GSTAT_STATE k) 0
    ((s.setFld (F.LAY_Fk_WBSTAT_LAST k) 3).setFld (F.LAY_Fk_WBSTAT_SENDING k) 3).setFld (F.COR_Fk_GATT_ATT k) 0x10000
  s.each (List.range 8) State.slotEnabled

/-- A full image that ends a failed wake restarts what the wake did not (R376). [log 69] -/
def State.applyAfterWake (s : State) : State :=
  if s.pwr.failed then
    let s := { s with pwr := { s.pwr with failed := false } }
    let s := s.each [1, 3, 4, 5] fun s l => if s.locked l then s else s.pllStart l
    let s := s.each (below 17 fun b => s.isGated b && (decide (6 ≤ b) || s.fld F.CLK_GATE_GATE / 2 ^ b % 2 == 0)) State.blockStarts
    s.blankOff 5
  else s

/-- The sections and register words of an image (R118, R120, R160, R443). -/
def State.writeImage (s : State) : State :=
  let p := isPartial s.ldr.img
  let new := s.ldr.secs
  let merged := mergedSecs s.conf.secs new p
  let l := imageLoads new merged p
  let s := { s with regs := loadWords s.regs l, shad := loadWords s.shad l, conf := { s.conf with secs := merged } }
  s.lutApply (Secs.get new 3 0)

/-- The timing of a full image (R73, R160, R167, R168): with frames running, a change of M or F is a relock. [log 59, 61] -/
def State.applyTiming (s : State) (wasActive differs : Bool) (oldM : Nat) : State :=
  let s := s.takeSet
  let s := { s with tim := { s.tim with running := true } }
  let m := s.tset.ratio s.nlines
  let s := if !wasActive then (s.setBit F.CLK_STAT_LOCK 3 false).pllStart 3
    else if differs ∨ m ≠ oldM then
      (if s.tim.relock = .none then s.relockBegin else { s with tim := { s.tim with relock := .locking } }).setBit
        F.CLK_STAT_LOCK 3 false
    else s
  s.acquire (!wasActive || differs)

/-- A full image (R52, R72). -/
def State.applyFull (s : State) : State :=
  let was := s.active
  let old := s.regs
  let rate := s.tset
  let oldM := s.tset.ratio s.nlines
  let s := s.writeImage.feedsReset
  let secs := s.conf.secs
  let s := (s.chainApply (Secs.get secs 7 0)).dramApply (Secs.get secs 8 0)
  let s := s.setOn F.CFG_STATUS_ACTIVE true
  let t := s.nextSet
  let differs := t.frNum * rate.frDen != rate.frNum * t.frDen
  let s := s.applyTiming was differs oldM
  let s := (s.regsChanged old).roleApply.claspApply.lockSections
  let s := if s.mem.reconfig.isNone then s.applyDram else s
  (s.bringUpAsk (!was)).applyAfterWake

/-- A partial image, like a commit (R72): it leaves NONE and the latest buffers of the slots as they are. [log 67, 144] -/
def State.applyPartial (s : State) : State :=
  let old := s.regs
  let s := s.writeImage.regsChanged old
  { s with tim := { s.tim with commitSince := true } }

/-- APPLY: the image is written; the loader returns to IDLE. [log 67] -/
def State.applyImage (s : State) : State :=
  if s.ldrState ≠ 6 ∨ s.isGated 10 ∨ !s.hubRuns then s
  else
    let img := s.ldr.img
    let occ := s.ldr.occ
    let src := s.ldr.src
    let s := if isPartial img then s.applyPartial else s.applyFull
    let s := ((s.occShow occ).setReg R.CFG_IMG (BitVec.ofNat 32 (leAt img 16 4))).setFld F.CFG_STATUS_LAST_SRC src
    ((s.ldrGo 0).cfgPending).raise 21 (leAt img 16 4)

/-- The boot load of start-up step 7 (R51): flash primary with BOOTSRC 0b00 and 0b11, else none; a loader that is busy
refuses it (R53). -/
def State.bootLoad (s : State) : State :=
  if s.ldr.bootSrc = 1 ∨ s.ldr.bootSrc = 2 then s
  else if s.ldrState = 0 then s.loadBegin 1 true else s.raise 22 1

/-- APPLY. -/
def execApply (s : State) : Host.Outcome State Fault Refusal := effect (·.applyImage) s

/-- Ranks that failed the retraining (R244, R403): they are no longer trained, and a spare among them is none. Where a
mapped rank is among them the flat space does not exist, as after a failed start-up training (R241). [log 145] -/
def State.retrainFails (s : State) (bad : List Nat) : State :=
  let trained := sumN ((List.range 4).map fun r => b2n (s.fld F.MEM_STAT_TRAINED / 2 ^ r % 2 == 1 && !bad.contains r) * 2 ^ r)
  let mapped := bad.any s.inService
  let s := s.setFld F.MEM_STAT_TRAINED trained
  let s := s.whenDo (bad.contains (s.fld F.MEM_STAT_SPARE)) (·.setOn F.MEM_STAT_SPARE_VALID false)
  s.whenDo mapped fun s => (s.setFld F.MEM_STAT_INSVC 0).raise 60 trained

/-- MEM_RECONFIG_DONE (R244): the controllers have taken up the DRAM section; what APPLY writes into the DRAM follows, and
at start-up the bring-up of the chains (R464). -/
def State.memReconfigDone (s : State) : State :=
  match s.mem.reconfig with
  | none => s
  | some d =>
    let bad := below 4 s.rankBad
    let s := (((s.dramReconfigured d).retrainFails bad).trainingEnds).writerTakeAll
    (if s.active then s.applyDram else s).bringUpDue

/-- MEM_RECONFIG_DONE. -/
def execMemReconfigDone (s : State) : Host.Outcome State Fault Refusal := effect (·.memReconfigDone) s

/-- DRAM_TRAINING_DONE (R241, R464): once, after PLL_HUB, PLL_MEM and PLL_SER have locked: what the controllers found,
without ranks that failed three pairs; then a section from before a DEEP is taken up again (R266), and the boot load starts
(R51). After a failed training the start-up stops. -/
def State.dramTrainingDone (s : State) (ranks : List RankFound) : State :=
  if s.mem.trained ∨ !([0, 1, 2].all s.locked) then s
  else
    let s := { s with mem := { s.mem with trained := true } }
    let found := (List.zip ranks (List.range 4)).map fun x =>
      if s.rankBad x.2 then { x.1 with trained := false } else x.1
    let (s, good) := s.dramTrained found
    let s := s.trainingEnds
    let d := Secs.get s.conf.secs 8 0
    if !good then s
    else
      (if d.isEmpty then s else s.dramApply d).bootLoad

/-- DRAM_TRAINING_DONE. -/
def execDramTrainingDone (r0 r1 r2 r3 : RankFound) (s : State) : Host.Outcome State Fault Refusal :=
  effect (·.dramTrainingDone [r0, r1, r2, r3]) s

end Sys2Proof.Machine
end

