-- ==== Sys2Proof/Machine/Log.lean ====
section
/-! DEFINITION. The event log in LB0 (R425 to R428). -/

namespace Sys2Proof.Machine

/-- The control word at LB0 offset 0x4000 mirrors WPTR, WRAPPED and SEQ (R426). -/
def State.logControl (s : State) : State :=
  s.setLocket 0x304000 (BitVec.ofNat 32
    (s.fld F.LOG_STAT_WPTR + 2 ^ 10 * s.fld F.LOG_STAT_WRAPPED + 2 ^ 16 * s.fld F.LOG_SEQ_SEQ))

/-- The four words of an entry in LB0 (R425). -/
def State.logStore (s : State) (e : LogEntry) : State :=
  let a := 0x300000 + 16 * s.fld F.LOG_STAT_WPTR
  let t := e.time.toNat
  let info := e.info.toNat % 2 ^ 16 + 2 ^ 16 * s.fld F.LOG_SEQ_SEQ
  (((s.setLocket a (BitVec.ofNat 32 t)).setLocket (a + 4) (BitVec.ofNat 32 (t / 2 ^ 32))).setLocket (a + 8) e.data).setLocket
    (a + 12) (BitVec.ofNat 32 info)

/-- An entry is written at WPTR, or discarded where a full log stops (R426). -/
def State.logAppend (s : State) (e : LogEntry) : State :=
  if s.on F.LOG_STAT_WRAPPED && s.on F.LOG_CTRL_STOP then
    let first := !s.log.fullRaised
    let s := { s with log := { s.log with fullRaised := true } }.incSat F.LOG_STAT_DROP
    if first then s.raise 162 0 else s
  else
    let w := s.fld F.LOG_STAT_WPTR
    let s := s.logStore e
    -- the log fills: the next entry that is discarded is the first since then (R426)
    let s := if w = 1023 ∧ !s.on F.LOG_STAT_WRAPPED then
      { s.setOn F.LOG_STAT_WRAPPED true with log := { s.log with fullRaised := false } } else s
    ((s.setFld F.LOG_STAT_WPTR ((w + 1) % 1024)).setFld F.LOG_SEQ_SEQ ((s.fld F.LOG_SEQ_SEQ + 1) % 65536)).logControl

/-- The staging queue as LOG_STAT shows it. -/
def State.logShow (s : State) : State :=
  (s.setOn F.LOG_STAT_STAGING s.pwr.lockLog).setFld F.LOG_STAT_STAGED s.log.staged.length

/-- Whether an entry would be made now (R426 to R428). -/
def State.logTakes (s : State) : Bool :=
  s.on F.LOG_CTRL_EN &&
    (if s.pwr.lockLog then decide (s.log.staged.length < 32) else !(s.on F.LOG_STAT_WRAPPED && s.on F.LOG_CTRL_STOP))

/-- A LOG reaction (R419, R426, R427): into LB0, or into the staging queue of 32 while LB0 is not usable. -/
def State.logEntry (s : State) (e : LogEntry) : State :=
  if !s.on F.LOG_CTRL_EN then s
  else if s.pwr.lockLog then
    if s.log.staged.length < 32 then ({ s with log := { s.log with staged := s.log.staged ++ [e] } }).logShow
    else s.incSat F.LOG_STAT_DROP
  else s.logAppend e

/-- Entries go to the staging queue from here on (R427). [log 50] -/
def State.logLock (s : State) : State := ({ s with pwr := { s.pwr with lockLog := true } }).logShow

/-- LB0 is usable again (R427): pointers from the control word, then the staged entries in order. -/
def State.logResume (s : State) : State :=
  if s.pwr.lockLog then
    let c := (s.locketWord 0x304000).toNat
    let l := s.log.staged
    let s := { s with pwr := { s.pwr with lockLog := false }, log := { s.log with staged := [] } }
    let s := ((s.setFld F.LOG_STAT_WPTR (bits 9 0 c)).setFld F.LOG_STAT_WRAPPED (bits 10 10 c)).setFld F.LOG_SEQ_SEQ (bits 31 16 c)
    (s.each l State.logAppend).logShow
  else s

/-- LOG_CLEAR: every entry zero, WPTR 0, WRAPPED clear; SEQ goes on (R426). [log 50] -/
def State.logClear (s : State) : State :=
  let seq := s.fld F.LOG_SEQ_SEQ
  let s := { s.lockLose 0 true with log := { s.log with fullRaised := false } }
  let s := ((s.setFld F.LOG_STAT_WPTR 0).setFld F.LOG_STAT_WRAPPED 0).setFld F.LOG_SEQ_SEQ seq
  s.logControl

/-- LOG_CLEAR. -/
def execLogClear (s : State) : Host.Outcome State Fault Refusal := effect (·.logClear) s

end Sys2Proof.Machine
end

