-- ==== Sys2Proof/Machine/Power.lean ====
section
/-! DEFINITION. Power states (R370 to R382), the start and loss of clocks as they act on them (R361 to R363, R373), and
the die diodes (R383 to R386, R405). -/

namespace Sys2Proof.Machine

/-! ## Locket banks (R378 to R381, R414, R427) -/

/-- Whether a bank is retained (R378): LB1 and LB2 always are. -/
def State.retained (s : State) (n : Nat) : Bool := n == 1 || n == 2 || s.on (F.PWR_LBn_RETAIN n)

/-- Where a bank is restored from (R379): 1 DRAM, 2 flash, else nowhere. -/
def State.lockSource (s : State) (n : Nat) : Nat := if n = 1 ∨ n = 2 then 1 else s.fld (F.PWR_LBn_SHADOW n)

/-- The flat address, or flash address, of a bank's shadow. -/
def State.lockShadow (s : State) (n : Nat) : Nat := baseBytes (s.fld (F.PWR_LBn_BASE n))

/-- The CRC of a bank: CRC-32C of n as a 32-bit tag and its 65,536 bytes (R380). [log 49] -/
def State.lockCrc (s : State) (n : Nat) : Word := crc32c (leBytes 4 n ++ s.lockBytes n)

/-- The power controller takes CHK7 or gives it back; a START that waited runs then (R414). [log 49] -/
def State.chkPower (s : State) (on : Bool) : State :=
  let s := s.setOn (F.CHKn_STAT_PWR 7) on
  if !on ∧ s.chk.held then { s with chk := { s.chk with held := false } }.chkStart 7 else s

/-- The locket banks at an entry (R372 step 2): shadows in DRAM, CRCs by CHK7; from then on LB0 takes no entry. -/
def State.lockEntry (s : State) : State :=
  let s := s.each ((below 16 s.retained).filter fun n => s.lockSource n == 1) fun s n =>
    s.writeFlat 30 (s.lockShadow n) (s.lockBytes n)
  let s := (s.chkPower true).logLock
  s.each (below 16 s.retained) fun s n => s.setReg (R.PWR_LBCRCn n) (s.lockCrc n)

/-- The banks that are not retained lose their contents (R370, R379). -/
def State.lockPowerOff (s : State) : State :=
  s.each (below 16 fun n => !s.retained n) fun s n => s.lockLose n false

/-- A bank that failed the check (R381). -/
def State.bankFails (s : State) (n : Nat) : State :=
  let s := { s with pwr := { s.pwr with lostBanks := Tab.setOn s.pwr.lostBanks n true } }
  ((s.setOn (F.PWR_LBn_LOST n) true).raise 15 n).lockLose n false

/-- The locket bank check at a wake (R381); `lost` names banks whose contents did not last. The log goes on once LB0
is usable; without LB0 it starts empty (R427). [log 48] -/
def State.bankCheck (s : State) (lost : Nat) : State :=
  let bad := (below 16 s.retained).filter fun n => lost / 2 ^ n % 2 == 1 || s.lockCrc n != s.reg (R.PWR_LBCRCn n)
  let s := s.each bad State.bankFails
  let s := s.chkPower false
  if !s.retained 0 then (s.lockLose 0 true).logResume
  else if bad.contains 0 then s else s.logResume

/-- LB0 is lost with no readable source: the log starts empty (R427). -/
def State.lockEmpty (s : State) : State :=
  (({ s with pwr := { s.pwr with lostBanks := Tab.setOn s.pwr.lostBanks 0 false } }).lockLose 0 true).logResume

/-- LB0 can be used again where no bank check comes (R373, R386, R427). -/
def State.lockUsable (s : State) : State :=
  if s.pwr.lockLog then
    if Tab.on s.pwr.lostBanks 0 ∨ (s.fld F.PWR_STAT_STATE = 2 ∧ !s.retained 0) then s.lockEmpty else s.logResume
  else s

/-- A wake ends in failure (R376). -/
def State.wakeFails (s : State) (step : Nat) : State :=
  let s := { s with pwr := { s.pwr with phase := .steady, todo := [], retries := 0, failed := true } }
  let s := ((s.setOn F.PWR_STAT_WAKEFAIL true).setFld F.PWR_STAT_FAILSTEP step).setFld F.PWR_STAT_STATE 0
  let s := ((s.setOn F.PWR_STAT_BUSY false).raise 14 step).blankOn 5
  -- LB0 that flash is to restore stays unusable until then
  if (s.flash.running.toList ++ s.flash.waiting).contains (.locket 0) then s else s.lockUsable

/-- The restoring of a lost bank has ended (R381): its bytes, or none where its source cannot be read. [log 48] -/
def State.bankRestored (s : State) (n : Nat) (data : Option (List Byte)) : State :=
  let s := { s with pwr := { s.pwr with lostBanks := Tab.setOn s.pwr.lostBanks n false } }
  let s := s.lockLose n true
  let s := match data with
    | none => s
    | some b => s.each (List.range 16384) fun s i => s.setLocket (lockBase n + 4 * i) (BitVec.ofNat 32 (leAt b (4 * i) 4))
  let s := if n = 0 then s.logResume else s
  if data.isNone ∧ (n = 1 ∨ n = 2) then s.wakeFails 7 else s

/-- A lost bank is restored (R379, R381): from DRAM at once, from flash through the master; `dram` is clear in a wake
from DEEP (R377). -/
def State.bankRestore (s : State) (dram : Bool) (n : Nat) : State :=
  match s.lockSource n with
  | 1 =>
    if !dram then s.bankRestored n none
    else
      let a := s.lockShadow n
      -- Q30 is not served at once: the ready check of the step tries again
      if !s.engineReady 30 a 65536 then s
      else
        let (s, ds) := s.readLines 30 a 65536
        s.bankRestored n (if spanBad ds then none else some (spanBytes ds a 65536))
  | 2 => s.flashAsk (.locket n)
  | _ => s.bankRestored n none

/-- The lost banks with a shadow in DRAM, which step 7 restores; one that Q30 did not serve at once is tried again (R376). -/
def State.banksAgain (s : State) : State :=
  if s.pwr.step = 7 ∧ s.pwr.phase = .waking then
    s.each (below 16 fun n => Tab.on s.pwr.lostBanks n && s.lockSource n == 1) fun s n => s.bankRestore true n
  else s

/-- Every lost bank. -/
def State.banksRestore (s : State) (dram : Bool) : State :=
  s.each (below 16 (Tab.on s.pwr.lostBanks)) fun s n => s.bankRestore dram n

/-! ## Restart and abort (R373, R375) -/

/-- The blocks that a step of the wake table restarts. -/
def stepBlocks (n : Nat) : List Nat :=
  match n with
  | 2 => [15, 16]
  | 3 => [13]
  | 4 => [14]
  | 8 => [0, 1, 2, 3, 4, 5, 6, 10, 12]
  | 9 => [11]
  | 10 => [7, 8, 9]
  | _ => []

/-- Whether a block stands still for a power state, and not by its software gate (R367). -/
def State.powerStopped (s : State) (b : Nat) : Bool :=
  s.isGated b && (decide (6 ≤ b) || s.fld F.CLK_GATE_GATE / 2 ^ b % 2 == 0)

/-- The steps that a restart after an abort runs (R373): those one of whose blocks had stopped, and step 10. [log 47] -/
def State.restartSteps (s : State) : List Nat :=
  (List.range 11).filter fun n =>
    match n with
    | 0 => false
    | 1 => !Tab.on s.clk.started 1
    | 5 | 6 | 7 => s.isGated 13 || s.isGated 14
    | 10 => true
    | _ => (stepBlocks n).any s.powerStopped

/-- An entry aborts (R373): PWR_ABORT, its event, t0, and the restart of what had stopped; blocks 17 and 18, which no step
of the wake table names, restart at once. [log 47] -/
def State.entryAbort (s : State) (block : Nat) : State :=
  match s.pwr.phase with
  | .entering target =>
    let s := ((s.setOn F.PWR_ABORT_VALID true).setFld F.PWR_ABORT_TARGET target).setFld F.PWR_ABORT_BLOCK block
    let s := (s.incSat F.PWR_ABORT_COUNT)
    let s := (s.raise 13 (s.reg R.PWR_ABORT).toNat).setFld F.PWR_IDLECNT_MS 0
    let s := { s with
      pwr := { s.pwr with phase := .restarting, todo := s.restartSteps, step := 0, retries := 0 },
      clk := { s.clk with asked := (List.range 6).foldl (fun t b =>
        Tab.setOn t b (Tab.on s.clk.asked b && s.fld F.CLK_GATE_GATE / 2 ^ b % 2 == 1)) [] } }
    let s := s.each [0, 1, 2, 3] State.blockGoesOn
    let s := s.each ([17, 18].filter s.powerStopped) State.blockStarts
    (s.chkPower false).lockUsable
  | _ => s

/-! ## Entry (R371, R372) -/

/-- Whether a block refuses to stop for a power state (R368). [log 51] -/
def State.blockRefuses (s : State) (b : Nat) : Bool :=
  match b with
  | 1 => (List.range 8).any fun n => s.on (F.CHKn_STAT_BUSY n) && !s.on (F.CHKn_CTRL_FEED n)
  | 2 => s.flash.running.isSome
  | 10 => s.ldrState != 0 || s.on F.TIM_COMMIT_COMMIT
  | 13 => s.fld (straitState 0) == 3
  | 14 => s.fld (straitState 1) == 3
  | 15 => s.fld F.MEM_STAT_MIG_STATE == 1 || Tab.on s.mem.hold 0 || Tab.on s.mem.hold 1 || s.calBusy 0
  | 16 => s.fld F.MEM_STAT_MIG_STATE == 1 || Tab.on s.mem.hold 2 || Tab.on s.mem.hold 3 || s.calBusy 0
  | 17 => s.spn.walk.isSome || s.on F.SPN_MC_CTRL_BUSY || s.on F.SPN_MC_RX_ACTIVE
  | _ => false

/-- The order in which an entry stops blocks; 31 are the locket banks, 30 is PLL_MEM (R372). -/
def entryOrder (target : Nat) : List Nat :=
  if target = 1 then [7, 8, 9]
  else [7, 8, 9, 11, 0, 1, 2, 3, 4, 5, 6, 10, 12, 31, 14, 13, 15, 16, 30] ++ (if target = 3 then [17, 18] else [])

/-- What a block's stop does in an entry: without the chain sequencers nothing is loaded or shown. -/
def State.entryStops (s : State) (b : Nat) : State :=
  let s := s.blockStops b
  if b = 11 then
    let s := s.allDrop
    { s with tim := { s.tim with shown := [], front := [] } }
  else s

/-- The registers that DEEP keeps: PWR, the Spine address with the port ranges (R313), the fused coefficients, and the
level of FAULT_N (R420). [log 18] -/
def deepKeeps (a : Nat) : Bool :=
  (decide (R.PWR_CTRL ≤ a) && decide (a < 0x30000)) || a == R.SPN_STAT ||
  ((List.range 5).any fun p => a == R.SPN_Pp_RANGE p) || ((List.range 3).any fun d => a == R.ADC_DIODEd d) || a == R.FLT_STAT

/-- DEEP is entered (R370, R357, R420, R427): all else loses its contents. [log 18] -/
def State.enterDeep (s : State) : State :=
  let regs := s.regs.filter fun (x : Nat × Word) => deepKeeps x.1
  let spnStat := s.reg R.SPN_STAT
  let valid := (List.range 5).map fun p => s.on (F.SPN_Pp_STAT_RVALID p)
  let dram : Tab (List Byte) := s.conf.secs.filter fun (x : Nat × List Byte) => x.1 == 128
  let t : State := { State.reset with
    pending := s.pending, inReset := false, freeCtr := s.freeCtr, regs := regs,
    ldr := { State.reset.ldr with bootSrc := s.ldr.bootSrc, sec := s.ldr.sec, keyHash := s.ldr.keyHash, mgr := s.ldr.mgr,
                                  test := s.ldr.test },
    conf := ⟨dram⟩, locket := s.locket,
    mem := { State.reset.mem with epoch := s.mem.epoch + 1 },
    spn := { State.reset.spn with walked := s.spn.walked },
    pwr := { State.reset.pwr with deep := true } }
  let t := (t.setReg R.SPN_STAT spnStat).setFld F.SPN_TSTAT_STATE (if s.ldr.mgr then 0 else 3)
  -- of FLT_STAT only the level of the pin and a pulse in progress last (R420, R424)
  let t := ((t.setFld F.FLT_STAT_HIGH 0).setFld F.FLT_STAT_LOSTOCC 0).setFld F.FLT_STAT_LASTIDX 0
  let t := (List.zip (List.range 5) valid).foldl (fun t x => t.setOn (F.SPN_Pp_STAT_RVALID x.1) x.2) t
  ((t.setOn F.SPN_STAT_ROLEMIS false).setOn F.SPN_STAT_ADDRMIS false).setFld F.PWR_IDLECNT_MS 0

/-- GENLOCK is armed as a wake source where no edge came in the last 100 ms (R374). -/
def State.edgeQuiet (s : State) : Bool :=
  match s.tim.lastEdge with
  | none => true
  | some t => decide (t + 2500000 ≤ s.lnk.cycle)

/-- An entry is complete (R371, R372). -/
def State.entryDone (s : State) (target : Nat) : State :=
  let old := s.fld F.PWR_STAT_STATE
  let s := { s with pwr := { s.pwr with phase := .steady, todo := [] } }
  let s := (s.setFld F.PWR_STAT_STATE target).setOn F.PWR_STAT_BUSY false
  if target = 1 then
    -- a frame that was published during the entry ends the state again
    let soon := !s.pwr.forced && decide (s.fld F.PWR_IDLECNT_MS < s.fld F.PWR_TMR0_T_IDLE)
    { s with pwr := { s.pwr with leave := soon } }
  else
    let s := if old < 2 then (s.chkPower false).lockPowerOff else s
    let s := { s with pwr := { s.pwr with forced := false } }.setOn F.PWR_STAT_GLKARM s.edgeQuiet
    if target = 3 then s.enterDeep else s

/-- The next block of an entry is asked to stop; what never refuses and needs no handshake is done at once. -/
def State.entryRun (s : State) (target : Nat) : List Nat → State
  | [] => s.entryDone target
  | b :: t =>
    if b = 31 then s.lockEntry.entryRun target t
    else if b = 30 then (s.pllStop 1).entryRun target t
    else if s.isGated b then s.entryRun target t
    else
      let s := { s with pwr := { s.pwr with todo := b :: t } }
      if s.blockRefuses b then s.entryAbort b else s.askStop b

/-- An entry begins (R371, R372). From DOZE only what DOZE has left running stops; the controllers refuse DEEP while a
migration copies (R266). -/
def State.entryBegin (s : State) (target : Nat) (forced : Bool) : State :=
  let order := if s.fld F.PWR_STAT_STATE = 2 then [17, 18] else entryOrder target
  let s := { s with pwr := { s.pwr with phase := .entering target, leave := false, forced := forced, lostBanks := [] } }
  let s := s.setOn F.PWR_STAT_BUSY true
  let s := if 2 ≤ target ∨ forced then s.blankOn 5 else s
  if s.fld F.PWR_STAT_STATE = 2 ∧ s.fld F.MEM_STAT_MIG_STATE = 1 then s.entryAbort 15 else s.entryRun target order

/-- An entry can begin: nothing is in progress, and the device is not shut down (R371, R386). -/
def State.entryFree (s : State) (target : Nat) : Bool :=
  s.pwr.phase == .steady && !s.on F.THM_STAT_SHUT && decide (s.fld F.PWR_STAT_STATE < target)

/-- PWR_REQ: a write of REQ (R371). -/
def State.pwrReq (s : State) (code : Nat) : State :=
  if 1 ≤ code ∧ code ≤ 3 ∧ s.entryFree code then s.entryBegin code (code = 1) else s

/-- PWR_REQ. -/
def execPwrReq (code : BitVec 3) (s : State) : Host.Outcome State Fault Refusal := effect (·.pwrReq code.toNat) s

/-- The deepest state whose timer has been reached (R371). -/
def State.idleTarget (s : State) : Nat :=
  let ms := s.fld F.PWR_IDLECNT_MS
  let due (f : Fld) (unit : Nat) : Bool := s.on f && decide (s.fld f * unit ≤ ms)
  if due F.PWR_TMR1_T_DEEP 1000 then 3
  else if due F.PWR_TMR0_T_DOZE 1000 then 2
  else if due F.PWR_TMR0_T_IDLE 1 then 1
  else 0

/-- IDLE_TICK: a millisecond of REF (R371). -/
def State.idleTick (s : State) : State :=
  if !s.dark then s.setFld F.PWR_IDLECNT_MS 0
  else
    let s := s.setFld F.PWR_IDLECNT_MS (satAdd (2 ^ 32 - 1) (s.fld F.PWR_IDLECNT_MS) 1)
    let t := s.idleTarget
    if s.entryFree t then s.entryBegin t false else s

/-- IDLE_TICK. -/
def execIdleTick (s : State) : Host.Outcome State Fault Refusal := effect State.idleTick s

/-- GATE_QUIESCE: a block that was asked to stop signals that it is quiet (R367); in an entry the next one follows. -/
def State.gateQuiesce (s : State) (b : Nat) : State :=
  if !Tab.on s.clk.asked b then s
  else
    match s.pwr.phase, s.pwr.todo with
    | .entering target, h :: t =>
      if h = b then (if s.blockRefuses b then s.entryAbort b else (s.entryStops b).entryRun target t) else s.blockStops b
    | _, _ => s.blockStops b

/-- GATE_QUIESCE. -/
def execGateQuiesce (block : Fin 19) (s : State) : Host.Outcome State Fault Refusal := effect (·.gateQuiesce block.val) s

/-- GATE_TIMEOUT: 1,024 cycles without that signal (R367); in an entry that is a refusal (R368). -/
def State.gateTimeout (s : State) (b : Nat) : State :=
  if !Tab.on s.clk.asked b then s
  else
    let head := s.pwr.todo.head? == some b
    let s := s.gateRefused b
    if head then s.entryAbort b else s

/-- GATE_TIMEOUT. -/
def execGateTimeout (block : Fin 19) (s : State) : Host.Outcome State Fault Refusal := effect (·.gateTimeout block.val) s

/-! ## Wake (R374 to R377) -/

/-- What a step of the wake table starts (R375). [log 52] -/
def State.stepAction (s : State) (n : Nat) : State :=
  let s := s.each ((stepBlocks n).filter s.powerStopped) State.blockStarts
  match n with
  | 1 => s.pllStart 1
  -- both dies have power-good again (R462)
  | 5 => ({ s with strait := { s.strait with noPower := false } }.pllStart 4).pllStart 5
  | 6 => s.each [0, 1] fun s die => if s.fld (straitState die) = 0 ∧ !s.strait.noPower then s.setFld (straitState die) 1 else s
  | 7 =>
    let s := if s.pwr.phase = .waking then s.banksRestore true else s
    { s with tabs := { s.tabs with rewrite := (below 40 inBeads).foldl (fun r t => Tab.setOn r t true) s.tabs.rewrite } }.rewriteAll
  | 8 => s.pllStart 3
  | 9 => s.bringUpAll
  | 10 =>
    let s := { s with pwr := { s.pwr with phase := .steady, todo := [], firstLoads := decide (s.pwr.phase = PwrPhase.waking) } }
    ((s.setFld F.PWR_STAT_STATE 0).setOn F.PWR_STAT_BUSY false).pwrUnblank
  | _ => s

/-- The ready check of a step, as far as State shows it (R375). [log 52] -/
def State.stepReady (s : State) (n : Nat) : Bool :=
  match n with
  | 1 => s.locked 1
  | 2 => !s.ctlStopped 0 && !s.ctlStopped 1
  | 5 => s.locked 4 && s.locked 5
  | 6 => s.fld (straitState 0) == 2 && s.fld (straitState 1) == 2
  | 7 => s.pwr.lostBanks.isEmpty
  | 8 => s.locked 3 || !s.tim.running
  | _ => true

/-- The next step starts. -/
def State.stepStart (s : State) : State :=
  match s.pwr.todo with
  | [] => s
  | n :: t => { s with pwr := { s.pwr with todo := t, step := n, retries := 0 } }.stepAction n

/-- A wake or restart is in progress. -/
def State.rising (s : State) : Bool := s.pwr.phase == .waking || s.pwr.phase == .restarting

/-- WAKE_STEP: the time of the next step has come (R375, R376); `ready` is the check of what State does not show. -/
def State.wakeStep (s : State) (ready : Bool) (lost : Nat) : State :=
  if !s.rising ∨ s.pwr.retries ≠ 0 then s
  else
    let s := if s.pwr.phase = .waking ∧ s.on (F.CHKn_STAT_PWR 7) then s.bankCheck lost else s
    if s.pwr.step = 0 ∨ s.pwr.step = 9 ∨ (ready ∧ s.stepReady s.pwr.step) then s.stepStart
    else { s with pwr := { s.pwr with retries := 1 } }.setOn F.PWR_STAT_WAKE_SLOW true

/-- WAKE_STEP. -/
def execWakeStep (ready : Bool) (lost : BitVec 16) (s : State) : Host.Outcome State Fault Refusal :=
  effect (·.wakeStep ready lost.toNat) s

/-- WAKE_READY_RETRY: a ready check is repeated, at most four times (R376). -/
def State.wakeRetry (s : State) (ready : Bool) : State :=
  if !s.rising ∨ s.pwr.retries = 0 then s
  else
    let s := s.banksAgain
    if ready ∧ s.stepReady s.pwr.step then s.stepStart
    else if 4 ≤ s.pwr.retries then s.wakeFails s.pwr.step
    else { s with pwr := { s.pwr with retries := s.pwr.retries + 1 } }

/-- WAKE_READY_RETRY. -/
def execWakeReadyRetry (ready : Bool) (s : State) : Host.Outcome State Fault Refusal := effect (·.wakeRetry ready) s

/-- A wake from DOZE begins with step 1; CHK7 starts the bank check (R375, R380). -/
def State.wakeBegin (s : State) (source : Nat) : State :=
  let s := { s with pwr := { s.pwr with phase := .waking, todo := (List.range 10).map (· + 1), retries := 0, lostBanks := [] } }
  ((s.setOn F.PWR_STAT_BUSY true).setFld F.PWR_STAT_CAUSE (source + 1)).stepStart.chkPower true

/-- A wake from DEEP (R377): the bank check, then a start-up without power-on reset. A pulse of FAULT_N ends (R420). [log 48, 52] -/
def State.wakeDeep (s : State) (source lost : Nat) : State :=
  let s := { s with pwr := { s.pwr with deep := false } }
  let s := (s.setFld F.PWR_STAT_STATE 0).setFld F.PWR_STAT_CAUSE (source + 1)
  let s := (s.setOn F.FLT_STAT_PIN false).setOn F.FLT_STAT_PULSE false
  (s.logLock.bankCheck lost).banksRestore false

/-- Whether a wake source is enabled and, where it needs it, armed (R374). [log 53] -/
def State.wakeArmed (s : State) (source : Nat) : Bool :=
  s.fld F.PWR_WAKE_EN / 2 ^ source % 2 == 1 && !s.on F.THM_STAT_SHUT &&
  (source != 2 || s.on F.PWR_STAT_GLKARM) && (source != 4 || s.on F.PWR_TMR1_T_WAKE)

/-- A wake source fires (R371, R373, R374). [log 53] -/
def State.wakeFire (s : State) (source lost : Nat) : State :=
  if !s.wakeArmed source then s
  else if s.pwr.deep then s.wakeDeep source lost
  else
    match s.pwr.phase with
    -- GENLOCK and the timer are armed only once an entry has ended: in an entry from DOZE to DEEP
    | .entering _ => if (source = 2 ∨ source = 4) ∧ s.fld F.PWR_STAT_STATE ≠ 2 then s else s.entryAbort 0x1F
    | .steady =>
      match s.fld F.PWR_STAT_STATE with
      | 1 => if source = 4 then s else { s with pwr := { s.pwr with leave := true } }
      | 2 => s.wakeBegin source
      | _ => s
    | _ => s

/-- WAKE_SOURCE: it acts in DEEP too. -/
def execWakeSource (source : Fin 5) (lost : BitVec 16) (s : State) : Host.Outcome State Fault Refusal :=
  if s.inReset then .next s else .next (s.wakeFire source.val lost.toNat)

/-- A write of 1 to PWR_CTRL.WAKE: a wake source where it is enabled (R374), and the end of a forced IDLE always (R371). [log 53] -/
def State.hostWake (s : State) : State :=
  if s.fld F.PWR_STAT_STATE = 1 ∧ s.pwr.phase = .steady ∧ s.pwr.forced ∧ !s.on F.THM_STAT_SHUT then
    { s with pwr := { s.pwr with leave := true } }
  else s.wakeFire 1 0

/-- PWR_WAKE. -/
def execPwrWake (s : State) : Host.Outcome State Fault Refusal := effect (·.hostWake) s

/-- WAKEOUT: SDN ports that are not ACTIVE send the wake tone (R374). -/
def State.wakeout (s : State) (v : Nat) : State :=
  s.each (below 4 fun k => v / 2 ^ k % 2 == 1 && s.linkState (4 + k) != 5) fun s k =>
    { s with pwr := { s.pwr with tones := Tab.setNum s.pwr.tones k (Tab.num s.pwr.tones k + 1) } }

/-- WAKEOUT. -/
def execWakeout (sdn : BitVec 4) (s : State) : Host.Outcome State Fault Refusal := effect (·.wakeout sdn.toNat) s

/-- IMG (R322). Chunk 0 of a session of which the device is a member wakes it from DOZE (R374). -/
def execImg (port : Fin 5) (frame : SpnFrame) (s : State) : Host.Outcome State Fault Refusal :=
  effect (fun s => s.spnArrive 2 port.val frame fun s =>
    let (s, mine) := s.spnRoute (port.val + 1) frame
    if mine ∧ frame.mode ≠ 3 ∧ s.on F.SPN_STAT_ADDR_VALID then
      let s := s.imgMine port.val frame
      if frame.aux = 0 then s.wakeFire 0 0 else s
    else s) s

/-! ## Clock losses during an entry (R362, R363, R373) -/

/-- An entry aborts where a change has set SRCFAIL: loops that ran coast now. -/
def State.srcAbort (s : State) (f : State → State) : State :=
  let t := f s
  if t.clk.coast != s.clk.coast && !t.clk.coast.isEmpty then t.entryAbort 0x1E else t

/-- XTAL_QUAL_WINDOW: it qualifies, or, once qualified, finds the crystal lost (R361, R362). -/
def State.xtalWindow (s : State) (cycles : Nat) (swing : Bool) : State :=
  if s.on F.CLK_STAT_XQUAL && !(decide (944 ≤ cycles) && decide (cycles ≤ 1104)) then s.xtalLost false
  else s.qualWindow cycles swing

/-- XTAL_QUAL_WINDOW. -/
def execXtalQualWindow (cycles : Nat) (swing : Bool) (s : State) : Host.Outcome State Fault Refusal :=
  effect (·.srcAbort (·.xtalWindow cycles swing)) s

/-- XTAL_LOSS: no edge of the crystal within 16 CLS cycles (R362). -/
def execXtalLoss (s : State) : Host.Outcome State Fault Refusal := effect (·.srcAbort (·.xtalLost true)) s

/-- PLL_LOCK_TIMEOUT: a loop has not relocked within its lock time (R363). -/
def execPllLockTimeout (loop : Fin 6) (s : State) : Host.Outcome State Fault Refusal :=
  effect (·.srcAbort (·.lockFails loop.val)) s

/-- A loop locks. With an engine loop the strait of its die takes up its initial training (R30, R464). -/
def State.pllLocks (s : State) (l : Nat) : State :=
  let was := s.locked l
  let s := s.pllLock l
  let die := l - 4
  if !was ∧ s.locked l ∧ 4 ≤ l ∧ s.fld (straitState die) = 0 ∧ !s.on (straitDown die) ∧ !s.isGated (9 + l) ∧
    s.pwr.phase = .steady ∧ !s.strait.noPower then s.setFld (straitState die) 1 else s

/-! ## Die diodes (R383 to R386) -/

/-- SENS of a die. -/
def sensFlag (d : Nat) : Fld := [F.THM_STAT_SENS_H, F.THM_STAT_SENS_E0, F.THM_STAT_SENS_E1].getD d F.THM_STAT_SENS_H

/-- TEMP of a die in 1/16 °C. [log 54] -/
def State.dieTemp (s : State) (d : Nat) : Int := signed 16 (s.fld (F.THM_Dd_TEMP d))

/-- TTHR, limited to its range (R387). -/
def State.tthr (s : State) : Int := (Nat.min 2000 (Nat.max 1360 (s.fld F.THM_CTRL_TTHR)) : Nat)

/-- Whether a die's reading stands at or above TTHR; a failed diode counts as above (R383). -/
def State.dieHot (s : State) (d : Nat) : Bool := s.on (sensFlag d) || decide (s.tthr ≤ s.dieTemp d)

/-- Whether a die's reading stands below TTHR − HYST (R384). -/
def State.dieCool (s : State) (d : Nat) : Bool :=
  !s.on (sensFlag d) && decide (s.dieTemp d < s.tthr - 16 * (Nat.max 2 (s.fld F.THM_CTRL_HYST) : Nat))

/-- The throttle of the engine dies (R384). -/
def State.throttle (s : State) : State :=
  s.each [0, 1] fun s e =>
    let f := if e = 0 then F.THM_STAT_THR_E0 else F.THM_STAT_THR_E1
    if !s.on F.THM_CTRL_EN then s.setOn f false
    else if !s.on f ∧ (s.dieHot (e + 1) ∨ s.dieHot 0) then
      ((s.setOn f true).incSat F.THM_STAT_ENGAGE).raise 17 (e + 1)
    else if s.on f ∧ s.dieCool (e + 1) ∧ s.dieCool 0 then s.setOn f false
    else s

/-- Critical shutdown (R386): an entry or wake is abandoned, the engine dies lose their power and the chain outputs are
driven low. [log 53] -/
def State.shutDown (s : State) (d : Nat) : State :=
  if s.on F.THM_STAT_SHUT then s
  else
    let s := (s.setOn F.THM_STAT_SHUT true).raise 18 (d * 2 ^ 16 + s.fld (F.THM_Dd_TEMP d))
    let s := { s with pwr := { s.pwr with phase := .steady, todo := [], retries := 0 } }
    let s := ((s.setOn F.PWR_STAT_BUSY false).chkPower false).lockUsable
    let s := s.each [11, 13, 14, 15, 16, 4, 5, 6] State.blockStops
    let s := { s with tim := { s.tim with shown := [], front := [] } }
    (((s.pllStop 3).pllStop 1).allDrop).linkCheckAll

/-- Failed and working diodes (R383). [log 44] -/
def State.diodeState (s : State) (d : Nat) (clamped : Bool) : State :=
  let put (s : State) (c f : Nat) : State :=
    { s with therm := { s.therm with clamped := Tab.setNum s.therm.clamped d c, fine := Tab.setNum s.therm.fine d f } }
  let failed := s.on (sensFlag d)
  if clamped then
    let n := satAdd 3 (Tab.num s.therm.clamped d) 1
    let s := put s n 0
    if n = 3 ∧ !failed then (s.setOn (sensFlag d) true).raise 16 d else s
  else if failed then
    let n := Tab.num s.therm.fine d + 1
    if 16 ≤ n then (put s 0 0).setOn (sensFlag d) false else put s 0 n
  else put s 0 0

/-- DIODE_READING: a reading of a die's diode (R383 to R387, R390, R405). [log 42, 54, 130, 134] -/
def State.diodeReading (s : State) (d code : Nat) (clamped : Overrange) : State :=
  let code : Nat := match clamped with
    | .none => code
    | .low => 0
    | .high => 0xFFF
  let t := ((code : Int) - s.fld (F.ADC_DIODEd_D0 d)) * signed 16 (s.fld (F.ADC_DIODEd_DS d)) / 256
  let s := s.setFld (F.THM_Dd_TEMP d) (unsigned 16 t)
  let s := if signed 16 (s.fld (F.THM_Dd_PEAK d)) < s.dieTemp d then s.setFld (F.THM_Dd_PEAK d) (s.fld (F.THM_Dd_TEMP d)) else s
  let s := s.diodeState d (clamped != .none)
  let hot := !s.on (sensFlag d) && decide (2080 ≤ s.dieTemp d)
  let n := if hot then satAdd 2 (Tab.num s.therm.hot d) 1 else 0
  let s := { s with therm := { s.therm with hot := Tab.setNum s.therm.hot d n } }
  let s := s.throttle
  let s := if n = 2 then s.shutDown d else s
  s.calAuto d

/-- DIODE_READING. -/
def execDiodeReading (die : Fin 3) (code : BitVec 12) (clamped : Overrange) (s : State) :
    Host.Outcome State Fault Refusal :=
  effect (·.diodeReading die.val code.toNat clamped) s

end Sys2Proof.Machine
end

