-- ==== Sys2Proof/Machine/Faults.lean ====
section
/-! DEFINITION. The fault collector: classes and promotion, reactions, FAULT_N, fault injection (R416 to R424, R429). -/

namespace Sys2Proof.Machine

/-! ## Classes (R417, R418) -/

/-- Whether a source is promoted. -/
def State.promoted (s : State) (i : Nat) : Bool := s.fld (F.FLT_PROMOj_VAL (i / 32)) / 2 ^ (i % 32) % 2 == 1

/-- Whether the next occurrence of a source promotes it. -/
def State.promotes (s : State) (i : Nat) : Bool :=
  let n := s.fld (F.FLT_SRCi_N i)
  !s.promoted i && n != 0 && decide (n ≤ Tab.num s.flt.count i + 1)

/-- The class that the next occurrence of a source receives: 0 INFO to 3 SEVERE. -/
def State.nextClass (s : State) (i : Nat) : Nat :=
  if s.promoted i || s.promotes i then 3 else s.fld (F.FLT_SRCi_CLASS i)

/-- Window and promotion of a source for one occurrence. -/
def State.promote (s : State) (i : Nat) : State :=
  if s.promotes i then
    ({ s with flt := { s.flt with count := Tab.setNum s.flt.count i 0 } }).setBit (F.FLT_PROMOj_VAL (i / 32)) (i % 32) true
  else if s.promoted i ∨ s.fld (F.FLT_SRCi_N i) = 0 then s
  else { s with flt := { s.flt with count := Tab.setNum s.flt.count i (Tab.num s.flt.count i + 1) } }

/-- The window of a source closes and its count is 0. -/
def State.windowClosed (s : State) (i : Nat) : State := { s with flt := { s.flt with count := Tab.setNum s.flt.count i 0 } }

/-- PROMO_WINDOW_EXPIRY. -/
def execPromoWindowExpiry (source : Fin 192) (s : State) : Host.Outcome State Fault Refusal :=
  effect (·.windowClosed source.val) s

/-- A source's promotion is cleared (R418). Where the bit is clear nothing is cleared, so an occurrence of the cycle of
the write, queued after it, still promotes and leaves the bit set (R7). [log 109, 141] -/
def State.promoClear (s : State) (i : Nat) : State :=
  if s.promoted i then (s.setBit (F.FLT_PROMOj_VAL (i / 32)) (i % 32) false).windowClosed i else s

/-- PROMO_CLEAR. -/
def execPromoClear (source : Fin 192) (s : State) : Host.Outcome State Fault Refusal :=
  effect (·.promoClear source.val) s

/-- A write to FLT_SRCi: its fields, window and count (R418). -/
def State.srcWrite (s : State) (i : Nat) (w : Word) : State :=
  let a := R.FLT_SRCi i
  let m := rwMask a
  (s.setReg a ((s.reg a &&& ~~~m) ||| (w &&& m))).windowClosed i

/-- SRC_WRITE. -/
def execSrcWrite (source : Fin 192) (value : Word) (s : State) : Host.Outcome State Fault Refusal :=
  effect (·.srcWrite source.val value) s

/-! ## Interrupt and FAULT_N (R420, R421) -/

/-- Whether a source's FLT_PEND bit is set. -/
def State.fltPending (s : State) (i : Nat) : Bool := s.fld (F.FLT_PENDj_VAL (i / 32)) / 2 ^ (i % 32) % 2 == 1

/-- HIGH: the highest class among the pending bits (R424). [log 55] -/
def State.fltHigh (s : State) : State :=
  s.setFld F.FLT_STAT_HIGH (maxN ((below 192 s.fltPending).map fun i => Tab.num s.flt.cls i))

/-- HOST_IRQ_N is asserted (R421). -/
def State.hostIrq (s : State) : Bool := s.on F.FLT_CTRL_IRQ_EN && (List.range 6).any fun j => s.on (F.FLT_PENDj_VAL j)

/-- An INT reaction. -/
def State.fltInt (s : State) (i c : Nat) : State :=
  let c := if s.fltPending i then Nat.max c (Tab.num s.flt.cls i) else c
  (({ s with flt := { s.flt with cls := Tab.setNum s.flt.cls i c } }).setBit (F.FLT_PENDj_VAL (i / 32)) (i % 32) true).fltHigh

/-- A FAULT_N reaction: the pin, and the pulse timer from its start. -/
def State.faultPin (s : State) : State := (s.setOn F.FLT_STAT_PIN true).setOn F.FLT_STAT_PULSE true

/-- FAULT_N_PULSE_END: PW × 20 µs after the last FAULT_N reaction. -/
def State.pulseEnd (s : State) : State :=
  if s.on F.FLT_STAT_PULSE then
    let s := s.setOn F.FLT_STAT_PULSE false
    if s.on F.FLT_FCTRL_HOLD then s else s.setOn F.FLT_STAT_PIN false
  else s

/-- FAULT_N_PULSE_END. -/
def execFaultNPulseEnd (s : State) : Host.Outcome State Fault Refusal := effect State.pulseEnd s

/-- HOLD is cleared: outside a pulse the pin is negated. -/
def State.holdClear (s : State) : State :=
  let s := s.setOn F.FLT_FCTRL_HOLD false
  if s.on F.FLT_STAT_PULSE then s else s.setOn F.FLT_STAT_PIN false

/-- HOLD_CLEAR. -/
def execHoldClear (s : State) : Host.Outcome State Fault Refusal := effect State.holdClear s

/-! ## Reactions (R419, R422, R423) -/

/-- A MGR reaction (R422): an FLT to the manager, counted where it cannot be sent; in the manager its own inbox. [log 55] -/
def State.fltReport (s : State) (i c : Nat) (data : Word) (time : Nat) : State :=
  let ws : List Word := [BitVec.ofNat 32 (4 * i + c), data, BitVec.ofNat 32 time, BitVec.ofNat 32 (time / 2 ^ 32)]
  if s.manager then
    -- the manager's own report raises no EV_SPN_FAULT_RX: no frame arrived
    if 64 ≤ s.spn.inbox.length then s.incSat F.SPN_FIN_STAT_OVF
    else
      let own : FaultRep := ⟨0, 0, i, c, ws.drop 1⟩
      ({ s with spn := { s.spn with inbox := s.spn.inbox ++ [own] } }).finShow
  else if s.on F.SPN_STAT_ADDR_VALID && s.spnActive 0 then
    s.fltPass 0 (spnMake 11 0 0 3 0 s.spnAddr 0 0 0 ws)
  else { s with flt := { s.flt with unsent := s.flt.unsent + 1 } }

/-- A port returns to DETECT, as if its enable had been cleared and set (R423). -/
def State.portRestart (s : State) (p : Nat) : State :=
  let s := s.setLink p { s.link p with slow := false, holdoff := false, attempt := false }
  (s.setFld (F.LNK_Px_STAT_FAILMASK p) 0).linkGo p 0

/-- A RESET reaction on the block that the data word names (R423). [log 56] -/
def State.fltReset (s : State) (i : Nat) (data : Nat) : State :=
  let x := data % 256
  if i < 4 then
    if x = 1 ∨ x = 2 then
      let die := x - 1
      if s.on (straitDown die) then s.downWrite die
      else if s.fld (straitState die) = 2 then s.straitRetrain die else s
    else s
  else if 26 ≤ i ∧ i ≤ 30 then (if x < 3 then s.portRestart x else s)
  else if i = 36 ∨ (42 ≤ i ∧ i ≤ 46) then (if x < 5 then s.linkGo (3 + x) 0 else s)
  else if 110 ≤ i ∧ i ≤ 117 then s.resync (data % 64)
  else if 122 ≤ i ∧ i ≤ 125 then
    if x < 16 ∧ (s.loop x).running then
      ((s.pmbDrop x fun _ => true).setLoop x { stoppedLoop with regBits := (s.loop x).regBits }).loopShow x
    else s
  else if 132 ≤ i ∧ i ≤ 142 then s.adcAbort
  else if 143 ≤ i ∧ i ≤ 144 then
    let g := if i = 143 then data / 2 ^ 24 % 4 else x
    if g < 4 then s.calStart g else s
  else if 145 ≤ i ∧ i ≤ 160 then s.chkStop ((i - 145) % 8)
  else if i = 161 then s.chkStop (data % 8)
  else s

/-- The reactions of a class to an occurrence that has been taken (R419). -/
def State.react (s : State) (i c : Nat) (o : Occ) (promoted lost : Bool) : State :=
  let r := s.fld (F.FLT_REACTc_REACT c)
  let bit (n : Nat) : Bool := r / 2 ^ n % 2 == 1
  let time := s.time64
  let info := b2n o.inj * 2 ^ 15 + b2n promoted * 2 ^ 14 + b2n lost * 2 ^ 13 + c * 2 ^ 8 + i
  let s :=
    if bit 0 && i != 162 then
      -- the mark of lost occurrences goes with the entry that carries it (R417)
      let flt := if s.logTakes then { s.flt with lost := Tab.setOn s.flt.lost i false } else s.flt
      { s with flt := flt }.logEntry ⟨BitVec.ofNat 64 time, o.data, BitVec.ofNat 32 info⟩
    else s
  let s := if bit 1 then s.fltInt i c else s
  let s := if bit 2 && i != 59 then s.fltReport i c o.data time else s
  let s := if bit 3 then s.faultPin else s
  let s := if bit 4 then ({ s with clasp := { s.clasp with intDem := true } }).claspFault 10 else s
  if bit 5 then s.fltReset i o.data.toNat else s

/-- The source whose occurrence the collector takes (R417): its R33 class (0 = SEVERE) and its index. [log 43] -/
def State.fltPick (s : State) : Option (Nat × Nat) :=
  let due := below 192 fun i => !(Tab.lst s.flt.pend i).isEmpty
  arbitrate 0 s.flt.ptr ((List.range 4).map fun k => due.filter fun i => s.nextClass i == 3 - k)

/-- EVENT_TAKE: one HUB cycle of the collector; there is none while the clock stands (R363). -/
def State.eventTake (s : State) : State :=
  match if s.hubRuns then s.fltPick else none with
  | none => s
  | some (k, i) =>
    match Tab.lst s.flt.pend i with
    | [] => s
    | o :: rest =>
      let c := s.nextClass i
      let up := s.promoted i || s.promotes i
      let lost := Tab.on s.flt.lost i
      let s := { s with flt := { s.flt with
        pend := Tab.setLst s.flt.pend i rest, ptr := Tab.setNum s.flt.ptr k (i + 1) } }
      ((s.promote i).setFld F.FLT_STAT_LASTIDX i).react i c o up lost

/-- EVENT_TAKE. -/
def execEventTake (s : State) : Host.Outcome State Fault Refusal := effect State.eventTake s

/-- INJ_GO (R429): only in the factory test mode, and only for a source that exists. -/
def State.inject (s : State) (i : Nat) : State :=
  if s.ldr.test ∧ i < 163 then s.raiseWith i (s.reg R.FLT_INJ_DATA) true else s

/-- INJ_GO. -/
def execInjGo (index : Byte) (s : State) : Host.Outcome State Fault Refusal := effect (·.inject index.toNat) s

end Sys2Proof.Machine
end

