-- ==== Sys2Proof/Machine/Flash.lean ====
section
/-! DEFINITION. The flash master: SFDP, host commands, locket restores (R379, R381, R445 to R448). -/

namespace Sys2Proof.Machine

/-! ## SFDP (R446) -/

/-- The Basic Flash Parameter Table of an SFDP read that begins at address 0: its pointer stands in bytes 12 to 14
(JESD216, PRESUMED: log entry 14). -/
def sfdpTable (data : List Byte) : List Byte := data.drop (leAt data 12 3)

/-- What the table says of boot reads: whether a 1-1-4 fast read is listed, its opcode, its dummy cycles, and whether
4-byte addresses are supported. -/
structure SfdpFound where
  quad : Bool
  op : Nat
  dummy : Nat
  addr4 : Bool
deriving DecidableEq, Repr

/-- Parses the table (JESD216, PRESUMED: log entry 14). -/
def sfdpParse (data : List Byte) : SfdpFound :=
  let t := sfdpTable data
  let d1 := leAt t 0 4
  let d3 := leAt t 8 4
  let quad := bits 22 22 d1 == 1
  let addr4 := bits 18 17 d1 == 1 || bits 18 17 d1 == 2
  if quad then ⟨true, bits 31 24 d3, bits 20 16 d3 + bits 23 21 d3, addr4⟩ else ⟨false, 0x0B, 8, addr4⟩

/-- The SFDP read has ended: boot reads are set up. -/
def State.sfdpDone (s : State) (data : List Byte) : State :=
  let s := { s with flash := { s.flash with parsed := true } }
  let show' (s : State) (f : SfdpFound) : State :=
    let s := { s with flash := { s.flash with readOp := f.op } }
    ((s.setOn F.SYS_FLCFG_QUAD f.quad).setFld F.SYS_FLCFG_RDUMMY f.dummy).setOn F.SYS_FLCFG_ADDR4 f.addr4
  if leAt data 0 4 = 0x50444653 then (show' s (sfdpParse data)).setOn F.SYS_FLCFG_NOSFDP false
  else ((show' s ⟨false, 0x03, 0, false⟩).setOn F.SYS_FLCFG_NOSFDP true).raise 6 0

/-! ## Host commands (R447) -/

/-- LEN of a command; above 256 it acts as 256. -/
def State.flLen (s : State) : Nat := Nat.min 256 (s.fld F.SYS_FLCMD_LEN)

/-- Bytes read by a command reach SYS_FLDATA, byte 4 k of word k in its low bits first. -/
def State.flStore (s : State) (data : List Byte) : State :=
  s.each (List.zip (List.range data.length) data) fun s x =>
    s.setFld ⟨R.SYS_FLDATAk (x.1 / 4), 8 * (x.1 % 4) + 7, 8 * (x.1 % 4)⟩ x.2.toNat

/-- The host command has ended. -/
def State.flEnd (s : State) : State := ({ s with flash := { s.flash with running := none } }).setOn F.SYS_FLCMD_BUSY false

/-- A write to SYS_FLCMD: its stored fields, ERR, and GO, which has no effect while BUSY is set (R447, R448). -/
def State.flcmdGo (s : State) (w : Word) : State :=
  let a := R.SYS_FLCMD
  let row := match regRow? a with
    | some r => r.fields
    | none => []
  let s := s.setReg a (writeFields (fun f => f.acc == .rw || f.acc == .w1c) false row (s.reg a) w)
  if F.SYS_FLCMD_GO.of w = 0 ∨ s.on F.SYS_FLCMD_BUSY then s
  else if s.fld F.SYS_FLCMD_ALEN = 3 then s.setOn F.SYS_FLCMD_ERR true
  else (s.setOn F.SYS_FLCMD_BUSY true).flashAsk .host

/-- FLCMD_GO. -/
def execFlcmdGo (value : Word) (s : State) : Host.Outcome State Fault Refusal := effect (·.flcmdGo value) s

/-- The transfer of a host command has ended; with POLL set the status reads follow. -/
def State.hostDone (s : State) (data : List Byte) : State :=
  let got := if s.on F.SYS_FLCMD_DIR then [] else data.take s.flLen
  let s := (s.snoop 0x0D got).flStore got
  if s.on F.SYS_FLCMD_POLL then { s with flash := { s.flash with running := some .poll } }
  else (s.flEnd.snoopBoundary 0x0D).flashNext

/-! ## Transfers -/

/-- A locket bank that was read from flash (R379, R381); above 0x100_0000 the master needs 4-byte addressing (R446). [log 111] -/
def State.locketDone (s : State) (n : Nat) (data : List Byte) : State :=
  let reach := s.lockShadow n + 65536 ≤ 0x1000000 ∨ s.on F.SYS_FLCFG_ADDR4
  let s := { s with flash := { s.flash with running := none } }
  let ok := reach ∧ data.length = 65536
  let s := if reach then (s.snoop 0x0D data).snoopBoundary 0x0D else s
  (s.bankRestored n (if ok then some data else none)).flashNext

/-- FLASH_TRANSFER_DONE: the transfer in progress has ended; `data` is what it read. The loader's FETCH ends by
FETCH_DONE, the status reads of POLL by FLASH_POLL. [log 111] -/
def State.flashDone (s : State) (data : List Byte) : State :=
  match s.flash.running with
  | some .sfdp =>
    let s := { s with flash := { s.flash with running := none } }
    (((s.snoop 0x0D data).snoopBoundary 0x0D).sfdpDone data).flashNext
  | some .host => s.hostDone data
  | some (.locket n) => s.locketDone n data
  | _ => s

/-- FLASH_TRANSFER_DONE. -/
def execFlashTransferDone (data : List Byte) (s : State) : Host.Outcome State Fault Refusal := effect (·.flashDone data) s

/-- FLASH_POLL: one status read of POLL; `expired` says that 4 s have passed. Only bit 0 of the byte is known. [log 111] -/
def State.flashPoll (s : State) (busy expired : Bool) : State :=
  if s.flash.running = some .poll then
    let b : Byte := BitVec.ofNat 8 (s.freeWord.toNat / 2 * 2 + b2n busy)
    let s := s.usedFree.snoop 0x0D [b]
    if !busy then (s.flEnd.snoopBoundary 0x0D).flashNext
    else if expired then
      (((s.setOn F.SYS_FLCMD_ERR true).raise 6 (s.reg R.SYS_FLADDR).toNat).flEnd.snoopBoundary 0x0D).flashNext
    else s
  else s

/-- FLASH_POLL. -/
def execFlashPoll (busy expired : Bool) (s : State) : Host.Outcome State Fault Refusal :=
  effect (·.flashPoll busy expired) s

end Sys2Proof.Machine
end

