-- ==== Sys2Proof/Machine/RegBus.lean ====
section
/-! DEFINITION. The register bus: what one word access does at each address (R6 to R9, R438 to R444). Requesters: 0 host,
1 Spine, 2 Weandi. -/

namespace Sys2Proof.Machine

/-! ## Storing a word -/

/-- Fields that a write to the active address stores at once. -/
def storedNow (f : FieldRow) : Bool := !f.shadow && (f.acc == .rw || f.acc == .w1c || f.acc == .lk)

/-- Whether a row has LK fields. -/
def lockedRow (r : RegRow) : Bool := r.fields.any fun f => f.acc == .lk

/-- A write to a register's active address: shadowed fields go to the shadow copy, the others act at once (R6, R442). -/
def State.storeWord (s : State) (a : Nat) (w : Word) : State :=
  match regRow? a with
  | none => s
  | some r =>
    let s := s.setReg a (writeFields storedNow false r.fields (s.reg a) w)
    if r.fields.any (·.shadow) then s.setShad a (writeFields (·.shadow) false r.fields (s.shadReg a) w) else s

/-- A write to the shadow address of a register: only its shadowed fields (R442). -/
def State.storeShadow (s : State) (a : Nat) (w : Word) : State :=
  match regRow? a with
  | none => s
  | some r =>
    if r.fields.any (·.shadow) then s.setShad a (writeFields (·.shadow) false r.fields (s.shadReg a) w) else s

/-- A word with a field replaced by its present value, so that writing it changes nothing there. -/
def State.keepFld (s : State) (f : Fld) (w : Word) : Word := f.put w (s.fld f)

/-! ## Writes by block -/

/-- SYS: straits and the flash command (R30, R447). -/
def State.wrSys (s : State) (a : Nat) (w : Word) : State :=
  if a = R.SYS_STRAIT then
    let s := if F.SYS_STRAIT_DOWN_E0.of w = 1 then s.downWrite 0 else s
    if F.SYS_STRAIT_DOWN_E1.of w = 1 then s.downWrite 1 else s
  else if a = R.SYS_FLCMD then s.flcmdGo w
  else s.storeWord a w

/-- CLK (R362, R367). -/
def State.wrClk (s : State) (a : Nat) (w : Word) : State :=
  if a = R.CLK_STAT then
    let s := s.storeWord a (F.CLK_STAT_SRCFAIL.put w 0)
    if F.CLK_STAT_SRCFAIL.of w = 1 then s.srcfailClear else s
  else if a = R.CLK_GATE then s.gateRequest (F.CLK_GATE_GATE.of w)
  else s.storeWord a w

/-- PWR (R371, R374, R378). [log 109] -/
def State.wrPwr (s : State) (a : Nat) (w : Word) : State :=
  if a = R.PWR_CTRL then
    let s := s.pwrReq (F.PWR_CTRL_REQ.of w)
    if F.PWR_CTRL_WAKE.of w = 1 then s.hostWake else s
  else if a = R.PWR_WAKEOUT then s.wakeout (F.PWR_WAKEOUT_SDN.of w)
  else if a = R.PWR_LBn 1 ∨ a = R.PWR_LBn 2 then
    let n := (a - R.PWR_LBn 0) / 4
    s.storeWord a (s.keepFld (F.PWR_LBn_RETAIN n) (s.keepFld (F.PWR_LBn_SHADOW n) w))
  else s.storeWord a w

/-- THM (R384, R387). -/
def State.wrThm (s : State) (a : Nat) (w : Word) : State :=
  let s := s.storeWord a w
  if a = R.THM_CTRL then s.throttle else s

/-- CFG (R52, R53, R56). [log 71] -/
def State.wrCfg (s : State) (a : Nat) (w : Word) : State :=
  if a = R.CFG_CTRL then
    let s := if F.CFG_CTRL_REVERT.of w = 1 then s.revert else s
    let s := if F.CFG_CTRL_ABORT.of w = 1 then s.abort else s
    if F.CFG_CTRL_LOAD.of w = 1 then s.load (F.CFG_CTRL_SRC.of w) (F.CFG_CTRL_DRYRUN.of w == 1) else s.storeWord a w
  else s.storeWord a w

/-- LNK (R280, R281, R297, R300). -/
def State.wrLnk (s : State) (a : Nat) (w : Word) : State :=
  let s := s.storeWord a w
  if a = R.LNK_FO then (if F.LNK_FO_SWITCH.of w = 1 then s.foSwitch else s)
  else if a = R.LNK_CM_CTRL then (if F.LNK_CM_CTRL_SEND.of w = 1 then s.cmSend else s)
  else
    let s := s.linkCheckAll
    s.each [0, 1, 2] fun s p =>
      if a = R.LNK_Px_CTRL p then
        let s := if (F.LNK_Px_CTRL_CLRFAIL p).of w = 1 then s.setFld (F.LNK_Px_STAT_FAILMASK p) 0 else s
        if (F.LNK_Px_CTRL_RETRAIN p).of w = 1 then s.linkRetrain p else s
      else s

/-- SPN (R307, R314, R315, R320, R321). -/
def State.wrSpn (s : State) (a : Nat) (w : Word) : State :=
  if a = R.SPN_TSET_HI then s.tsetWrite w
  else
    let s := s.storeWord a w
    if a = R.SPN_CTRL then
      let s := s.linkCheckAll
      if F.SPN_CTRL_WALK.of w = 1 then s.walkStart else s
    else if a = R.SPN_RA_CTRL then (if F.SPN_RA_CTRL_SEND.of w = 1 then s.raSend else s)
    else if a = R.SPN_MC_CTRL then (if F.SPN_MC_CTRL_START.of w = 1 then s.mcStart else s)
    else s

/-- MEM (R262, R269). -/
def State.wrMem (s : State) (a : Nat) (w : Word) : State :=
  if a = R.MEM_Mc_WB 0 ∨ a = R.MEM_Mc_WB 1 then
    let high := (F.MEM_Mc_WB_HWM 0).of w
    if high ≤ (F.MEM_Mc_WB_LWM 0).of w ∨ 32 < high then s
    else (s.storeWord a w).drainStep (if a = R.MEM_Mc_WB 0 then 0 else 1)
  else
    let s := s.storeWord a w
    if a = R.MEM_SPARE_CTRL ∧ F.MEM_SPARE_CTRL_START.of w = 1 then s.spareStart (F.MEM_SPARE_CTRL_RANK.of w) else s

/-- LAY: publication (R83). -/
def State.wrLay (s : State) (a : Nat) (w : Word) : State :=
  let s := s.storeWord a w
  s.each (List.range 8) fun s x => if a = R.LAY_x_PUB x ∧ (F.LAY_x_PUB_PUBLISH x).of w = 1 then s.hostPublish x else s

/-- COR: the poison flag of the ageing sums and the zone probe (R140, R143). -/
def State.wrCor (s : State) (a : Nat) (w : Word) : State :=
  if a = R.COR_ZM_STAT then
    let s := s.storeWord a (F.COR_ZM_STAT_AGE_POISON.put w 0)
    if F.COR_ZM_STAT_AGE_POISON.of w = 1 then s.agePoisonClear else s
  else
    let s := s.storeWord a w
    if a = R.COR_ZM_PROBE then s.zoneProbe else s

/-- TIM: commit and genlock source (R166 to R168, R172). [log 92] -/
def State.wrTim (s : State) (a : Nat) (w : Word) : State :=
  let old := s.fld F.TIM_GCTRL_SRC
  let s := s.storeWord a w
  if a = R.TIM_COMMIT then (if F.TIM_COMMIT_COMMIT.of w = 1 then s.commit else s)
  else if a = R.TIM_GCTRL then (if s.fld F.TIM_GCTRL_SRC ≠ old then s.acquire false else s)
  else s

/-- CHN: blanking and the driver probe (R199, R214, R216). -/
def State.wrChn (s : State) (a : Nat) (w : Word) : State :=
  if a = R.CHN_CTRL then (s.storeWord a (s.keepFld F.CHN_CTRL_FORCE_BLANK w)).forceBlank (F.CHN_CTRL_FORCE_BLANK.of w == 1)
  else
    let s := s.storeWord a w
    if a = R.CHN_PROBE then s.chnProbe else s

/-- CLS: the key register and ARM (R342, R343). -/
def State.wrCls (s : State) (a : Nat) (w : Word) : State :=
  if a = R.CLS_KEY then s.clsKey w.toNat
  else
    let s := s.storeWord a w
    if a = R.CLS_CTRL ∧ F.CLS_CTRL_ARM.of w = 1 then s.arm else s

/-- ADC: triggers, EN and system calibration (R392, R396, R398). -/
def State.wrAdc (s : State) (a : Nat) (w : Word) : State :=
  let was := s.on F.ADC_CTRL_EN
  let s := s.storeWord a w
  if a = R.ADC_CTRL then
    let s := if was ∧ !s.on F.ADC_CTRL_EN then s.adcDisable else s
    if F.ADC_CTRL_START.of w = 1 then s.adcTrigger else s
  else if a = R.ADC_SCAL then
    let s := if F.ADC_SCAL_ZERO.of w = 1 then s.scalZero else s
    if F.ADC_SCAL_FULL.of w = 1 then s.scalFull else s
  else s

/-- CAL: runs and the probe (R405, R407). -/
def State.wrCal (s : State) (a : Nat) (w : Word) : State :=
  let s := s.storeWord a w
  if a = R.CAL_CTRL then
    s.each ((List.range 4).filter fun g => F.CAL_CTRL_RUN.of w / 2 ^ g % 2 == 1) State.calStart
  else if a = R.CAL_PROBE then s.calProbe
  else s

/-- CHK: what a unit refuses while it runs, and its START and STOP (R409, R412, R414). [log 110] -/
def State.wrChk (s : State) (a : Nat) (w : Word) : State :=
  let n := (a - R.CHKn_CTRL 0) / 0x40
  let busy := s.on (F.CHKn_STAT_BUSY n)
  let taken := n == 7 && s.on (F.CHKn_STAT_PWR 7)
  let start := a == R.CHKn_CTRL n && (F.CHKn_CTRL_START n).of w == 1
  let stop := a == R.CHKn_CTRL n && (F.CHKn_CTRL_STOP n).of w == 1
  let werr (s : State) : State := s.setOn (F.CHKn_STAT_WERR n) true
  if taken then (if start then s.chkStart n else werr s)
  else if busy then
    let guarded := a == R.CHKn_VAL n || a == R.CHKn_TAG n || a == R.CHKn_ADDRL n || a == R.CHKn_ADDRH n || a == R.CHKn_LEN n
    if a = R.CHKn_CTRL n then
      let mask : Word := 0x3FFFFFFF
      let s := if (w &&& mask) ≠ (s.reg a &&& mask) then werr s else s
      if stop then s.chkStop n else s
    else if guarded then werr s
    else s.storeWord a w
  else
    let s := (s.storeWord a w).chkSync n
    if start then s.chkStart n else s

/-- FLT (R418, R420, R424, R429). [log 109] -/
def State.wrFlt (s : State) (a : Nat) (w : Word) : State :=
  if a = R.FLT_FCTRL then
    let was := s.on F.FLT_FCTRL_HOLD
    let s := s.storeWord a w
    if was ∧ !s.on F.FLT_FCTRL_HOLD then s.holdClear else s
  else if R.FLT_PENDj 0 ≤ a ∧ a ≤ R.FLT_PENDj 5 then (s.storeWord a w).fltHigh
  else if R.FLT_PROMOj 0 ≤ a ∧ a ≤ R.FLT_PROMOj 5 then
    let j := (a - R.FLT_PROMOj 0) / 4
    s.each (below 32 fun b => w.toNat / 2 ^ b % 2 == 1) fun s b => s.promoClear (32 * j + b)
  else if R.FLT_SRCi 0 ≤ a ∧ a ≤ R.FLT_SRCi 191 then s.srcWrite ((a - R.FLT_SRCi 0) / 4) w
  else if a = R.FLT_INJ ∨ a = R.FLT_INJ_DATA then
    if s.ldr.test then
      let s := s.storeWord a w
      if a = R.FLT_INJ ∧ F.FLT_INJ_GO.of w = 1 then s.inject (F.FLT_INJ_INDEX.of w) else s
    else s
  else s.storeWord a w

/-- LOG (R426). -/
def State.wrLog (s : State) (a : Nat) (w : Word) : State :=
  let s := s.storeWord a w
  if a = R.LOG_CTRL ∧ F.LOG_CTRL_CLEAR.of w = 1 then s.logClear else s

/-- A write to the active address of a register. A write to an LK register while Clasp is armed raises EV_CLS_LK_WRITE
(R9, R355); the answer says whether this happened. [log 109] -/
def State.regWrite (s : State) (a : Nat) (r : RegRow) (w : Word) : State × Bool :=
  if lockedRow r ∧ s.armed then (s.raise 131 a, true)
  else
    (match a / 0x10000 with
     | 0 => s.wrSys a w
     | 1 => s.wrClk a w
     | 2 => s.wrPwr a w
     | 3 => s.wrThm a w
     | 4 => s.wrCfg a w
     | 5 => s.wrLnk a w
     | 6 => s.wrSpn a w
     | 7 => s.wrMem a w
     | 8 => s.wrLay a w
     | 9 => s.wrCor a w
     | 10 => s.wrTim a w
     | 11 => s.wrChn a w
     | 13 => s.wrCls a w
     | 14 => s.wrAdc a w
     | 15 => s.wrCal a w
     | 16 => s.wrChk a w
     | 17 => s.wrFlt a w
     | 18 => s.wrLog a w
     | _ => s.storeWord a w, false)

/-! ## Reads -/

/-- The value of a word after which its RC fields are cleared (R6). [log 141] -/
def State.readClear (s : State) (a : Nat) (r : RegRow) : State × Word :=
  let v := s.reg a
  (if r.fields.any (fun f => f.acc == .rc) then s.setReg a (clearRC r.fields v) else s, readFields r.fields v)

/-- A read of a register's active address. -/
def State.regRead (s : State) (who a : Nat) (r : RegRow) : State × Word :=
  if a = R.SPN_TIME_LO then (s.timeLoRead who, BitVec.ofNat 32 s.time64)
  else if a = R.SPN_TIME_HI then (s, Tab.word s.host.timeHi who)
  else if who = 2 then (s, s.peek a)
  else if a = R.LNK_CM_RSP then ((s.reqRead cmFields).cmNext, s.peek a)
  else if a = R.SPN_RA_RSP then ((s.reqRead raFields).raNext, s.peek a)
  else if a = R.SPN_FIN0 then (s.finRead, s.peek a)
  else if (a = R.FLT_INJ ∨ a = R.FLT_INJ_DATA) ∧ !s.ldr.test then (s, 0)
  else s.readClear a r

/-! ## Isle windows (R441) -/

/-- Whether an address lies in an isle window. -/
def isleAddr (a : Nat) : Bool := decide (0x400000 ≤ a) && decide (a < 0x800000)

/-- The die of an isle window address. -/
def isleDie (a : Nat) : Nat := (a - 0x400000) / 0x80000 / 4

/-- Whether the die of a window is unpowered or its strait DOWN (R386, R434, R462). [log 105] -/
def State.isleDark (s : State) (a : Nat) : Bool :=
  s.on (straitDown (isleDie a)) || s.isGated (13 + isleDie a) || s.on F.THM_STAT_SHUT

/-- Whether an access to an isle window has to wait: it passes over the die's strait, which is not up (R26, R37). [log 25, 105] -/
def State.isleWaits (s : State) (a : Nat) : Bool :=
  isleAddr a && !s.isleDark a && s.fld (straitState (isleDie a)) != 2

/-- ENG_Bx_STAT (R441). BUSY is 0 for a bead that has run no context; after that State does not hold how many of the last
1,024 bead cycles ran one, and the count is a free value. [log 106] -/
def State.beadStat (s : State) (isle k : Nat) : State × Word :=
  let here := (Secs.ctxs s.conf.secs).filter fun c => c.isle == isle && 8 * c.strand + c.bead == k
  let mask := sumN ((List.range 8).map fun c => b2n (here.any fun x => x.ctx == c) * 2 ^ c)
  let key := 32 * isle + k
  let gated := Tab.on s.pix.beadGated key || s.isGated (13 + isle / 4) || s.fld F.PWR_STAT_STATE == 1
  let busy := if Tab.on s.pix.beadRan key then s.freeWord.toNat % 1024 else 0
  let v := mask * 2 ^ 24 + Tab.num s.pix.beadCur key * 2 ^ 21 + b2n gated * 2 ^ 20 + busy
  (s.usedFree, BitVec.ofNat 32 v)

/-- A read of an isle window: line, table and coefficient memories are snapshots whose layout the manual leaves open. [log 106] -/
def State.isleRead (s : State) (a : Nat) : State × Word :=
  let o := (a - 0x400000) % 0x80000
  let isle := (a - 0x400000) / 0x80000
  if o < 0x78000 then (s.usedFree, s.freeWord)
  else if o < 0x7A000 then
    if o % 0x100 = 0 then s.beadStat isle ((o - 0x78000) / 0x100) else (s, 0)
  else (s, 0)

/-! ## The bus (R438, R440, R442) -/

/-- The active address of a block address. -/
def activeAddr (a : Nat) : Nat := if a % 0x10000 < 0x8000 then a else a - 0x8000

/-- An access to an unmapped address, or a write to an isle window (R440). -/
def State.addrErr (s : State) (a : Nat) : State := s.raise 5 a

/-- A read of one word below the DRAM window. [log 105, 149] -/
def State.busRead (s : State) (who addr : Nat) : State × Word :=
  let a := addr / 4 * 4
  if a < 0x140000 then
    match regRow? (activeAddr a) with
    | none => (s.addrErr a, 0)
    | some r => if activeAddr a = a then s.regRead who a r else (s, onlyShadow r.fields (s.shadReg (activeAddr a)))
  else if 0x300000 ≤ a ∧ a < 0x400000 then (s, s.locketWord a)
  else if isleAddr a then s.isleRead a
  else match tableWord a with
    | some (t, _) => s.tableRead a t
    | none => (s.addrErr a, 0)

/-- A write of one word below the DRAM window; the answer says whether an LK register refused it. [log 149] -/
def State.busWrite (s : State) (addr : Nat) (w : Word) : State × Bool :=
  let a := addr / 4 * 4
  if a < 0x140000 then
    match regRow? (activeAddr a) with
    | none => (s.addrErr a, false)
    | some r => if activeAddr a = a then s.regWrite a r w else (s.storeShadow (activeAddr a) w, false)
  else if 0x300000 ≤ a ∧ a < 0x400000 then (if a < 0x330000 then s else s.setLocket a w, false)
  else if isleAddr a then (s.addrErr a, false)
  else match tableWord a with
    | some (t, mask) => (s.tableWrite a t mask w, false)
    | none => (s.addrErr a, false)

/-- The flat address of a DRAM window address on a page (R269, R319). -/
def windowFlat (page a : Nat) : Nat := page * 0x800000 + (a - 0x800000)

end Sys2Proof.Machine
end

