-- ==== Sys2Proof/Machine/Remote.lean ====
section
/-! DEFINITION. Remote access over the Spine, and register writes and reads that the table lists as commands of their own
(R9, R300, R319, R320, R442). -/

namespace Sys2Proof.Machine

/-! ## Register accesses of a Spine request (R319) -/

/-- Word accesses in address order: what a read brings. -/
def State.busReads (s : State) (who a : Nat) : Nat → State × List Word
  | 0 => (s, [])
  | n + 1 =>
    let (s, w) := s.busRead who a
    let (s, ws) := s.busReads who (a + 4) n
    (s, w :: ws)

/-- Word accesses in address order: whether an LK register refused a write. -/
def State.busWrites (s : State) (a : Nat) : List Word → State × Bool
  | [] => (s, false)
  | w :: t =>
    let (s, x) := s.busWrite a w
    let (s, y) := s.busWrites (a + 4) t
    (s, x || y)

/-- The word of a line that came through Q26: one that is poisoned or above the space brings an open value. [log 90] -/
def State.lineWord (s : State) (ds : List Delivered) (a : Nat) : State × Word :=
  match ds.find? fun d => d.flat == a / 64 * 64 with
  | none => (s, 0)
  | some d => if d.poisoned then (s.usedFree, s.freeWord) else (s, leWord (d.data.drop (a % 64)))

/-- Words of lines that came through Q26. -/
def State.lineWords (s : State) (ds : List Delivered) (a : Nat) : Nat → State × List Word
  | 0 => (s, [])
  | n + 1 =>
    let (s, w) := s.lineWord ds a
    let (s, ws) := s.lineWords ds (a + 4) n
    (s, w :: ws)

/-- The effect of an RD or WR: STATUS and the words of its answer. [log 90] -/
def State.remoteDo (s : State) (f : SpnFrame) : State × Nat × List Word :=
  let a := f.addr / 4 * 4
  let n := f.cnt + 1
  let e := a + 4 * n
  if (a < 0x800000 ∧ 0x800000 < e) ∨ 0x1000000 < e then (s, 3, [])
  else if 0x800000 ≤ a then
    let flat := windowFlat (f.aux % 1024) a
    if f.type = 0 then
      let (s, ds) := s.readLines 26 flat (4 * n)
      let (s, ws) := s.lineWords ds flat n
      (s, 0, ws)
    else (s.writeFlat 26 flat (wordsBytes f.words), 0, [])
  else if f.type = 0 then
    let (s, ws) := s.busReads 1 a n
    (s, 0, ws)
  else
    let (s, locked) := s.busWrites a f.words
    (s, if locked then 5 else 0, [])

/-- An RD or WR that the device consumes is done and answered. -/
def State.remote (s : State) (f : SpnFrame) : State :=
  let (s, status, ws) := s.remoteDo f
  s.spnReplyTo (spnReply f status ws)

/-- Whether an RD or WR can be done now: a read of the flat space waits until Q26 serves it at once (R37, R319), one of an
isle window until the strait is up (R26), and all while the register bus stands (R363). [log 21, 89] -/
def State.remoteReady (s : State) (f : SpnFrame) : Bool :=
  let a := f.addr / 4 * 4
  s.hubRuns && (f.type != 0 ||
    (if a < 0x800000 then (List.range (f.cnt + 1)).all fun i => !s.isleWaits (a + 4 * i)
     else s.engineReady 26 (windowFlat (f.aux % 1024) a) (4 * (f.cnt + 1))))

/-- The RD and WR that wait are done in turn, as far as they can, at most `n` of them. [log 21, 89] -/
def State.selfRun (s : State) : Nat → State
  | 0 => s
  | n + 1 => match s.spn.self with
    | [] => s
    | f :: rest => if s.remoteReady f then (({ s with spn := { s.spn with self := rest } }).remote f).selfRun n else s

/-- What follows an access that may have sent a request to the device itself. -/
def State.settle (s : State) : State := s.selfRun 20

/-- An RD or WR for the device: in order with those that wait. -/
def State.remoteAsk (s : State) (f : SpnFrame) : State :=
  { s with spn := { s.spn with self := s.spn.self ++ [f] } }.selfRun (s.spn.self.length + 1)

/-- SPN_RD or SPN_WR (R311, R319): one for this device is done, answered, and wakes it from DOZE (R374). [log 58] -/
def State.spnAccess (s : State) (type p : Nat) (f : SpnFrame) : State :=
  s.spnArrive type p f fun s =>
    let (s, mine) := s.spnRoute (p + 1) f
    if mine ∧ f.mode = 0 then ((s.remoteAsk f).wakeFire 0 0).settle else s

/-- SPN_RD. -/
def execSpnRd (port : Fin 5) (frame : SpnFrame) (s : State) : Host.Outcome State Fault Refusal :=
  effect (·.spnAccess 0 port.val frame) s

/-- SPN_WR. -/
def execSpnWr (port : Fin 5) (frame : SpnFrame) (s : State) : Host.Outcome State Fault Refusal :=
  effect (·.spnAccess 1 port.val frame) s

/-- SPN_RDR or SPN_WRR (R311, R320): one for this device reaches its requester. -/
def State.spnAnswer (s : State) (type p : Nat) (f : SpnFrame) : State :=
  s.spnArrive type p f fun s =>
    let (s, mine) := s.spnRoute (p + 1) f
    if mine ∧ f.mode = 0 then (s.raAnswer f).settle else s

/-- SPN_RDR. -/
def execSpnRdr (port : Fin 5) (frame : SpnFrame) (s : State) : Host.Outcome State Fault Refusal :=
  effect (·.spnAnswer 8 port.val frame) s

/-- SPN_WRR. -/
def execSpnWrr (port : Fin 5) (frame : SpnFrame) (s : State) : Host.Outcome State Fault Refusal :=
  effect (·.spnAnswer 9 port.val frame) s

/-! ## The requester (R300, R320, R327) -/

/-- RA_SEND: a write of 1 to SPN_RA_CTRL.SEND. -/
def execRaSend (s : State) : Host.Outcome State Fault Refusal := effect (fun s => s.raSend.settle) s

/-- RA_TIMEOUT: a tag was not answered within RTT µs. -/
def execRaTimeout (tag : Fin 64) (s : State) : Host.Outcome State Fault Refusal :=
  effect (fun s => ((s.reqTimeout raFields tag.val).raNext).settle) s

/-- RA_RSP_READ: a read of SPN_RA_RSP. -/
def execRaRspRead (s : State) : Host.Outcome State Fault Refusal :=
  effect (fun s => ((s.reqRead raFields).raNext).settle) s

/-- QUARANTINE_EXPIRY: 2 × RTT µs after a tag entered quarantine. -/
def execQuarantineExpiry (spine : Bool) (tag : Fin 64) (s : State) : Host.Outcome State Fault Refusal :=
  effect (fun s => if spine then ((s.reqFree raFields tag.val).raNext).settle else (s.reqFree cmFields tag.val).cmNext) s

/-! ## Register writes -/

/-- A word written by a requester of the bus; the window reaches the line buffer (R269). -/
def State.wordWrite (s : State) (addr : Nat) (w : Word) : State :=
  if 0x800000 ≤ addr then s.lineWrite (windowFlat (s.fld F.MEM_PAGE_PAGE) (addr / 4 * 4)) w
  else ((s.busWrite addr w).1).settle

end Sys2Proof.Machine
end

