-- ==== Sys2Proof/Machine/HostPort.lean ====
section
/-! DEFINITION. The host QSPI target (R430 to R436). -/

namespace Sys2Proof.Machine

/-! ## Errors and status (R434, R435, R444) -/

/-- An error code. -/
def State.hostErr (s : State) (code : Nat) : State :=
  ((s.setFld F.SYS_HOSTSTAT_LASTERR code).incSat F.SYS_HOSTSTAT_ERRCNT).raise 4 code

/-- Whether a job is a written word. -/
def HostJob.isWrite : HostJob → Bool
  | .write _ _ => true
  | .dropped _ => false

/-- Free words of the host queue. -/
def State.hostFree (s : State) : Nat := 16 - (s.host.jobs.filter HostJob.isWrite).length

/-- BUSY and FREE. -/
def State.hostShow (s : State) : State :=
  (s.setOn F.SYS_HOSTSTAT_BUSY (!s.host.jobs.isEmpty || s.host.reading.isSome)).setFld F.SYS_HOSTSTAT_FREE s.hostFree

/-- An error answer of `n` words (R432). -/
def State.hostRefuse (s : State) (n : Nat) : State :=
  { s with host := { s.host with reading := none, marker := 0xE1, words := List.replicate n 0xFFFFFFFF } }

/-! ## Accesses -/

/-- Whether a written word can reach its target now: the register bus has its clock (R363), and the line buffer of the
DRAM window can take the word (R37, R269). -/
def State.hostCan (s : State) (a : Nat) : Bool :=
  s.hubRuns && (if 0x800000 ≤ a then s.lineTakes (windowFlat (s.fld F.MEM_PAGE_PAGE) a) else true)

/-- One written word reaches its target; one to an isle window of a dark die is an error 6 (R434). [log 105] -/
def State.hostStore (s : State) (a : Nat) (w : Word) : State :=
  let s := if isleAddr a ∧ s.isleDark a then s.hostErr 6 else s
  s.wordWrite a w

/-- The next address of a run: it wraps at the top of the space (R440). -/
def nextAddr (a : Nat) : Nat := (a + 4) % 0x1000000

/-- The next access of a read: the machine after it, what is then left of the read, and whether a word was brought. A word
of the DRAM window is asked of Q25 and comes later; one of an isle window waits for its strait (R26). [log 58, 103, 105] -/
def State.hostFetch (s : State) (r : HostRead) : State × HostRead × Bool :=
  let got (s : State) (w : Word) (bad : Bool) : State × HostRead × Bool :=
    (s, ⟨r.got ++ [w], nextAddr r.addr, r.left - 1, r.bad || bad, false⟩, true)
  if !s.hubRuns ∨ s.isleWaits r.addr then (s, r, false)
  else if r.addr < 0x800000 then
    if isleAddr r.addr ∧ s.isleDark r.addr then got (if r.bad then s else s.hostErr 6) 0xFFFFFFFF true
    else
      let (s, w) := s.busRead 0 r.addr
      got s.settle w false
  else
    let flat := windowFlat (s.fld F.MEM_PAGE_PAGE) r.addr
    if s.flatTop ≤ flat then
      let s := ((s.outOfRange 25).setOn F.MEM_HOST_STAT_ADDRERR true).setOn F.MEM_HOST_STAT_POISON true
      got s 0xFFFFFFFF false
    else if r.asked ∨ !s.queueRoom 25 then (s, r, false)
    else
      let e : MemEntry := ⟨false, flat / 64 * 64, [], 0⟩
      (s.pushReq 25 e, { r with asked := true }, false)

/-- The answer of a read that has all its words (R432). -/
def State.hostAnswer (s : State) (r : HostRead) : State :=
  if r.bad then s.hostRefuse r.got.length
  else { s with host := { s.host with reading := none, marker := 0xA5, words := r.got } }

/-- The queue runs as far as it can, at most `n` accesses: what was accepted before in its order, then the read (R435). [log 103] -/
def State.hostRun (s : State) : Nat → State
  | 0 => s
  | n + 1 =>
    match s.host.jobs with
    | .write a w :: rest =>
      if s.hostCan a then (({ s with host := { s.host with jobs := rest } }).hostStore a w).hostRun n else s
    | .dropped r :: rest =>
      if r.left = 0 then { s with host := { s.host with jobs := rest } }.hostRun n
      else
        let (s, r, got) := s.hostFetch r
        let s := { s with host := { s.host with jobs := .dropped r :: rest } }
        if got then s.hostRun n else s
    | [] => match s.host.reading with
      | none => s
      | some r =>
        if r.left = 0 then s.hostAnswer r
        else
          let (s, r, got) := s.hostFetch r
          let s := { s with host := { s.host with reading := some r } }
          if got then s.hostRun n else s

/-- More accesses than the queue can hold. -/
def State.hostFuel (s : State) : Nat := 20 * (s.host.jobs.length + 2)

/-- The queue runs, and its status is shown. -/
def State.hostGo (s : State) : State := (s.hostRun s.hostFuel).hostShow

/-- A line that came back for a read: the read with its next word, and POISON where the line is poisoned (R260). -/
def State.hostTake (s : State) (r : HostRead) (d : Delivered) : State × HostRead :=
  let flat := windowFlat (s.fld F.MEM_PAGE_PAGE) r.addr
  let w : Word := if d.poisoned then 0xFFFFFFFF else leWord (d.data.drop (flat % 64))
  (s.whenDo d.poisoned (·.setOn F.MEM_HOST_STAT_POISON true), ⟨r.got ++ [w], nextAddr r.addr, r.left - 1, r.bad, false⟩)

/-- Whether a read waits for a line. -/
def State.hostAwaits (s : State) (r : HostRead) (d : Delivered) : Bool :=
  r.asked && decide (0x800000 ≤ r.addr) && windowFlat (s.fld F.MEM_PAGE_PAGE) r.addr / 64 * 64 == d.flat

/-- A line that came back to the host port: for the abandoned read at the front of the queue (R436), else for the read that
waits. -/
def State.hostLine (s : State) (d : Delivered) : State :=
  match s.host.jobs, s.host.reading with
  | .dropped r :: rest, _ =>
    if s.hostAwaits r d then
      let (s, r) := s.hostTake r d
      { s with host := { s.host with jobs := .dropped r :: rest } }.hostGo
    else s
  | _, some r =>
    if s.hostAwaits r d then
      let (s, r) := s.hostTake r d
      { s with host := { s.host with reading := some r } }.hostGo
    else s
  | _, none => s

/-- A read is abandoned: its accesses that are still to come keep their place in the queue, and their data is discarded
(R435, R436). One that has begun goes before what came after it. [log 103] -/
def State.hostAbandon (s : State) : State :=
  match s.host.reading with
  | none => s
  | some r =>
    let jobs := if r.left = 0 then s.host.jobs
      else if r.asked ∨ r.got ≠ [] then .dropped r :: s.host.jobs else s.host.jobs ++ [.dropped r]
    { s with host := { s.host with reading := none, jobs := jobs } }

/-- HOST_CS_N rises before a read's last word has been delivered (R434). [log 103] -/
def State.hostCut (s : State) : State := if s.host.reading.isSome then (s.hostAbandon).hostErr 4 else s

/-! ## Register writes as commands -/

/-- A word written through the bus at once, or, where it cannot reach its target yet or others wait, in its order (R37,
R435). [log 104] -/
def State.busWord (s : State) (addr : Nat) (w : Word) : State :=
  if s.host.jobs.isEmpty && s.hostCan addr then s.wordWrite addr w
  else ({ s with host := { s.host with jobs := s.host.jobs ++ [HostJob.write addr w] } }).hostGo

/-- REGISTER_WRITE (R442): a word written to any address of the space. [log 141] -/
def execRegisterWrite (addr : BitVec 24) (value : Word) (s : State) : Host.Outcome State Fault Refusal :=
  effect (·.busWord addr.toNat value) s

/-- LK_WRITE (R9, R355): a write to an LK register; at any other address it is a plain write. -/
def execLkWrite (addr : BitVec 24) (value : Word) (s : State) : Host.Outcome State Fault Refusal :=
  effect (·.busWord addr.toNat value) s

/-! ## Commands (R431 to R434) -/

/-- A falling edge of HOST_CS_N begins a command: in DEEP it is a wake source and the access is not answered (R374); a
read that still waits has been cut. HOST_CS_N rises at the command's end, a boundary of stream 0x0E (R411). [log 18] -/
def hostCommand (f : State → State) (s : State) : Host.Outcome State Fault Refusal :=
  if s.inReset then .next s
  else if s.pwr.deep then .next (s.wakeFire 1 0)
  else .next (((f s.hostCut).hostGo).snoopBoundary 0x0E)

/-- Words that a count byte names (R432). -/
def countWords (count : Nat) : Nat := count % 16 + 1

/-- RD and QRD; `cut` says that HOST_CS_N rises before the last word has been delivered. [log 107] -/
def State.hostRead (s : State) (addr count : Nat) (cut : Bool) : State :=
  let n := countWords count
  if addr % 4 ≠ 0 then
    let s := (s.hostErr 2).hostRefuse n
    if cut then s.hostErr 4 else s
  else
    let marker := s.host.marker
    let words := s.host.words
    let s := ({ s with host := { s.host with reading := some ⟨[], addr, n, false, false⟩ } }).hostGo
    if cut then
      -- words that were held already are not delivered
      let s := s.hostAbandon
      ({ s with host := { s.host with marker := marker, words := words } }).hostErr 4
    else s

/-- HOST_RD. -/
def execHostRd (addr : BitVec 24) (count : Byte) (cut : Bool) (s : State) : Host.Outcome State Fault Refusal :=
  hostCommand (·.hostRead addr.toNat count.toNat cut) s

/-- QRD: as RD, in quad form. -/
def execQrd (addr : BitVec 24) (count : Byte) (cut : Bool) (s : State) : Host.Outcome State Fault Refusal :=
  hostCommand (·.hostRead addr.toNat count.toNat cut) s

/-- WR and QWR: `words` are those that were complete; `cut` says that HOST_CS_N rises inside the next one (R433). [log 108] -/
def State.hostWrite (s : State) (addr count : Nat) (words : List Word) (cut : Bool) : State :=
  let n := countWords count
  if addr % 4 ≠ 0 then s.hostErr 2
  else if s.hostFree < n then s.hostErr 1
  else
    let ws := words.take n
    let s := s.snoop 0x0E (ws.map fun w => beBytes 4 w.toNat).flatten
    let run : List HostJob := List.zipWith HostJob.write ((List.range n).map fun i => (addr + 4 * i) % 0x1000000) ws
    let s := { s with host := { s.host with jobs := s.host.jobs ++ run } }.hostGo
    if cut ∧ ws.length < n then s.hostErr 4 else s

/-- HOST_WR. -/
def execHostWr (addr : BitVec 24) (count : Byte) (words : List Word) (cut : Bool) (s : State) :
    Host.Outcome State Fault Refusal :=
  hostCommand (·.hostWrite addr.toNat count.toNat words cut) s

/-- QWR: as WR, in quad form. -/
def execQwr (addr : BitVec 24) (count : Byte) (words : List Word) (cut : Bool) (s : State) :
    Host.Outcome State Fault Refusal :=
  hostCommand (·.hostWrite addr.toNat count.toNat words cut) s

/-- RDSR: SYS_HOSTSTAT as it stands, at once; the RC field is not cleared (R431). [log 107] -/
def execRdsr (s : State) : Host.Outcome State Fault Refusal :=
  hostCommand (fun s =>
    let s := s.hostGo
    { s with host := { s.host with status := s.reg R.SYS_HOSTSTAT } }) s

/-- HOST_READ_TIMEOUT: RTMO µs after the turnaround's end (R434, R436). -/
def State.hostTimeout (s : State) : State :=
  match s.host.reading with
  | none => s
  | some r => (((s.hostAbandon).hostRefuse (r.got.length + r.left)).hostErr 5).hostGo

/-- HOST_READ_TIMEOUT. -/
def execHostReadTimeout (s : State) : Host.Outcome State Fault Refusal := effect State.hostTimeout s

/-- HOST_UNKNOWN_OPCODE: the rest of the command is ignored (R431); an opcode of R431 is not unknown. [log 107] -/
def execHostUnknownOpcode (opcode : Byte) (s : State) : Host.Outcome State Fault Refusal :=
  hostCommand (fun s => if [0x03, 0x02, 0xEB, 0x38, 0x05].contains opcode.toNat then s else s.hostErr 3) s

end Sys2Proof.Machine
end

