-- ==== Sys2Proof/Machine/MemPorts.lean ====
section
/-! DEFINITION. The hardware queues of the frame memory as their requesters see them (R86, R88, R131, R246, R253 to R256,
R260, R410). -/

namespace Sys2Proof.Machine

/-- Whether a queue carries reads and whether it carries writes (R253). -/
def queueKinds (q : Nat) : Bool × Bool :=
  if q ≤ 8 ∨ q = 21 ∨ q = 27 then (true, false) else if 9 ≤ q ∧ q ≤ 20 then (false, true) else (true, true)

/-- A line reaches the requester of a queue: a fetcher's or the facet map reader's buffer, the host port, a check unit.
Other requesters' engines act on what the memory holds. [log 21] -/
def State.deliver (s : State) (q : Nat) (d : Delivered) : State :=
  let s := { s with mem := { s.mem with got := Tab.setOpt s.mem.got q (some d) } }
  if q ≤ 8 then (s.setBuf q (Tab.lst s.pix.buf q ++ [d])).whenDo (d.poisoned && decide (q < 8)) (·.fetchPoison q)
  else if q = 25 then s.hostLine d
  else if q = 27 then s.chkLine d
  else s

/-- The head of a queue that lies above the flat space (R246): a write is discarded; a read returns poisoned, after the
queue's reads that were accepted before it (R254). -/
def State.refuseReq (s : State) (q : Nat) (e : MemEntry) : State :=
  let s := s.outOfRange q
  let zero := List.replicate 64 (0 : Byte)
  let flat := e.flat / 64 * 64
  if e.write then s
  else if (List.range 3).any fun c => (Tab.lst s.mem.inflight c).any fun f => f.queue == q then
    let f : InFlight := ⟨s.mem.accepted, q, flat, 0, 0, zero, true, true, false, true⟩
    { s with mem := { s.mem with
      accepted := s.mem.accepted + 1, inflight := Tab.setLst s.mem.inflight 2 (Tab.lst s.mem.inflight 2 ++ [f]) } }
  else s.deliver q ⟨flat, zero, true⟩

/-- The heads of a queue that lie above the flat space, at most `n` of them. [log 101] -/
def State.refuseHead (s : State) (q : Nat) : Nat → State
  | 0 => s
  | n + 1 => match Tab.lst s.mem.queues q with
    | e :: _ =>
      if s.flatTop ≤ e.flat then
        ((s.dropHead q).refuseReq q e).refuseHead q n
      else s
    | [] => s

/-- The bytes of a fetcher's line buffer that are taken: lines that have come and lines still to come (R86). [log 102] -/
def State.fetchTaken (s : State) (q : Nat) : Nat :=
  64 * ((Tab.lst s.pix.buf q).length + (Tab.lst s.mem.queues q).length + s.mem.flying 0 (some q) + s.mem.flying 1 (some q) +
    s.mem.flying 2 (some q))

/-- A requester places a request: none while its clock stands (R363); a full queue stalls it (R37, R254); a fetcher issues a
read only while 64 bytes of its 16 KiB line buffer are free (R86). [log 102] -/
def State.memRequest (s : State) (q : Nat) (r : MemReq) : State :=
  let (reads, writes) := queueKinds q
  if !s.hubRuns ∨ !(if r.write then writes else reads) ∨ (q < 8 ∧ 16384 < s.fetchTaken q + 64) then s
  else
    let e : MemEntry := ⟨r.write, r.flat, if r.write then lineSlice r.flat r.bytes (r.flat / 64 * 64) else [], 0⟩
    (s.pushReq q e).refuseHead q 16

/-- MEM_REQUEST. -/
def execMemRequest (queue : Fin 32) (req : MemReq) (s : State) : Host.Outcome State Fault Refusal :=
  effect (·.memRequest queue.val req) s

/-- Heads of the queues that have come to lie above the flat space. [log 101] -/
def State.refuseHeads (s : State) : State := s.each (List.range 32) fun s q => s.refuseHead q 16

/-- A line buffer that waited, and words of the host that stalled, go on when Q25 has room. -/
def State.hostResume (s : State) : State := (if s.mem.lineDue then s.lineFlush else s).hostGo

/-- What waited for the frame memory, for a strait or for a clock goes on as far as it can (R37): packets for the input
writer, the zone pass, accesses and images of the Spine, the check units, the host. [log 21] -/
def State.resume (s : State) : State :=
  let s := s.writerTakeAll.zoneOwed
  ((s.imgRun s.spn.held.length).settle.chkAsk).hostResume

/-- MEM_ACCEPT: one MEM cycle of a controller (R255); none is accepted in self-refresh, while the clock stands, or once the
controller has been asked to stop (R367). [log 100] -/
def State.memAccept (s : State) (c : Nat) : State :=
  if s.ctlRefuses c then s
  else
    let s := s.refuseHeads.urgentStep
    (s.memCycle s.pix.urgent c).resume

/-- MEM_ACCEPT. -/
def execMemAccept (ctl : Fin 2) (s : State) : Host.Outcome State Fault Refusal := effect (·.memAccept ctl.val) s

/-- Everything that can be delivered is, in queue order, at most `n` lines. -/
def State.deliverAll (s : State) : Nat → State
  | 0 => s
  | n + 1 => match s.ready with
    | none => s
    | some (c, f) =>
      let l := (Tab.lst s.mem.inflight c).filter fun g => g.seq != f.seq
      (({ s with mem := { s.mem with inflight := Tab.setLst s.mem.inflight c l } }).deliver f.queue
        ⟨f.flat, f.data, f.poisoned⟩).deliverAll n

/-- MEM_READ_COMPLETE: the data of the read that a controller serves next come back (R250, R256), and what is then in
order is returned (R254); a controller that sleeps has only data of completed reads to return (R362). [log 100] -/
def State.memReadComplete (s : State) (c : Nat) (noise : ReadNoise) : State :=
  let s := match if s.ctlStopped c then none else s.nextRead c with
    | none => s
    | some i => s.readDone c i noise
  (s.deliverAll 144).resume

/-- MEM_READ_COMPLETE. -/
def execMemReadComplete (ctl : Fin 2) (noise : ReadNoise) (s : State) : Host.Outcome State Fault Refusal :=
  effect (·.memReadComplete ctl.val noise) s

/-- TIMING_RECAL_DONE: the hold ends (R258), and what waited for the rank goes on. -/
def execTimingRecalDone (rank : Fin 4) (s : State) : Host.Outcome State Fault Refusal :=
  effect (fun s => if Tab.on s.mem.hold rank.val then
    ({ s with mem := { s.mem with hold := Tab.setOn s.mem.hold rank.val false } }).resume else s) s

/-- PLL_LOCK: what waited for the clock goes on, and at start-up the bring-up of the chains (R363, R464). -/
def execPllLock (loop : Fin 6) (s : State) : Host.Outcome State Fault Refusal :=
  effect (fun s => if s.locked loop.val then s
    else (((s.pllLocks loop.val).linkCheckAll.flashNext).bringUpDue).resume) s

end Sys2Proof.Machine
end

