-- ==== Sys2Proof/Machine/Reset.lean ====
section
/-! DEFINITION. Reset and start-up (R454, R462 to R464). -/

namespace Sys2Proof.Machine

/-- A power-on reset (R463): everything takes its reset value; the contents of DRAM and of the locket banks are lost, and
LB0 starts as an empty log. Commands that wait are outside the block; the free values go on. [log 6, 13] -/
def State.powerOn (s : State) : State :=
  let t : State := { State.reset with
    pending := s.pending, freeCtr := s.freeCtr, mem := { State.reset.mem with epoch := s.mem.epoch + 1 } }
  (t.each (List.range 15) fun t n => t.lockLose (n + 1) false)

/-- The thermal shutdown state after a reset that does not end it (R386, R463). [log 95] -/
def State.staysShut (s : State) : State :=
  s.setOn F.THM_STAT_SHUT true |>.each [11, 13, 14, 15, 16, 4, 5, 6] fun s b => s.gated b true

/-- RESET_ASSERT: RESET_N low for `cycles` CLS cycles; 125 are accepted, fewer have no effect (R463). -/
def State.resetAssert (s : State) (cycles : Nat) : State :=
  if cycles < 125 then s
  else if s.on F.THM_STAT_SHUT then s.powerOn.staysShut else s.powerOn

/-- RESET_ASSERT: it acts in every state. -/
def execResetAssert (cycles : Nat) (s : State) : Host.Outcome State Fault Refusal := .next (s.resetAssert cycles)

/-- INTERNAL_POR: VDD_HUB or VDD_IO has failed (R462); it also ends the thermal shutdown state, and holds until the
reset is released. [log 134] -/
def execInternalPor (s : State) : Host.Outcome State Fault Refusal := .next s.powerOn

/-- RESET_RELEASE: the straps are sampled and the fuses loaded (R454, R464 steps 1 and 3). The manager has address 0 and
depth 0 (R313); a worker reads address 0xFFF and starts in HOLD (R317, R325). [log 1, 3] -/
def State.resetRelease (s : State) (x : Straps) : State :=
  if !s.inReset then s
  else
    let s := { s with
      inReset := false,
      ldr := { s.ldr with
        mgr := x.mgr, bootSrc := x.bootsrc.toNat, sec := x.sec, keyHash := x.keyHash, test := x.testmode && x.testUnlock } }
    let s := (s.setOn F.SPN_STAT_MGR x.mgr).setOn F.SPN_STAT_ADDR_VALID x.mgr
    let s := if x.mgr then s else (s.setFld F.SPN_STAT_ADDR 0xFFF).setFld F.SPN_TSTAT_STATE 3
    s.each (List.zip (List.range 3) x.diodes) fun s d =>
      (s.setFld (F.ADC_DIODEd_D0 d.1) ((F.ADC_DIODEd_D0 d.1).of d.2)).setFld (F.ADC_DIODEd_DS d.1) ((F.ADC_DIODEd_DS d.1).of d.2)

/-- RESET_RELEASE. -/
def execResetRelease (straps : Straps) (s : State) : Host.Outcome State Fault Refusal := .next (s.resetRelease straps)

end Sys2Proof.Machine
end

