-- ==== Sys2Proof/Machine/Dispatch.lean ====
section
/-! DEFINITION. One arm for each command of the table: a direct call of its meaning, or a refusal by name. -/

namespace Sys2Proof.Machine

def exec (i : Instr) (s : State) : Host.Outcome State Fault Refusal :=
  match i with
  | .straitFlitReceive die toEngine flit crc => Sys2Proof.Machine.execStraitFlitReceive die toEngine flit crc s
  | .straitRetrainDone die ok => Sys2Proof.Machine.execStraitRetrainDone die ok s
  | .downClear clear => Sys2Proof.Machine.execDownClear clear s
  | .straitTrainingDone die ok => Sys2Proof.Machine.execStraitTrainingDone die ok s
  | .beadContextSelect isle strand bead inputs => Sys2Proof.Machine.execBeadContextSelect isle strand bead inputs s
  | .load src dryrun => Sys2Proof.Machine.execLoad src dryrun s
  | .abort => Sys2Proof.Machine.execAbort s
  | .revert => Sys2Proof.Machine.execRevert s
  | .fetchDone image => Sys2Proof.Machine.execFetchDone image s
  | .checkDone => Sys2Proof.Machine.execCheckDone s
  | .authDone => Sys2Proof.Machine.execAuthDone s
  | .admissionDone => Sys2Proof.Machine.execAdmissionDone s
  | .apply => Sys2Proof.Machine.execApply s
  | .commit => Sys2Proof.Machine.execCommit s
  | .commitWindowOpen => Sys2Proof.Machine.execCommitWindowOpen s
  | .commitWindowClose => Sys2Proof.Machine.execCommitWindowClose s
  | .videoPacketReceive port pkt => Sys2Proof.Machine.execVideoPacketReceive port pkt s
  | .publish layer => Sys2Proof.Machine.execPublish layer s
  | .bankLoadStart feed => Sys2Proof.Machine.execBankLoadStart feed s
  | .bankLoadComplete feed => Sys2Proof.Machine.execBankLoadComplete feed s
  | .tableCopyDone => Sys2Proof.Machine.execTableCopyDone s
  | .coefRewrite table => Sys2Proof.Machine.execCoefRewrite table s
  | .writebackLine feed line straitRoom => Sys2Proof.Machine.execWritebackLine feed line straitRoom s
  | .writebackPublish feed => Sys2Proof.Machine.execWritebackPublish feed s
  | .monitorPacketSend feed => Sys2Proof.Machine.execMonitorPacketSend feed s
  | .guardSumsComplete feed => Sys2Proof.Machine.execGuardSumsComplete feed s
  | .agePoisonClear => Sys2Proof.Machine.execAgePoisonClear s
  | .frameStart => Sys2Proof.Machine.execFrameStart s
  | .rowBoundary port => Sys2Proof.Machine.execRowBoundary port s
  | .genlockEdge rising refCycles => Sys2Proof.Machine.execGenlockEdge rising refCycles s
  | .genlockVirtualInstant => Sys2Proof.Machine.execGenlockVirtualInstant s
  | .pllScanLocked => Sys2Proof.Machine.execPllScanLocked s
  | .chainLineShift port missing => Sys2Proof.Machine.execChainLineShift port missing s
  | .strb port => Sys2Proof.Machine.execStrb port s
  | .row port payload complete => Sys2Proof.Machine.execRow port payload complete s
  | .bwr port payload complete => Sys2Proof.Machine.execBwr port payload complete s
  | .bsel port payload complete => Sys2Proof.Machine.execBsel port payload complete s
  | .rdbk port payload complete => Sys2Proof.Machine.execRdbk port payload complete s
  | .glnt port payload complete => Sys2Proof.Machine.execGlnt port payload complete s
  | .cur port payload complete => Sys2Proof.Machine.execCur port payload complete s
  | .pwm port payload complete => Sys2Proof.Machine.execPwm port payload complete s
  | .gdly port payload complete => Sys2Proof.Machine.execGdly port payload complete s
  | .blnk port payload complete => Sys2Proof.Machine.execBlnk port payload complete s
  | .sync port complete => Sys2Proof.Machine.execSync port complete s
  | .win port payload complete => Sys2Proof.Machine.execWin port payload complete s
  | .readbackReceive port records extra monitor => Sys2Proof.Machine.execReadbackReceive port records extra monitor s
  | .forceBlank on => Sys2Proof.Machine.execForceBlank on s
  | .pmbusTransactionDone bus outcome => Sys2Proof.Machine.execPmbusTransactionDone bus outcome s
  | .pmbusRetry domain => Sys2Proof.Machine.execPmbusRetry domain s
  | .memRequest queue req => Sys2Proof.Machine.execMemRequest queue req s
  | .memAccept ctl => Sys2Proof.Machine.execMemAccept ctl s
  | .memReadComplete ctl noise => Sys2Proof.Machine.execMemReadComplete ctl noise s
  | .memWriteComplete write => Sys2Proof.Machine.execMemWriteComplete write s
  | .refreshDue rank bank busy => Sys2Proof.Machine.execRefreshDue rank bank busy s
  | .mr4Poll code0 code1 code2 code3 => Sys2Proof.Machine.execMr4Poll code0 code1 code2 code3 s
  | .refreshWindowStart => Sys2Proof.Machine.execRefreshWindowStart s
  | .ceWindowEnd => Sys2Proof.Machine.execCeWindowEnd s
  | .scrubStep noise => Sys2Proof.Machine.execScrubStep noise s
  | .spareStart rank => Sys2Proof.Machine.execSpareStart rank s
  | .migrationLineCopy noise => Sys2Proof.Machine.execMigrationLineCopy noise s
  | .timingRecal rank => Sys2Proof.Machine.execTimingRecal rank s
  | .memReconfigDone => Sys2Proof.Machine.execMemReconfigDone s
  | .dramTrainingDone r0 r1 r2 r3 => Sys2Proof.Machine.execDramTrainingDone r0 r1 r2 r3 s
  | .hostLineBufferFlush => Sys2Proof.Machine.execHostLineBufferFlush s
  | .receiverDetect port lanes => Sys2Proof.Machine.execReceiverDetect port lanes s
  | .linkStateTimeout port => Sys2Proof.Machine.execLinkStateTimeout port s
  | .roleHoldoffEnd port => Sys2Proof.Machine.execRoleHoldoffEnd port s
  | .ts1Receive port lane ts => Sys2Proof.Machine.execTs1Receive port lane ts s
  | .ts2Receive port lane ts => Sys2Proof.Machine.execTs2Receive port lane ts s
  | .blockHeaderReceive port lane hdr => Sys2Proof.Machine.execBlockHeaderReceive port lane hdr s
  | .skpReceive port lane fill => Sys2Proof.Machine.execSkpReceive port lane fill s
  | .videoTimeout => Sys2Proof.Machine.execVideoTimeout s
  | .revertHoldExpiry => Sys2Proof.Machine.execRevertHoldExpiry s
  | .foSwitch => Sys2Proof.Machine.execFoSwitch s
  | .retrain port => Sys2Proof.Machine.execRetrain port s
  | .clrfail port => Sys2Proof.Machine.execClrfail port s
  | .packetSelect port => Sys2Proof.Machine.execPacketSelect port s
  | .lnkRd port pkt => Sys2Proof.Machine.execLnkRd port pkt s
  | .lnkWr port pkt => Sys2Proof.Machine.execLnkWr port pkt s
  | .lnkRdr port pkt => Sys2Proof.Machine.execLnkRdr port pkt s
  | .lnkWrr port pkt => Sys2Proof.Machine.execLnkWrr port pkt s
  | .cmSend => Sys2Proof.Machine.execCmSend s
  | .cmTimeout tag => Sys2Proof.Machine.execCmTimeout tag s
  | .quarantineExpiry spine tag => Sys2Proof.Machine.execQuarantineExpiry spine tag s
  | .cmRspRead => Sys2Proof.Machine.execCmRspRead s
  | .hb port bytes ending => Sys2Proof.Machine.execHb port bytes ending s
  | .cmd port bytes ending => Sys2Proof.Machine.execCmd port bytes ending s
  | .req port bytes ending => Sys2Proof.Machine.execReq port bytes ending s
  | .rst port bytes ending => Sys2Proof.Machine.execRst port bytes ending s
  | .spnRd port frame => Sys2Proof.Machine.execSpnRd port frame s
  | .spnWr port frame => Sys2Proof.Machine.execSpnWr port frame s
  | .spnRdr port frame => Sys2Proof.Machine.execSpnRdr port frame s
  | .spnWrr port frame => Sys2Proof.Machine.execSpnWrr port frame s
  | .img port frame => Sys2Proof.Machine.execImg port frame s
  | .imge port frame => Sys2Proof.Machine.execImge port frame s
  | .imgr port frame => Sys2Proof.Machine.execImgr port frame s
  | .flt port frame => Sys2Proof.Machine.execFlt port frame s
  | .fsync port frame => Sys2Proof.Machine.execFsync port frame s
  | .time port frame => Sys2Proof.Machine.execTime port frame s
  | .walk port frame => Sys2Proof.Machine.execWalk port frame s
  | .done port frame => Sys2Proof.Machine.execDone port frame s
  | .walkStart => Sys2Proof.Machine.execWalkStart s
  | .autowalkTimer => Sys2Proof.Machine.execAutowalkTimer s
  | .doneTimeout sdn => Sys2Proof.Machine.execDoneTimeout sdn s
  | .timeHoldTimeout => Sys2Proof.Machine.execTimeHoldTimeout s
  | .tsetWrite hi => Sys2Proof.Machine.execTsetWrite hi s
  | .timeLoRead requester => Sys2Proof.Machine.execTimeLoRead requester s
  | .raSend => Sys2Proof.Machine.execRaSend s
  | .raTimeout tag => Sys2Proof.Machine.execRaTimeout tag s
  | .mcStart => Sys2Proof.Machine.execMcStart s
  | .mcChunkSend => Sys2Proof.Machine.execMcChunkSend s
  | .imgrWaitTimeout => Sys2Proof.Machine.execImgrWaitTimeout s
  | .finRead => Sys2Proof.Machine.execFinRead s
  | .claspCycle gclkActive => Sys2Proof.Machine.execClaspCycle gclkActive s
  | .clsFilterAccept line => Sys2Proof.Machine.execClsFilterAccept line s
  | .discTimeout pair => Sys2Proof.Machine.execDiscTimeout pair s
  | .clsKey key => Sys2Proof.Machine.execClsKey key s
  | .keyTimeout => Sys2Proof.Machine.execKeyTimeout s
  | .arm => Sys2Proof.Machine.execArm s
  | .sdkReq on => Sys2Proof.Machine.execSdkReq on s
  | .heartbeatSend => Sys2Proof.Machine.execHeartbeatSend s
  | .heartbeatTimeout => Sys2Proof.Machine.execHeartbeatTimeout s
  | .reqResend => Sys2Proof.Machine.execReqResend s
  | .offPulseTest lineB readback => Sys2Proof.Machine.execOffPulseTest lineB readback s
  | .outputReadbackCheck a b => Sys2Proof.Machine.execOutputReadbackCheck a b s
  | .selfTest logicOk => Sys2Proof.Machine.execSelfTest logicOk s
  | .clsClockCheck clsCycles => Sys2Proof.Machine.execClsClockCheck clsCycles s
  | .lkWrite addr value => Sys2Proof.Machine.execLkWrite addr value s
  | .xtalQualWindow cycles swing => Sys2Proof.Machine.execXtalQualWindow cycles swing s
  | .xtalQualTimeout => Sys2Proof.Machine.execXtalQualTimeout s
  | .xtalLoss => Sys2Proof.Machine.execXtalLoss s
  | .srcfailClear => Sys2Proof.Machine.execSrcfailClear s
  | .pllLock loop => Sys2Proof.Machine.execPllLock loop s
  | .pllUnlock loop => Sys2Proof.Machine.execPllUnlock loop s
  | .clockSwitch sel edge => Sys2Proof.Machine.execClockSwitch sel edge s
  | .gateRequest gate => Sys2Proof.Machine.execGateRequest gate s
  | .gateQuiesce block => Sys2Proof.Machine.execGateQuiesce block s
  | .gateTimeout block => Sys2Proof.Machine.execGateTimeout block s
  | .pwrReq code => Sys2Proof.Machine.execPwrReq code s
  | .idleTick => Sys2Proof.Machine.execIdleTick s
  | .pwrWake => Sys2Proof.Machine.execPwrWake s
  | .wakeSource source lost => Sys2Proof.Machine.execWakeSource source lost s
  | .wakeStep ready lost => Sys2Proof.Machine.execWakeStep ready lost s
  | .wakeReadyRetry ready => Sys2Proof.Machine.execWakeReadyRetry ready s
  | .wakeout sdn => Sys2Proof.Machine.execWakeout sdn s
  | .diodeReading die code clamped => Sys2Proof.Machine.execDiodeReading die code clamped s
  | .diodeService => Sys2Proof.Machine.execDiodeService s
  | .adcStart => Sys2Proof.Machine.execAdcStart s
  | .adcTimer => Sys2Proof.Machine.execAdcTimer s
  | .adcPinTrigger rising => Sys2Proof.Machine.execAdcPinTrigger rising s
  | .adcConversionDone vin vref => Sys2Proof.Machine.execAdcConversionDone vin vref s
  | .scalZero => Sys2Proof.Machine.execScalZero s
  | .scalFull => Sys2Proof.Machine.execScalFull s
  | .scalCaptureDone sum ovr => Sys2Proof.Machine.execScalCaptureDone sum ovr s
  | .calRun groups => Sys2Proof.Machine.execCalRun groups s
  | .calRunDone group items => Sys2Proof.Machine.execCalRunDone group items s
  | .chkStart unit => Sys2Proof.Machine.execChkStart unit s
  | .chkStop unit => Sys2Proof.Machine.execChkStop unit s
  | .eventTake => Sys2Proof.Machine.execEventTake s
  | .promoWindowExpiry source => Sys2Proof.Machine.execPromoWindowExpiry source s
  | .promoClear source => Sys2Proof.Machine.execPromoClear source s
  | .srcWrite source value => Sys2Proof.Machine.execSrcWrite source value s
  | .faultNPulseEnd => Sys2Proof.Machine.execFaultNPulseEnd s
  | .holdClear => Sys2Proof.Machine.execHoldClear s
  | .injGo index => Sys2Proof.Machine.execInjGo index s
  | .logClear => Sys2Proof.Machine.execLogClear s
  | .hostRd addr count cut => Sys2Proof.Machine.execHostRd addr count cut s
  | .hostWr addr count words cut => Sys2Proof.Machine.execHostWr addr count words cut s
  | .qrd addr count cut => Sys2Proof.Machine.execQrd addr count cut s
  | .qwr addr count words cut => Sys2Proof.Machine.execQwr addr count words cut s
  | .rdsr => Sys2Proof.Machine.execRdsr s
  | .hostReadTimeout => Sys2Proof.Machine.execHostReadTimeout s
  | .registerWrite addr value => Sys2Proof.Machine.execRegisterWrite addr value s
  | .flcmdGo value => Sys2Proof.Machine.execFlcmdGo value s
  | .flashTransferDone data => Sys2Proof.Machine.execFlashTransferDone data s
  | .flashPoll busy expired => Sys2Proof.Machine.execFlashPoll busy expired s
  | .resetAssert cycles => Sys2Proof.Machine.execResetAssert cycles s
  | .resetRelease straps => Sys2Proof.Machine.execResetRelease straps s
  | .internalPor => Sys2Proof.Machine.execInternalPor s
  | .vddCoreLow => Sys2Proof.Machine.execVddCoreLow s
  | .raRspRead => Sys2Proof.Machine.execRaRspRead s
  | .blockHeaderSend port timeNs => Sys2Proof.Machine.execBlockHeaderSend port timeNs s
  | .clsInChange line level => Sys2Proof.Machine.execClsInChange line level s
  | .claspWatchdogExpiry => Sys2Proof.Machine.execClaspWatchdogExpiry s
  | .pllLockTimeout loop => Sys2Proof.Machine.execPllLockTimeout loop s
  | .laneWidthTimeout port => Sys2Proof.Machine.execLaneWidthTimeout port s
  | .chkOnchipScanDone unit => Sys2Proof.Machine.execChkOnchipScanDone unit s
  | .timingRecalDone rank => Sys2Proof.Machine.execTimingRecalDone rank s
  | .codeError port rx => Sys2Proof.Machine.execCodeError port rx s
  | .elasticBufferSlip port lane => Sys2Proof.Machine.execElasticBufferSlip port lane s
  | .hostUnknownOpcode opcode => Sys2Proof.Machine.execHostUnknownOpcode opcode s
  | .spnInvalidFrame port crcFailed => Sys2Proof.Machine.execSpnInvalidFrame port crcFailed s
  | .lnkInvalidControl port => Sys2Proof.Machine.execLnkInvalidControl port s

end Sys2Proof.Machine
end

