-- ==== Sys2Proof/Machine/Idle.lean ====
section
/-! DEFINITION. What happens when no command waits. -/

namespace Sys2Proof.Machine

/-- One cycle of REF with no command waiting (log entry 7): the system time advances (R315) and the links count the cycle
(R297), and the input writer takes what waits in the receive queues (R290), unless the block is held in reset or stands in DEEP. [log 135] -/
def idleCycle (s : State) : State :=
  if s.inReset || s.pwr.deep then s
  else ({ s.timeTick with lnk := { s.lnk with cycle := s.lnk.cycle + 1 } }).writerTakeAll

end Sys2Proof.Machine
end

