-- ==== Sys2Proof/Machine/Step.lean ====
section
/-! DEFINITION. One step: the command at the front of the queue, or, with none waiting, one REF cycle of the
system time (log entry 7). -/

namespace Sys2Proof.Machine

/-- Takes the command at the front of the queue and answers what it does to the state with the queue's rest; on an
empty queue the block idles for one cycle of REF. [log 1] -/
def step (s : State) : Host.Outcome State Fault Refusal :=
  match s.pending with
  | [] => .next (idleCycle s)
  | c :: rest => exec c { s with pending := rest }

/-- The state with the command that a table word spells at the front of its queue; the table gives no row bits, so no
word spells one. [log 1] -/
def State.withFetchWord (s : State) (nbits w : Nat) : State :=
  match decodeTableWord nbits w with
  | some c => { s with pending := c :: s.pending }
  | none => s

end Sys2Proof.Machine
end

