-- ==== Sys2Proof/Machine/Pins.lean ====
section
/-! DEFINITION. The output pins (R453): each follows from what State holds. -/

namespace Sys2Proof.Machine

/-- The output pins and groups of them (R453). [log 146] -/
inductive Pin where
  /-- FAULT_N -/
  | faultN
  /-- HOST_IRQ_N -/
  | hostIrqN
  /-- SAFE_OUT_A -/
  | safeOutA
  /-- SAFE_OUT_B -/
  | safeOutB
  /-- HOST_IO0 to HOST_IO3 -/
  | hostIo
  /-- FL_CS_N -/
  | flashCs
  /-- FL_SCK -/
  | flashSck
  /-- FL_IO0 to FL_IO3 -/
  | flashIo
  /-- PMBn_SCL and PMBn_SDA -/
  | pmbus (bus : Fin 2)
  /-- Mc_RESET_N -/
  | dramReset (ctl : Fin 2)
  /-- Mc_CHs_CKEr -/
  | dramCke (ctl : Fin 2)
  /-- the outputs of chain port Cnn -/
  | chain (port : Fin 64)
  /-- the transmitters of Weandi port U, D or B, and of Spine port SUP or SDN0 to SDN3 -/
  | linkTx (port : Fin 8)
deriving DecidableEq, Repr

/-- What a pin shows. -/
inductive PinState where
  | low
  | high
  /-- the device does not drive it: high-impedance, released, or electrical idle -/
  | released
  /-- the device drives it as the protocol of its port says -/
  | driven
deriving DecidableEq, Repr

/-- A push-pull output at a level. -/
def PinState.level (b : Bool) : PinState := if b then .high else .low

/-- An open-drain output: asserted is low. -/
def PinState.openDrain (asserted : Bool) : PinState := if asserted then .low else .released

/-- A pin that is driven only while something is under way. -/
def PinState.busy (b : Bool) : PinState := if b then .driven else .released

/-- The state of the link port behind a pin: Weandi ports 0 to 2, then the Spine ports. -/
def State.txState (s : State) (i : Nat) : Nat := if i < 3 then s.linkState i else s.fld (F.SPN_Pp_STAT_STATE (i - 3))

/-- What an output pin shows (R453): the SAFE_OUT pair as Clasp drives it (R346); Mc_RESET_N and CKE low until the DRAM is
trained (R460); the chain pads low in reset, in a thermal shutdown and while VDD_CORE has failed (R386, R462); a
transmitter at electrical idle in DETECT (R280); FL_CS_N high and FL_SCK low but in a transfer (R445); the IO lines
driven only in a phase that outputs (R430). [log 146] -/
def State.pin (s : State) : Pin → PinState
  | .faultN => .openDrain (s.on F.FLT_STAT_PIN)
  | .hostIrqN => .openDrain s.hostIrq
  | .safeOutA => .level s.clasp.outA
  | .safeOutB => .level s.clasp.outB
  | .hostIo => .busy s.host.reading.isSome
  | .flashCs => .level s.flash.running.isNone
  | .flashSck => if s.flash.running.isNone then .low else .driven
  | .flashIo => .busy s.flash.running.isSome
  | .pmbus n => .busy (Tab.opt s.pmb.running n.val).isSome
  | .dramReset _ => if s.mem.trained then .driven else .low
  | .dramCke _ => if s.mem.trained then .driven else .low
  | .chain _ => if s.inReset || s.padsLow then .low else .driven
  | .linkTx p => .busy (s.txState p.val != 0)

end Sys2Proof.Machine
end

