-- ==== Sys2Proof/Safety.lean ====
section
/-! DEFINITION. The terms that statements use: when commands act, what a command answers, which registers and which
event counts may differ, and the invariants of the block. -/

namespace Sys2Proof.Machine

/-- Commands act: RESET_N is not held (R463) and the device is not in DEEP (R370). -/
abbrev State.live (s : State) : Prop := s.inReset = false ∧ s.pwr.deep = false

/-- The command answers a next state of which `P` holds. -/
def Runs (c : Instr) (s : State) (P : State → Prop) : Prop := ∃ t, exec c s = .next t ∧ P t

/-- A field of a 32-bit register. -/
abbrev Fld.ok (f : Fld) : Prop := f.lsb ≤ f.msb ∧ f.msb < 32

/-- Two fields share no bit: they lie in different registers, or in different bits of one. -/
abbrev Fld.apart (f g : Fld) : Prop := f.addr ≠ g.addr ∨ f.msb < g.lsb ∨ g.msb < f.lsb

/-- No bit of any active register differs but those of the fields listed. -/
def OnlyFields (fs : List Fld) (s t : State) : Prop :=
  ∀ g : Fld, g.ok → (∀ f ∈ fs, f.apart g) → t.fld g = s.fld g

/-- The pending occurrences of an event source, oldest first (R417). -/
def State.events (s : State) (i : Nat) : List Occ := Tab.lst s.flt.pend i

/-- Source `i` got one occurrence with data word `d`, if it is enabled and its count of 15 has room, and no other source
got any (R417, R418). -/
def Raised (i : Nat) (d : Word) (s t : State) : Prop :=
  (s.on (F.FLT_SRCi_EN i) = true → (s.events i).length < 15 → t.events i = s.events i ++ [⟨d, false⟩]) ∧
  (∀ j, j ≠ i → t.events j = s.events j)

/-- No event was raised and none taken. -/
def Quiet (s t : State) : Prop := ∀ j, t.events j = s.events j

/-- A load was refused with a reason and an item (R52, R58): CFG_ADMIT and EV_CFG_REFUSED tell, and the loader is in IDLE, or,
after a boot load of the primary with BOOTSRC 0, fetches the secondary; a boot load without another image raises
EV_SYS_BOOT_FAIL (R51). -/
def LoadRefused (r i : Nat) (s t : State) : Prop :=
  t.fld F.CFG_ADMIT_REASON = r % 256 ∧ t.fld F.CFG_ADMIT_ITEM = i % 2 ^ 20 ∧
  t.fld F.CFG_ADMIT_ORIGIN = (if s.ldr.dry = true then 2 else 0) ∧
  (s.on (F.FLT_SRCi_EN 19) = true → (s.events 19).length < 15 → t.events 19 = s.events 19 ++ [⟨t.reg R.CFG_ADMIT, false⟩]) ∧
  (s.ldr.boot = false → t.ldrState = 0 ∧ t.on F.CFG_CTRL_LOAD = false) ∧
  (s.ldr.boot = true → s.ldr.src = 1 → s.ldr.bootSrc = 0 → t.ldrState = 1 ∧ t.ldr.src = 2 ∧ t.ldr.boot = true) ∧
  (s.ldr.boot = true → s.ldr.src ≠ 1 ∨ s.ldr.bootSrc ≠ 0 → t.ldrState = 0 ∧
    (s.on (F.FLT_SRCi_EN 7) = true → (s.events 7).length < 15 → t.events 7 = s.events 7 ++ [⟨t.reg R.CFG_ADMIT, false⟩]))

/-- A commit of a snapshot has been applied (R105, R173): every shadowed field of every register has the snapshot's value,
the dirty tables are swapped, and no commit waits any more. -/
def CommitApplied (snap : Tab Word) (s t : State) : Prop :=
  (∀ (a : Nat) (r : RegRow) (f : FieldRow), regRow? a = some r → f ∈ r.fields → f.shadow = true →
    bits f.msb f.lsb (t.reg a).toNat = bits f.msb f.lsb (Tab.get resetWord snap a).toNat) ∧
  t.shad = s.shad ∧ t.tabs = s.swapTables.tabs ∧ t.on F.TIM_COMMIT_COMMIT = false ∧ t.on F.TIM_COMMIT_PENDING = false ∧
  t.ldr.commit = .idle

/-- Requester `i` comes before requester `j` in the round robin of one class, or is `j`, for a pointer `ptr` (R33). -/
abbrev First (ptr i j : Nat) : Prop := (ptr ≤ i ∧ j < ptr) ∨ (i ≤ j ∧ (ptr ≤ i ∨ j < ptr))

/-- Record `i` of the topology is a context of this bead whose feed's load `l` runs and whose input lines are there
(R17, R20). -/
def State.beadReady (s : State) (isle strand bead i : Nat) (x : Ctx) (l : Load) : Prop :=
  (Secs.ctxs s.conf.secs)[i]? = some x ∧ x.isle = isle ∧ x.strand = strand ∧ x.bead = bead ∧
  Tab.opt s.pix.loads x.feed = some l ∧ l.ctxReady (feedCtxs (Secs.ctxs s.conf.secs) isle x.feed) i x = true

/-- Nothing differs but the port `p` and what its frames do to registers. -/
def OnlyPort (p : Nat) (s t : State) : Prop :=
  (∀ q, q ≠ p → t.port q = s.port q) ∧ t = { s with regs := t.regs, chn := { s.chn with ports := t.chn.ports } }

/-- Nothing differs but the port `p`. -/
def PortOnly (p : Nat) (s t : State) : Prop := OnlyPort p s t ∧ t.regs = s.regs

/-- The host port has nothing under way: no word waits, no read, no line to flush (R269, R435). -/
abbrev State.hostIdle (s : State) : Prop := s.host.jobs = [] ∧ s.host.reading = none ∧ s.mem.lineDue = false

/-- Nothing waits for the frame memory before its queues (R37): no access of the host, no packet for the input writer, no
pass of the zone model, no access and no image chunk of the Spine, no check unit. -/
abbrev State.nothingWaits (s : State) : Prop :=
  s.hostIdle ∧ Tab.lst s.lnk.rxVideo 0 = [] ∧ Tab.lst s.lnk.rxVideo 2 = [] ∧ s.cor.passes = [] ∧ s.spn.held = [] ∧
  s.spn.self = [] ∧ s.chkWaiting = []

/-- The fields in which an activation that reaches the threshold of row hammer shows (R268), with its event. -/
abbrev hammerFields : List Fld :=
  [F.MEM_HR_STAT_QUEUE, F.MEM_HR_STAT_RANK, F.MEM_HR_STAT_BANK, F.MEM_HR_STAT_ROW, F.MEM_HR_STAT_EVENTS, F.MEM_HR_THR_QUEUES,
    F.FLT_STAT_LOSTOCC]

/-- The registers of which a write does more than store fields: it commands something, or a setting acts at once. -/
def actsOnWrite (a : Nat) : Bool :=
  [5, 16].contains (a / 0x10000) ||
  [R.SYS_STRAIT, R.SYS_FLCMD, R.CLK_STAT, R.CLK_GATE, R.PWR_CTRL, R.PWR_WAKEOUT, R.PWR_LBn 1, R.PWR_LBn 2, R.THM_CTRL,
    R.CFG_CTRL, R.SPN_TSET_HI, R.SPN_CTRL, R.SPN_RA_CTRL, R.SPN_MC_CTRL, R.MEM_Mc_WB 0, R.MEM_Mc_WB 1, R.MEM_SPARE_CTRL,
    R.COR_ZM_STAT, R.COR_ZM_PROBE, R.TIM_COMMIT, R.TIM_GCTRL, R.CHN_CTRL, R.CHN_PROBE, R.CLS_KEY, R.CLS_CTRL, R.ADC_CTRL,
    R.ADC_SCAL, R.CAL_CTRL, R.CAL_PROBE, R.FLT_FCTRL, R.FLT_INJ, R.FLT_INJ_DATA, R.LOG_CTRL].contains a ||
  (List.range 8).any (fun x => a == R.LAY_x_PUB x) ||
  (List.range 6).any (fun j => a == R.FLT_PENDj j || a == R.FLT_PROMOj j) ||
  (decide (R.FLT_SRCi 0 ≤ a) && decide (a ≤ R.FLT_SRCi 191))

/-- A register of which a write stores its fields and does nothing else. -/
def writesPlain (s : State) (a : Nat) (r : RegRow) : Prop :=
  a < 0x140000 ∧ activeAddr a = a ∧ regRow? a = some r ∧ actsOnWrite a = false ∧ (lockedRow r = false ∨ s.armed = false)

/-- A register that reads as it stands, but for RC fields: no read of it acts (R439), and a host command does not change
it. -/
def readsPlain (a : Nat) (r : RegRow) : Prop :=
  a < 0x140000 ∧ activeAddr a = a ∧ regRow? a = some r ∧
  a ∉ [R.SPN_TIME_LO, R.SPN_TIME_HI, R.LNK_CM_RSP, R.SPN_RA_RSP, R.SPN_FIN0, R.FLT_INJ, R.FLT_INJ_DATA, R.SYS_HOSTSTAT]

/-- A read that meets no error and reaches its line (R250). -/
abbrev clean : ReadNoise := ⟨[], [], none⟩

/-- A read in which one data bit is wrong: bit `b` of the first word (R250). -/
abbrev oneWrong (b : Fin 64) : ReadNoise := ⟨[BitVec.ofNat 64 (2 ^ b.val)], [], none⟩

/-! ## Invariants -/

/-- The active and the shadow registers are in canonical form: addresses rise and no word equals its reset word. -/
def State.regsCanonical (s : State) : Prop := Tab.wf resetWord s.regs = true ∧ Tab.wf resetWord s.shad = true

/-- The copies of the tables are in canonical form (R103 to R106). -/
def State.tablesCanonical (s : State) : Prop :=
  Tab.wf (fun _ => (0 : Word)) s.tabs.front = true ∧ Tab.wf (fun _ => (0 : Word)) s.tabs.back = true ∧
  Tab.wf (fun _ => (0 : Word)) s.tabs.beads = true

/-- No source has more than 15 occurrences pending (R417). -/
def State.eventsBounded (s : State) : Prop := ∀ i, (s.events i).length ≤ 15

end Sys2Proof.Machine
end

