-- ==== Sys2Proof/Certificates/Slice0/Obligations.lean ====
section
/-! DEFINITION. The statements for the provers (OBLIGATIONS.json lists them): what commands do to the block, family by
family, and what no step can break. -/

open Sys2Proof Sys2Proof.Machine

/-- Where commands act and the strait of a die is up: a flit whose CRC-16-CCITT matches ends the row of failures of
its direction and changes nothing else. A flit that fails is counted in REPLAY, which saturates at 255, while fewer
than three failures precede it. The fourth failure in a row makes STATE read 3, raises EV_SYS_STRAIT_RETRAIN of the
die, and the bank loads in progress skip that die's ports, those of the other die going on. On a strait that is not up
a flit changes nothing. (01_architecture.md, R28, R29) -/
def Obligations.Strait_FlitsReplayAndRetrain : Prop :=
  ∀ (s : State) (die : Fin 2) (dir : Bool) (flit : BitVec 256) (c : BitVec 16), s.live →
    (s.fld (straitState die) ≠ 2 → Runs (.straitFlitReceive die dir flit c) s fun t => t = s) ∧
    (s.fld (straitState die) = 2 → crc16 (flitBytes flit) = c.toNat →
      Runs (.straitFlitReceive die dir flit c) s fun t =>
        Tab.num t.strait.bad (2 * die + b2n dir) = 0 ∧ t = { s with strait := { s.strait with bad := t.strait.bad } }) ∧
    (s.fld (straitState die) = 2 → crc16 (flitBytes flit) ≠ c.toNat → Tab.num s.strait.bad (2 * die + b2n dir) < 3 →
      Runs (.straitFlitReceive die dir flit c) s fun t =>
        Tab.num t.strait.bad (2 * die + b2n dir) = Tab.num s.strait.bad (2 * die + b2n dir) + 1 ∧
        t.fld (straitReplay die) = min 255 (s.fld (straitReplay die) + 1) ∧ OnlyFields [straitReplay die] s t ∧
        t = { s with regs := t.regs, strait := { s.strait with bad := t.strait.bad } }) ∧
    (s.fld (straitState die) = 2 → crc16 (flitBytes flit) ≠ c.toNat → 3 ≤ Tab.num s.strait.bad (2 * die + b2n dir) →
      Runs (.straitFlitReceive die dir flit c) s fun t =>
        t.fld (straitState die) = 3 ∧ Raised die (BitVec.ofNat 32 (die + 1)) s t ∧
        (∀ k, k < 4 → (Tab.opt s.pix.loads k).isSome = true → Tab.on t.tim.skipped (4 * die + k) = true) ∧
        (∀ k, k < 4 → Tab.on t.tim.skipped (4 * (1 - die) + k) = Tab.on s.tim.skipped (4 * (1 - die) + k)) ∧
        OnlyFields [straitState die, F.FLT_STAT_LOSTOCC] s t ∧
        t = { s with regs := t.regs, strait := t.strait, flt := t.flt, tim := { s.tim with skipped := t.tim.skipped } })

/-- Where commands act: an attempt of a retrain (STATE 3 outside a recovery from DOWN), or of a training (STATE 1, or
a recovery), that succeeds makes STATE read 2 and, where no bring-up of the chains waits for it (R464), changes no
other field; one that fails as the first or second in a row only counts, and STATE stays that of the attempt that
follows; the third sets DOWN and makes STATE read 0, with global blank asked of the die's ports. What STATE shows
between attempts and after the third is the model's reading (log entry 19). DOWN_CLEAR of a strait that is down clears
DOWN and makes STATE read 3; after a loss of VDD_CORE it does so only once the supply is back, as the command says,
and the dies have power-good again; before that it only clears DOWN (log entry 46). On a strait that is not down it
changes nothing. VDD_CORE_LOW sets both DOWN flags with both states 0, and the chain pads are low.
(01_architecture.md, R28, R29, R30, 16_package_startup.md, R462) -/
def Obligations.Strait_AttemptsAndDown : Prop :=
  ∀ (s : State), s.live →
    (∀ (die : Fin 2), s.fld (straitState die) = 3 → Tab.on s.strait.fromDown die = false →
      (Runs (.straitRetrainDone die true) s fun t => t.fld (straitState die) = 2 ∧ Tab.num t.strait.fails die = 0 ∧
        (s.chn.bringDue = false → OnlyFields [straitState die] s t ∧ t = { s with regs := t.regs, strait := t.strait })) ∧
      (Tab.num s.strait.fails die < 2 → Runs (.straitRetrainDone die false) s fun t =>
        Tab.num t.strait.fails die = Tab.num s.strait.fails die + 1 ∧
        t = { s with strait := { s.strait with fails := t.strait.fails } }) ∧
      (2 ≤ Tab.num s.strait.fails die → Runs (.straitRetrainDone die false) s fun t =>
        t.fld (straitState die) = 0 ∧ t.on (straitDown die) = true ∧
        t.fld F.CHN_STAT_BLANK_SRC / 2 ^ (2 + die.val) % 2 = 1 ∧ Raised (2 + die) (BitVec.ofNat 32 (die + 1)) s t)) ∧
    (∀ (die : Fin 2), s.fld (straitState die) = 1 ∨ (s.fld (straitState die) = 3 ∧ Tab.on s.strait.fromDown die = true) →
      (Runs (.straitTrainingDone die true) s fun t => t.fld (straitState die) = 2 ∧ Tab.on t.strait.fromDown die = false ∧
        (s.chn.bringDue = false → OnlyFields [straitState die] s t ∧ t = { s with regs := t.regs, strait := t.strait })) ∧
      (Tab.num s.strait.fails die < 2 → Runs (.straitTrainingDone die false) s fun t =>
        Tab.num t.strait.fails die = Tab.num s.strait.fails die + 1 ∧
        t = { s with strait := { s.strait with fails := t.strait.fails } }) ∧
      (2 ≤ Tab.num s.strait.fails die → Runs (.straitTrainingDone die false) s fun t =>
        t.fld (straitState die) = 0 ∧ t.on (straitDown die) = true ∧
        t.fld F.CHN_STAT_BLANK_SRC / 2 ^ (2 + die.val) % 2 = 1)) ∧
    (∀ (c : DownClear), Runs (.downClear c) s fun t =>
      (s.on (straitDown c.die) = true → s.strait.noPower = false ∨ c.supply = true →
        t.on (straitDown c.die) = false ∧ t.fld (straitState c.die) = 3 ∧
        Tab.on t.strait.fromDown c.die = true ∧ t.strait.noPower = false ∧
        OnlyFields [straitDown c.die, straitState c.die] s t ∧ t = { s with regs := t.regs, strait := t.strait }) ∧
      (s.on (straitDown c.die) = true → s.strait.noPower = true → c.supply = false →
        t.on (straitDown c.die) = false ∧ OnlyFields [straitDown c.die] s t ∧ t = { s with regs := t.regs }) ∧
      (s.on (straitDown c.die) = false → t = s)) ∧
    (Runs .vddCoreLow s fun t => t.strait.noPower = true ∧ (∀ p, t.padsLow = true ∧ t.pin (.chain p) = .low) ∧
      ∀ die : Fin 2, t.fld (straitState die) = 0 ∧ t.on (straitDown die) = true)

/-- Where commands act and the thermal shutdown state is not in force: LOAD while block 10 is stopped or asked to stop
only takes SRC and DRYRUN. Otherwise LOAD while the loader is not in IDLE, or a multicast session is being received,
only counts BUSY_REJ and raises EV_CFG_BUSY. In IDLE a host load enters CHECK, a flash load enters FETCH and asks for
the flash, a load of the reserved source is refused with reason 0x01 and the loader stays in IDLE; each names its
source and DRYRUN. ABORT in FETCH to ADMIT, for a load that is no boot load and holds no commit, returns to IDLE with
reason 0x07 and EV_CFG_REFUSED, and a flash transfer of the load that has started goes on to its end without it; in
other states it changes nothing. That ABORT raises the event, and that DRYRUN is taken when a load starts, are the
model's readings (log entry 68). REVERT makes every shadowed field of every shadow read as the active one and changes
nothing else. (02_golbiesh_image.md, R50, R52, R53, R56, R57, R386) -/
def Obligations.Loader_LoadAbortRevert : Prop :=
  ∀ s : State, s.live →
    (∀ (src : BitVec 2) (dry : Bool), s.on F.THM_STAT_SHUT = false → s.stopping 10 = true → Runs (.load src dry) s fun t =>
      t.ldrState = s.ldrState ∧ OnlyFields [F.CFG_CTRL_SRC, F.CFG_CTRL_DRYRUN] s t ∧ t = { s with regs := t.regs }) ∧
    (∀ (src : BitVec 2) (dry : Bool), s.on F.THM_STAT_SHUT = false → s.stopping 10 = false →
      (s.ldrState ≠ 0 ∨ s.on F.SPN_MC_RX_ACTIVE = true → Runs (.load src dry) s fun t =>
        t.fld F.CFG_STATUS_BUSY_REJ = min 255 (s.fld F.CFG_STATUS_BUSY_REJ + 1) ∧ t.ldrState = s.ldrState ∧
        Raised 22 (BitVec.ofNat 32 (if src = 3 then 0 else src.toNat)) s t ∧
        OnlyFields [F.CFG_CTRL_SRC, F.CFG_CTRL_DRYRUN, F.CFG_STATUS_BUSY_REJ, F.FLT_STAT_LOSTOCC] s t ∧
        t = { s with regs := t.regs, flt := t.flt }) ∧
      (s.ldrState = 0 → s.on F.SPN_MC_RX_ACTIVE = false → src = 0 → Runs (.load src dry) s fun t =>
        t.ldrState = 2 ∧ t.on F.CFG_CTRL_LOAD = true ∧ t.fld F.CFG_STATUS_AUTH = 0 ∧ t.ldr.src = 0 ∧ t.ldr.dry = dry ∧
        t.on F.CFG_CTRL_DRYRUN = dry ∧ t.fld F.CFG_CTRL_SRC = 0 ∧
        t.on F.CFG_STATUS_PENDING = decide (s.ldr.commit = .arrived) ∧
        OnlyFields [F.CFG_CTRL_SRC, F.CFG_CTRL_DRYRUN, F.CFG_CTRL_LOAD, F.CFG_STATUS_AUTH, F.CFG_STATUS_STATE,
          F.CFG_STATUS_PENDING] s t ∧
        t = { s with regs := t.regs, ldr := t.ldr }) ∧
      (s.ldrState = 0 → s.on F.SPN_MC_RX_ACTIVE = false → src = 1 ∨ src = 2 → Runs (.load src dry) s fun t =>
        t.ldrState = 1 ∧ t.on F.CFG_CTRL_LOAD = true ∧ t.ldr.src = src.toNat ∧ t.ldr.dry = dry ∧
        (t.flash.running = some .fetch ∨ FlashJob.fetch ∈ t.flash.waiting) ∧
        t.on F.CFG_STATUS_PENDING = decide (s.ldr.commit = .arrived) ∧
        OnlyFields [F.CFG_CTRL_SRC, F.CFG_CTRL_DRYRUN, F.CFG_CTRL_LOAD, F.CFG_STATUS_AUTH, F.CFG_STATUS_STATE,
          F.CFG_STATUS_PENDING] s t ∧
        t = { s with regs := t.regs, ldr := t.ldr, flash := t.flash }) ∧
      (s.ldrState = 0 → s.on F.SPN_MC_RX_ACTIVE = false → src = 3 → Runs (.load src dry) s fun t =>
        t.ldrState = 0 ∧ t.fld F.CFG_ADMIT_REASON = 1 ∧ t.fld F.CFG_ADMIT_ITEM = 0 ∧
        t.fld F.CFG_ADMIT_ORIGIN = (if dry then 2 else 0) ∧ Raised 19 (t.reg R.CFG_ADMIT) s t ∧
        t = { s with regs := t.regs, flt := t.flt })) ∧
    (1 ≤ s.ldrState → s.ldrState ≤ 4 → s.ldr.boot = false → s.ldr.commit ≠ .held → Runs .abort s fun t =>
      t.ldrState = 0 ∧ t.fld F.CFG_ADMIT_REASON = 7 ∧ t.fld F.CFG_ADMIT_ORIGIN = (if s.ldr.dry then 2 else 0) ∧
      t.on F.CFG_CTRL_LOAD = false ∧ t.on F.CFG_CTRL_ABORT = false ∧ Raised 19 (t.reg R.CFG_ADMIT) s t ∧
      FlashJob.fetch ∉ t.flash.waiting ∧
      t.flash.running = (if s.flash.running = some .fetch then some .dropped else s.flash.running) ∧
      t = { s with regs := t.regs, flt := t.flt, ldr := t.ldr, flash := t.flash }) ∧
    (s.ldrState = 0 ∨ 4 < s.ldrState → Runs .abort s fun t => t = s) ∧
    (Runs .revert s fun t =>
      (∀ (a : Nat) (r : RegRow) (f : FieldRow), regRow? a = some r → f ∈ r.fields → f.shadow = true →
        bits f.msb f.lsb (t.shadReg a).toNat = bits f.msb f.lsb (s.reg a).toNat) ∧
      t = { s with shad := t.shad })

/-- Where commands act, the load is not paused, and the loader runs: FETCH_DONE in FETCH with an image whose header
begins right writes its TOTAL_LEN bytes to the staging area and enters CHECK; without an image the load is refused
with 0x01. CHECK_DONE enters AUTH with the staged image where no rule of CHECK is broken, else the load is refused
with the reason and item found; the image is read through Q24, line by line, and what the reads find is judged with
it. AUTH_DONE enters ADMIT with AUTH 0 where the SEC fuse is clear, with AUTH 1 for an authentic image, and else
refuses with 0x04 and EV_CFG_AUTH. A refusal raises EV_CFG_REFUSED and returns to IDLE, or, for a boot load of the
primary with BOOTSRC 0, fetches the secondary, and any other boot load raises EV_SYS_BOOT_FAIL. In any other loader
state the three change nothing, but that FETCH_DONE ends the transfer of a load that was aborted, without effect on
the loader (R447). (02_golbiesh_image.md, R40, R41, R46, R47, R48, R49, R51, R52, R447, R468) -/
def Obligations.Loader_FetchCheckAuth : Prop :=
  ∀ s : State, s.live →
    (∀ im, s.ldrState ≠ 1 → s.flash.running ≠ some .dropped → Runs (.fetchDone im) s fun t => t = s) ∧
    (∀ im, s.flash.running = some .dropped → Runs (.fetchDone im) s fun t => t.ldr = s.ldr ∧ t.ldrState = s.ldrState) ∧
    (s.ldrState ≠ 2 → Runs .checkDone s fun t => t = s) ∧ (s.ldrState ≠ 3 → Runs .authDone s fun t => t = s) ∧
    (s.ldrRuns = true →
      (∀ b : List Byte, s.ldrState = 1 → s.flash.running = some .fetch → leAt b 0 4 = 0x31424C47 → 64 ≤ leAt b 8 4 →
        leAt b 8 4 ≤ 0x1000000 → (s.ldr.src = 2 → s.on F.SYS_FLCFG_ADDR4 = true) →
        Runs (.fetchDone (some b)) s fun t =>
          t.ldrState = 2 ∧
          (∀ u : State, u = (({ s with flash := { s.flash with running := none } }).snoop 0x0D b).snoopBoundary 0x0D →
            t.mem = (u.writeFlat 24 u.stageBase (slice b 0 (leAt b 8 4))).mem)) ∧
      (s.ldrState = 1 → s.flash.running = some .fetch → Runs (.fetchDone none) s fun t => LoadRefused 1 0 s t) ∧
      (∀ (u v : State) (d : Delivered) (ds : List Delivered) (m n : Nat) (img : List Byte) (bad : List Nat),
        s.ldrState = 2 → s.engineFree 24 = true → (u, d) = s.lineRead 24 s.stageBase → m = leAt d.data 8 4 →
        n = (if 64 ≤ m ∧ m ≤ 0x1000000 then m else 64) →
        (v, ds) = u.readLines 24 (s.stageBase + 64) (n - 64) → img = spanBytes (d :: ds) s.stageBase n →
        bad = ((d :: ds).filter (·.poisoned)).map (fun x => x.flat - s.stageBase) →
        (v.checkFinding img bad = none → Runs .checkDone s fun t =>
          t.ldrState = 3 ∧ t.ldr.img = img ∧ t.ldr.secs = imageSecs img ∧ t.mem = v.mem ∧ t.conf = s.conf) ∧
        (∀ r i, v.checkFinding img bad = some (r, i) → Runs .checkDone s fun t =>
          LoadRefused r i s t ∧ t.mem = v.mem ∧ t.conf = s.conf)) ∧
      (s.ldrState = 3 → s.ldr.sec = false → Runs .authDone s fun t =>
        t.ldrState = 4 ∧ t.fld F.CFG_STATUS_AUTH = 0 ∧
        OnlyFields [F.CFG_STATUS_AUTH, F.CFG_STATUS_STATE, F.CFG_STATUS_PENDING] s t ∧ t = { s with regs := t.regs }) ∧
      (s.ldrState = 3 → s.ldr.sec = true → authentic s.ldr.img s.ldr.keyHash.toNat = true → Runs .authDone s fun t =>
        t.ldrState = 4 ∧ t.fld F.CFG_STATUS_AUTH = 1 ∧
        OnlyFields [F.CFG_STATUS_AUTH, F.CFG_STATUS_STATE, F.CFG_STATUS_PENDING] s t ∧ t = { s with regs := t.regs }) ∧
      (s.ldrState = 3 → s.ldr.sec = true → authentic s.ldr.img s.ldr.keyHash.toNat = false → Runs .authDone s fun t =>
        LoadRefused 4 0 s t ∧ (s.ldr.boot = false → t.fld F.CFG_STATUS_AUTH = 2) ∧
        (s.on (F.FLT_SRCi_EN 20) = true → (s.events 20).length < 15 →
          t.events 20 = s.events 20 ++ [⟨t.reg R.CFG_ADMIT, false⟩]) ∧
        t = { s with regs := t.regs, flt := t.flt, ldr := t.ldr, flash := t.flash }))

/-- Where commands act, block 10 runs and has its clock. ADMISSION_DONE in ADMIT, with no commit under admission or
held: a finding refuses the load, a boot load as R51 says; a dry run reports reason 0 with origin 2 and returns to
IDLE; with no configuration running a full image goes to APPLY; with one running, a full image waits in WAIT for its
frame start, or, where no frame runs to begin one, begins its restructure at once, blanked, in APPLY, which is the
model's reading (log entry 69); a partial image waits for the commit window. PENDING reads 1 while an image waits in
WAIT or an admitted commit waits. A commit that was held is refused with 0x33 where the image waits. With a commit
under admission: a finding refuses the commit alone, COMMIT reads 0 and the shadows stay; otherwise CFG_ADMIT reports
reason 0 with origin 1, and the commit arrives, or in an open window is applied. APPLY in APPLY returns the loader to
IDLE: CFG_IMG is the SEQ of the image (for a partial one the model's reading, log entry 67), LAST_SRC its source,
ACTIVE reads 1 after a full image; the sections in force, the shadow words and the shadowed fields of the active
registers that STAGE and TIMING load, and the tables, are the image's; and EV_CFG_LOADED is raised. In other loader
states APPLY changes nothing. (02_golbiesh_image.md, R51, R52, R54, R57, R58, R59, R60, R71, R72, R118, R120) -/
def Obligations.Loader_AdmissionApply : Prop :=
  ∀ s : State, s.live → s.isGated 10 = false → s.hubRuns = true →
    (s.ldrState = 4 → s.ldr.commit = .idle ∨ s.ldr.commit = .arrived →
      (∀ r i, s.imageFinding = some (r, i) → Runs .admissionDone s fun t => LoadRefused r i s t ∧
        t.on F.CFG_STATUS_PENDING = decide (s.ldr.commit = .arrived) ∧
        (s.ldr.boot = false → t = { s with regs := t.regs, flt := t.flt, ldr := t.ldr })) ∧
      (s.imageFinding = none → s.ldr.dry = true → Runs .admissionDone s fun t =>
        t.ldrState = 0 ∧ t.fld F.CFG_ADMIT_REASON = 0 ∧ t.fld F.CFG_ADMIT_ORIGIN = 2 ∧
        t.on F.CFG_STATUS_PENDING = decide (s.ldr.commit = .arrived) ∧ t = { s with regs := t.regs, ldr := t.ldr }) ∧
      (s.imageFinding = none → s.ldr.dry = false → s.active = false → Runs .admissionDone s fun t =>
        t.ldrState = 6 ∧ t.fld F.CFG_ADMIT_REASON = 0 ∧ t.fld F.CFG_ADMIT_ORIGIN = 0 ∧
        t.on F.CFG_STATUS_PENDING = decide (s.ldr.commit = .arrived) ∧ t = { s with regs := t.regs, ldr := t.ldr }) ∧
      (s.imageFinding = none → s.ldr.dry = false → s.active = true → s.framesRun = false → isPartial s.ldr.img = false →
        Runs .admissionDone s fun t =>
          t.ldrState = 6 ∧ t.ldr.restruct = .writing ∧ t.fld F.CHN_STAT_BLANK_SRC / 2 ^ 4 % 2 = 1 ∧
          t.on F.CFG_STATUS_PENDING = decide (s.ldr.commit = .arrived) ∧ t.fld F.CFG_ADMIT_REASON = 0) ∧
      (s.imageFinding = none → s.ldr.dry = false → s.active = true → s.framesRun = true → isPartial s.ldr.img = false →
        Runs .admissionDone s fun t =>
          t.ldrState = 5 ∧ t.ldr.restruct = .waiting ∧ t.on F.CFG_STATUS_PENDING = true ∧ t.fld F.CFG_ADMIT_REASON = 0 ∧
          t = { s with regs := t.regs, ldr := t.ldr }) ∧
      (s.imageFinding = none → s.ldr.dry = false → s.active = true → isPartial s.ldr.img = true →
        Runs .admissionDone s fun t => t.ldrState = (if s.on F.TIM_STAT_WINDOW then 6 else 5) ∧
          t.ldr.partialWait = true ∧ t = { s with regs := t.regs, ldr := t.ldr })) ∧
    (s.ldrState = 4 → s.ldr.commit = .held → s.imageFinding = none → s.ldr.dry = false → Runs .admissionDone s fun t =>
      5 ≤ t.ldrState ∧ t.ldr.commit = .idle ∧ t.on F.TIM_COMMIT_COMMIT = false ∧ t.fld F.CFG_ADMIT_REASON = 0x33 ∧
      t.fld F.CFG_ADMIT_ORIGIN = 1) ∧
    (∀ r i, s.ldr.commit = .admitting →
      admission (s.candidate s.conf.secs (withShadows s.regs s.ldr.snap)) = some (r, i) → Runs .admissionDone s fun t =>
        t.ldr.commit = .idle ∧ t.on F.TIM_COMMIT_COMMIT = false ∧ t.fld F.CFG_ADMIT_REASON = r % 256 ∧
        t.fld F.CFG_ADMIT_ORIGIN = 1 ∧ t.shad = s.shad ∧ t.ldr.paused = false ∧
        t = { s with regs := t.regs, flt := t.flt, ldr := t.ldr }) ∧
    (s.ldr.commit = .admitting → admission (s.candidate s.conf.secs (withShadows s.regs s.ldr.snap)) = none →
      Runs .admissionDone s fun t => t.fld F.CFG_ADMIT_REASON = 0 ∧ t.fld F.CFG_ADMIT_ORIGIN = 1 ∧ t.ldr.paused = false ∧
        (s.active = true → s.on F.TIM_STAT_WINDOW = false →
          t.ldr.commit = .arrived ∧ t.on F.TIM_COMMIT_PENDING = true ∧ t.on F.CFG_STATUS_PENDING = true ∧ t.shad = s.shad) ∧
        (s.active = false ∨ s.on F.TIM_STAT_WINDOW = true → s.regsCanonical → Tab.wf resetWord s.ldr.snap = true →
          CommitApplied s.ldr.snap s t)) ∧
    (s.ldrState ≠ 4 → s.ldr.commit ≠ .admitting → Runs .admissionDone s fun t => t = s) ∧
    (∀ (p : Bool) (merged : Secs) (l : List (Nat × Word)), s.ldrState = 6 → p = isPartial s.ldr.img →
      merged = mergedSecs s.conf.secs s.ldr.secs p → l = imageLoads s.ldr.secs merged p → Runs .apply s fun t =>
        t.ldrState = 0 ∧ t.reg R.CFG_IMG = BitVec.ofNat 32 (leAt s.ldr.img 16 4) ∧
        t.fld F.CFG_STATUS_LAST_SRC = s.ldr.src % 8 ∧ t.on F.CFG_CTRL_LOAD = false ∧
        t.active = (s.active || !p) ∧ t.conf.secs = merged ∧
        t.tabs = (s.lutApply (Secs.get s.ldr.secs 3 0)).tabs ∧
        (∀ a, a ≠ R.CHN_CUR → t.shadReg a = Tab.get resetWord (loadWords s.shad l) a) ∧
        (∀ (a : Nat) (r : RegRow) (f : FieldRow), a ≠ R.CHN_CUR → regRow? a = some r → f ∈ r.fields → f.shadow = true →
          bits f.msb f.lsb (t.reg a).toNat = bits f.msb f.lsb (Tab.get resetWord (loadWords s.regs l) a).toNat) ∧
        (t.on (F.FLT_SRCi_EN 21) = true → (s.events 21).length < 15 →
          t.events 21 = s.events 21 ++ [⟨BitVec.ofNat 32 (leAt s.ldr.img 16 4), false⟩])) ∧
    (s.ldrState ≠ 6 → Runs .apply s fun t => t = s)

/-- Where commands act and the thermal shutdown state is not in force. COMMIT while COMMIT reads 1 only counts
IGNORED. Otherwise COMMIT reads 1 and: in WAIT or APPLY it is refused with 0x33 and reads 0 again; in ADMIT it is
held; in IDLE to AUTH the shadows are snapped, and with a configuration running a change of an admitted field sends it
to admission, which pauses a load in FETCH to AUTH; without such a change, outside the window, it arrives with PENDING
set, and late, with its event, once the window has closed; inside the window, or with no configuration running, it is
applied at once: every shadowed field of every register takes the value of its shadow, the dirty tables are swapped,
and COMMIT and PENDING read 0. COMMIT_WINDOW_OPEN of a running frame sets WINDOW, applies a commit that has arrived,
from its snapshot, and moves a partial image that waits to APPLY; COMMIT_WINDOW_CLOSE clears WINDOW and changes
nothing else but that the window has been. (05_timing_scanout.md, R54, R55, R70, R71, R105, R171, R172, R173) -/
def Obligations.Commit_HeldRefusedArrived : Prop :=
  ∀ s : State, s.live →
    (s.on F.THM_STAT_SHUT = false →
      (s.on F.TIM_COMMIT_COMMIT = true → Runs .commit s fun t =>
        t.fld F.TIM_COMMIT_IGNORED = min 255 (s.fld F.TIM_COMMIT_IGNORED + 1) ∧
        OnlyFields [F.TIM_COMMIT_IGNORED] s t ∧ t = { s with regs := t.regs }) ∧
      (s.on F.TIM_COMMIT_COMMIT = false → 5 ≤ s.ldrState → Runs .commit s fun t =>
        t.on F.TIM_COMMIT_COMMIT = false ∧ t.ldr.commit = .idle ∧ t.fld F.CFG_ADMIT_REASON = 0x33 ∧
        t.fld F.CFG_ADMIT_ORIGIN = 1 ∧ Raised 19 (t.reg R.CFG_ADMIT) s t ∧
        t = { s with regs := t.regs, flt := t.flt, ldr := t.ldr }) ∧
      (s.on F.TIM_COMMIT_COMMIT = false → s.ldrState = 4 → Runs .commit s fun t =>
        t.on F.TIM_COMMIT_COMMIT = true ∧ t = { s with regs := t.regs, ldr := { s.ldr with commit := .held } }) ∧
      (s.on F.TIM_COMMIT_COMMIT = false → s.ldrState < 4 → s.active = true → changesAdmitted s.regs s.shad = true →
        Runs .commit s fun t =>
          t.on F.TIM_COMMIT_COMMIT = true ∧ t.ldr.commit = .admitting ∧ t.ldr.snap = s.shad ∧
          t.ldr.paused = decide (1 ≤ s.ldrState) ∧ t = { s with regs := t.regs, ldr := t.ldr }) ∧
      (s.on F.TIM_COMMIT_COMMIT = false → s.ldrState < 4 → s.active = true → changesAdmitted s.regs s.shad = false →
        s.on F.TIM_STAT_WINDOW = false → Runs .commit s fun t =>
          t.on F.TIM_COMMIT_COMMIT = true ∧ t.on F.TIM_COMMIT_PENDING = true ∧ t.on F.CFG_STATUS_PENDING = true ∧
          t.ldr.commit = .arrived ∧ t.ldr.snap = s.shad ∧
          (s.tim.winClosed = true → t.on F.TIM_STAT_COMMIT_LATE = true ∧
            Raised 102 (BitVec.ofNat 32 (s.fld F.TIM_FRAME_COUNT)) s t) ∧
          (s.tim.winClosed = false → t.flt = s.flt) ∧ t = { s with regs := t.regs, flt := t.flt, ldr := t.ldr }) ∧
      (s.on F.TIM_COMMIT_COMMIT = false → s.ldrState < 4 → s.active = false → s.regsCanonical →
        Runs .commit s fun t => CommitApplied s.shad s t) ∧
      (s.on F.TIM_COMMIT_COMMIT = false → s.ldrState < 4 → s.active = true → changesAdmitted s.regs s.shad = false →
        s.on F.TIM_STAT_WINDOW = true → s.regsCanonical → Runs .commit s fun t => CommitApplied s.shad s t)) ∧
    (s.framesRun = true → s.on F.TIM_STAT_WINDOW = false → s.tim.winClosed = false →
      Runs .commitWindowOpen s fun t => t.on F.TIM_STAT_WINDOW = true ∧
        t.ldrState = (if s.ldrState = 5 ∧ s.ldr.partialWait = true then 6 else s.ldrState) ∧
        (s.ldr.commit = .arrived → s.regsCanonical → Tab.wf resetWord s.ldr.snap = true →
          CommitApplied s.ldr.snap s t)) ∧
    (s.framesRun = true → Runs .commitWindowClose s fun t =>
      t.on F.TIM_STAT_WINDOW = false ∧ t.tim.winClosed = true ∧ OnlyFields [F.TIM_STAT_WINDOW] s t ∧
      t = { s with regs := t.regs, tim := { s.tim with winClosed := true } }) ∧
    (s.framesRun = false → (Runs .commitWindowOpen s fun t => t = s) ∧ Runs .commitWindowClose s fun t => t = s)

/-- Where commands act: a load that is not due, already runs, whose turn has not come, in a frame in which none may
start, or whose bank another feed still shows changes nothing. Otherwise, where no GUARD sums wait for their decision:
with neither strait up the load is marked skipped on both dies and only that; with one up, a new load of the feed runs
and is marked skipped on a die whose strait is not up; that one die is skipped while the other goes on is the model's
reading of R28 (log entry 25). It writes on each die the bank of the scheme of R164, keeps the zone gains, the tables
in the beads, the attenuation, the dither phase and, under Luminance Ceiling, the grey cap that are in force, has
formed no line, and waits on every port with drivers of the dies that take part; the dither phase advances modulo 4.
(03_layer_pipeline.md, R84, R124, R153, R164, R28, R332, 05_timing_scanout.md, R176, R179, R370) -/
def Obligations.Pixels_BankLoadStart : Prop :=
  ∀ (s : State) (k : Fin 4), s.live →
    (Tab.on s.tim.due k = false ∨ (Tab.opt s.pix.loads k).isSome = true ∨ s.mayLoad = false ∨ s.turnOf k = false ∨
      s.bankShown 0 k (s.loadBank 0 k) = true ∨ s.bankShown 1 k (s.loadBank 1 k) = true →
      Runs (.bankLoadStart k) s fun t => t = s) ∧
    (Tab.on s.tim.due k = true → Tab.opt s.pix.loads k = none → s.mayLoad = true → s.turnOf k = true →
      s.bankShown 0 k (s.loadBank 0 k) = false → s.bankShown 1 k (s.loadBank 1 k) = false → Tab.on s.cor.sumsIn k = false →
      (s.straitSkips 0 = true → s.straitSkips 1 = true → Runs (.bankLoadStart k) s fun t =>
        Tab.on t.tim.due k = false ∧ t.skips 0 k = true ∧ t.skips 1 k = true ∧
        t = { s with tim := { s.tim with due := t.tim.due, skipped := t.tim.skipped } }) ∧
      (s.straitSkips 0 = false ∨ s.straitSkips 1 = false → Runs (.bankLoadStart k) s fun t =>
        Tab.on t.tim.due k = false ∧ Tab.num t.pix.phase k = (Tab.num s.pix.phase k + 1) % 4 ∧
        (∀ die : Fin 2, t.skips die k = s.straitSkips die) ∧
        (∀ p, p < 64 → (t.port p).loads =
          (s.port p).loads ++ (if s.nic p ≠ 0 ∧ s.straitSkips (p / 32) = false then [k.val] else [])) ∧
        (∀ j, j ≠ k.val → Tab.opt t.pix.loads j = Tab.opt s.pix.loads j) ∧
        ∃ l, Tab.opt t.pix.loads k = some l ∧ l.bank = s.loadBank 0 k ∧ l.bankE1 = s.loadBank 1 k ∧ l.gains = s.cor.gains ∧
          l.att = t.fld (F.COR_Fk_GATT_ATT k) ∧ l.phase = Tab.num s.pix.phase k ∧ l.tables = t.tabs.beads ∧
          l.cap = (if s.clasp.lce then some (s.fld F.CLS_LCEG_GREY) else none) ∧
          l.done = [] ∧ l.lines = [] ∧ l.packed = [] ∧ l.shifted = []))

/-- Where commands act, the beads of the die run and its strait is up: of the contexts of a bead whose load runs and
whose input lines are there, where for each of them every fetched row that it takes is in the line buffer or can be
read at once, and with room, the one of the lowest class number, and among those of its class the one that R33 picks
by context number, forms its next line in its feed's load out of what the fetchers bring; the bead shows it, is not
gated, and the pointer of the class moves past it. With no such context, with beads that do not run, or without room
for any line, the bead is clock-gated and nothing else changes. While no fetched rows come in time, a context that
takes rows which no line buffer holds forms no line, and each buffer that has run empty is marked for its bank load
(R89, R132). What the operand says is log entry 20. (01_architecture.md, R17, R20, R33, R89, R132, R26, R363, R370) -/
def Obligations.Pixels_BeadRunsOneContext : Prop :=
  ∀ (s : State) (isle : Fin 8) (strand : Fin 4) (bead : Fin 8), s.live →
    ((∀ j y m, s.beadReady isle strand bead j y m →
        ∀ e ∈ m.needs (feedCtxs (Secs.ctxs s.conf.secs) isle y.feed) j y, s.hasRows true e = true) →
      (s.beadsRun (isle / 4) = true → s.fetchRuns (isle / 4) = true → ∀ (i : Nat) (x : Ctx) (l : Load),
        s.beadReady isle strand bead i x l →
        (∀ j y m, s.beadReady isle strand bead j y m → j ≠ i → x.cls < y.cls ∨ (x.cls = y.cls ∧ x.ctx ≠ y.ctx ∧
          First (Tab.num s.pix.beadPtr (4 * (32 * isle + 8 * strand + bead) + x.cls)) x.ctx y.ctx)) →
        Runs (.beadContextSelect isle strand bead ⟨0xFF, 0xFF⟩) s fun t =>
          ∃ u : State, u = { s with pix := { s.pix with beadCur := u.pix.beadCur, beadGated := u.pix.beadGated,
                                                        beadPtr := u.pix.beadPtr, beadRan := u.pix.beadRan } } ∧
            Tab.num u.pix.beadCur (32 * isle + 8 * strand + bead) = x.ctx ∧
            Tab.on u.pix.beadGated (32 * isle + 8 * strand + bead) = false ∧
            Tab.on u.pix.beadRan (32 * isle + 8 * strand + bead) = true ∧
            Tab.num u.pix.beadPtr (4 * (32 * isle + 8 * strand + bead) + x.cls) = x.ctx + 1 ∧
            Tab.opt t.pix.loads x.feed = some (u.runCtx l (feedCtxs (Secs.ctxs s.conf.secs) isle x.feed) i x).2 ∧
            (∀ k, k ≠ x.feed → Tab.opt t.pix.loads k = Tab.opt s.pix.loads k) ∧
            (∀ v : State, v = (u.runCtx l (feedCtxs (Secs.ctxs s.conf.secs) isle x.feed) i x).1 →
              t = { v with pix := { v.pix with loads := t.pix.loads } })) ∧
      (Runs (.beadContextSelect isle strand bead ⟨0xFF, 0⟩) s fun t =>
        Tab.on t.pix.beadGated (32 * isle + 8 * strand + bead) = true ∧
        t = { s with pix := { s.pix with beadGated := t.pix.beadGated } })) ∧
    ((s.beadsRun (isle / 4) = false ∨ ∀ j y m, ¬ s.beadReady isle strand bead j y m) →
      Runs (.beadContextSelect isle strand bead ⟨0xFF, 0xFF⟩) s fun t =>
        Tab.on t.pix.beadGated (32 * isle + 8 * strand + bead) = true ∧
        t = { s with pix := { s.pix with beadGated := t.pix.beadGated } }) ∧
    ((∀ j y m, s.beadReady isle strand bead j y m →
        ∃ e ∈ m.needs (feedCtxs (Secs.ctxs s.conf.secs) isle y.feed) j y, s.hasRows false e = false) →
      Runs (.beadContextSelect isle strand bead ⟨0, 0xFF⟩) s fun t =>
        Tab.on t.pix.beadGated (32 * isle + 8 * strand + bead) = true ∧
        (∀ k, (Tab.opt t.pix.loads k).map Load.lines = (Tab.opt s.pix.loads k).map Load.lines) ∧
        (s.beadsRun (isle / 4) = true → s.fetchRuns (isle / 4) = true → ∀ j y m, s.beadReady isle strand bead j y m →
          ∀ e ∈ m.needs (feedCtxs (Secs.ctxs s.conf.secs) isle y.feed) j y, s.hasRows false e = false →
            (Tab.opt t.pix.loads y.feed).any (fun l => Tab.on l.empty e.1) = true))

/-- Where commands act, on a port with drivers that is not mute, whose strait is up and whose die has its clock, for
the load at the head of its order where no throttled slot bars it: with the next row emitted by PACK, or, on a die
that is not throttled, after the first row also without it. Afterwards, in the drivers' memory of the load's bank on
that die and the row's scan line, channel c of driver d holds the value of the column that the pixel map places there,
or 0 where it places none. The value slots that were found empty (the operand names them; all of them for a row that
PACK has not emitted; none on a throttled die, which waits for its line) carry the value shifted before them on their
data line, and the first slot of a line the last one of the port's line before it. Each such slot is counted as an
underrun, up to the counter's 65,535. The line counts as shifted, and every other bank line is unchanged. With no load
waiting on the port nothing changes. (06_umlis_chain.md, R181, R191, R192, R194, R211, R182, R385) -/
def Obligations.Pixels_ShiftLandsOnMappedChannels : Prop :=
  ∀ (s : State) (p : Fin 64), s.live →
    ((s.port p).loads = [] → ∀ m, Runs (.chainLineShift p m) s fun t => t = s) ∧
    (∀ (k : Nat) (l : Load) (row : Nat) (m : List Nat) (gone : Nat → Bool) (v : Nat → Nat → Nat),
      (s.port p).loads.head? = some k → Tab.opt s.pix.loads k = some l → s.mute p = false →
      s.fld (straitState (p.val / 32)) = 2 → s.clocked (4 + p.val / 32) = true → s.slotBars p k = false →
      (Secs.portRows s.conf.secs p)[Tab.num l.shifted p]? = some row →
      Tab.lst l.packed (128 * (p.val / 8) + row) ≠ [] ∨ (Tab.num l.shifted p ≠ 0 ∧ s.slowed (p.val / 32) = false) →
      l.bankOf p < 4 →
      gone = (fun i => !s.slowed (p.val / 32) && ((Tab.lst l.packed (128 * (p.val / 8) + row)).isEmpty || m.contains i)) →
      Runs (.chainLineShift p m) s fun t =>
        (v = (fun d c => (Tab.lst (t.port p).drv.banks
            (64 * l.bankOf p + (Secs.rowEntry s.conf.secs (p.val / 8) row).2.2 % 64)).getD (48 * d + c) 0) →
          ∀ d c i, d < s.nic p → c < 48 → i = 24 * (s.nic p - 1 - d) + (23 - c % 24) →
            v d c =
              if gone (2 * i + c / 24) = false then
                ((portCols s.conf.secs p).find? fun e => e.1 == 64 * d + c).elim 0
                  fun e => (Tab.lst l.packed (128 * (p.val / 8) + row)).getD e.2 0
              else if i = 0 then (s.port p).last.getD (c / 24) 0
              else v (s.nic p - 1 - (i - 1) / 24) (24 * (c / 24) + 23 - (i - 1) % 24)) ∧
        (∀ b, b ≠ 64 * l.bankOf p + (Secs.rowEntry s.conf.secs (p.val / 8) row).2.2 % 64 →
          Tab.lst (t.port p).drv.banks b = Tab.lst (s.port p).drv.banks b) ∧
        (∀ q, q ≠ p.val → t.port q = s.port q) ∧
        (∃ l', Tab.opt t.pix.loads k = some l' ∧ Tab.num l'.shifted p = Tab.num l.shifted p + 1) ∧
        t.fld (undrFld p) = min 65535 (s.fld (undrFld p) + ((List.range (48 * s.nic p)).filter gone).length) ∧
        OnlyFields [undrFld p, F.FLT_STAT_LOSTOCC] s t ∧
        t = { s with regs := t.regs, flt := t.flt, chn := t.chn, pix := t.pix })

/-- Where commands act: a load that every port has shifted and every isle packed, of the dies that do not skip it, at
least one, where PACK has emitted every row (which the model waits for, log entry 26), completes: it runs no more, and
on each die that took part its bank is the feed's latest completed one and its dose sums are handed on, while a die
that skipped keeps its own. A load that no die skipped sets TIM_Fk_OSIG to the CRC-32C over the eight isle signatures
and, where they have not been sent, hands its GUARD sums on; one that a die skipped leaves both (the model's reading,
log entry 25). An unfinished one changes nothing. With both straits up, GUARD_SUMS_COMPLETE turns the oldest sums that
wait into the feed's zone means, each sum over 256, and where another load of the feed has started since theirs ended,
counts LATE in limit mode, with its event (R150); with one down it changes nothing. AGE_POISON_CLEAR clears AGE_POISON
and lets the stopped blocks resume. (05_timing_scanout.md, R164, R183, R139, R144, R150, 04_correction.md, R140, R28,
R26) -/
def Obligations.Pixels_LoadAndSumsComplete : Prop :=
  ∀ (s : State), s.live →
    (∀ (k : Fin 4) (l : Load), Tab.opt s.pix.loads k = some l →
      (s.loadShifted k l = true → s.packed k l = true → s.skipsAll k = false →
        (Runs (.bankLoadComplete k) s fun t =>
          Tab.opt t.pix.loads k = none ∧ (∀ j, j ≠ k.val → Tab.opt t.pix.loads j = Tab.opt s.pix.loads j) ∧
          t.shownOn 0 k = (if s.skips 0 k then s.shownOn 0 k else l.bank + 1) ∧
          t.shownOn 1 k = (if s.skips 1 k then s.shownOn 1 k else l.bankE1 + 1) ∧
          (∀ i, Tab.num (Tab.lst t.cor.dose k) i =
            Tab.num (if s.skips (if i < 6144 then 0 else 1) k then Tab.lst s.cor.dose k else l.dose) i) ∧
          t = { s with regs := t.regs, flt := t.flt, pix := { s.pix with loads := t.pix.loads }, chn := t.chn, tim := t.tim,
                       cor := { s.cor with dose := t.cor.dose, waiting := t.cor.waiting } }) ∧
        (s.skips 0 k = false → s.skips 1 k = false → Runs (.bankLoadComplete k) s fun t =>
          t.reg (R.TIM_Fk_OSIG k) = crc32c (((List.range 8).map fun i => leBytes 4 (s.isleSig l i).toNat).flatten) ∧
          Tab.lst t.cor.waiting k = Tab.lst s.cor.waiting k ++ (if l.sent then [] else [l.sums])) ∧
        (s.skips 0 k = true ∨ s.skips 1 k = true → Runs (.bankLoadComplete k) s fun t =>
          t.regs = s.regs ∧ t.flt = s.flt ∧ t.cor.waiting = s.cor.waiting)) ∧
      (s.loadShifted k l = false ∨ s.packed k l = false ∨ s.skipsAll k = true →
        Runs (.bankLoadComplete k) s fun t => t = s)) ∧
    (∀ k : Fin 4, Tab.opt s.pix.loads k = none → Runs (.bankLoadComplete k) s fun t => t = s) ∧
    (∀ k : Fin 4, s.straitSkips 0 = true ∨ s.straitSkips 1 = true → Runs (.guardSumsComplete k) s fun t => t = s) ∧
    (∀ k : Fin 4, s.straitSkips 0 = false → s.straitSkips 1 = false →
      (∀ (sums : Tab Nat) (rest : List (Tab Nat)), Tab.lst s.cor.waiting k = sums :: rest →
        Runs (.guardSumsComplete k) s fun t =>
          (∀ i, i < 12288 → (Tab.lst t.cor.means k).getD i 0 = Tab.num sums i / 256) ∧
          Tab.lst t.cor.waiting k = rest ∧ (∀ j, j ≠ k.val → Tab.lst t.cor.means j = Tab.lst s.cor.means j) ∧
          t.fld (F.COR_Fk_GSTAT_LATE k) = (if Tab.num s.cor.overdue k ≠ 0 ∧ s.fld (F.COR_Fk_GCTRL_MODE k) = 2 then
            min (F.COR_Fk_GSTAT_LATE k).max (s.fld (F.COR_Fk_GSTAT_LATE k) + 1) else s.fld (F.COR_Fk_GSTAT_LATE k)) ∧
          (Tab.num s.cor.overdue k ≠ 0 → s.fld (F.COR_Fk_GCTRL_MODE k) = 2 → s.on (F.FLT_SRCi_EN 95) = true →
            (s.events 95).length < 15 → t.events 95 = s.events 95 ++ [⟨BitVec.ofNat 32 k, false⟩]) ∧
          t = { s with regs := t.regs, flt := t.flt, cor := t.cor }) ∧
      (Tab.lst s.cor.waiting k = [] → Tab.opt s.pix.loads k = none → Runs (.guardSumsComplete k) s fun t => t = s)) ∧
    (Runs .agePoisonClear s fun t => t.on F.COR_ZM_STAT_AGE_POISON = false ∧ t.cor.stuck = [] ∧
      OnlyFields [F.COR_ZM_STAT_AGE_POISON] s t ∧ t = { s with regs := t.regs, cor := { s.cor with stuck := [] } })

/-- Where commands act, and with the front copies in canonical form: after TABLE_COPY_DONE every word of a table being
copied reads the same in its back copy as in its front copy, every other word of the back copy is as before, and no
table is being copied. COEF_REWRITE of a table that waits for it does the same from the front copy to the copies in
beads and strands, for that table alone; of any other table it changes nothing. PUBLISH adds 1 to LAY_x_SIG of its
layer, up to its width, restarts the idle count, and changes no other register. (03_layer_pipeline.md, R105, R106,
R83, R8, R371) -/
def Obligations.Tables_CopyAndRewrite : Prop :=
  ∀ s : State, s.live →
    (Tab.wf (fun _ => (0 : Word)) s.tabs.front = true →
      (Runs .tableCopyDone s fun t =>
        (∀ a, Tab.word t.tabs.back a = if (tableOf a).any s.tabs.copying.contains then Tab.word s.tabs.front a
          else Tab.word s.tabs.back a) ∧ t.tabs.copying = [] ∧
        t = { s with tabs := { s.tabs with back := t.tabs.back, copying := [] } }) ∧
      (∀ n, Tab.on s.tabs.rewrite n = true → Runs (.coefRewrite n) s fun t =>
        (∀ a, Tab.word t.tabs.beads a = if tableOf a = some n then Tab.word s.tabs.front a else Tab.word s.tabs.beads a) ∧
        Tab.on t.tabs.rewrite n = false ∧
        t = { s with tabs := { s.tabs with beads := t.tabs.beads, rewrite := t.tabs.rewrite } })) ∧
    (∀ n, Tab.on s.tabs.rewrite n = false → Runs (.coefRewrite n) s fun t => t = s) ∧
    (∀ n : Fin 8, Runs (.publish n) s fun t =>
      t.fld (F.LAY_x_SIG_SIG n) = min (2 ^ 32 - 1) (s.fld (F.LAY_x_SIG_SIG n) + 1) ∧ t.fld F.PWR_IDLECNT_MS = 0 ∧
      t.pwr.leave = (s.pwr.leave || (s.fld F.PWR_STAT_STATE == 1 && !s.pwr.forced)) ∧
      OnlyFields [F.LAY_x_SIG_SIG n, F.PWR_IDLECNT_MS] s t ∧
      t = { s with regs := t.regs, pwr := { s.pwr with leave := t.pwr.leave } })

/-- Where commands act: with no capture running WRITEBACK_LINE and WRITEBACK_PUBLISH change nothing. A QLUT line that
has been formed and not yet accounted for is, without room on the strait or, for the last row of its block, for the
whole captured line in the DRAM queue (log entry 136), counted in DROP with its event; with room it is taken, and with
the last row of its block the captured line of the rows of the block goes to its place in the ring buffer. A capture
all of whose lines are accounted for ends: with a dropped line INCOMPLETE is counted, else LAST names its buffer and
the frame is due on the monitor stream, and ONESHOT clears EN; an unfinished one changes nothing. MONITOR_PACKET_SEND
of a frame being sent: where its port is ACTIVE with room in the transmit queue, and Q21 can be read at once, the line
is read from its buffer through Q21 and its packet enters the queue; otherwise it is held back; on a port that is not
ACTIVE the packet is lost; then the next line is due, or after the last one the frame is over. Where no port is named
the frame is over. (03_layer_pipeline.md, R15, R107, R108, R109, R111, R112, R110, R286, R290) -/
def Obligations.Writeback_LinesAndPublication : Prop :=
  ∀ (s : State) (k : Fin 4), s.live →
    (Tab.opt s.pix.capture k = none → (∀ y room, Runs (.writebackLine k y room) s fun t => t = s) ∧
      Runs (.writebackPublish k) s fun t => t = s) ∧
    (∀ (c : Capture) (l : Load) (y : Fin 1024) (x : Nat × Ctx) (rows : Tab (List Px)) (block : List (List Px)) (room : Bool),
      Tab.opt s.pix.capture k = some c → Tab.opt s.pix.loads k = some l →
      findCtx (feedCtxs (Secs.ctxs s.conf.secs) (y.val / 128) k) 4 none = some x → y.val % 128 < Tab.num l.done x.1 →
      Tab.on c.written y = false → rows = Tab.setLst c.rows y (l.line x.1 (y.val % 128)) →
      block = (List.range c.dec).map (fun i => Tab.lst rows (y.val / c.dec * c.dec + i)) →
      (s.writebackRoom k (y.val / 512) room (if block.all (fun b => !b.isEmpty) then 64 / c.dec else 0) = false →
        Runs (.writebackLine k y room) s fun t =>
          t.fld (F.LAY_Fk_WBSTAT_DROP k) = min 255 (s.fld (F.LAY_Fk_WBSTAT_DROP k) + 1) ∧
          Raised 80 (BitVec.ofNat 32 k) s t ∧
          (∃ c', Tab.opt t.pix.capture k = some c' ∧ c'.dropped = true ∧ Tab.on c'.written y = true ∧ c'.rows = c.rows) ∧
          OnlyFields [F.LAY_Fk_WBSTAT_DROP k, F.FLT_STAT_LOSTOCC] s t ∧
          t = { s with regs := t.regs, flt := t.flt, pix := { s.pix with capture := t.pix.capture } }) ∧
      (s.writebackRoom k (y.val / 512) room (if block.all (fun b => !b.isEmpty) then 64 / c.dec else 0) = true →
        Runs (.writebackLine k y room) s fun t =>
          (∃ c', Tab.opt t.pix.capture k = some c' ∧
            c' = { c with rows := rows, written := c'.written } ∧ Tab.on c'.written y = true) ∧
          (block.all (fun b => !b.isEmpty) = false →
            t = { s with pix := { s.pix with capture := t.pix.capture } }) ∧
          (block.all (fun b => !b.isEmpty) = true → ∀ u : State, u = { s with pix := { s.pix with capture := t.pix.capture } } →
            t.mem = (u.writeFlat (17 + k) (captureBase c.base c.dec c.buf + 4096 / c.dec * (y.val / c.dec))
              (captureLine c.dec c.enc block)).mem))) ∧
    (∀ c : Capture, Tab.opt s.pix.capture k = some c →
      ((List.range 1024).all (Tab.on c.written) = false → Runs (.writebackPublish k) s fun t => t = s) ∧
      ((List.range 1024).all (Tab.on c.written) = true →
        (c.dropped = true → Runs (.writebackPublish k) s fun t => Tab.opt t.pix.capture k = none ∧
          t.fld (F.LAY_Fk_WBSTAT_INCOMPLETE k) = min 255 (s.fld (F.LAY_Fk_WBSTAT_INCOMPLETE k) + 1) ∧
          t.fld (F.LAY_Fk_WBSTAT_LAST k) = s.fld (F.LAY_Fk_WBSTAT_LAST k) ∧ t.mem = s.mem) ∧
        (c.dropped = false → c.buf < 4 → Runs (.writebackPublish k) s fun t => Tab.opt t.pix.capture k = none ∧
          t.fld (F.LAY_Fk_WBSTAT_LAST k) = c.buf ∧ Tab.on t.pix.monDue k = true ∧ t.mem = s.mem ∧
          (s.on (F.LAY_Fk_WBCTRL_ONESHOT k) = true → t.on (F.LAY_Fk_WBCTRL_EN k) = false)))) ∧
    (∀ m : Monitor, Tab.opt s.pix.monitor k = some m →
      (s.monPort k = none → Runs (.monitorPacketSend k) s fun t =>
        Tab.opt t.pix.monitor k = none ∧ t.fld (F.LAY_Fk_WBSTAT_SENDING k) = 3 ∧ t.lnk = s.lnk) ∧
      (∀ (p q : Nat) (m' : Option Monitor), s.monPort k = some p → q = (if p = 0 then 41 else 42) →
        m' = (if m.line + 1 < 1024 / m.dec then some { m with port := p, line := m.line + 1 } else none) →
        (s.linkActive p = false → Runs (.monitorPacketSend k) s fun t =>
          Tab.opt t.pix.monitor k = m' ∧ t.lnk = s.lnk ∧ t.mem = s.mem) ∧
        (s.linkActive p = true → 16384 < s.queueFill q + m.size ∨
          s.engineReady 21 (m.lineBase m.line) (4 * (1024 / m.dec)) = false → Runs (.monitorPacketSend k) s fun t => t = s) ∧
        (s.linkActive p = true → s.queueFill q + m.size ≤ 16384 →
          s.engineReady 21 (m.lineBase m.line) (4 * (1024 / m.dec)) = true →
          ∀ (u : State) (ds : List Delivered), (u, ds) = s.readLines 21 (m.lineBase m.line) (4 * (1024 / m.dec)) →
          Runs (.monitorPacketSend k) s fun t =>
            Tab.opt t.pix.monitor k = m' ∧ (m' = none → t.fld (F.LAY_Fk_WBSTAT_SENDING k) = 3) ∧ t.mem = u.mem ∧
            Tab.lst t.lnk.queues q = Tab.lst s.lnk.queues q ++
              [({ m with port := p } : Monitor).packet (spanBytes ds (m.lineBase m.line) (4 * (1024 / m.dec)))] ∧
            (∀ r, r ≠ q → Tab.lst t.lnk.queues r = Tab.lst s.lnk.queues r)))) ∧
    (Tab.opt s.pix.monitor k = none → Tab.on s.pix.monDue k = false → Runs (.monitorPacketSend k) s fun t => t = s)

/-- Where commands act: while no frames run FRAME_START changes nothing. Otherwise COUNT moves on by one modulo 2^32,
WINDOW is clear, every port with drivers waits for its row 0, and the banks shown are those last completed. Each
active feed is classified once, unless its sums are still to come or were classified before: with MODE off it has no
history; else its window takes the transitions counted now, NL and NR count those in it, and with MODE limit STATE
engages, holds, ramps or opens. With one or two feeds a load in progress, or due, is late unless the dies that miss it
skip it: it is abandoned, LOAD_LATE is set and EV_TIM_LATE raised. Under an unchanged set STILL is 0 after a change
and in a ramp, else counts; M is the larger of the content and the throttle divider, and THROTTLED says that the
throttle is larger. Where block 9 runs: the coverage counts show what was counted and start again; the zone model
counts HELD under ACC_HOLD, and where an update is due moves every gain to its target, by at most MAX_STEP but for the
first; a running headroom loop predicts its current, moves TRIM at the end of a group, and commands its setpoint where
it rose, or, at the end of a group, changed. When sums owed are classified, that a late load names skipped dies, and
the pass that waits for the memory, are readings of log entries 30, 25 and 21. (05_timing_scanout.md,
04_correction.md, 07_led_diagnostics.md, R136, R142, R145, R163, R165, R178, R179, R229, R233) -/
def Obligations.FrameStart_CountsAndStartsRows : Prop :=
  ∀ (s : State), s.live →
    (s.framesRun = false → Runs .frameStart s fun t => t = s) ∧
    (s.framesRun = true → Runs .frameStart s fun t =>
      t.fld F.TIM_FRAME_COUNT = (s.fld F.TIM_FRAME_COUNT + 1) % 2 ^ 32 ∧ t.on F.TIM_STAT_WINDOW = false ∧
      t.tim.winClosed = false ∧ t.tim.front = t.tim.shown ∧ (∀ p ∈ t.chains, (t.port p).row = none) ∧
      (∀ k ∈ s.tim.active, k < 4 → Tab.on t.cor.judged k = false ∧
        (Tab.on s.cor.sumsIn k = false → Tab.on s.cor.judged k = true ∨ Tab.lst s.cor.waiting k ≠ [] →
          Tab.lst t.cor.window k = Tab.lst s.cor.window k ∧
          (Tab.on s.cor.judged k = false → Tab.on t.cor.decide k = true)) ∧
        (Tab.on s.cor.sumsIn k = true ∨ (Tab.on s.cor.judged k = false ∧ Tab.lst s.cor.waiting k = []) →
          (s.fld (F.COR_Fk_GCTRL_MODE k) = 0 ∨ s.fld (F.COR_Fk_GCTRL_MODE k) = 3 →
            t.fld (F.COR_Fk_GSTAT_NL k) = 0 ∧ t.fld (F.COR_Fk_GSTAT_NR k) = 0 ∧ t.fld (F.COR_Fk_GSTAT_STATE k) = 0 ∧
            Tab.lst t.cor.window k = [] ∧ Tab.lst t.cor.prev k = []) ∧
          (∀ (w : List GuardFrame) (cur prev : List Nat) (l r : Option Bool) (nl nr : Nat) (e : Bool),
            s.fld (F.COR_Fk_GCTRL_MODE k) = 1 ∨ s.fld (F.COR_Fk_GCTRL_MODE k) = 2 →
            w = (Tab.lst s.cor.window k).take (s.guardWin - 1) → cur = Tab.lst s.cor.means k →
            prev = Tab.lst s.cor.prev k →
            l = countedDir (w.map (·.lum))
              (if Tab.on s.cor.sumsIn k = true ∧ prev ≠ [] then s.lumDirection k cur prev else none) →
            r = countedDir (w.map (·.red))
              (if Tab.on s.cor.sumsIn k = true ∧ prev ≠ [] then s.redDirection k cur prev else none) →
            nl = ((⟨l, r⟩ :: w).filter (·.lum.isSome)).length → nr = ((⟨l, r⟩ :: w).filter (·.red.isSome)).length →
            e = (decide (2 * max 1 (s.fld (F.COR_Fk_GCTRL_FL_MAX k)) ≤ nl + 1) ||
              decide (2 * max 1 (s.fld (F.COR_Fk_GCTRL_FR_MAX k)) ≤ nr + 1)) →
            Tab.lst t.cor.window k = ⟨l, r⟩ :: w ∧
            t.fld (F.COR_Fk_GSTAT_NL k) = min 255 nl ∧ t.fld (F.COR_Fk_GSTAT_NR k) = min 255 nr ∧
            (s.fld (F.COR_Fk_GCTRL_MODE k) = 1 → t.fld (F.COR_Fk_GSTAT_STATE k) = 0) ∧
            (s.fld (F.COR_Fk_GCTRL_MODE k) = 2 → t.fld (F.COR_Fk_GSTAT_STATE k) =
              if e = true then 1 else if s.fld (F.COR_Fk_GSTAT_STATE k) = 0 then 0
              else if 0x10000 ≤ s.attDecided k + s.attTarget k then 0 else 2)))) ∧
      (s.tim.active.length ≤ 2 → ¬ (s.paced = true ∧ t.tim.skip = true) → ∀ k ∈ s.tim.active, k < 4 →
        Tab.on s.tim.due k = true ∨ ((Tab.opt s.pix.loads k).isSome = true ∧ s.skipsAll k = false) →
          Tab.opt t.pix.loads k = none ∧ t.on F.TIM_STAT_LOAD_LATE = true ∧
          (s.tim.active = [k] → t.fld F.TIM_STAT_LATE_LOADS =
            min F.TIM_STAT_LATE_LOADS.max (s.fld F.TIM_STAT_LATE_LOADS + 1)) ∧
          (s.on (F.FLT_SRCi_EN (96 + k)) = true → (s.events (96 + k)).length < 15 →
            ⟨BitVec.ofNat 32 k, false⟩ ∈ t.events (96 + k))) ∧
      (s.nextSet.words = s.tim.set → s.fld F.TIM_STAT_TSEL_ACT = s.fld F.TIM_CTRL_TSEL →
        (s.sigsMoved = true ∨ s.tim.commitSince = true ∨ (∃ k, k < 4 ∧ t.fld (F.COR_Fk_GSTAT_STATE k) = 2) →
          t.fld F.TIM_SSTAT_STILL = 0) ∧
        (s.sigsMoved = false → s.tim.commitSince = false → (∀ k, k < 4 → t.fld (F.COR_Fk_GSTAT_STATE k) ≠ 2) →
          t.fld F.TIM_SSTAT_STILL = min 255 (s.fld F.TIM_SSTAT_STILL + 1)) ∧
        (∀ ms mt j, ms = (if s.on F.TIM_SCTRL_EN = true ∧ max 4 (s.fld F.TIM_SCTRL_NSTILL) ≤ t.fld F.TIM_SSTAT_STILL
            then [2, 4, 8, 8].getD (s.fld F.TIM_SCTRL_DIV) 8 else 1) → mt = s.throttleDiv →
          j = (if max ms mt = s.tim.m then s.tim.mFrame + 1 else 0) →
          t.tim.m = max ms mt ∧ t.fld F.TIM_SSTAT_M = divCode (max ms mt) ∧
          t.on F.TIM_SSTAT_THROTTLED = decide (ms < mt) ∧
          (t.tim.skip = true ↔ j % max ms mt ≠ 0 ∧ ¬ (s.sigsMoved = true ∧ 1 < s.tim.ms ∧ ms = 1)))) ∧
      (s.isGated 9 = false → s.fld F.PWR_STAT_STATE = 0 →
        t.diag = ⟨s.reg R.DIA_CTRL, [], [], [], [], false, false, []⟩ ∧
        (∀ i, i < 8 → t.fld (F.DIA_In_OBS_N i) = Tab.num s.diag.obs i % 2 ^ 20 ∧
          t.fld (F.DIA_In_DUE_N i) = Tab.num s.diag.due i % 2 ^ 20 ∧
          t.fld (F.DIA_In_SAT_N i) = Tab.num s.diag.sat i % 2 ^ 20 ∧
          t.fld (F.DIA_In_GLINT_N i) = Tab.num s.diag.glint i % 2 ^ 16) ∧
        (s.on F.COR_ZM_CTRL_EN = false → t.cor.ran = false ∧ t.cor.gains = s.cor.gains) ∧
        (∀ due : Bool, s.on F.COR_ZM_CTRL_EN = true → due = (!s.cor.ran ||
            (s.fld F.TIM_FRAME_COUNT + 1) % 2 ^ 32 % max 1 (s.fld F.COR_ZM_CTRL_UPD) == 0) →
          t.cor.ran = true ∧
          (s.on F.COR_ZM_CTRL_ACC_HOLD = true → t.cor.passes = s.cor.passes ∧ t.fld F.COR_ZM_STAT_HELD =
            min F.COR_ZM_STAT_HELD.max (s.fld F.COR_ZM_STAT_HELD + 1)) ∧
          (s.on F.COR_ZM_CTRL_ACC_HOLD = false → s.engineFree 22 = false ∨ s.cor.passes ≠ [] →
            t.cor.gains = s.cor.gains ∧ ∃ doses, t.cor.passes = s.cor.passes ++ [(due, !s.cor.ran, doses)]) ∧
          (s.on F.COR_ZM_CTRL_ACC_HOLD = true ∨ (s.engineFree 22 = true ∧ s.cor.passes = []) →
            (due = false → t.cor.gains = s.cor.gains) ∧
            (due = true → ∀ i, i < 12288 → Tab.num t.cor.gains i =
              if s.cor.ran = true then slew (s.fld F.COR_ZM_LIM_MAX_STEP) (Tab.num s.cor.gains i) (t.gainTarget i).1
              else (t.gainTarget i).1))) ∧
        (∀ (n i v : Nat) (trim : Int) (ends : Bool), n < 16 → s.on F.PMB_CTRL_EN = true →
          s.on (F.PMB_LDn_CFG_EN n) = true → (s.loop n).running = true → (s.loop n).failed = false →
          (t.loop n).held = false →
          i = t.predict n → ends = decide (s.fld F.PMB_CTRL_GRP ≤ (s.loop n).frame) →
          trim = (if ends = false then (s.loop n).trim else
            clampI (-(s.fld (F.PMB_LDn_STEP_TLIM n) : Int)) (s.fld (F.PMB_LDn_STEP_TLIM n))
              (if (s.loop n).low = true then (s.loop n).trim + s.fld (F.PMB_LDn_STEP_UP n)
              else if (s.loop n).seen = true ∧ (s.loop n).notHigh = false then
                (s.loop n).trim - s.fld (F.PMB_LDn_STEP_DN n)
              else (s.loop n).trim)) →
          v = s.setpoint n trim (if ends = true then max (s.loop n).ipredMax i else i) →
          (t.loop n).ipred = i ∧ (t.loop n).trim = trim ∧
          (t.loop n).frame = (if ends = true then 0 else (s.loop n).frame + 1) ∧
          t.fld (F.PMB_LDn_STAT_VSET n) = (if (s.loop n).held = true ∨ ends = true ∨ s.fld (F.PMB_LDn_STAT_VSET n) < v
            then v % 2 ^ 16 else s.fld (F.PMB_LDn_STAT_VSET n)) ∧
          (ends = true → (s.loop n).low = true →
            s.fld (F.PMB_LDn_STAT_VSET n) = s.fld (F.PMB_LDn_V_VMAX n) → t.on (F.PMB_LDn_STAT_NOHR n) = true))))

/-- Where commands act: on a port without drivers, that is not up, while timing does not run or has no clock, a relock
waits for PLL_SCAN, block 11 is stopped or the device is shut down, ROW_BOUNDARY changes nothing; past the last row
period of the frame it changes nothing. Otherwise the port runs the row period after the one it ran (row 0 after a
frame start), and no drivers of another port and no memory change; past row 0, with no frame waiting and the blank not
held, the row that waited in the drivers is in force. (05_timing_scanout.md, 06_umlis_chain.md, R159, R196, R177,
R200) -/
def Obligations.RowBoundary_RunsEachRowOfAPort : Prop :=
  ∀ (s : State) (p : Fin 64), s.live →
    ((s.mute p = true ∨ s.tim.running = false ∨ s.tim.relock = .locking ∨ (s.port p).bringup ≠ .up ∨ s.clocked 3 = false) →
      Runs (.rowBoundary p) s fun t => t = s) ∧
    (s.mute p = false → s.tim.running = true → s.tim.relock ≠ .locking → (s.port p).bringup = .up → s.clocked 3 = true →
      (∀ r, (s.port p).row = some r → s.tset.rows s.nlines ≤ r + 1 → Runs (.rowBoundary p) s fun t => t = s) ∧
      ((s.port p).row = none → 0 < s.tset.rows s.nlines → Runs (.rowBoundary p) s fun t =>
        (t.port p).row = some 0 ∧ (∀ q, q ≠ p.val → (t.port q).drv = (s.port q).drv) ∧ t.mem = s.mem) ∧
      (∀ r, (s.port p).row = some r → r + 1 < s.tset.rows s.nlines → Runs (.rowBoundary p) s fun t =>
        (t.port p).row = some (r + 1) ∧ (∀ q, q ≠ p.val → (t.port q).drv = (s.port q).drv) ∧ t.mem = s.mem ∧
        (∀ x, (s.port p).drv.rowNext = some x → (s.port p).queue = [] → ((s.port p).drv.blank = false ∨ (s.port p).drv.release = true) →
          (t.port p).drv.row = some x)))

/-- Where commands act and the pin is the reference: an edge of the selected polarity that ends a period in range sets
TIM_GPER.PERIOD to 16 times the sum of the last in-range periods, at most 16 of them, over their number. The eighth in
a row outside LOCKED enters LOCKED, takes the phase error, sets SLEWING where it is one GCLK period or more, and
raises EV_TIM_GLK_LOCK. A period out of range increments BAD (saturating at its width); in LOCKED the third in a row
enters LOST and raises EV_TIM_GLK_LOST. Other edges change no register. A virtual instant counts as out of range, and
does nothing without a reference. PLL_SCAN_LOCKED sets its LOCK bit and lets the relock go on where one waits for it,
else it changes nothing. (05_timing_scanout.md, R166, R167, R168, R169, R177) -/
def Obligations.Genlock_PeriodsAndStates : Prop :=
  ∀ (s : State) (rising : Bool) (n : Nat), s.live →
    (¬ (s.refSelected = true ∧ s.fld F.TIM_GCTRL_SRC = 1 ∧ rising = !s.on F.TIM_GCTRL_POL) →
      Runs (.genlockEdge rising n) s fun t => t = { s with tim := { s.tim with lastEdge := t.tim.lastEdge } }) ∧
    (s.refSelected = true → s.fld F.TIM_GCTRL_SRC = 1 → rising = (!s.on F.TIM_GCTRL_POL) → s.inRange n = true →
      let l := (n :: s.tim.periods).take 16
      (Runs (.genlockEdge rising n) s fun t =>
        t.fld F.TIM_GPER_PERIOD = 16 * sumN l / l.length % (F.TIM_GPER_PERIOD.max + 1) ∧
        t.tim.good = s.tim.good + 1 ∧ t.tim.poor = 0) ∧
      (s.fld F.TIM_GSTAT_STATE ≠ 1 → 7 ≤ s.tim.good → Runs (.genlockEdge rising n) s fun t =>
        t.fld F.TIM_GSTAT_STATE = 1 ∧ t.tim.phase = t.phaseError ∧ t.on F.TIM_GSTAT_SLEWING = t.phaseOpen ∧ Raised 100 0 s t ∧
        OnlyFields [F.TIM_GPER_PERIOD, F.TIM_GSTAT_STATE, F.TIM_GSTAT_SLEWING, F.FLT_STAT_LOSTOCC] s t) ∧
      ((s.fld F.TIM_GSTAT_STATE = 1 ∨ s.tim.good < 7) → Runs (.genlockEdge rising n) s fun t =>
        OnlyFields [F.TIM_GPER_PERIOD] s t ∧ Quiet s t)) ∧
    (s.refSelected = true → s.fld F.TIM_GCTRL_SRC = 1 → rising = (!s.on F.TIM_GCTRL_POL) → s.inRange n = false →
      (Runs (.genlockEdge rising n) s fun t =>
        t.fld F.TIM_GSTAT_BAD = min F.TIM_GSTAT_BAD.max (s.fld F.TIM_GSTAT_BAD + 1) ∧ t.tim.good = 0 ∧
        t.tim.poor = s.tim.poor + 1 ∧ t.fld F.TIM_GPER_PERIOD = s.fld F.TIM_GPER_PERIOD) ∧
      (s.fld F.TIM_GSTAT_STATE = 1 → 2 ≤ s.tim.poor → Runs (.genlockEdge rising n) s fun t =>
        t.fld F.TIM_GSTAT_STATE = 2 ∧ t.on F.TIM_GSTAT_LOST = true ∧ Raised 101 0 s t) ∧
      ((s.fld F.TIM_GSTAT_STATE ≠ 1 ∨ s.tim.poor < 2) → Runs (.genlockEdge rising n) s fun t =>
        OnlyFields [F.TIM_GSTAT_BAD] s t ∧ Quiet s t)) ∧
    (s.refSelected = false → Runs .genlockVirtualInstant s fun t => t = s) ∧
    (s.refSelected = true → Runs .genlockVirtualInstant s fun t =>
      t.fld F.TIM_GSTAT_BAD = min F.TIM_GSTAT_BAD.max (s.fld F.TIM_GSTAT_BAD + 1) ∧
      (s.fld F.TIM_GSTAT_STATE = 1 → 2 ≤ s.tim.poor → t.fld F.TIM_GSTAT_STATE = 2 ∧ t.on F.TIM_GSTAT_LOST = true)) ∧
    (s.tim.relock = .locking → Runs .pllScanLocked s fun t => t.tim.relock = .locked ∧ t.locked 3 = true) ∧
    (s.tim.relock ≠ .locking → Runs .pllScanLocked s fun t => t = s)

/-- Where commands act, on a port that is not mute: a complete frame of these kinds moves CMDCNT of the drivers and
the count that the sequencer keeps on by one modulo 256 and sets one pending value: ROW the row payload; BSEL the bank
of bits 19:18; CUR the code of bits 7:0, limited by the cap under Luminance Ceiling, for the colour of bits 19:18, for
all three where these are 3; PWM bits 19:12; GDLY the delta of group bits 19:17; WIN the on-window of bits 14:0. BWR
writes the shift registers to the line of bits 17:12 of the bank of bits 19:18. No value in force changes and nothing
else does but the count of frames sent and the place in the order of the classes. CUR, PWM, GDLY and WIN are counted:
with 64 counted frames sent in the frame they wait, and DEFER counts one. (06_umlis_chain.md, R194, R195, R206, R191,
R209, R332) -/
def Obligations.Chain_FramesHeldUntilTheStrobe : Prop :=
  ∀ (s : State) (p : Fin 64) (x : BitVec 20), s.live → s.mute p = false →
    let d := (s.port p).drv
    let n := (d.cmdcnt + 1) % 256
    let code := if s.clasp.lce then min (bits 7 0 x.toNat) (if bits 19 18 x.toNat = 3
      then min (s.cap 0) (min (s.cap 1) (s.cap 2)) else s.cap (bits 19 18 x.toNat)) else bits 7 0 x.toNat
    let Held (c : Instr) (k : Nat) (e : Drivers) : Prop := Runs c s fun t =>
      (t.port p).drv = e ∧ (t.port p).count = ((s.port p).count + 1) % 256 ∧ (t.port p).queue = (s.port p).queue ∧
      (t.port p).sent = (s.port p).sent + k ∧ PortOnly p s t
    Held (.row p x true) 0 { d with cmdcnt := n, rowNext := some x.toNat } ∧
    Held (.bsel p x true) 0 { d with cmdcnt := n, bankNext := some (bits 19 18 x.toNat) } ∧
    (Runs (.bwr p x true) s fun t =>
      Tab.lst (t.port p).drv.banks (64 * bits 19 18 x.toNat + bits 17 12 x.toNat) =
        ((List.range (s.nic p)).map fun i => (d.sd0.drop (24 * i)).take 24 ++ (d.sd1.drop (24 * i)).take 24).flatten ∧
      (∀ k, k ≠ 64 * bits 19 18 x.toNat + bits 17 12 x.toNat →
        Tab.lst (t.port p).drv.banks k = Tab.lst d.banks k) ∧
      (t.port p).drv = { d with cmdcnt := n, banks := (t.port p).drv.banks } ∧ PortOnly p s t) ∧
    ((s.port p).sent < 64 →
      (bits 19 18 x.toNat = 3 → Held (.cur p x true) 1 { d with
        cmdcnt := n, curNext := [some code, some code, some code] }) ∧
      (bits 19 18 x.toNat ≠ 3 → Held (.cur p x true) 1 { d with
        cmdcnt := n, curNext := d.curNext.set (bits 19 18 x.toNat) (some code) }) ∧
      Held (.pwm p x true) 1 { d with cmdcnt := n, pwmNext := some (bits 19 12 x.toNat * 4096) } ∧
      Held (.gdly p x true) 1 { d with
        cmdcnt := n, deltaNext := d.deltaNext.set (bits 19 17 x.toNat) (some (bits 7 0 x.toNat)) } ∧
      Held (.win p x true) 1 { d with cmdcnt := n, onNext := some (bits 14 0 x.toNat) }) ∧
    (64 ≤ (s.port p).sent → ∀ b, ∀ c ∈ [Instr.cur p x b, .pwm p x b, .gdly p x b, .win p x b], Runs c s fun t =>
      (t.port p).drv = d ∧ (∃ f, (t.port p).queue = (s.port p).queue ++ [f]) ∧
      t.fld (F.CHN_Cnn_ERR_DEFER p) = min (F.CHN_Cnn_ERR_DEFER p).max (s.fld (F.CHN_Cnn_ERR_DEFER p) + 1) ∧
      OnlyFields [F.CHN_Cnn_ERR_DEFER p, F.FLT_STAT_LOSTOCC] s t)

/-- Where commands act, on a port that is not mute. STRB with no blank in force, or with one whose release waits: the
pending row, bank, codes and deltas are put in force, the pending PWM and WIN only where the pending ROW has FS, and
the blank ends; the armed glints of the line that comes into force fire and are disarmed, unless the row is DARK. STRB
while a blank stays in force: the drivers hold their pending values, and the armed glints of that line are disarmed
without light. CMDCNT does not move. That a blank holds the pending values back, and that SYNC lets a waiting release
end the blank, are readings of log entry 117. SYNC, while fewer than 64 counted frames have been sent, puts every
pending value in force, sets CMDCNT to 0, clears POR and FRAME_ERR and disarms every glint. Other ports do not change;
of the registers only the blank status and the idle count do. (06_umlis_chain.md, R194, R196, R198, R201, R227, R371)
-/
def Obligations.Chain_StrobeAppliesWhatIsHeld : Prop :=
  ∀ (s : State) (p : Fin 64), s.live → s.mute p = false →
    let d := (s.port p).drv
    let row := d.rowNext.or d.row
    let fire := row.any fun r => bits 18 18 r == 0
    let mine (g : Nat × Nat × Nat) : Bool := fire && row.any fun r => g.2.2 == bits 17 12 r
    let Only (t : State) : Prop := (∀ q, q ≠ p.val → t.port q = s.port q) ∧
      OnlyFields [F.CHN_STAT_BLANK_E0, F.CHN_STAT_BLANK_E1, F.PWR_IDLECNT_MS] s t ∧
      t = { s with regs := t.regs, chn := { s.chn with ports := t.chn.ports }, pwr := { s.pwr with leave := t.pwr.leave } }
    ((d.blank = false ∨ d.release = true) → Runs (.strb p) s fun t =>
      let e := (t.port p).drv
      let fs := d.rowNext.any fun r => bits 19 19 r == 1
      e.row = row ∧ e.rowNext = none ∧ e.bank = d.bankNext.getD d.bank ∧ e.bankNext = none ∧
      e.cur = List.zipWith (fun a b => b.getD a) d.cur d.curNext ∧
      e.delta = List.zipWith (fun a b => b.getD a) d.delta d.deltaNext ∧
      e.pwm = (if fs then d.pwmNext.getD d.pwm else d.pwm) ∧ e.on = (if fs then d.onNext.getD d.on else d.on) ∧
      e.blank = false ∧ e.release = false ∧ (∀ g, g ∈ e.glints ↔ g ∈ d.glints ∧ mine g = false) ∧
      e.fired = d.fired ++ d.glints.filter mine ∧
      e.cmdcnt = d.cmdcnt ∧ (t.port p).count = (s.port p).count ∧ Only t) ∧
    (d.blank = true → d.release = false → Runs (.strb p) s fun t =>
      (t.port p).drv = { d with glints := (t.port p).drv.glints } ∧
      (∀ g, g ∈ (t.port p).drv.glints ↔ g ∈ d.glints ∧ mine g = false) ∧
      (t.port p).count = (s.port p).count ∧ Only t) ∧
    ((s.port p).sent < 64 → Runs (.sync p true) s fun t =>
      let e := (t.port p).drv
      e.row = row ∧ e.bank = d.bankNext.getD d.bank ∧
      e.cur = List.zipWith (fun a b => b.getD a) d.cur d.curNext ∧
      e.delta = List.zipWith (fun a b => b.getD a) d.delta d.deltaNext ∧
      e.pwm = d.pwmNext.getD d.pwm ∧ e.on = d.onNext.getD d.on ∧ e.rowNext = none ∧ e.bankNext = none ∧
      e.pwmNext = none ∧ e.onNext = none ∧ e.blank = (d.blank && !d.release) ∧
      e.cmdcnt = 0 ∧ e.por = false ∧ e.frameErr = false ∧ e.glints = [] ∧ (t.port p).count = 0 ∧ Only t)

/-- Where commands act, on a port that is not mute: BLNK(1) puts blank in force and withdraws a waiting release;
BLNK(0) lets the release wait for the strobe, and is not sent where a blank request acts on the port or the port is
not up. RDBK of a part, while fewer than 64 counted frames have been sent, shows it in the readback register and the
port waits for its records with the count that now stands. GLNT is not sent without GLINT_EN, under Safe Dark, or
where a driver that it names has had four since the last RDBK of the part; else, while the counted frames leave room,
it counts for the isle, and a glint is armed at its driver (with ALL at every driver), channel and line while fewer
than four are armed there, and is ignored otherwise. A frame of any kind that is sent incomplete sets FRAME_ERR in the
drivers and nothing else in them (what they do with such a frame is the reading of log entry 117). On a mute port no
frame changes anything beside the blank status. (06_umlis_chain.md, R194, R195, R199, R201, R202, R206, R209, R229,
R330) -/
def Obligations.Chain_BlankReadbackGlintFrames : Prop :=
  ∀ (s : State) (p : Fin 64) (x : BitVec 20), s.live →
    let d := (s.port p).drv
    let n := (d.cmdcnt + 1) % 256
    let Only (t : State) : Prop := (∀ q, q ≠ p.val → t.port q = s.port q) ∧
      t = { s with regs := t.regs, chn := { s.chn with ports := t.chn.ports }, pwr := { s.pwr with leave := t.pwr.leave } }
    let may : Prop := s.on F.CHN_CTRL_GLINT_EN = true ∧ s.clasp.sdk = false ∧
      ∀ i, (if bits 19 19 x.toNat = 1 then i < s.nic p else i = bits 18 14 x.toNat) →
        Tab.num (s.port p).probes (32 * (bits 5 0 x.toNat / 4) + i) < 4
    (s.mute p = false →
      (bits 19 19 x.toNat = 1 → Runs (.blnk p x true) s fun t =>
        (t.port p).drv = { d with cmdcnt := n, blank := true, release := false } ∧ Only t) ∧
      (bits 19 19 x.toNat = 0 → s.blankReqs p = 0 → (s.port p).bringup = .up → Runs (.blnk p x true) s fun t =>
        (t.port p).drv = { d with cmdcnt := n, release := true } ∧ Only t) ∧
      ((s.port p).sent < 64 → Runs (.rdbk p x true) s fun t =>
        (t.port p).drv.part = some (bits 19 16 x.toNat) ∧ (t.port p).drv.cmdcnt = n ∧
        (t.port p).reading = some (bits 19 16 x.toNat) ∧ (t.port p).rbCount = ((s.port p).count + 1) % 256 ∧ OnlyPort p s t) ∧
      (may → (s.port p).sent + ((s.port p).queue.filter fun g => counted g && (g.resync || g.w == 5)).length < 64 →
        let i := bits 18 14 x.toNat
        let Glint (b : Bool) (P : Drivers → Prop) : Prop := Runs (.glnt p x b) s fun t => P (t.port p).drv ∧
          Tab.num t.diag.glint (p / 8) = Tab.num s.diag.glint (p / 8) + 1 ∧ (∀ q, q ≠ p.val → t.port q = s.port q) ∧
          t = { s with chn := { s.chn with ports := t.chn.ports }, diag := { s.diag with glint := t.diag.glint } }
        (bits 19 19 x.toNat = 0 → i < s.nic p → (d.glints.filter fun g => g.1 == i).length < 4 →
          Glint true fun e => e =
            { d with cmdcnt := n, glints := d.glints ++ [(i, bits 13 8 x.toNat, bits 5 0 x.toNat)] }) ∧
        (bits 19 19 x.toNat = 0 → s.nic p ≤ i ∨ 4 ≤ (d.glints.filter fun g => g.1 == i).length →
          Glint true fun e => e = { d with cmdcnt := n }) ∧
        (bits 19 19 x.toNat = 1 → Glint true fun e => e = { d with cmdcnt := n, glints := e.glints } ∧
          (∀ j, j < s.nic p → (d.glints.filter fun g => g.1 == j).length < 4 → e.glints.filter (fun g => g.1 == j) =
            d.glints.filter (fun g => g.1 == j) ++ [(j, bits 13 8 x.toNat, bits 5 0 x.toNat)]) ∧
          (∀ j, s.nic p ≤ j ∨ 4 ≤ (d.glints.filter fun g => g.1 == j).length →
            e.glints.filter (fun g => g.1 == j) = d.glints.filter (fun g => g.1 == j))) ∧
        (Glint false fun e => e = { d with frameErr := true })) ∧
      (∀ c ∈ [Instr.row p x false, .bwr p x false, .bsel p x false],
        Runs c s fun t => (t.port p).drv = { d with frameErr := true } ∧ Only t) ∧
      (bits 19 19 x.toNat = 1 ∨ (s.blankReqs p = 0 ∧ (s.port p).bringup = .up) →
        Runs (.blnk p x false) s fun t => (t.port p).drv = { d with frameErr := true } ∧ Only t) ∧
      ((s.port p).sent < 64 → ∀ c ∈ [Instr.rdbk p x false, .cur p x false, .pwm p x false, .gdly p x false,
          .sync p false, .win p x false],
        Runs c s fun t => (t.port p).drv = { d with frameErr := true } ∧ Only t)) ∧
    (bits 19 19 x.toNat = 0 → s.blankReqs p ≠ 0 ∨ (s.port p).bringup ≠ .up → ∀ b, Runs (.blnk p x b) s fun t => t = s) ∧
    (¬ may → ∀ b, Runs (.glnt p x b) s fun t => t = s) ∧
    (s.mute p = true → ∀ b,
      (∀ c ∈ [Instr.row p x b, .bwr p x b, .bsel p x b, .rdbk p x b, .glnt p x b, .cur p x b, .pwm p x b, .gdly p x b,
        .win p x b], Runs c s fun t => t = s) ∧
      (∀ c ∈ [Instr.strb p, .blnk p x b, .sync p b], Runs c s fun t => t.chn = s.chn ∧
        OnlyFields [F.CHN_STAT_BLANK_E0, F.CHN_STAT_BLANK_E1, F.PWR_IDLECNT_MS] s t))

/-- Where commands act: FORCE_BLANK stores the field and sets or withdraws blank request 1; when it begins every port
that is not mute is blank, when it ends the release waits on each that is up with no other request. Without a readback
to receive, or while its results cannot be taken (log entries 21, 36), READBACK_RECEIVE changes nothing. On a port
that is up, with no Luminance Ceiling or Safe Dark at its RDBK and no diagnosis: records all accepted and as expected
keep each status word; TMAX is the highest temperature and the lowest driver that has it; nothing is raised. A count
that is not as expected, or FRAME_ERR or POR, queues the 15 frames of one resync (log entry 36); codes that differ
alone set CURMIS and queue the three CUR. All records discarded: RBERR grows, SILENT comes with the second time,
LENGTH with extra bits. With diagnosis on the same is done, and then the age entries of the part take the results and
the planner its glints: 0 ages the entry unless the line was blanked, 1 clears it, 2 and 3 confirm; at DCONF the
subpixel is marked in its map and declared once; due entries, observations and AGE 4095 count for the isle; a poisoned
block is rewritten with AGE_LIM (undefined elsewhere) and counts. The planner takes due pairs from the pointer on, at
most G_p, with ALL from ALLMIN drivers on, and moves the pointer past the last (log entries 38 to 40).
(06_umlis_chain.md, R199, R207, R214, R215, R216, 07_led_diagnostics.md, R219, R220, R221, R223, R225) -/
def Obligations.Chain_ForceBlankAndReadback : Prop :=
  ∀ (s : State), s.live →
    (∀ b, Runs (.forceBlank b) s fun t => t.on F.CHN_CTRL_FORCE_BLANK = b ∧
      bits 1 1 (t.fld F.CHN_STAT_BLANK_SRC) = b2n b ∧
      (b = true → bits 1 1 (s.fld F.CHN_STAT_BLANK_SRC) = 0 → ∀ p, p < 64 → s.mute p = false →
        (t.port p).drv.blank = true ∧ (t.port p).drv.release = false) ∧
      (b = false → bits 1 1 (s.fld F.CHN_STAT_BLANK_SRC) = 1 → ∀ p, p < 64 → s.mute p = false → (s.port p).bringup = .up →
        t.blankReqs p = 0 → (t.port p).drv.release = true)) ∧
    (∀ (p : Fin 64) records extra monitor, (s.port p).reading = none ∨ s.fld (straitState (p / 32)) ≠ 2 ∨
        (s.diaOn = true ∧ s.engineFree 23 = false) →
      Runs (.readbackReceive p records extra monitor) s fun t => t = s) ∧
    (∀ (p : Fin 64) (records : List (BitVec 512)) (extra : Byte) monitor part,
      (s.port p).reading = some part → s.nic p ≠ 0 → (s.port p).bringup = .up → s.fld (straitState (p / 32)) = 2 →
      (s.diaOn = false → s.clasp.lce = false → (s.port p).sdk = false →
        (∀ d, d < s.nic p → ∃ r, recOf records (s.nic p) d = some r) →
        (extra = 0 → (∀ d r, d < s.nic p → recOf records (s.nic p) d = some r →
            recBits r 503 496 = (s.port p).rbCount ∧ recBits r 444 442 = 0 ∧
            ∀ c, c < 3 → recCur r c = (s.port p).codes.getD c 0) →
          Runs (.readbackReceive p records extra monitor) s fun t =>
            (∀ d r, d < s.nic p → recOf records (s.nic p) d = some r →
              Tab.get (fun _ => 0) t.chn.status (32 * p + d) = BitVec.ofNat 128 (recBits r 511 384)) ∧
            (∃ d r, d < s.nic p ∧ recOf records (s.nic p) d = some r ∧ t.fld (F.CHN_Cnn_TMAX_TEMP p) = recBits r 471 462 ∧
              t.fld (F.CHN_Cnn_TMAX_IC p) = d % 32 ∧
              ∀ e q, e < s.nic p → recOf records (s.nic p) e = some q →
                recBits q 471 462 < recBits r 471 462 ∨ (recBits q 471 462 = recBits r 471 462 ∧ d ≤ e)) ∧
            (t.port p).silent = 0 ∧ (t.port p).heard = true ∧ (t.port p).reading = none ∧
            (t.port p).drv = (s.port p).drv ∧ (t.port p).queue = (s.port p).queue ∧ Quiet s t ∧ t.mem = s.mem ∧
            OnlyFields ([F.CHN_Cnn_TMAX_IC p, F.CHN_Cnn_TMAX_TEMP p] ++
              (List.range 4).map fun i => ⟨R.CHN_PROBE_STw i, 31, 0⟩) s t) ∧
        ((∃ d r, d < s.nic p ∧ recOf records (s.nic p) d = some r ∧
            (recBits r 503 496 ≠ (s.port p).rbCount ∨ recBits r 444 443 ≠ 0)) →
          Runs (.readbackReceive p records extra monitor) s fun t =>
            t.fld (F.CHN_Cnn_ERR_RESYNC p) = min (F.CHN_Cnn_ERR_RESYNC p).max (s.fld (F.CHN_Cnn_ERR_RESYNC p) + 1) ∧
            (∃ l, (t.port p).queue = (s.port p).queue ++ l ∧ l.length = 15) ∧ (t.port p).reading = none) ∧
        ((∀ d r, d < s.nic p → recOf records (s.nic p) d = some r →
            recBits r 503 496 = (s.port p).rbCount ∧ recBits r 444 443 = 0) →
          (∃ d r c, d < s.nic p ∧ recOf records (s.nic p) d = some r ∧ c < 3 ∧ recCur r c ≠ (s.port p).codes.getD c 0) →
          Runs (.readbackReceive p records extra monitor) s fun t =>
            t.on (F.CHN_Cnn_ERR_CURMIS p) = true ∧
            t.fld (F.CHN_Cnn_ERR_RESYNC p) = s.fld (F.CHN_Cnn_ERR_RESYNC p) ∧
            (t.port p).queue = (s.port p).queue ++ (List.range 3).map s.curFrame ∧ (t.port p).reading = none)) ∧
      (s.diaOn = false → (∀ d, d < s.nic p → recOf records (s.nic p) d = none) →
        Runs (.readbackReceive p records extra monitor) s fun t =>
          t.fld (F.CHN_Cnn_ERR_RBERR p) = min 255 (s.fld (F.CHN_Cnn_ERR_RBERR p) + s.nic p) ∧
          (t.port p).silent = (s.port p).silent + 1 ∧
          t.on (F.CHN_Cnn_ERR_SILENT p) = (s.on (F.CHN_Cnn_ERR_SILENT p) || decide (1 ≤ (s.port p).silent)) ∧
          t.on (F.CHN_Cnn_ERR_LENGTH p) = (s.on (F.CHN_Cnn_ERR_LENGTH p) || extra != 0) ∧
          (t.port p).reading = none) ∧
      (s.diaOn = true → s.engineFree 23 = true → ∀ t0 w due,
        exec (.readbackReceive p records extra monitor) { s with diag := { s.diag with ctrl := 0 } } = .next t0 →
        ({ t0 with diag := s.diag } : State).ageUpdate p part (s.nic p) records (Tab.on (s.port p).dark (part + 32)) =
          (w, due) →
        Runs (.readbackReceive p records extra monitor) s fun t => t = w.glintPlan p part due)) ∧
    (∀ (p a v off r last conf age last' conf' age' : Nat) (blanked faulty due : Bool), v < 65536 → r < 4 →
      last = bits 15 14 v → conf = bits 13 12 v → age = bits 11 0 v →
      last' = (if r = 0 then last else r) →
      conf' = (if r = 0 then conf else if r = 1 then 0 else if r = last then min 3 (conf + 1) else 1) →
      age' = (if r ≠ 0 then 0 else if blanked = true then age else min 4095 (age + 1)) →
      faulty = (decide (2 ≤ r) && decide (s.dconf ≤ conf')) →
      due = (decide (s.ageLim ≤ age') || (decide (2 ≤ last') && decide (conf' < s.dconf) &&
        decide (max 1 (s.dia F.DIA_CTRL_RECHK) ≤ age'))) →
      let t := s.ageEntry p a v off r blanked
      let u := s.writeFlat 23 a (leBytes 2 (last' * 2 ^ 14 + conf' * 2 ^ 12 + age'))
      t.2 = due ∧
      (faulty = false → t.1.mem = u.mem ∧ OnlyFields [F.FLT_STAT_LOSTOCC] u t.1) ∧
      (faulty = true → t.1.mem =
        (u.writeFlat 23 (baseBytes (u.fld (if r = 3 then F.DIA_STUCKBASE_BASE else F.DIA_DEADBASE_BASE)) + off) [1]).mem) ∧
      (faulty = true → conf' = s.dconf → r ≠ last ∨ conf ≠ conf' →
        t.1.reg R.DIA_LAST = BitVec.ofNat 32 (b2n (r == 3) * 2 ^ 31 + off)) ∧
      Tab.num t.1.diag.obs (p / 8) = Tab.num s.diag.obs (p / 8) + b2n (r != 0) ∧
      Tab.num t.1.diag.due (p / 8) = Tab.num s.diag.due (p / 8) + b2n due ∧
      Tab.num t.1.diag.sat (p / 8) = Tab.num s.diag.sat (p / 8) + b2n (age' == 4095)) ∧
    (∀ (p a : Nat) mine, ∃ f : Nat → Nat, (∀ i, i < 32 → mine i = true → f i = s.ageLim) ∧
      (s.ageRepair p a mine).mem = (s.writeFlat 23 a ((List.range 32).map fun i => leBytes 2 (f i)).flatten).mem ∧
      (s.ageRepair p a mine).fld F.DIA_STAT_POISON =
        min F.DIA_STAT_POISON.max (s.fld F.DIA_STAT_POISON + 1)) ∧
    (∀ (p part : Nat) (due : List (Nat × Nat)), ∃ gs, (∀ q, q ≠ p → (s.glintPlan p part due).port q = s.port q) ∧
      ((s.glintPlan p part due).port p).glints = (s.port p).glints ++ gs ∧
      gs.length ≤ glintQuota s.parts ∧
      (∀ g ∈ gs, ∃ i, i < 192 ∧ g.channel = i % 48 ∧ g.line = 4 * part + i / 48 ∧ (i, g.driver) ∈ due ∧
        (∀ d, (i, d) ∈ due → g.driver ≤ d) ∧ g.all = decide (s.allMin ≤ (due.filter fun d => d.1 == i).length)) ∧
      (s.on F.CHN_CTRL_GLINT_EN = false ∨ s.diaOn = false ∨ s.on (F.CHN_Cnn_ERR_SILENT p) = true ∨
        (s.port p).drv.blank = true ∨ s.blankReqs p ≠ 0 → gs = []) ∧
      (∀ g, gs.getLast? = some g → Tab.num ((s.glintPlan p part due).port p).plan part =
        ((g.line - 4 * part) * 48 + g.channel + 1) % 192))

/-- Where commands act: with no transaction on the bus nothing changes. A write that succeeds changes no register.
STATUS_WORD read shows in PMB_LDn_SW, and sets REGFLT where it reports a fault; READ_VOUT shows in mV by LINEAR16 and
READ_IOUT in mA by LINEAR11, where they fit their fields (the layout of LINEAR11 is log entry 15). While the loop of
the domain runs, a transaction that fails for the first or second time waits again with its count of failures one
higher, and registers and events do not change; the third time FAIL is set and EV_PMB_FAIL raised with the domain. One
of a loop that has stopped is not tried again, which is the model's reading (log entry 150). After PMBUS_RETRY no
transaction of the domain waits for its time, and no register changes. (07_led_diagnostics.md, R234, R235, R236) -/
def Obligations.Pmbus_ResultsRetriesAndFailure : Prop :=
  ∀ (s : State), s.live →
    (∀ (b : Fin 2) o, Tab.opt s.pmb.running b = none → Runs (.pmbusTransactionDone b o) s fun t => t = s) ∧
    (∀ (b : Fin 2) (x : PmbTxn) (v : BitVec 16), Tab.opt s.pmb.running b = some x → x.domain < 16 →
      (x.kind < 2 → Runs (.pmbusTransactionDone b (.ok v)) s fun t =>
        t = { s with pmb := t.pmb, freeCtr := t.freeCtr }) ∧
      (x.kind = 2 → Runs (.pmbusTransactionDone b (.ok v)) s fun t =>
        t.fld (F.PMB_LDn_SW_STATUS x.domain) = v.toNat ∧
        t.on (F.PMB_LDn_STAT_REGFLT x.domain) = (s.on (F.PMB_LDn_STAT_REGFLT x.domain) || (v &&& 0xE87C) != 0) ∧
        OnlyFields [F.PMB_LDn_SW_STATUS x.domain, F.PMB_LDn_STAT_REGFLT x.domain, F.FLT_STAT_LOSTOCC] s t) ∧
      (x.kind = 3 → linear16 (s.pmbCfg x.domain F.PMB_LDn_CFG_EXP) v.toNat < 65536 →
        Runs (.pmbusTransactionDone b (.ok v)) s fun t =>
          t.fld (F.PMB_LDn_MEAS_VOUT x.domain) = linear16 (s.pmbCfg x.domain F.PMB_LDn_CFG_EXP) v.toNat ∧
          OnlyFields [F.PMB_LDn_MEAS_VOUT x.domain, F.PMB_LDn_STAT_VMIS x.domain, F.FLT_STAT_LOSTOCC] s t) ∧
      (x.kind = 4 → 0 ≤ linear11 v.toNat → linear11 v.toNat < 65536 →
        Runs (.pmbusTransactionDone b (.ok v)) s fun t =>
          (t.fld (F.PMB_LDn_MEAS_IOUT x.domain) : Int) = linear11 v.toNat ∧
          OnlyFields [F.PMB_LDn_MEAS_IOUT x.domain] s t ∧ Quiet s t)) ∧
    (∀ (b : Fin 2) (x : PmbTxn), ∀ o ∈ [PmbOutcome.nack, .pecError, .sclTimeout],
      Tab.opt s.pmb.running b = some x → x.domain < 16 →
      ((s.loop x.domain).running = false → Runs (.pmbusTransactionDone b o) s fun t =>
        (∀ y ∈ Tab.lst t.pmb.waiting b, y ∈ Tab.lst s.pmb.waiting b) ∧
        t = { s with pmb := t.pmb, freeCtr := t.freeCtr }) ∧
      ((s.loop x.domain).running = true → x.fails < 2 → Runs (.pmbusTransactionDone b o) s fun t =>
        { x with fails := x.fails + 1, waiting := true } ∈ Tab.lst t.pmb.waiting b ∧
        t = { s with pmb := t.pmb, freeCtr := t.freeCtr }) ∧
      ((s.loop x.domain).running = true → 2 ≤ x.fails → Runs (.pmbusTransactionDone b o) s fun t =>
        t.on (F.PMB_LDn_STAT_FAIL x.domain) = true ∧ Raised 123 (BitVec.ofNat 32 x.domain) s t ∧
        OnlyFields [F.PMB_LDn_STAT_FAIL x.domain, F.FLT_STAT_LOSTOCC] s t)) ∧
    (∀ n : Fin 16, Runs (.pmbusRetry n) s fun t =>
      (∀ b : Fin 2, ∀ x ∈ Tab.lst t.pmb.waiting b, x.domain = n.val → x.waiting = false) ∧
      t = { s with pmb := t.pmb, freeCtr := t.freeCtr })

/-- Where commands act: on a link that is not ACTIVE VIDEO_PACKET_RECEIVE changes nothing; a packet that starts off
lane 0 only counts in LENERR. With no packet waiting in the receive queues and no return to U pending: a packet for
the slots whose receive queue had no room for the longest packet at its start, the writer being stalled, counts in
RXDROP and leaves the memory alone. Without a forward: a packet that ends with ABT counts in ABTRX, a length that does
not fit in LENERR, a CRC that fails in CRCERR, and nothing else changes but the lanes' running disparity; a good
packet for one slot waits in its receive queue while the writer is stalled. While the writer runs, a good packet in
another format than its slot's counts in FMTERR and leaves the memory alone; one that continues its frame and is seen
by no CHK unit leaves the memory as its pixels written to its line of the frame buffer and marks the line; the last
line ends the frame: with every line marked, or with DROP_INC clear, the buffer is published with its count and its
signature; with a line missing INCOMPLETE counts. A good packet is queued whole for each port it is forwarded to, or,
where there was no room at its start, dropped and counted in FWDDROP; one that fails, or is cut by a switch of the
upstream, goes on with ABT where the forwarding is cut-through and else not at all. That the room is that at the start
symbol, and the packet handled whole, are log entries 79 and 80. (09_weandi_link.md, R76, R77, R78, R272, R273, R283,
R285, R288, R289, R290, R291) -/
def Obligations.Video_PacketsStoredOrCounted : Prop :=
  ∀ (s : State) (p : Fin 3) (v : VideoPkt), s.live →
    let Heard (t : State) : LinkState := { s.lnk with rxRd := t.lnk.rxRd }
    let Counts (f : Fld) : Prop := Runs (.videoPacketReceive p v) s fun t =>
      t.fld f = min f.max (s.fld f + 1) ∧ OnlyFields [f] s t ∧ t = { s with regs := t.regs, lnk := Heard t }
    let part := s.upPart p v.age
    let dsts := s.forwardTo p part (s.forwardBits v.streamId.toNat).1 (s.forwardBits v.streamId.toNat).2
    let room (d : Nat) : Prop :=
      s.queueFill (forwardQueue p d) + s.drainedSince (forwardQueue p d) v.age + 18452 ≤ 65536
    (s.linkActive p = false → Runs (.videoPacketReceive p v) s fun t => t = s) ∧
    (s.linkActive p = true → v.startLane ≠ 0 → Counts (F.LNK_Px_PKT_LENERR p)) ∧
    (s.linkActive p = true → v.startLane = 0 → s.lnk.revert = none → s.writerRuns = false →
      65536 < s.rxFill p + s.drainedSince (rxQueue p) v.age + 18452 →
      s.slotPorts p part ≠ [] → v.ending = .good → Runs (.videoPacketReceive p v) s fun t => t.mem = s.mem ∧
        t.fld (F.LNK_Px_DROP_RXDROP p) = min (F.LNK_Px_DROP_RXDROP p).max (s.fld (F.LNK_Px_DROP_RXDROP p) + 1) ∧
        t.lnk.rxVideo = s.lnk.rxVideo) ∧
    (s.linkActive p = true → v.startLane = 0 → s.lnk.revert = none →
      Tab.lst s.lnk.rxVideo 0 = [] → Tab.lst s.lnk.rxVideo 2 = [] → dsts = [] →
      s.rxFill p + s.drainedSince (rxQueue p) v.age + 18452 ≤ 65536 →
      (v.ending = .abort → Counts (F.LNK_Px_PKT_ABTRX p)) ∧
      (v.ending = .good → v.framed = false → Counts (F.LNK_Px_PKT_LENERR p)) ∧
      (v.ending = .good → v.framed = true → v.crcOk = false → Counts (F.LNK_Px_PKT_CRCERR p)) ∧
      (∀ q, v.ending = .good → v.framed = true → v.crcOk = true → s.slotPorts p part = [q] →
        (s.writerRuns = false → Runs (.videoPacketReceive p v) s fun t =>
          Tab.lst t.lnk.rxVideo p = [([q], v)] ∧ t.mem = s.mem ∧ t.regs = s.regs ∧ Quiet s t) ∧
        (∀ m, s.writerRuns = true → s.slotOf q v.streamId.toNat = some m →
          s.fld (F.LAY_Wm_CTRL_FORMAT m) ≠ v.fmt.toNat % 16 → Runs (.videoPacketReceive p v) s fun t =>
            t.fld (F.LNK_Px_PKT_FMTERR p) = min (F.LNK_Px_PKT_FMTERR p).max (s.fld (F.LNK_Px_PKT_FMTERR p) + 1) ∧
            OnlyFields [F.LNK_Px_PKT_FMTERR p] s t ∧ t.mem = s.mem ∧ t.pix = s.pix ∧ Quiet s t) ∧
        (∀ (m b y : Nat) (f : InFrame) (lines : Tab Bool), s.writerRuns = true →
          s.slotOf q v.streamId.toNat = some m → s.fld (F.LAY_Wm_CTRL_FORMAT m) = v.fmt.toNat % 16 →
          Tab.opt s.pix.inFrame m = some f → f.seq = v.fseq.toNat → f.ended = false → f.buf = some b →
          y = v.line.toNat % 8192 → lines = Tab.setOn f.lines y true →
          y < s.slotH m → v.pixels ≤ s.slotW m → (∀ n, n < 8 → s.chkSnoops m n = false) →
          Runs (.videoPacketReceive p v) s fun t =>
            t.mem = (s.writeFlat (9 + m) (s.lineBase m b y) (storedBytes (v.fmt.toNat % 16) v.pixels v.payload)).mem ∧
            Tab.opt t.pix.inFrame m = some { f with lines := lines, ended := decide (y + 1 = s.slotH m) } ∧
            Tab.lst t.lnk.rxVideo p = [] ∧
            (∀ pub : Bool, pub = (decide (y + 1 = s.slotH m) &&
                ((List.range (s.slotH m)).all (Tab.on lines) || !s.on (F.LAY_Wm_CTRL_DROP_INC m))) →
              t.fld (F.LAY_Wm_STAT_PUBLISHED m) = (s.fld (F.LAY_Wm_STAT_PUBLISHED m) + b2n pub) % 65536 ∧
              (pub = true → t.fld (F.LAY_Wm_STAT_LAST m) = b % 4 ∧ t.on (F.LAY_Wm_STAT_NONE m) = false ∧
                t.reg (R.LAY_Wm_SIG m) = crc32c (t.signedBytes m b lines) ∧ t.fld F.PWR_IDLECNT_MS = 0) ∧
              (pub = false → t.fld (F.LAY_Wm_STAT_LAST m) = s.fld (F.LAY_Wm_STAT_LAST m) ∧
                t.reg (R.LAY_Wm_SIG m) = s.reg (R.LAY_Wm_SIG m))) ∧
            (y + 1 = s.slotH m → (List.range (s.slotH m)).all (Tab.on lines) = false →
              t.fld (F.LAY_Wm_ERR_INCOMPLETE m) =
                min (F.LAY_Wm_ERR_INCOMPLETE m).max (s.fld (F.LAY_Wm_ERR_INCOMPLETE m) + 1))))) ∧
    (s.linkActive p = true → v.startLane = 0 → s.lnk.revert = none →
      Tab.lst s.lnk.rxVideo 0 = [] → Tab.lst s.lnk.rxVideo 2 = [] → s.slotPorts p part = [] →
      (v.ending = .good → v.framed = true → v.crcOk = true → part ≠ .cut → Runs (.videoPacketReceive p v) s fun t =>
        (∀ d ∈ dsts, Tab.lst t.lnk.queues (forwardQueue p d) = Tab.lst s.lnk.queues (forwardQueue p d) ++
          (if s.queueFill (forwardQueue p d) + s.drainedSince (forwardQueue p d) v.age + 18452 ≤ 65536
            then [⟨false, v.wire, false⟩] else [])) ∧
        (∀ d, dsts = [d] → ¬ room d → t.fld (F.LNK_Px_DROP_FWDDROP p) =
          min (F.LNK_Px_DROP_FWDDROP p).max (s.fld (F.LNK_Px_DROP_FWDDROP p) + 1)) ∧ t.mem = s.mem ∧ t.pix = s.pix) ∧
      ((v.ending = .abort ∨ (v.ending = .good ∧ (v.framed = false ∨ v.crcOk = false ∨ part = .cut))) →
        Runs (.videoPacketReceive p v) s fun t =>
          (∀ d ∈ dsts, Tab.lst t.lnk.queues (forwardQueue p d) = Tab.lst s.lnk.queues (forwardQueue p d) ++
            (if s.linkSpeed d ≤ s.linkSpeed p ∧
                s.queueFill (forwardQueue p d) + s.drainedSince (forwardQueue p d) v.age + 18452 ≤ 65536
              then [⟨false, v.wire, true⟩] else [])) ∧ t.mem = s.mem ∧ t.pix = s.pix))

/-- Where commands act: a request of a kind that its queue does not carry changes nothing, nor does one of a fetcher
without 64 free bytes in its line buffer, nor any without the clock of the hub. Otherwise, where the head of the
queue, this request if it is the first, lies below the top of the flat space: it goes to the end of its queue, with
the bytes that a write carries at their places in the line, while the queue holds fewer than sixteen and nothing is
stalled before it; else it takes nothing. In an empty queue, a request at or above the top does not stay: a write
changes no memory, OOR is incremented up to its largest value and EV_MEM_OOR raised with the queue; of a read, with no
read of the queue under way, the requester gets the line poisoned, and OOR is incremented. (08_frame_memory.md, R37,
R86, R246, R253, R254) -/
def Obligations.Memory_RequestsQueueOrAreRefused : Prop :=
  ∀ (s : State) (q : Fin 32) (r : MemReq), s.live →
    let reads := q.val ≤ 8 ∨ 21 ≤ q.val
    let writes := q.val ≠ 21 ∧ q.val ≠ 27 ∧ 9 ≤ q.val
    let old := Tab.lst s.mem.queues q
    let fits := (8 ≤ q.val ∨ s.fetchTaken q + 64 ≤ 16384) ∧ s.hubRuns = true
    let front := Tab.lst s.mem.behind q = []
    (¬ (if r.write then writes else reads) ∨ ¬ fits → Runs (.memRequest q r) s fun t => t = s) ∧
    ((if r.write then writes else reads) → fits → (∀ e ∈ old.head?, e.flat < s.flatTop) → 16 ≤ old.length ∨ ¬ front →
      Runs (.memRequest q r) s fun t => t = s) ∧
    ((if r.write then writes else reads) → fits → (∀ e ∈ old.head?, e.flat < s.flatTop) →
      (old = [] → r.flat < s.flatTop) → old.length < 16 → front →
      Runs (.memRequest q r) s fun t => ∃ e : MemEntry, Tab.lst t.mem.queues q = old ++ [e] ∧ e.write = r.write ∧
        e.flat = r.flat ∧ e.waited = 0 ∧
        (r.write = true → ∀ i, i < 64 → e.bytes.getD i none =
          if r.flat ≤ r.flat / 64 * 64 + i then r.bytes[r.flat / 64 * 64 + i - r.flat]? else none) ∧
        (∀ k, k ≠ q.val → Tab.lst t.mem.queues k = Tab.lst s.mem.queues k) ∧
        t = { s with mem := { s.mem with queues := t.mem.queues } }) ∧
    (writes → r.write = true → fits → front → old = [] → s.flatTop ≤ r.flat → Runs (.memRequest q r) s fun t =>
      t.fld F.MEM_STAT_OOR = min F.MEM_STAT_OOR.max (s.fld F.MEM_STAT_OOR + 1) ∧ Raised 61 (BitVec.ofNat 32 q) s t ∧
      OnlyFields [F.MEM_STAT_OOR, F.FLT_STAT_LOSTOCC] s t ∧ (∀ k, Tab.lst t.mem.queues k = Tab.lst s.mem.queues k) ∧
      t = { s with regs := t.regs, flt := t.flt, mem := { s.mem with queues := t.mem.queues, behind := t.mem.behind } }) ∧
    (reads → r.write = false → fits → front → old = [] → s.flatTop ≤ r.flat → q ≠ 25 → q ≠ 27 →
      (∀ c : Fin 3, ∀ f ∈ Tab.lst s.mem.inflight c, f.queue ≠ q.val) → Runs (.memRequest q r) s fun t =>
      t.fld F.MEM_STAT_OOR = min F.MEM_STAT_OOR.max (s.fld F.MEM_STAT_OOR + 1) ∧
      (Tab.opt t.mem.got q).any (·.poisoned) = true ∧ (∀ k, Tab.lst t.mem.queues k = Tab.lst s.mem.queues k) ∧
      t.mem.cells = s.mem.cells)

/-- Where commands act: in self-refresh, gated or asked to stop, or without clock, a controller accepts nothing.
Otherwise, with nothing waiting before the queues, one queue alone non-empty and its head acceptable to the
controller: a read goes in flight with the bytes and the poison that its line then reads as; a write of a line makes
each byte that it carries read as its new value, and every other byte of the line as before. DRAM cells do not change
by an acceptance. (08_frame_memory.md, R254, R255, R256, R266, R363, R368) -/
def Obligations.Memory_AcceptsHeads : Prop :=
  ∀ (s : State) (c : Fin 2), s.live →
    (s.ctlRefuses c = true → Runs (.memAccept c) s fun t => t = s) ∧
    (s.ctlRefuses c = false → s.nothingWaits →
      ∀ (q : Fin 32) (e : MemEntry) (rest : List MemEntry), Tab.lst s.mem.queues q = e :: rest →
      (∀ k : Fin 32, k ≠ q → Tab.lst s.mem.queues k = []) → s.acceptable c q e = true →
      let line := s.lineOf e.flat
      (e.write = false → Runs (.memAccept c) s fun t => (∃ f ∈ Tab.lst t.mem.inflight c, f.queue = q.val ∧ f.line = line ∧
        f.seq = s.mem.accepted ∧ f.data = s.mem.lineBytes line ∧ f.poisoned = s.mem.linePoison line ∧ f.done = false) ∧
        t.mem.cells = s.mem.cells ∧ t.mem.wbuf = s.mem.wbuf) ∧
      (e.write = true → e.bytes.length = 64 → Runs (.memAccept c) s fun t =>
        (∀ i, i < 64 → t.mem.lineByte line i = (e.bytes.getD i none).getD (s.mem.lineByte line i)) ∧
        t.mem.cells = s.mem.cells))

/-- Where commands act: with no read to serve, none whose data have come and nothing waiting before the queues,
MEM_READ_COMPLETE only shows the status of the host queue. With one read in flight in all, of a rank that is not held
and a queue whose requester takes any line, and nothing standing wrong in the line: without an error it brings the
data as stored, poisoned where the line stood poisoned (POISONRD counts it then), and no event but that of row hammer;
one wrong data bit is corrected and counted in CE, and the requester gets the data as stored. MEM_WRITE_COMPLETE of a
stopped controller, or outside a drain with reads to serve, changes nothing; else the oldest buffered write, its rank
not held, leaves the buffer, its bytes stand in the DRAM, other bytes stay, and a whole line is no longer poisoned; a
partial write of a poisoned line counts in POISONRD and the line stays poisoned; beside these only the row it opens
and the ECC line it takes change. (08_frame_memory.md, R250, R251, R254, R256, R258, R259, R260) -/
def Obligations.Memory_CompletesReadsAndWrites : Prop :=
  ∀ (s : State) (c : Fin 2), s.live →
    (∀ z, (s.ctlStopped c = true ∨ s.nextRead c = none) → s.nothingWaits →
      (∀ k : Fin 3, ∀ f ∈ Tab.lst s.mem.inflight k, f.done = false) → Runs (.memReadComplete c z) s fun t =>
        OnlyFields [F.SYS_HOSTSTAT_BUSY, F.SYS_HOSTSTAT_FREE] s t ∧ t = { s with regs := t.regs }) ∧
    (∀ f : InFlight, s.ctlStopped c = false → s.nothingWaits → s.draining c = false → Tab.lst s.mem.inflight c = [f] →
      Tab.lst s.mem.inflight (1 - c) = [] → Tab.lst s.mem.inflight 2 = [] → f.done = false → f.forwarded = false →
      f.data.length = 64 → (9 ≤ f.queue ∧ f.queue ≠ 25 ∧ f.queue ≠ 27) → Tab.opt s.mem.wrong f.line = none →
      let rank := f.line / 2 ^ 25
      rank < 4 → Tab.on s.mem.hold rank = false →
      (f.poisoned = false → Runs (.memReadComplete c clean) s fun t =>
        Tab.opt t.mem.got f.queue = some ⟨f.flat, f.data, false⟩ ∧ Tab.lst t.mem.inflight c = [] ∧ (∀ j, j ≠ 74 → t.events j = s.events j)) ∧
      (f.poisoned = true → Runs (.memReadComplete c clean) s fun t =>
        Tab.opt t.mem.got f.queue = some ⟨f.flat, f.data, true⟩ ∧ Tab.lst t.mem.inflight c = [] ∧ (∀ j, j ≠ 74 → t.events j = s.events j) ∧
        t.fld (F.MEM_RKj_ERR_POISONRD rank) = min (F.MEM_RKj_ERR_POISONRD rank).max (s.fld (F.MEM_RKj_ERR_POISONRD rank) + 1)) ∧
      (∀ b, f.poisoned = false → Runs (.memReadComplete c (oneWrong b)) s fun t =>
        Tab.opt t.mem.got f.queue = some ⟨f.flat, f.data, false⟩ ∧ Tab.lst t.mem.inflight c = [] ∧
        t.fld (F.MEM_RKj_ERR_CE rank) = min (F.MEM_RKj_ERR_CE rank).max (s.fld (F.MEM_RKj_ERR_CE rank) + 1))) ∧
    (∀ rd wr, (s.ctlStopped c = true ∨ (s.draining c = false ∧
        ∃ f ∈ Tab.lst s.mem.inflight c, f.done = false ∧ Tab.on s.mem.hold (f.line / 2 ^ 25) = false)) →
      Runs (.memWriteComplete ⟨c, rd, wr⟩) s fun t => t = s) ∧
    (∀ (e : WEntry) (rest : List WEntry), s.ctlStopped c = false →
      (s.draining c = true ∨ ∀ f ∈ Tab.lst s.mem.inflight c, f.done = true) → Tab.lst s.mem.wbuf c = e :: rest →
      (∀ x ∈ rest, x.line ≠ e.line) → e.bytes.length = 64 → Tab.opt s.mem.wrong e.line = none →
      let rank := e.line / 2 ^ 25
      c.val = rank / 2 → Tab.on s.mem.hold rank = false →
      Runs (.memWriteComplete ⟨c, clean, clean⟩) s fun t => Tab.lst t.mem.wbuf c = rest ∧
        (∀ i, i < 64 → t.mem.cell (e.line * 64 + i) = (e.bytes.getD i none).getD (s.mem.cell (e.line * 64 + i))) ∧
        (∀ k, k < e.line * 64 ∨ e.line * 64 + 64 ≤ k → t.mem.cell k = s.mem.cell k) ∧
        (∀ k, Tab.on t.mem.poison k = (Tab.on s.mem.poison k && !(k == e.line && wholeLine e.bytes))) ∧
        OnlyFields ((if wholeLine e.bytes = false ∧ Tab.on s.mem.poison e.line = true then [F.MEM_RKj_ERR_POISONRD rank]
          else []) ++ hammerFields) s t ∧ (∀ j, j ≠ 74 → t.events j = s.events j) ∧
        (wholeLine e.bytes = false → Tab.on s.mem.poison e.line = true → t.fld (F.MEM_RKj_ERR_POISONRD rank) =
          min (F.MEM_RKj_ERR_POISONRD rank).max (s.fld (F.MEM_RKj_ERR_POISONRD rank) + 1)) ∧
        t = { s with regs := t.regs, flt := t.flt, mem := { s.mem with
          cells := t.mem.cells, poison := t.mem.poison, wbuf := t.mem.wbuf, drain := t.mem.drain, wrong := t.mem.wrong,
          hot := t.mem.hot, row := t.mem.row, throttle := t.mem.throttle, ecc := t.mem.ecc } })

/-- Where commands act: on a rank not in self-refresh, a refresh due while its bank is busy adds one to those
postponed, up to eight, and otherwise closes the row of the bank; on an idle bank none stays postponed (both are
readings of log entry 99). On a rank in self-refresh it changes nothing. MR4_POLL shows the code of every populated
rank that is not in self-refresh and whose controller is not stopped, and leaves the others. A refresh window begins
with empty trackers, no throttling and QUEUES 0. The end of a CE window restarts the window counts and nothing else.
(08_frame_memory.md, R257, R259, R264, R266, R267, R268) -/
def Obligations.Memory_RefreshWindowsAndThrottle : Prop :=
  ∀ (s : State), s.live →
    (∀ (r : Fin 4) (b : Fin 8) busy, Tab.on s.mem.asleep r = true → Runs (.refreshDue r b busy) s fun t => t = s) ∧
    (∀ (r : Fin 4) (b : Fin 8), Tab.on s.mem.asleep r = false → Tab.num s.mem.postponed (8 * r + b) < 8 →
      Runs (.refreshDue r b true) s fun t =>
        Tab.num t.mem.postponed (8 * r + b) = Tab.num s.mem.postponed (8 * r + b) + 1 ∧
        t = { s with mem := { s.mem with postponed := t.mem.postponed } }) ∧
    (∀ (r : Fin 4) (b : Fin 8) busy, Tab.on s.mem.asleep r = false →
      (busy = false ∨ 8 ≤ Tab.num s.mem.postponed (8 * r + b)) → Runs (.refreshDue r b busy) s fun t =>
        Tab.num t.mem.row (8 * r + b) = 0 ∧ (busy = false → Tab.num t.mem.postponed (8 * r + b) = 0) ∧
        t = { s with mem := { s.mem with postponed := t.mem.postponed, row := t.mem.row } }) ∧
    (∀ c0 c1 c2 c3 : BitVec 3, Runs (.mr4Poll c0 c1 c2 c3) s fun t =>
      (∀ r : Fin 4, t.fld (F.MEM_RKj_MR4_RATE r) =
        if Tab.on s.mem.populated r = true ∧ Tab.on s.mem.asleep r = false ∧ s.ctlStopped (r / 2) = false
        then [c0.toNat, c1.toNat, c2.toNat, c3.toNat].getD r 0 else s.fld (F.MEM_RKj_MR4_RATE r)) ∧
      t = { s with regs := t.regs, flt := t.flt }) ∧
    (Runs .refreshWindowStart s fun t => t.fld F.MEM_HR_THR_QUEUES = 0 ∧ OnlyFields [F.MEM_HR_THR_QUEUES] s t ∧
      t = { s with regs := t.regs, mem := { s.mem with hot := [], throttle := [] } }) ∧
    (Runs .ceWindowEnd s fun t => t = { s with mem := { s.mem with ceCount := [], ceHit := [] } })

/-- Where commands act: with the scrubber off, or the rank closed or Q29 throttled, SCRUB_STEP changes nothing; a good
line, nothing standing wrong in it, only moves its position on, besides the row that it opens and the ECC line that it
takes. SPARE_START of an in-service rank with a spare and MIG_STATE 0 sets MIG_STATE 1, FAILED and MEM_MIG_PTR 0 and
raises EV_MEM_MIG_START; otherwise it changes RANK alone. MIGRATION_LINE_COPY outside state 1, or while a rank of the
two is held, asleep or its controller stopped, changes nothing; else, Q28 not throttled, a line that reads good stands
on the spare byte by byte and MEM_MIG_PTR moves on; after the last line, no accepted read waiting, MIG_STATE is 2 and
the failing rank is in self-refresh. (08_frame_memory.md, R258, R261, R262, R263, R264, R265, R267, R268) -/
def Obligations.Memory_ScrubAndMigrate : Prop :=
  ∀ (s : State), s.live →
    (s.on F.MEM_SCRUB_EN = false → ∀ z, Runs (.scrubStep z) s fun t => t = s) ∧
    (s.on F.MEM_SCRUB_EN = true → ∀ line, s.scrubAt s.mem.scrub = some line →
      ((s.rankOpen (line / 2 ^ 25) = false ∨ s.throttled 29 line (s.cycleOf line) = true) →
        ∀ z, Runs (.scrubStep z) s fun t => t = s) ∧
      (s.rankOpen (line / 2 ^ 25) = true → s.throttled 29 line (s.cycleOf line) = false →
        Tab.on s.mem.poison line = false → Tab.opt s.mem.wrong line = none → Runs (.scrubStep clean) s fun t =>
          let u := (s.reserve 29 line).touchLine 29 line false
          t = { u with mem := { u.mem with scrub := line + 1 } } ∧ t.mem.cells = s.mem.cells ∧ t.mem.poison = s.mem.poison)) ∧
    (∀ r : Fin 4, s.fld F.MEM_STAT_MIG_STATE = 0 → s.on F.MEM_STAT_SPARE_VALID = true → s.inService r = true →
      Runs (.spareStart r) s fun t => t.fld F.MEM_SPARE_CTRL_RANK = r ∧ t.fld F.MEM_STAT_MIG_STATE = 1 ∧
        t.fld F.MEM_STAT_FAILED = r ∧ t.fld F.MEM_MIG_PTR_LINE = 0 ∧ Raised 72 (BitVec.ofNat 32 r) s t ∧
        OnlyFields [F.MEM_SPARE_CTRL_RANK, F.MEM_STAT_MIG_STATE, F.MEM_STAT_FAILED, F.MEM_MIG_PTR_LINE,
          F.FLT_STAT_LOSTOCC] s t ∧ t = { s with regs := t.regs, flt := t.flt }) ∧
    (∀ r : Fin 4, (s.fld F.MEM_STAT_MIG_STATE ≠ 0 ∨ s.on F.MEM_STAT_SPARE_VALID = false ∨ s.inService r = false) →
      Runs (.spareStart r) s fun t => t.fld F.MEM_SPARE_CTRL_RANK = r ∧ OnlyFields [F.MEM_SPARE_CTRL_RANK] s t ∧
        t = { s with regs := t.regs }) ∧
    (let bad := s.fld F.MEM_STAT_FAILED
     let new := s.fld F.MEM_STAT_SPARE
     let n := s.fld F.MEM_MIG_PTR_LINE
     let line := bad * 2 ^ 25 + n
     let dst := new * 2 ^ 25 + n
     ((s.fld F.MEM_STAT_MIG_STATE ≠ 1 ∨ s.rankOpen bad = false ∨ s.rankOpen new = false) →
       ∀ z, Runs (.migrationLineCopy z) s fun t => t = s) ∧
     (s.fld F.MEM_STAT_MIG_STATE = 1 → s.rankOpen bad = true → s.rankOpen new = true → bad ≠ new →
       s.throttled 28 line (s.cycleOf line) = false → s.throttled 28 dst (s.cycleOf dst) = false →
       s.fld F.MEM_CFG_DENS < 3 → n < s.rankLines → Tab.on s.mem.poison line = false → Tab.opt s.mem.wrong line = none →
       (∀ e, s.mem.posted line = some e → e.bytes.length = 64) →
       (s.rankLines ≤ n + 1 → Tab.lst s.mem.inflight (bad / 2) = []) → Runs (.migrationLineCopy clean) s fun t =>
         (∀ i, i < 64 → t.mem.cell (dst * 64 + i) = s.mem.lineByte line i) ∧
         (∀ k, k < dst * 64 ∨ dst * 64 + 64 ≤ k → t.mem.cell k = s.mem.cell k) ∧ t.mem.posted line = none ∧
         t.fld F.MEM_MIG_PTR_LINE = n + 1 ∧
         (n + 1 < s.rankLines → t.fld F.MEM_STAT_MIG_STATE = 1 ∧ t.events 73 = s.events 73) ∧
         (s.rankLines ≤ n + 1 → t.fld F.MEM_STAT_MIG_STATE = 2 ∧ Tab.on t.mem.asleep bad = true ∧
           (s.on (F.FLT_SRCi_EN 73) = true → (s.events 73).length < 15 →
             t.events 73 = s.events 73 ++ [⟨BitVec.ofNat 32 bad, false⟩]))))

/-- Where commands act: TIMING_RECAL of a rank with a run due, none held, the other ranks' second runs made, and no
configuration, or the first run in an open commit window, holds the rank; else, with no run due or a run made in this
window, it changes nothing; TIMING_RECAL_DONE of a held rank releases it. Training before its three PLLs have locked,
or once it has been, changes nothing; TRAINED shows the populated ranks that trained; with M0.0 untrained no rank is
in service and EV_MEM_TRAIN_FAIL is raised; with M0.0 and M1.0 trained, all populated ranks of one density and no DRAM
section it puts the ranks in service, RATE and ORDER 0. MEM_RECONFIG_DONE with no section to take up changes nothing;
with one, no configuration active, no packet waiting and no rank failed, MEM_CFG, the spare and the ranks in service
are those of the section, MIG_STATE is 0, the write buffers are empty and no byte of the old contents is kept. A line
buffer in use goes to the end of Q25 and is free again, or waits while Q25 has no room; above the flat space it is
dropped and counted in OOR; an empty one changes nothing. (08_frame_memory.md, R241, R242, R244, R246, R254, R258,
R262, R269) -/
def Obligations.Memory_RecalTrainingReconfigFlush : Prop :=
  ∀ (s : State), s.live →
    (∀ r : Fin 4, (Tab.num s.mem.recalDue r = 0 ∨ (∃ k : Fin 4, Tab.on s.mem.hold k = true) ∨
        (s.on F.CFG_STATUS_ACTIVE = true ∧ (s.on F.TIM_STAT_WINDOW = false ∨ s.mem.recalMade = true))) →
      Runs (.timingRecal r) s fun t => t = s) ∧
    (∀ r : Fin 4, Tab.num s.mem.recalDue r ≠ 0 → (∀ k : Fin 4, Tab.on s.mem.hold k = false) →
      (Tab.num s.mem.recalDue r = 1 ∨ ∀ k : Fin 4, Tab.num s.mem.recalDue k ≠ 1) →
      (s.on F.CFG_STATUS_ACTIVE = false ∨ (s.on F.TIM_STAT_WINDOW = true ∧ s.mem.recalMade = false)) →
      Runs (.timingRecal r) s fun t =>
        Tab.on t.mem.hold r = true ∧ Tab.num t.mem.recalDue r = Tab.num s.mem.recalDue r - 1 ∧ t.mem.recalMade = true ∧
        t.mem.cells = s.mem.cells ∧ t.regs = s.regs) ∧
    (∀ r : Fin 4, Tab.on s.mem.hold r = false → Runs (.timingRecalDone r) s fun t => t = s) ∧
    (∀ r : Fin 4, Tab.on s.mem.hold r = true → s.nothingWaits → Runs (.timingRecalDone r) s fun t =>
      Tab.on t.mem.hold r = false ∧ (∀ k, k ≠ r.val → Tab.on t.mem.hold k = Tab.on s.mem.hold k) ∧
      OnlyFields [F.SYS_HOSTSTAT_BUSY, F.SYS_HOSTSTAT_FREE] s t ∧
      t = { s with regs := t.regs, mem := { s.mem with hold := t.mem.hold } }) ∧
    (∀ r0 r1 r2 r3, (s.mem.trained = true ∨ s.locked 0 = false ∨ s.locked 1 = false ∨ s.locked 2 = false) →
      Runs (.dramTrainingDone r0 r1 r2 r3) s fun t => t = s) ∧
    (∀ (r0 r1 r2 r3 : RankFound) (up : Nat → Bool), s.mem.trained = false →
      s.locked 0 = true → s.locked 1 = true → s.locked 2 = true →
      (∀ r, up r = (([r0, r1, r2, r3][r]?).any (fun x => x.populated && x.trained) && !s.rankBad r)) →
      Runs (.dramTrainingDone r0 r1 r2 r3) s fun t => t.mem.trained = true ∧
        t.fld F.MEM_STAT_TRAINED = b2n (up 0) + 2 * b2n (up 1) + 4 * b2n (up 2) + 8 * b2n (up 3) ∧
        (∀ r, r < 4 → Tab.on t.mem.populated r = ([r0, r1, r2, r3].map (·.populated)).getD r false) ∧
        ((up 0 = false ∨ up 2 = false) → t.fld F.MEM_STAT_INSVC = 0 ∧ t.ldrState = s.ldrState ∧
          (s.on (F.FLT_SRCi_EN 60) = true → (s.events 60).length < 15 → (t.events 60).length = (s.events 60).length + 1)) ∧
        (up 0 = true → up 2 = true → Secs.get s.conf.secs 8 0 = [] →
          (∀ x ∈ [r1, r2, r3], x.populated = true → x.density = r0.density) →
          t.fld F.MEM_STAT_INSVC = 1 + 2 * b2n (up 1) + 4 + 8 * b2n (up 3) ∧
          t.fld F.MEM_CFG_RATE = 0 ∧ t.fld F.MEM_CFG_ORDER = 0 ∧ t.fld F.MEM_CFG_DENS = r0.density.val)) ∧
    (s.mem.reconfig = none → Runs .memReconfigDone s fun t => t = s) ∧
    (∀ d, s.mem.reconfig = some d → s.active = false → (∀ r, r < 4 → s.rankBad r = false) → Tab.lst s.lnk.rxVideo 0 = [] → Tab.lst s.lnk.rxVideo 2 = [] →
      Runs .memReconfigDone s fun t =>
        t.fld F.MEM_CFG_RATE = byteOf d 0 % 8 ∧ t.fld F.MEM_CFG_ORDER = byteOf d 3 % 4 ∧
        (∀ p, p < 4 → t.posRank p = byteOf d (4 + p) % 8) ∧
        t.on F.MEM_STAT_SPARE_VALID = decide (128 ≤ byteOf d 8) ∧ t.fld F.MEM_STAT_SPARE = byteOf d 8 % 4 ∧
        t.fld F.MEM_STAT_INSVC = sumN ((List.range 4).map fun p =>
          if byteOf d (4 + p) % 8 = 7 then 0 else 2 ^ (byteOf d (4 + p) % 8)) % 16 ∧
        t.fld F.MEM_STAT_MIG_STATE = 0 ∧ t.mem.reconfig = none ∧ t.mem.wbuf = [] ∧ t.mem.cells = [] ∧
        t.mem.epoch = s.mem.epoch + 1 ∧ (∀ r, Tab.on t.mem.poison r = false)) ∧
    (s.mem.lineBase = none → Runs .hostLineBufferFlush s fun t => t = s) ∧
    (∀ base, s.mem.lineBase = some base → base < s.flatTop → (Tab.lst s.mem.queues 25).length < 16 → Tab.lst s.mem.behind 25 = [] →
      Runs .hostLineBufferFlush s fun t =>
        Tab.lst t.mem.queues 25 = Tab.lst s.mem.queues 25 ++ [⟨true, base, s.mem.lineBuf, 0⟩] ∧ t.mem.lineBase = none ∧
        t.regs = s.regs) ∧
    (∀ base, s.mem.lineBase = some base → base < s.flatTop →
      16 ≤ (Tab.lst s.mem.queues 25).length ∨ Tab.lst s.mem.behind 25 ≠ [] →
      Runs .hostLineBufferFlush s fun t => t = { s with mem := { s.mem with lineDue := true } }) ∧
    (∀ base, s.mem.lineBase = some base → s.flatTop ≤ base → Runs .hostLineBufferFlush s fun t =>
      t.mem.lineBase = none ∧ Raised 61 25 s t ∧ t.mem.queues = s.mem.queues ∧
      t.fld F.MEM_STAT_OOR = min F.MEM_STAT_OOR.max (s.fld F.MEM_STAT_OOR + 1))

/-- Where commands act, for every port: a receiver on lane 0 takes a port that runs in DETECT, without a hold-off, to
TRAIN at rate 0, and nothing happens otherwise. A timeout in TRAIN to CAPS leads to DETECT, and after an attempt at a
new rate on a Weandi port adds the rate to FAILMASK. RETRAIN acts in ACTIVE alone: TRAIN at rate 0, DOWNS counted.
CLRFAIL clears FAILMASK. LANE_WIDTH_TIMEOUT fixes W once lane 0 has symbol lock. A valid TS1 on a detected lane in
TRAIN counts, up to eight; TS1 elsewhere changes only the running disparity that the lane hears (log entry 140), and
so does TS2 off lane 0 or outside CAPS; a valid one is kept; a second one alike is taken: one that shows the port its
own role sets ROLEERR and starts the hold-off in DETECT, one of the other role that agrees on the present rate makes
the port send ACK, with the lower width of the two. (09_weandi_link.md, 10_archipelago.md, R279, R280, R281, R303,
R306) -/
def Obligations.Link_BringUpOfAPort : Prop :=
  ∀ (s : State) (p : Fin 8), s.live →
    (∀ m : BitVec 4, ¬ (s.linkRuns p = true ∧ s.linkState p = 0 ∧ (s.link p).holdoff = false ∧ m.toNat % 2 = 1) →
      Runs (.receiverDetect p m) s fun t => t = s) ∧
    (∀ m : BitVec 4, s.linkRuns p = true → s.linkState p = 0 → (s.link p).holdoff = false → m.toNat % 2 = 1 →
      Runs (.receiverDetect p m) s fun t => t.linkState p = 1 ∧ t.fld (linkRateF p) = 0 ∧ (t.link p).width = 0 ∧ Quiet s t) ∧
    ((s.linkState p = 0 ∨ 5 ≤ s.linkState p) → Runs (.linkStateTimeout p) s fun t => t = s) ∧
    (1 ≤ s.linkState p → s.linkState p ≤ 4 → Runs (.linkStateTimeout p) s fun t => t.linkState p = 0 ∧ Quiet s t ∧
      (p.val < 3 → (s.link p).attempt = true →
        bits (s.fld (linkRateF p)) (s.fld (linkRateF p)) (t.fld (F.LNK_Px_STAT_FAILMASK p)) = 1)) ∧
    (Runs (.roleHoldoffEnd p) s fun t => (t.link p).holdoff = false ∧ (∀ q, q ≠ p.val → t.link q = s.link q) ∧
      t = { s with lnk := { s.lnk with ports := t.lnk.ports } }) ∧
    (¬ (s.linkState p = 2 ∧ (s.link p).width = 0 ∧ ((s.link p).lane 0).symLock = true) →
      Runs (.laneWidthTimeout p) s fun t => t = s) ∧
    (s.linkState p = 2 → (s.link p).width = 0 → ((s.link p).lane 0).symLock = true →
      Runs (.laneWidthTimeout p) s fun t => (t.link p).width = s.widthNow p ∧ 1 ≤ (t.link p).width) ∧
    (∀ (n : Fin 4) (x : TrainSet), ¬ ((s.linkState p = 1 ∨ s.linkState p = 2) ∧ bits n n (s.link p).detected = 1) →
      Runs (.ts1Receive p n x) s fun t => t = { s with lnk := { s.lnk with rxRd := t.lnk.rxRd } }) ∧
    (∀ (n : Fin 4) (x : TrainSet), s.linkState p = 1 → bits n n (s.link p).detected = 1 → x.opens 0x4A = true →
      x.inverted = ((s.link p).lane n).inv → Runs (.ts1Receive p n x) s fun t => t.linkState p = 1 ∧
        ((t.link p).lane n).ts1 = min 8 (((s.link p).lane n).ts1 + 1) ∧ Quiet s t) ∧
    (∀ (n : Fin 4) (x : TrainSet), (s.linkState p ≠ 4 ∨ n ≠ 0) → Runs (.ts2Receive p n x) s fun t =>
      t = { s with lnk := { s.lnk with rxRd := t.lnk.rxRd } }) ∧
    (∀ x : TrainSet, p.val < 3 → s.linkState p = 4 → (s.link p).ack = false → x.opens 0x45 = true →
      x.inverted = ((s.link p).lane 0).inv → symAt x.syms 15 = crc8 (((x.syms.drop 2).take 13).map (·.2)) →
      let v := x.syms.map fun y => y.2.toNat
      ((s.link p).ts2 ≠ v → Runs (.ts2Receive p 0 x) s fun t => (t.link p).ts2 = v ∧ t.linkState p = 4 ∧ t.regs = s.regs) ∧
      ((s.link p).ts2 = v → bits 2 2 (symAt x.syms 5) = s.linkRole p → Runs (.ts2Receive p 0 x) s fun t =>
        t.linkState p = 0 ∧ (t.link p).holdoff = true ∧ t.on (F.LNK_Px_STAT_ROLEERR p) = true ∧
        Raised 29 (BitVec.ofNat 32 p) s t) ∧
      ((s.link p).ts2 = v → bits 2 2 (symAt x.syms 5) ≠ s.linkRole p →
        s.linkAgree p (symAt x.syms 4 % 16) (symAt x.syms 8) = s.fld (linkRateF p) → Runs (.ts2Receive p 0 x) s fun t =>
          t.linkState p = 4 ∧ (t.link p).ack = true ∧
          (t.link p).width = min (s.link p).width (lanesOf (symAt x.syms 5 % 4)) ∧ Quiet s t)) ∧
    (∀ q : Fin 3, (s.linkActive q = false → Runs (.retrain q) s fun t => t = s) ∧
      (s.linkActive q = true → Runs (.retrain q) s fun t => t.linkState q = 1 ∧ t.fld (linkRateF q) = 0 ∧
        t.fld (F.LNK_Px_STAT_DOWNS q) = min 255 (s.fld (F.LNK_Px_STAT_DOWNS q) + 1)) ∧
      (Runs (.clrfail q) s fun t => t.fld (F.LNK_Px_STAT_FAILMASK q) = 0 ∧
        OnlyFields [F.LNK_Px_STAT_FAILMASK q] s t ∧ t = { s with regs := t.regs }))

/-- Where commands act: a header before ALIGN changes only the running disparity that the lane hears. On a locked lane
of an ACTIVE Weandi port, a header that is not valid or displaced counts in BADHDR; with three bad ones among the last
31 it loses lock, and a lane in use takes the port to ALIGN and counts DOWNS. In DETECT, or without clock, no header
is sent; in TRAIN and LOCK the port sends a TS1 on each detected lane, after every 32 a SKP ordered set; in ALIGN and
ACTIVE a Weandi port sends on each lane in use the header with its lane, SEQ and UPOK, after a SKP ordered set where
the block before had an odd SEQ, and SEQ moves on modulo 256, the groups of what a lane sends following from its
running disparity; in CAPS a TS2 and IDL fill the block, and the eighth with ACK after two received enters ACTIVE. A
SKP set brings the fill one step towards 12 to 20 and lets a threshold that waits for it take effect. A group that is
a code error at the lane's disparity counts in its lane, any other does not; which groups are code errors, and that
this command sends the training sets, are the model's (log entry 140); ELASTIC_BUFFER_SLIP counts in its lane and an
undefined control OP on an ACTIVE port in LENERR, and nothing else changes. (09_weandi_link.md, 10_archipelago.md,
R272, R274, R275, R276, R277, R280, R281, R298) -/
def Obligations.Link_BlocksAndLaneCounters : Prop :=
  ∀ (s : State) (p : Fin 8) (n : Fin 4), s.live →
    let Coded (t : State) : Prop := ∀ k, k < 4 → Tab.lst t.lnk.sent (4 * p + k) ≠ Tab.lst s.lnk.sent (4 * p + k) →
      Tab.lst t.lnk.coded (4 * p + k) = codeSyms (s.rdNow (4 * p + k)) (Tab.lst t.lnk.sent (4 * p + k))
    (∀ h, s.linkState p < 3 → Runs (.blockHeaderReceive p n h) s fun t =>
      t = { s with lnk := { s.lnk with rxRd := t.lnk.rxRd } }) ∧
    (∀ h : HeaderRx, p.val < 3 → s.linkState p = 5 → n.val < (s.link p).width → ((s.link p).lane n).locked = true →
      (h.valid = false ∨ h.atExpected = false) → 3 ≤ ((((s.link p).lane n).judged.take 31).filter id).length →
      Runs (.blockHeaderReceive p n h) s fun t => t.linkState p = 3 ∧ ((t.link p).lane n).locked = false ∧
        t.fld (F.LNK_Px_LANEn_BADHDR p n) = min 255 (s.fld (F.LNK_Px_LANEn_BADHDR p n) + 1) ∧
        t.fld (F.LNK_Px_STAT_DOWNS p) = min 255 (s.fld (F.LNK_Px_STAT_DOWNS p) + 1)) ∧
    (∀ h : HeaderRx, p.val < 3 → s.linkState p = 5 → (s.link p).upTo (s.link p).width (·.locked) = true →
      ((s.link p).lane n).locked = true → h.valid = true → h.atExpected = true →
      ((((s.link p).lane n).judged.take 31).filter id).length < 4 →
      Runs (.blockHeaderReceive p n h) s fun t => t.linkState p = 5 ∧ ((t.link p).lane n).locked = true) ∧
    (∀ x, s.linkState p = 0 ∨ s.clocked 2 = false → Runs (.blockHeaderSend p x) s fun t => t = s) ∧
    (∀ x, s.clocked 2 = true → (s.linkState p = 1 ∨ s.linkState p = 2) → Runs (.blockHeaderSend p x) s fun t =>
      (t.link p).sets = (if 31 ≤ (s.link p).sets then 0 else (s.link p).sets + 1) ∧
      (∀ k, k < 4 → bits k k (s.link p).detected = 1 → Tab.lst t.lnk.sent (4 * p + k) =
        s.ts1Syms p k ++ if 31 ≤ (s.link p).sets then skpSet else []) ∧ Coded t ∧
      t = { s with lnk := { s.lnk with
        ports := t.lnk.ports, sent := t.lnk.sent, coded := t.lnk.coded, txRd := t.lnk.txRd } }) ∧
    (∀ x, p.val < 3 → s.clocked 2 = true → (s.linkState p = 3 ∨ s.linkState p = 5) → (s.link p).width ≤ 4 →
      Runs (.blockHeaderSend p x) s fun t =>
        (t.link p).seq = ((s.link p).seq + 1) % 256 ∧ (t.link p).odd = decide ((s.link p).seq % 2 = 1) ∧
        (∀ k, k < (s.link p).width → Tab.lst t.lnk.sent (4 * p + k) =
          (if (s.link p).odd then skpSet else []) ++ s.headerSyms p k) ∧ Coded t ∧
        t = { s with lnk := { s.lnk with
          ports := t.lnk.ports, sent := t.lnk.sent, coded := t.lnk.coded, txRd := t.lnk.txRd } }) ∧
    (∀ x, p.val < 3 → s.clocked 2 = true → s.linkState p = 4 → (s.link p).width ≤ 4 → (s.link p).ackSent < 7 →
      Runs (.blockHeaderSend p x) s fun t => t.linkState p = 4 ∧ Coded t ∧
        ∀ k, k < (s.link p).width → Tab.lst t.lnk.sent (4 * p + k) = (if (s.link p).odd then skpSet else []) ++
          s.headerSyms p k ++ s.ts2Syms p k ++ List.replicate 232 symIdl) ∧
    (∀ x, p.val < 3 → s.clocked 2 = true → s.linkState p = 4 → (s.link p).ack = true → 7 ≤ (s.link p).ackSent → 2 ≤ (s.link p).ackGot →
      Runs (.blockHeaderSend p x) s fun t => t.linkState p = 5) ∧
    (∀ fill, Tab.opt s.cal.thr (laneIndex p n) = none → Runs (.skpReceive p n fill) s fun t =>
      ((t.link p).lane n).fill = (if 20 < fill then fill - 1 else if fill < 12 then fill + 1 else fill) ∧
      t = { s with lnk := { s.lnk with ports := t.lnk.ports, rxRd := t.lnk.rxRd } }) ∧
    (∀ fill v, Tab.opt s.cal.thr (laneIndex p n) = some v → Runs (.skpReceive p n fill) s fun t =>
      ((t.link p).lane n).fill = (if 20 < fill then fill - 1 else if fill < 12 then fill + 1 else fill) ∧
      Tab.opt t.cal.thr (laneIndex p n) = none ∧
      t.fld (F.CAL_LANEi_THR (laneIndex p n)) = v % ((F.CAL_LANEi_THR (laneIndex p n)).max + 1) ∧
      OnlyFields [F.CAL_LANEi_THR (laneIndex p n)] s t) ∧
    (∀ (g : BitVec 10) (b rd : Bool), rd = (Tab.opt s.lnk.rxRd (4 * p + n)).getD b →
      (isCodeError (!weandi p) rd g.toNat = true → Runs (.codeError p ⟨n, g, b⟩) s fun t =>
        t.fld (codeErrF p n) = min (codeErrF p n).max (s.fld (codeErrF p n) + 1) ∧ OnlyFields [codeErrF p n] s t ∧
        Tab.opt t.lnk.rxRd (4 * p + n) = some (rdAfter rd g.toNat) ∧
        t = { s with regs := t.regs, lnk := { s.lnk with rxRd := t.lnk.rxRd } }) ∧
      (isCodeError (!weandi p) rd g.toNat = false → Runs (.codeError p ⟨n, g, b⟩) s fun t =>
        Tab.opt t.lnk.rxRd (4 * p + n) = some (rdAfter rd g.toNat) ∧ t = { s with lnk := { s.lnk with rxRd := t.lnk.rxRd } })) ∧
    (let f := if p.val < 3 then F.LNK_Px_LANEn_EBUF p n else F.SPN_Pp_DROP_EBUF (p - 3 : Nat)
     Runs (.elasticBufferSlip p n) s fun t =>
      t.fld f = min f.max (s.fld f + 1) ∧ OnlyFields [f] s t ∧ Tab.opt t.lnk.rxRd (4 * p + n) = none ∧
      t = { s with regs := t.regs, lnk := { s.lnk with rxRd := t.lnk.rxRd } }) ∧
    (∀ q : Fin 3, (s.linkActive q = false → Runs (.lnkInvalidControl q) s fun t =>
        t = { s with lnk := { s.lnk with rxRd := t.lnk.rxRd } }) ∧
      (s.linkActive q = true → Runs (.lnkInvalidControl q) s fun t =>
        t.fld (F.LNK_Px_PKT_LENERR q) = min 255 (s.fld (F.LNK_Px_PKT_LENERR q) + 1) ∧
        OnlyFields [F.LNK_Px_PKT_LENERR q] s t ∧ t = { s with regs := t.regs, lnk := { s.lnk with rxRd := t.lnk.rxRd } }))

/-- Where commands act: SWITCH moves UPSEL to the other upstream where that is usable and UPSEL has not moved in this
cycle of REF, counts it and empties the forward queues of the old one; else it changes nothing. VIDEO_TIMEOUT, no
switch in this cycle, with UPSEL U, VTMO not 0 and video on B, BMODE 2 and FO_AUTO set: with B usable UPSEL is B,
FAILOVER is set, EV_LNK_FAILOVER raised; with B not usable NOSTBY is set, and UPSEL becomes none if U is not usable.
REVERT_HOLD_EXPIRY with UPSEL B, FO_REVERT and U usable waits for the next line 0 from then on. Nothing that waits
goes on at a port that is not ACTIVE or has no clock; on an ACTIVE Weandi port, no control packet or request waiting
for room, PACKET_SELECT takes the oldest control packet of the port if there is one; on an ACTIVE Spine port without a
Clasp frame, a lone class 0 frame, none stalled behind it. (09_weandi_link.md, 10_archipelago.md, R292, R295, R296,
R297, R308, R312) -/
def Obligations.Link_UpstreamAndTransmitChoice : Prop :=
  ∀ (s : State), s.live →
    (s.upstream = none → Runs .foSwitch s fun t => t = s) ∧
    (∀ p, s.upstream = some p → (s.isUp (2 - p) = false ∨ s.usable (2 - p) = false ∨ s.switchedNow = true) →
      Runs .foSwitch s fun t => t = s) ∧
    (∀ p, s.upstream = some p → s.isUp (2 - p) = true → s.usable (2 - p) = true → s.switchedNow = false →
      Runs .foSwitch s fun t =>
      t.upstream = some (2 - p) ∧ t.fld F.LNK_STAT_SWITCHES = min 255 (s.fld F.LNK_STAT_SWITCHES + 1) ∧
      (∀ q ∈ forwardQueues p, Tab.lst t.lnk.queues q = []) ∧
      (∀ q, q ∉ forwardQueues p → Tab.lst t.lnk.queues q = Tab.lst s.lnk.queues q) ∧
      OnlyFields [F.LNK_STAT_UPSEL, F.LNK_STAT_SWITCHES] s t ∧ Quiet s t) ∧
    (¬ (s.upstream = some 0 ∧ s.fld F.LNK_FO_VTMO ≠ 0 ∧ s.lnk.bSince = true ∧ s.switchedNow = false) →
      Runs .videoTimeout s fun t => t = s) ∧
    (s.upstream = some 0 → s.fld F.LNK_FO_VTMO ≠ 0 → s.lnk.bSince = true → s.switchedNow = false → s.fld F.LNK_CTRL_BMODE = 2 →
      s.on F.LNK_CTRL_FO_AUTO = true →
      (s.usable 2 = true → Runs .videoTimeout s fun t => t.upstream = some 2 ∧ t.on F.LNK_STAT_FAILOVER = true ∧
        t.fld F.LNK_STAT_SWITCHES = min 255 (s.fld F.LNK_STAT_SWITCHES + 1) ∧ Raised 32 2 s t) ∧
      (s.usable 2 = false → Runs .videoTimeout s fun t => t.on F.LNK_STAT_NOSTBY = true ∧ Raised 33 0 s t ∧
        t.upstream = if s.usable 0 then some 0 else none)) ∧
    (s.upstream = some 2 → s.on F.LNK_CTRL_FO_REVERT = true → s.usable 0 = true → Runs .revertHoldExpiry s fun t =>
      t = { s with lnk := { s.lnk with revert := some s.lnk.cycle } }) ∧
    ((s.upstream ≠ some 2 ∨ s.on F.LNK_CTRL_FO_REVERT = false ∨ s.usable 0 = false) →
      Runs .revertHoldExpiry s fun t => t = s) ∧
    (∀ p : Fin 8, s.linkActive p = false ∨ s.clocked 2 = false ∨ s.hubRuns = false → (3 ≤ p.val → Runs (.packetSelect p) s fun t => t = s) ∧
      (Tab.lst s.lnk.rxCtl p = [] → s.lnk.cm.waiting = none → Runs (.packetSelect p) s fun t =>
        t.lnk.queues = s.lnk.queues ∧ t.lnk.tx = s.lnk.tx ∧ t.spn = s.spn)) ∧
    (∀ (p : Fin 8) (x : TxPkt) (rest : List TxPkt), p.val < 3 → s.linkActive p = true → s.clocked 2 = true → s.hubRuns = true →
      Tab.lst s.lnk.rxCtl p = [] → s.lnk.cm.waiting = none → Tab.lst s.lnk.queues (38 + p) = x :: rest →
      Runs (.packetSelect p) s fun t =>
        Tab.opt t.lnk.tx p = some x ∧ Tab.lst t.lnk.queues (38 + p) = rest ∧
        (∀ n, n < 4 → n < (s.link p).width → Tab.lst t.lnk.sent (4 * p + n) = laneSyms (s.link p).width n x.syms) ∧
        (∀ q, q ≠ 38 + p.val → Tab.lst t.lnk.queues q = Tab.lst s.lnk.queues q) ∧
        t = { s with regs := t.regs, lnk := t.lnk }) ∧
    (∀ (p : Fin 8) (i : Nat) (f : SpnFrame), 3 ≤ p.val → s.linkActive p = true → s.clocked 2 = true → s.hubRuns = true →
      (∀ e ∈ s.clasp.sent, e.1 ≠ p.val - 3) → Tab.lst s.spn.queues (4 * (p.val - 3)) = [(i, f)] →
      Tab.lst s.spn.stalled (4 * (p.val - 3)) = [] → Runs (.packetSelect p) s fun t => Tab.opt t.spn.tx (p.val - 3) = some f ∧
        Tab.lst t.spn.queues (4 * (p.val - 3)) = [] ∧ t.regs = s.regs)

/-- Where commands act: on an ACTIVE port a packet that starts off lane 0 only counts in LENERR. On an ACTIVE port,
for a whole packet from lane 0 with a good CRC that the device consumes, its receive queue empty and the transmit
queue with room for the answer: LNK_RD of SYS_ID alone, or of words of the link registers that are all mapped, gets
one answer with STATUS 0 and the words as they stand, no RC field being cleared, and one outside the permitted
addresses an answer with STATUS 3, no register changing. LNK_WR from the start of the mailbox while NEW is clear
stores its words, sets NEW with the writer and EXT, raises EV_LNK_MBOX and is answered with STATUS 0; while NEW is set
it is answered with STATUS 1, outside the mailbox with STATUS 3, and no register changes. Packets of another OP than
the command names change nothing. A packet for the device that finds its receive queue without room for the longest
counts in CTLDROP and gets no answer. (09_weandi_link.md, R273, R285, R290, R291, R298, R299, R304) -/
def Obligations.Control_PacketsAnswered : Prop :=
  ∀ (s : State) (p : Fin 3) (c : CtlPkt), s.live →
    let a := leAt c.hdr 6 3
    let n := byteOf c.hdr 9 % 16 + 1
    let good := s.linkActive p = true ∧ c.ending = .good ∧ c.framed = true ∧ c.crcOk = true ∧ s.ctlMine c = true ∧
      c.startLane = 0 ∧ Tab.lst s.lnk.rxCtl p = [] ∧ s.drainedSince (45 + p) c.age + 84 ≤ 2048 ∧ s.hubRuns = true ∧
      s.queueFill (38 + p) + 84 ≤ 2048
    let Answered (b : Byte) (t : State) : Prop := ∃ x : TxPkt, x.control = true ∧ x.abort = false ∧ x.bytes.head? = some b ∧
      Tab.lst t.lnk.queues (38 + p) = Tab.lst s.lnk.queues (38 + p) ++ [x] ∧
      (∀ q, q ≠ 38 + p.val → Tab.lst t.lnk.queues q = Tab.lst s.lnk.queues q)
    (∀ e ∈ [(0, Instr.lnkRd p c), (1, .lnkWr p c), (8, .lnkRdr p c), (9, .lnkWrr p c)], s.linkActive p = true →
      ctlOp c.hdr = e.1 →
      (c.startLane ≠ 0 → Runs e.2 s fun t => t.fld (F.LNK_Px_PKT_LENERR p) = min 255 (s.fld (F.LNK_Px_PKT_LENERR p) + 1) ∧
        OnlyFields [F.LNK_Px_PKT_LENERR p] s t ∧ t = { s with regs := t.regs, lnk := { s.lnk with rxRd := t.lnk.rxRd } }) ∧
      (c.startLane = 0 → s.ctlMine c = true → 2048 < s.ctlFill p + s.drainedSince (45 + p) c.age + 84 → Runs e.2 s fun t =>
        t.fld (F.LNK_Px_DROP_CTLDROP p) = min (F.LNK_Px_DROP_CTLDROP p).max (s.fld (F.LNK_Px_DROP_CTLDROP p) + 1) ∧
        t.lnk.queues = s.lnk.queues ∧ t.lnk.rxCtl = s.lnk.rxCtl)) ∧
    ((s.linkActive p = false ∨ ctlOp c.hdr ≠ 0) → Runs (.lnkRd p c) s fun t => t = s) ∧
    (good → ctlOp c.hdr = 0 → a = 0 → n = 1 → Runs (.lnkRd p c) s fun t => Answered 0x80 t ∧ t.regs = s.regs ∧ Quiet s t) ∧
    (good → ctlOp c.hdr = 0 → 0x50000 ≤ a → a + 4 * n ≤ 0x51000 →
      (∀ i, i < n → (regRow? (a / 4 * 4 + 4 * i)).isSome = true) → Runs (.lnkRd p c) s fun t =>
        Answered 0x80 t ∧ t.regs = s.regs ∧ Quiet s t ∧ ∃ x : TxPkt, (Tab.lst t.lnk.queues (38 + p)).getLast? = some x ∧
          ∀ i r, i < n → regRow? (a / 4 * 4 + 4 * i) = some r →
            slice x.bytes (12 + 4 * i) 4 = leBytes 4 (readFields r.fields (s.reg (a / 4 * 4 + 4 * i))).toNat) ∧
    (good → ctlOp c.hdr = 0 → a ≠ 0 → (a < 0x50000 ∨ 0x51000 < a + 4 * n) →
      Runs (.lnkRd p c) s fun t => Answered 0x83 t ∧ t.regs = s.regs ∧ Quiet s t) ∧
    ((s.linkActive p = false ∨ ctlOp c.hdr ≠ 1) → Runs (.lnkWr p c) s fun t => t = s) ∧
    (good → ctlOp c.hdr = 1 → (a < R.LNK_MBOXk 0 ∨ R.LNK_MBOXk 16 < a + 4 * n) →
      Runs (.lnkWr p c) s fun t => Answered 0x93 t ∧ t.regs = s.regs) ∧
    (good → ctlOp c.hdr = 1 → a = R.LNK_MBOXk 0 → s.on F.LNK_MBOX_STAT_NEW = true →
      Runs (.lnkWr p c) s fun t => Answered 0x91 t ∧ t.regs = s.regs) ∧
    (good → ctlOp c.hdr = 1 → a = R.LNK_MBOXk 0 → s.on F.LNK_MBOX_STAT_NEW = false →
      Runs (.lnkWr p c) s fun t => Answered 0x90 t ∧ (∀ i, i < n → t.reg (R.LNK_MBOXk i) = c.words.getD i 0) ∧
        t.on F.LNK_MBOX_STAT_NEW = true ∧ t.fld F.LNK_MBOX_STAT_SRC = leAt c.hdr 4 2 % 4096 ∧
        t.fld F.LNK_MBOX_STAT_EXT = bits 6 6 (byteOf c.hdr 1) ∧ Raised 34 (t.reg R.LNK_MBOX_STAT) s t)

/-- Where commands act, with no request waiting at the requester and none that the device sent itself: a request to a
port that is not ACTIVE, or to nowhere, queues a result with STATUS 4 and no tag; one that can go out, its transmit
queue with room, takes the lowest free tag, which is then outstanding and shown as issued. An answer to an outstanding
tag queues its result, and the tag goes to quarantine; so does a timeout, with STATUS 2. A tag leaves quarantine at
its expiry. Reading the response takes the oldest result. While a request waits, SEND changes nothing at the control
requester. (09_weandi_link.md, 10_archipelago.md, R300, R304, R320, R327) -/
def Obligations.Requesters_TagsAndResults : Prop :=
  ∀ (s : State), s.live →
    let q := s.lnk.cm
    let r := s.spn.ra
    (q.waiting.isSome = true → Runs .cmSend s fun t => t = s) ∧
    (q.waiting = none → q.full = false → s.fld F.LNK_CM_REQ0_OP < 2 →
      (∀ p, p < 3 → s.fld F.LNK_CM_REQ0_PORT = p → s.linkActive p = false) → Runs .cmSend s fun t =>
        t.lnk.cm = { q with results := q.results ++ [⟨4, 0, s.fld F.LNK_CM_REQ0_CNT, s.fld F.LNK_CM_REQ0_DST, []⟩] }) ∧
    (∀ tag, q.waiting = none → q.full = false → s.fld F.LNK_CM_REQ0_OP < 2 → s.fld F.LNK_CM_REQ0_PORT < 3 →
      s.linkActive (s.fld F.LNK_CM_REQ0_PORT) = true → s.queueFill (38 + s.fld F.LNK_CM_REQ0_PORT) + 84 ≤ 2048 →
      q.freeTag = some tag → Runs .cmSend s fun t =>
        Tab.num t.lnk.cm.tags tag = 1 ∧ t.lnk.cm.waiting = none ∧ t.lnk.cm.results = q.results ∧
        t.on F.LNK_CM_ISSUED_VALID = true ∧ t.fld F.LNK_CM_ISSUED_TAG = tag ∧
        (Tab.lst t.lnk.queues (38 + s.fld F.LNK_CM_REQ0_PORT)).length =
          (Tab.lst s.lnk.queues (38 + s.fld F.LNK_CM_REQ0_PORT)).length + 1) ∧
    (∀ tag : Fin 64, q.waiting = none → Tab.num q.tags tag = 1 → Runs (.cmTimeout tag) s fun t =>
      Tab.num t.lnk.cm.tags tag = 2 ∧ (∃ x : AccessRes, x.status = 2 ∧ x.tag = tag.val ∧
        t.lnk.cm.results = q.results ++ [x])) ∧
    (∀ tag : Fin 64, q.waiting = none → Tab.num q.tags tag = 2 → Runs (.quarantineExpiry false tag) s fun t =>
      Tab.num t.lnk.cm.tags tag = 0 ∧ t.lnk.cm.results = q.results) ∧
    (∀ (x : AccessRes) rest, q.waiting = none → q.results = x :: rest → x.words.length ≤ 16 → Runs .cmRspRead s fun t =>
      t.lnk.cm = { q with results := rest } ∧ ∀ i, i < x.words.length → t.reg (R.LNK_CM_RDATAk i) = x.words.getD i 0) ∧
    (∀ (p : Fin 3) (c : CtlPkt), q.waiting = none → s.linkActive p = true → c.ending = .good → c.framed = true →
      c.crcOk = true → c.startLane = 0 → Tab.lst s.lnk.rxCtl p = [] →
      s.drainedSince (45 + p) c.age + 84 ≤ 2048 → s.hubRuns = true → s.queueFill (38 + p) ≤ 2048 → s.ctlMine c = true → Tab.num q.tags (byteOf c.hdr 1 % 64) = 1 →
      (ctlOp c.hdr = 8 → Runs (.lnkRdr p c) s fun t => Tab.num t.lnk.cm.tags (byteOf c.hdr 1 % 64) = 2 ∧
        t.lnk.cm.results = q.results ++
          [⟨byteOf c.hdr 0 % 16, byteOf c.hdr 1 % 64, byteOf c.hdr 9 % 16, leAt c.hdr 4 2 % 4096, c.words⟩]) ∧
      (ctlOp c.hdr = 9 → Runs (.lnkWrr p c) s fun t => Tab.num t.lnk.cm.tags (byteOf c.hdr 1 % 64) = 2 ∧
        t.lnk.cm.results = q.results ++
          [⟨byteOf c.hdr 0 % 16, byteOf c.hdr 1 % 64, byteOf c.hdr 9 % 16, leAt c.hdr 4 2 % 4096, []⟩])) ∧
    (r.waiting = none → s.spn.self = [] →
      (r.full = false → s.fld F.SPN_RA_REQ0_OP < 2 → s.spnWay (s.fld F.SPN_RA_REQ0_DST) = .nowhere →
        Runs .raSend s fun t => t.spn.ra =
          { r with results := r.results ++ [⟨4, 0, s.fld F.SPN_RA_REQ0_CNT, s.fld F.SPN_RA_REQ0_DST, []⟩] }) ∧
      (∀ tag p, r.full = false → s.fld F.SPN_RA_REQ0_OP < 2 → s.spnWay (s.fld F.SPN_RA_REQ0_DST) = .port p →
        r.freeTag = some tag → Runs .raSend s fun t => Tab.num t.spn.ra.tags tag = 1 ∧ t.spn.ra.results = r.results ∧
          t.fld F.SPN_RA_ISSUED_TAG = tag) ∧
      (∀ tag : Fin 64, Tab.num r.tags tag = 1 → Runs (.raTimeout tag) s fun t => Tab.num t.spn.ra.tags tag = 2 ∧
        (∃ x : AccessRes, x.status = 2 ∧ x.tag = tag.val ∧ t.spn.ra.results = r.results ++ [x])) ∧
      (∀ tag : Fin 64, Tab.num r.tags tag = 2 → Runs (.quarantineExpiry true tag) s fun t =>
        Tab.num t.spn.ra.tags tag = 0 ∧ t.spn.ra.results = r.results) ∧
      (∀ (x : AccessRes) rest, r.results = x :: rest → Runs .raRspRead s fun t => t.spn.ra = { r with results := rest }) ∧
      (∀ (p : Fin 5) (f : SpnFrame), s.spnActive p = true → f.framed = true → f.crcOk = true → f.mode = 0 →
        s.spnWay f.dst = .here → Tab.num r.tags f.tag = 1 →
        (f.type = 8 → Runs (.spnRdr p f) s fun t => Tab.num t.spn.ra.tags f.tag = 2 ∧
          t.spn.ra.results = r.results ++ [⟨f.status, f.tag, f.cnt, f.src, f.words⟩]) ∧
        (f.type = 9 → Runs (.spnWrr p f) s fun t => Tab.num t.spn.ra.tags f.tag = 2 ∧
          t.spn.ra.results = r.results ++ [⟨f.status, f.tag, f.cnt, f.src, f.words⟩])))

/-- Where commands act: a frame on a port that is not ACTIVE, or of another type than its command names, changes
nothing. A word count that does not fit its type counts in FRMERR, a CRC that fails in CRCERR of the port, and nothing
else changes but the running disparity that the lane hears (log entry 140). A unicast request, answer, image chunk or
FSYNC for a device behind a port with room joins that port's buffer of its class. Without a route NOROUTE counts. In
RUN, with the clock of the hub and room for the answer towards its source, a WR into the DRAM window stores its words
in the page that AUX names and is answered with STATUS 0 on the way back to its source; a run that crosses 0x80_0000
is answered with STATUS 3; a read of SYS_ID brings it. (10_archipelago.md, R308, R310, R311, R312, R319) -/
def Obligations.Spine_FramesCheckedRoutedAnswered : Prop :=
  ∀ (s : State) (p : Fin 5) (f : SpnFrame), s.live →
    let all := [(0, Instr.spnRd p f), (1, .spnWr p f), (2, .img p f), (3, .imge p f), (4, .fsync p f), (5, .time p f),
      (6, .walk p f), (7, .done p f), (8, .spnRdr p f), (9, .spnWrr p f), (10, .imgr p f), (11, .flt p f)]
    let uni := [(0, Instr.spnRd p f), (1, .spnWr p f), (2, .img p f), (4, .fsync p f), (8, .spnRdr p f), (9, .spnWrr p f)]
    (∀ e ∈ all, (s.spnActive p = false ∨ f.type ≠ e.1) → Runs e.2 s fun t => t = s) ∧
    (∀ e ∈ all, s.spnActive p = true → f.type = e.1 → f.framed = false → Runs e.2 s fun t =>
      t.fld F.SPN_ERR_FRMERR = min 255 (s.fld F.SPN_ERR_FRMERR + 1) ∧ OnlyFields [F.SPN_ERR_FRMERR] s t ∧
      t = { s with regs := t.regs, lnk := { s.lnk with rxRd := t.lnk.rxRd } }) ∧
    (∀ e ∈ all, s.spnActive p = true → f.type = e.1 → f.framed = true → f.crcOk = false → Runs e.2 s fun t =>
      t.fld (F.SPN_Pp_ERR_CRCERR p) = min 255 (s.fld (F.SPN_Pp_ERR_CRCERR p) + 1) ∧
      OnlyFields [F.SPN_Pp_ERR_CRCERR p] s t ∧ t = { s with regs := t.regs, lnk := { s.lnk with rxRd := t.lnk.rxRd } }) ∧
    (∀ b, (s.spnActive p = false → Runs (.spnInvalidFrame p b) s fun t => t = s) ∧
      (s.spnActive p = true → Runs (.spnInvalidFrame p b) s fun t =>
        t = { s with regs := t.regs, lnk := { s.lnk with rxRd := t.lnk.rxRd } } ∧
        (b = true → t.fld (F.SPN_Pp_ERR_CRCERR p) = min 255 (s.fld (F.SPN_Pp_ERR_CRCERR p) + 1)) ∧
        (b = false → t.fld F.SPN_ERR_FRMERR = min 255 (s.fld F.SPN_ERR_FRMERR + 1)))) ∧
    (s.spnActive p = true → f.framed = true → f.crcOk = true → f.mode = 0 → ∀ e ∈ uni, f.type = e.1 →
      (∀ q, s.spnWay f.dst = .port q → s.spnRoom q f.cls = true → Runs e.2 s fun t =>
        Tab.lst t.spn.queues (4 * q + f.cls) = Tab.lst s.spn.queues (4 * q + f.cls) ++ [(p.val + 1, f)] ∧
        t = { s with spn := { s.spn with queues := t.spn.queues }, lnk := { s.lnk with rxRd := t.lnk.rxRd } }) ∧
      (s.spnWay f.dst = .nowhere → Runs e.2 s fun t =>
        t.fld F.SPN_ERR_NOROUTE = min 255 (s.fld F.SPN_ERR_NOROUTE + 1) ∧ t.mem = s.mem)) ∧
    (s.spnActive p = true → f.framed = true → f.crcOk = true → f.mode = 0 → s.spnWay f.dst = .here →
      s.fld F.PWR_STAT_STATE = 0 → s.pwr.phase = .steady → s.spn.self = [] → s.hubRuns = true → ∀ q, s.spnWay f.src = .port q →
      Tab.lst s.spn.stalled (4 * q + 1) = [] → s.spnFill q 1 + 278 ≤ 4096 →
      let a := f.addr / 4 * 4
      let Answered (status : Nat) (ws : List Word) (t : State) : Prop := ∃ x : SpnFrame,
        Tab.lst t.spn.queues (4 * q + 1) = Tab.lst s.spn.queues (4 * q + 1) ++ [(0, x)] ∧
        x.type = 8 + f.type ∧ x.status = status ∧ x.tag = f.tag ∧ x.words = ws
      (f.type = 1 → 0x800000 ≤ a → a + 4 * (f.cnt + 1) ≤ 0x1000000 → Runs (.spnWr p f) s fun t =>
        Answered 0 [] t ∧ t.mem = (s.writeFlat 26 (windowFlat (f.aux % 1024) a) (wordsBytes f.words)).mem) ∧
      (f.type = 1 → a < 0x800000 → 0x800000 < a + 4 * (f.cnt + 1) → Runs (.spnWr p f) s fun t =>
        Answered 3 [] t ∧ t.regs = s.regs ∧ t.mem = s.mem) ∧
      (f.type = 0 → a = R.SYS_ID → f.cnt = 0 → Runs (.spnRd p f) s fun t =>
        Answered 0 [s.reg R.SYS_ID] t ∧ (∀ k, t.reg k = s.reg k) ∧ t.mem = s.mem))

/-- Where commands act: a write of SPN_TSET_HI loads the count on the manager and changes nothing but the register on
a worker. A read of SPN_TIME_LO latches the upper half. Without exchanges a worker goes to HOLD and raises
EV_SPN_TIME_HOLD. A TIME at a worker whose two timestamps are known leaves HOLD for ACQ; outside HOLD an offset of
more than 1,000 ns steps the count by it, sets STEP and raises EV_SPN_TIME_STEP. SPN_DELAY shows the delay. A
broadcast FSYNC at a worker whose time is still to come shows its frame count; one too late counts in FSLATE.
(10_archipelago.md, R315, R316, R317, R318) -/
def Obligations.Spine_TimeFollowsTheParent : Prop :=
  ∀ (s : State), s.live →
    (∀ hi, s.manager = true → Runs (.tsetWrite hi) s fun t =>
      t.time64 = hi.toNat * 2 ^ 32 + (s.reg R.SPN_TSET_LO).toNat ∧ t.reg R.SPN_TSET_HI = hi) ∧
    (∀ hi, s.manager = false → Runs (.tsetWrite hi) s fun t => t.reg R.SPN_TSET_HI = hi ∧ t = { s with regs := t.regs }) ∧
    (∀ r : Fin 3, Runs (.timeLoRead r) s fun t => Tab.word t.host.timeHi r = BitVec.ofNat 32 (s.time64 / 2 ^ 32) ∧
      (∀ k, k ≠ r.val → Tab.word t.host.timeHi k = Tab.word s.host.timeHi k) ∧
      t = { s with host := { s.host with timeHi := t.host.timeHi } }) ∧
    ((s.manager = true ∨ s.fld F.SPN_TSTAT_STATE = 3) → Runs .timeHoldTimeout s fun t => t = s) ∧
    (s.manager = false → s.fld F.SPN_TSTAT_STATE ≠ 3 → Runs .timeHoldTimeout s fun t =>
      t.fld F.SPN_TSTAT_STATE = 3 ∧ Raised 54 0 s t ∧ t.spn.clock = s.spn.clock ∧ t.spn.rate = s.spn.rate) ∧
    (∀ (f : SpnFrame) (x2 x3 : Nat), s.manager = false → s.spnActive 0 = true → f.type = 5 → f.framed = true →
      f.crcOk = true → f.aux / 65536 % 2 = 1 → Tab.num s.spn.t2 (f.aux % 256) = x2 + 1 →
      Tab.num s.spn.t3 (f.aux / 256 % 256) = x3 + 1 →
      let a : Int := x2 - (f.word 0 + 2 ^ 32 * f.word 1 : Nat)
      let b : Int := (f.word 2 + 2 ^ 32 * f.word 3 : Nat) - x3
      (s.fld F.SPN_TSTAT_STATE = 3 → Runs (.time 0 f) s fun t =>
        t.fld F.SPN_TSTAT_STATE = 1 ∧ t.spn.clock = s.spn.clock ∧ Quiet s t) ∧
      (s.fld F.SPN_TSTAT_STATE ≠ 3 → (2000 < a - b ∨ a - b < -2000) → Runs (.time 0 f) s fun t =>
        t.fld F.SPN_TSTAT_STATE = 1 ∧ t.on F.SPN_TSTAT_STEP = true ∧
        (t.spn.clock : Int) = (s.spn.clock - (a - b) * 2 ^ 23) % 2 ^ 88 ∧
        (s.on (F.FLT_SRCi_EN 53) = true → (s.events 53).length < 15 → (t.events 53).length = (s.events 53).length + 1)) ∧
      (s.fld F.SPN_TSTAT_STATE ≠ 3 → -2000 ≤ a - b → a - b ≤ 2000 → Runs (.time 0 f) s fun t =>
        t.spn.clock = s.spn.clock ∧ -500 ≤ t.spn.rate ∧ t.spn.rate ≤ 500 ∧ Quiet s t) ∧
      (∀ d : Nat, a + b = 2 * d → d < 65536 → Runs (.time 0 f) s fun t => t.fld F.SPN_DELAY_D = d)) ∧
    (∀ f : SpnFrame, s.manager = false → s.spnActive 0 = true → s.sdnActive = [] → f.type = 4 → f.framed = true →
      f.crcOk = true → f.mode = 1 →
      (s.time64 < f.word 0 + 2 ^ 32 * f.word 1 → Runs (.fsync 0 f) s fun t => t.fld F.SPN_FCNT_COUNT = f.word 2) ∧
      (f.word 0 + 2 ^ 32 * f.word 1 ≤ s.time64 → Runs (.fsync 0 f) s fun t =>
        t.fld F.SPN_FS_FSLATE = min 255 (s.fld F.SPN_FS_FSLATE + 1) ∧ t.fld F.SPN_FCNT_COUNT = s.fld F.SPN_FCNT_COUNT ∧
        Raised 55 (BitVec.ofNat 32 (f.word 2)) s t))

/-- Where commands act: a WALK at a worker with addresses left and a depth of 6 at most gives it the next address and
its depth; with no SDN port ACTIVE and room in the buffer of SUP it answers DONE with the address after it and the
walk is over. A worker or a manager whose walk runs ignores WALK_START; on a manager alone WALK_START makes it address
0 with COUNT 1 and raises EV_SPN_WALK_DONE. AUTOWALK_TIMER starts one walk only, where AUTOWALK is set and an SDN port
has been ACTIVE. A DONE from the port that the walk is at gives that port the range up to the address before the next
one; a timeout sets TMO and gives it none; a DONE that no walk awaits changes nothing but the running disparity that
the lane hears. (10_archipelago.md, R313, R314) -/
def Obligations.Spine_WalkGivesAddresses : Prop :=
  ∀ (s : State), s.live →
    (∀ f : SpnFrame, s.manager = false → s.spnActive 0 = true → s.sdnActive = [] → f.type = 6 → f.framed = true →
      f.crcOk = true → f.addr % 8192 ≤ 4095 → f.aux % 8 ≤ 6 → f.aux / 8 % 2 = 0 → Tab.lst s.spn.stalled 0 = [] →
      s.spnFill 0 0 + 22 ≤ 1024 → Runs (.walk 0 f) s fun t =>
        t.on F.SPN_STAT_ADDR_VALID = true ∧ t.fld F.SPN_STAT_ADDR = f.addr % 8192 ∧ t.fld F.SPN_STAT_DEPTH = f.aux % 8 ∧
        t.on F.SPN_WALK_BUSY = false ∧ t.spn.walk = none ∧
        ∃ x : SpnFrame, Tab.lst t.spn.queues 0 = Tab.lst s.spn.queues 0 ++ [(0, x)] ∧ x.type = 7 ∧
          x.addr = f.addr % 8192 + 1 ∧ x.aux = 0) ∧
    ((s.manager = false ∨ s.on F.SPN_WALK_BUSY = true) → Runs .walkStart s fun t => t = s) ∧
    (s.manager = true → s.on F.SPN_WALK_BUSY = false → s.sdnActive = [] → Runs .walkStart s fun t =>
      t.on F.SPN_STAT_ADDR_VALID = true ∧ t.fld F.SPN_STAT_ADDR = 0 ∧ t.fld F.SPN_STAT_DEPTH = 0 ∧
      t.fld F.SPN_WALK_COUNT = 1 ∧ t.fld F.SPN_WALK_UNADDR = 0 ∧ t.on F.SPN_WALK_BUSY = false ∧
      (s.on (F.FLT_SRCi_EN 51) = true → (s.events 51).length < 15 → (t.events 51).length = (s.events 51).length + 1)) ∧
    ((s.manager = false ∨ s.on F.SPN_CTRL_AUTOWALK = false ∨ s.spn.sdnSeen = false ∨ s.spn.autoDone = true) →
      Runs .autowalkTimer s fun t => t = s) ∧
    (s.manager = true → s.on F.SPN_CTRL_AUTOWALK = true → s.spn.sdnSeen = true → s.spn.autoDone = false →
      s.sdnActive = [] → Runs .autowalkTimer s fun t => t.spn.autoDone = true ∧
        (s.on F.SPN_WALK_BUSY = false → t.fld F.SPN_WALK_COUNT = 1)) ∧
    (∀ (k : Fin 4) (w : Walk), s.spn.walk = some w → w.sdn = k.val → w.next ≤ 4096 →
      (∀ i, k.val < i → i < 4 → s.spnActive (i + 1) = false) →
      (∀ f : SpnFrame, ∀ p : Fin 5, p.val = k + 1 → s.spnActive p = true → f.type = 7 → f.framed = true → f.crcOk = true →
        w.next < f.addr % 8192 → f.addr % 8192 ≤ 4096 → Runs (.done p f) s fun t =>
          t.on (F.SPN_Pp_STAT_RVALID p) = true ∧ t.fld (F.SPN_Pp_RANGE_LO p) = w.next ∧
          t.fld (F.SPN_Pp_RANGE_HI p) = f.addr % 8192 - 1 ∧ t.spn.walk = none) ∧
      (Runs (.doneTimeout k) s fun t => t.on F.SPN_WALK_TMO = true ∧
        t.on (F.SPN_Pp_STAT_RVALID (k + 1)) = false ∧ t.spn.walk = none)) ∧
    (s.spn.walk = none → (∀ k, Runs (.doneTimeout k) s fun t => t = s) ∧
      ∀ (p : Fin 5) (f : SpnFrame), s.spnActive p = true → f.type = 7 → f.framed = true → f.crcOk = true →
        Runs (.done p f) s fun t => t = { s with lnk := { s.lnk with rxRd := t.lnk.rxRd } })

/-- Where commands act: START on a worker or while BUSY changes nothing; else BUSY is set and chunk 0 is next. A chunk
of 256 bytes is sent as the 64 words that stand in memory, the next one follows 256 bytes on (where no line stands
wrong and no local frame is stalled), with the DST of SPN_MC_CTRL, and nothing is sent without a session or the clock
of the hub, or while a buffer is full or the memory cannot serve Q26. At a member, with the loader in IDLE and no
session, chunk 0 begins one and is stored at the staging base; a chunk off its place ends it with reason 2; IMGE
before the whole length ends it with reason 2; one of more than 16 MiB ends it with reason 4, one whose CRC does not
match the staged bytes (log entry 86) with 3, one that finds the loader busy with 1 and EV_CFG_BUSY, as does chunk 0;
any other ends it with reason 0, and the loader enters CHECK with the image and takes DRYRUN (log entry 68). The last
IMGR that the manager waits for, or the end of its wait, shows the sums and clears BUSY. FLT at the manager enters the
inbox and raises EV_SPN_FAULT_RX, or counts in OVF; reading takes the oldest. (10_archipelago.md, R321, R322, R323,
R324, R328) -/
def Obligations.Spine_MulticastAndFaultReports : Prop :=
  ∀ (s : State), s.live →
    ((s.manager = false ∨ s.on F.SPN_MC_CTRL_BUSY = true) → Runs .mcStart s fun t => t = s) ∧
    (s.manager = true → s.on F.SPN_MC_CTRL_BUSY = false → Runs .mcStart s fun t =>
      t.on F.SPN_MC_CTRL_BUSY = true ∧ t.spn.mcNext = some 0 ∧ OnlyFields [F.SPN_MC_CTRL_BUSY] s t) ∧
    (s.spn.mcNext = none → Runs .mcChunkSend s fun t => t = s) ∧
    ((∃ q ∈ s.mcPorts, s.spnRoom q 2 = false) ∨ s.hubRuns = false → Runs .mcChunkSend s fun t => t = s) ∧
    (∀ off, s.spn.mcNext = some off → off + 256 ≤ s.fld F.SPN_MC_LEN_LEN → s.fld F.SPN_MC_LEN_LEN ≤ 16777216 →
      s.engineReady 26 (baseBytes (s.fld F.SPN_MC_BASE_BASE) + off) 256 = false → Runs .mcChunkSend s fun t => t = s) ∧
    (∀ off q, s.spn.mcNext = some off → s.fld F.SPN_MC_CTRL_MODE = 1 → s.sdnActive = [q] → s.spnRoom q 2 = true →
      Tab.lst s.spn.stalled (4 * q + 2) = [] → s.mem.wrong = [] → s.hubRuns = true →
      s.engineReady 26 (baseBytes (s.fld F.SPN_MC_BASE_BASE) + off) 256 = true →
      off + 256 < s.fld F.SPN_MC_LEN_LEN → s.fld F.SPN_MC_LEN_LEN ≤ 16777216 → Runs .mcChunkSend s fun t =>
        t.spn.mcNext = some (off + 256) ∧ ∃ x : SpnFrame, Tab.lst t.spn.queues (4 * q + 2) =
          Tab.lst s.spn.queues (4 * q + 2) ++ [(0, x)] ∧ x.type = 2 ∧ x.mode = 1 ∧ x.aux = off ∧
          x.dst = s.fld F.SPN_MC_CTRL_DST ∧
          x.session = s.fld F.SPN_MC_SESS_SESSION ∧
          wordsBytes x.words = s.readFlat (baseBytes (s.fld F.SPN_MC_BASE_BASE) + off) 256) ∧
    (∀ f : SpnFrame, s.spnActive 0 = true → s.manager = false → s.sdnActive = [] → f.framed = true → f.crcOk = true →
      f.mode = 1 → s.on F.SPN_STAT_ADDR_VALID = true → s.fld F.PWR_STAT_STATE = 0 → s.pwr.phase = .steady →
      (∀ n, n < 8 → s.chkSnoops 15 n = false) → s.spn.held = [] → (f.type = 3 → s.engineFree 26 = true ∧ s.isGated 10 = false) →
      (f.type = 2 → f.aux = 0 → s.on F.SPN_MC_RX_ACTIVE = false → s.ldrState = 0 → Runs (.img 0 f) s fun t =>
        t.on F.SPN_MC_RX_ACTIVE = true ∧ t.fld F.SPN_MC_RX_SESSION = f.session ∧ t.fld F.SPN_MC_RX_REASON = 0 ∧
        t.spn.rxNext = 4 * f.words.length ∧ t.mem = (s.writeFlat 26 s.stageBase (wordsBytes f.words)).mem) ∧
      (f.type = 2 → f.aux = 0 → s.on F.SPN_MC_RX_ACTIVE = false → s.ldrState ≠ 0 → Runs (.img 0 f) s fun t =>
        t.on F.SPN_MC_RX_ACTIVE = false ∧ t.fld F.SPN_MC_RX_REASON = 1 ∧ Raised 22 3 s t ∧ t.mem = s.mem) ∧
      (f.type = 2 → f.aux ≠ s.spn.rxNext → s.on F.SPN_MC_RX_ACTIVE = true → s.fld F.SPN_MC_RX_SESSION = f.session →
        Runs (.img 0 f) s fun t => t.on F.SPN_MC_RX_ACTIVE = false ∧ t.fld F.SPN_MC_RX_REASON = 2 ∧ t.mem = s.mem) ∧
      (f.type = 3 → s.on F.SPN_MC_RX_ACTIVE = true → s.fld F.SPN_MC_RX_SESSION = f.session → s.spn.rxNext < f.aux →
        f.aux ≤ 16777216 → Runs (.imge 0 f) s fun t =>
          t.on F.SPN_MC_RX_ACTIVE = false ∧ t.fld F.SPN_MC_RX_REASON = 2 ∧ t.mem = s.mem) ∧
      (f.type = 3 → s.on F.SPN_MC_RX_ACTIVE = true → s.fld F.SPN_MC_RX_SESSION = f.session → 16777216 < f.aux →
        Runs (.imge 0 f) s fun t =>
          t.on F.SPN_MC_RX_ACTIVE = false ∧ t.fld F.SPN_MC_RX_REASON = 4 ∧ t.mem = s.mem) ∧
      (∀ (u : State) (ds : List Delivered), f.type = 3 → s.on F.SPN_MC_RX_ACTIVE = true → s.fld F.SPN_MC_RX_SESSION = f.session →
        f.aux ≤ s.spn.rxNext → f.aux ≤ 16777216 → (u, ds) = s.readLines 26 s.stageBase f.aux →
        ((crc32c (spanBytes ds s.stageBase f.aux)).toNat ≠ f.word 0 → Runs (.imge 0 f) s fun t =>
          t.on F.SPN_MC_RX_ACTIVE = false ∧ t.fld F.SPN_MC_RX_REASON = 3 ∧ t.ldrState = s.ldrState ∧ t.mem = u.mem) ∧
        ((crc32c (spanBytes ds s.stageBase f.aux)).toNat = f.word 0 → s.ldrState ≠ 0 → Runs (.imge 0 f) s fun t =>
          t.on F.SPN_MC_RX_ACTIVE = false ∧ t.fld F.SPN_MC_RX_REASON = 1 ∧ t.ldrState = s.ldrState ∧ t.mem = u.mem ∧
          (s.on (F.FLT_SRCi_EN 22) = true → (s.events 22).length < 15 →
            t.events 22 = s.events 22 ++ [⟨3, false⟩]))) ∧
      (∀ (u : State) (ds : List Delivered), f.type = 3 → s.on F.SPN_MC_RX_ACTIVE = true → s.fld F.SPN_MC_RX_SESSION = f.session →
        f.aux ≤ s.spn.rxNext → f.aux ≤ 16777216 → s.ldrState = 0 → (u, ds) = s.readLines 26 s.stageBase f.aux →
        (crc32c (spanBytes ds s.stageBase f.aux)).toNat = f.word 0 → Runs (.imge 0 f) s fun t =>
          t.on F.SPN_MC_RX_ACTIVE = false ∧ t.fld F.SPN_MC_RX_REASON = 0 ∧ t.ldrState = 2 ∧ t.ldr.src = 3 ∧
          t.ldr.boot = false ∧ t.ldr.dry = s.on F.CFG_CTRL_DRYRUN ∧
          t.fld F.CFG_LOAD_LEN_LEN = f.aux % (F.CFG_LOAD_LEN_LEN.max + 1) ∧ t.mem = u.mem)) ∧
    (∀ (p : Fin 5) (f : SpnFrame) (r : RollUp), s.spnActive p = true → f.type = 10 → f.framed = true → f.crcOk = true →
      s.manager = true → s.spn.roll = some r → r.session = f.session → r.waits = [p.val] →
      r.ok + f.word 0 % 8192 < 8192 → r.fail + f.word 0 / 65536 % 8192 < 8192 → Runs (.imgr p f) s fun t =>
        t.fld F.SPN_MC_RES0_OK = r.ok + f.word 0 % 8192 ∧
        t.fld F.SPN_MC_RES0_FAIL = r.fail + f.word 0 / 65536 % 8192 ∧ t.on F.SPN_MC_CTRL_BUSY = false ∧
        t.spn.roll = none) ∧
    (s.spn.roll = none → Runs .imgrWaitTimeout s fun t => t = s) ∧
    (∀ r : RollUp, s.spn.roll = some r → s.manager = true → Runs .imgrWaitTimeout s fun t =>
      t.fld F.SPN_MC_RES1_TMO = min 255 (r.tmo + r.waits.length) ∧ t.on F.SPN_MC_CTRL_BUSY = false ∧ t.spn.roll = none) ∧
    (∀ (p : Fin 5) (f : SpnFrame), s.spnActive p = true → f.type = 11 → f.framed = true → f.crcOk = true → f.mode = 3 →
      s.manager = true →
      (s.spn.inbox.length < 64 → Runs (.flt p f) s fun t =>
        t.spn.inbox = s.spn.inbox ++ [⟨f.src, f.word 0 / 2 ^ 24, bits 9 2 (f.word 0), bits 1 0 (f.word 0), f.words.drop 1⟩] ∧
        t.fld F.SPN_FIN_STAT_COUNT = s.spn.inbox.length + 1 ∧ Raised 59 (BitVec.ofNat 32 f.src) s t) ∧
      (64 ≤ s.spn.inbox.length → Runs (.flt p f) s fun t => t.spn = s.spn ∧ Quiet s t ∧
        t.fld F.SPN_FIN_STAT_OVF = min 255 (s.fld F.SPN_FIN_STAT_OVF + 1))) ∧
    (s.spn.inbox = [] → Runs .finRead s fun t => t = s) ∧
    (∀ r rest, s.spn.inbox = r :: rest → rest.length < 64 → Runs .finRead s fun t => t.spn.inbox = rest ∧
      t.fld F.SPN_FIN_STAT_COUNT = rest.length ∧
      ∀ i, i < 3 → t.reg (R.SPN_FIN1 + 4 * i) = r.words.getD i 0)

/-- Where commands act, Clasp is armed (states 1 to 4) and no GCLK runs in Safe Dark: with a latched fault or in FAULT
the cycle gives state 4 and level 2. Otherwise a demand level above that of the state is taken at once: states 1, 2, 3
for levels 0, 1, 2. A lower one is taken unless WAIT is set or RESTART asks for a reset; then the state stays and WAIT
is set. Entering Safe Dark negates SAFE_OUT and stops GCLK; leaving it asserts SAFE_OUT. GCLK seen in Safe Dark
latches fault 9. Outside the armed states the cycle leaves the state. (11_clasp_safety.md, R329, R330, R331, R340,
R341) -/
def Obligations.Clasp_CycleTakesTheDemandLevel : Prop :=
  ∀ (s : State) (g : Bool), s.live →
    let st := s.fld F.CLS_STAT_STATE
    let cur := clsLevel st false
    let d := s.demand
    let Takes (k : Nat) : Prop := Runs (.claspCycle g) s fun t => t.fld F.CLS_STAT_STATE = k ∧
      t.fld F.CLS_STAT_LEVEL = clsLevel k false ∧ t.clasp.sdk = decide (3 ≤ k) ∧
      (s.clasp.sdk = false → 3 ≤ k → t.clasp.outA = false ∧ t.clasp.outB = true ∧ t.chn.gclkStop = true) ∧
      (s.clasp.sdk = true → k < 3 → t.clasp.outA = true ∧ t.clasp.outB = false)
    (s.armed = true → (s.clasp.sdk = false ∨ g = false) →
      (s.fld F.CLS_FAULT_CAUSE ≠ 0 ∨ st = 4 → Takes 4) ∧
      (s.fld F.CLS_FAULT_CAUSE = 0 → st ≠ 4 → d ≤ 2 →
        (cur < d → Takes (d + 1)) ∧
        (d < cur → s.on F.CLS_STAT_WAIT = false → (s.clsMode 3 = false ∨ s.clasp.follow = true) → Takes (d + 1)) ∧
        (d < cur → s.on F.CLS_STAT_WAIT = false → s.clsMode 3 = true → s.clasp.follow = false →
          Runs (.claspCycle g) s fun t => t.fld F.CLS_STAT_STATE = st ∧ t.on F.CLS_STAT_WAIT = true) ∧
        (d < cur → s.on F.CLS_STAT_WAIT = true → Takes st) ∧ (d = cur → Takes st))) ∧
    (s.armed = true → s.clasp.sdk = true → g = true → Runs (.claspCycle g) s fun t =>
      t.fld F.CLS_STAT_STATE = 4 ∧ bits 9 9 (t.fld F.CLS_FAULT_CAUSE) = 1) ∧
    (s.armed = false → Runs (.claspCycle g) s fun t => t.fld F.CLS_STAT_STATE = st)

/-- Where commands act: CLS_IN_CHANGE sets the raw level alone; once accepted the filtered level equals it, and a
ninth change of a pair in use within the window latches chatter. Every failure sets its bit of CLS_FAULT, which stays
set, and raises EV_CLS_FAULT with the causes, whatever the state (that DISARMED and UNUSED do so too, and that UNUSED
ignores the pairs, is log entry 126): 0 and 1 discrepancy of a pair in use with equal lines, 4 readback of the outputs
and of a pulse while SAFE_OUT is asserted, 5 parameters of an armed Clasp, 6 logic, 7 clocks and watchdog. A
diagnostic that passes latches nothing; what a readback shows of a pad is kept (log entry 12). SDK_REQ stores its bit.
(11_clasp_safety.md, R334, R336, R337, R339, R340, R346, R347) -/
def Obligations.Clasp_InputsAndDiagnosticsLatchFaults : Prop :=
  ∀ (s : State), s.live →
    let cause := s.fld F.CLS_FAULT_CAUSE
    let Latches (c : Instr) (b : Nat) : Prop := Runs c s fun t =>
      t.fld F.CLS_FAULT_CAUSE = Nat.lor cause (2 ^ b) ∧ Raised 128 (BitVec.ofNat 32 (Nat.lor cause (2 ^ b))) s t ∧
      OnlyFields [F.CLS_FAULT_CAUSE, F.FLT_STAT_LOSTOCC] s t
    let ready (b : Nat) : Prop := s.fld F.CLS_STAT_STATE ≠ 5 ∨ 4 ≤ b
    (∀ (l : Fin 4) v, Runs (.clsInChange l v) s fun t => bits l l (t.fld F.CLS_IN_RAW) = b2n v ∧
      (∀ k : Fin 4, k ≠ l → bits k k (t.fld F.CLS_IN_RAW) = bits k k (s.fld F.CLS_IN_RAW)) ∧
      OnlyFields [F.CLS_IN_RAW] s t ∧ t = { s with regs := t.regs }) ∧
    (∀ l : Fin 4, Runs (.clsFilterAccept l) s fun t =>
      bits l l (t.fld F.CLS_IN_FILT) = bits l l (s.fld F.CLS_IN_RAW) ∧
      (∀ k : Fin 4, k ≠ l → bits k k (t.fld F.CLS_IN_FILT) = bits k k (s.fld F.CLS_IN_FILT)) ∧
      (bits l l (s.fld F.CLS_IN_FILT) ≠ bits l l (s.fld F.CLS_IN_RAW) → s.pairFunc (l / 2) ≠ 0 → ready (2 + l / 2) →
        8 ≤ ((Tab.lst s.clasp.changes (l / 2)).filter fun x => decide (s.clasp.cycle < x + 33333)).length →
        bits (2 + l / 2) (2 + l / 2) (t.fld F.CLS_FAULT_CAUSE) = 1)) ∧
    (∀ n : Fin 2, (s.pairFunc n ≠ 0 → s.pairEqual n = true → ready n → Latches (.discTimeout n) n) ∧
      ((s.pairFunc n = 0 ∨ s.pairEqual n = false) → Runs (.discTimeout n) s fun t => t = s)) ∧
    (∀ b, (s.safeOut = true → ready 4 → Latches (.offPulseTest b (!b)) 4) ∧ (Runs (.offPulseTest b b) s fun t =>
        t = { s with clasp := { s.clasp with padA := t.clasp.padA, padB := t.clasp.padB } } ∧
        (s.safeOut = true → (if b then t.clasp.padB else t.clasp.padA) ≠ some (!b))) ∧
      (s.safeOut = false → ∀ r, Runs (.offPulseTest b r) s fun t => t = s)) ∧
    (∀ a b, (s.clasp.outA ≠ a ∨ s.clasp.outB ≠ b → ready 4 → Latches (.outputReadbackCheck a b) 4) ∧
      (s.clasp.outA = a → s.clasp.outB = b → Runs (.outputReadbackCheck a b) s fun t =>
        t.padsAgree = true ∧ t = { s with clasp := { s.clasp with padA := t.clasp.padA, padB := t.clasp.padB } })) ∧
    (s.armed = true → s.lkGood = false → ready 5 → Latches (.selfTest true) 5) ∧
    (s.armed = false ∨ s.lkGood = true → (ready 6 → Latches (.selfTest false) 6) ∧
      (Runs (.selfTest true) s fun t => t = { s with clasp := { s.clasp with logicBad := false } })) ∧
    (∀ n, s.on F.CLK_STAT_XQUAL = true → (n < 23250 ∨ 26750 < n) → ready 7 → Latches (.clsClockCheck n) 7) ∧
    (∀ n, (s.on F.CLK_STAT_XQUAL = false ∨ (23250 ≤ n ∧ n ≤ 26750)) → Runs (.clsClockCheck n) s fun t => t = s) ∧
    (ready 7 → Latches .claspWatchdogExpiry 7) ∧
    (∀ n : Fin 2, s.fld F.CLS_STAT_STATE = 5 → Runs (.discTimeout n) s fun t => t = s) ∧
    (∀ b, Runs (.sdkReq b) s fun t => t.on F.CLS_CTRL_SDK_REQ = b ∧ OnlyFields [F.CLS_CTRL_SDK_REQ] s t ∧
      t = { s with regs := t.regs })

/-- Where commands act: a key word 0xC1A5 only starts the sequence, again where it has started; any other word without
a start, and KEY_TIMEOUT, leave it not started. After a start, 0xD15A disarms an armed Clasp: state 0, WAIT and HBOK
clear, EV_CLS_DISARMED. 0x2E5E resets where R342 accepts it: causes and WAIT clear, EV_CLS_RESET, and FAULT goes to
SDK; else RESET_REJ counts; both are decided at the key write (log entry 124). ARM acts in DISARMED with an active
configuration that uses Clasp: a section that fails its check sets PARAM, a bad logic LOGIC, a readback of the negated
outputs that does not show them OUT in CLS_FAULT (the conditions that the tests find, and the bits, are log entry 12),
with ARMERR and EV_CLS_FAULT, in state DISARMED; a good section with good logic and readback arms: state SDK, LK
registers from the section, EV_CLS_ARMED. (11_clasp_safety.md, R341, R342, R343, R344) -/
def Obligations.Clasp_KeysAndArming : Prop :=
  ∀ (s : State), s.live →
    (s.clasp.key = false → ∀ v : Word, Runs (.clsKey v) s fun t =>
      t = { s with clasp := { s.clasp with key := decide (v = 0xC1A5) } }) ∧
    (Runs (.clsKey 0xC1A5) s fun t => t = { s with clasp := { s.clasp with key := true } }) ∧
    (∀ v : Word, v ≠ 0xC1A5 → v ≠ 0x2E5E → v ≠ 0xD15A → Runs (.clsKey v) s fun t =>
      t = { s with clasp := { s.clasp with key := false } }) ∧
    (Runs .keyTimeout s fun t => t = { s with clasp := { s.clasp with key := false } }) ∧
    (s.clasp.key = true → s.armed = true → Runs (.clsKey 0xD15A) s fun t => t.clasp.key = false ∧
      t.fld F.CLS_STAT_STATE = 0 ∧ t.on F.CLS_STAT_WAIT = false ∧ t.on F.CLS_STAT_HBOK = false ∧ t.clasp.sdk = true ∧
      Raised 127 0 s t) ∧
    (s.clasp.key = true → s.clsPrune.resetOk = false → Runs (.clsKey 0x2E5E) s fun t => t.clasp.key = false ∧
      t.fld F.CLS_CNT_RESET_REJ = min 255 (s.fld F.CLS_CNT_RESET_REJ + 1) ∧ Quiet s t) ∧
    (s.clasp.key = true → s.clsPrune.resetOk = true → Runs (.clsKey 0x2E5E) s fun t => t.clasp.key = false ∧
      t.fld F.CLS_FAULT_CAUSE = 0 ∧ t.on F.CLS_STAT_WAIT = false ∧ Raised 129 0 s t ∧
      (s.fld F.CLS_STAT_STATE = 4 → t.fld F.CLS_STAT_STATE = 3)) ∧
    (let c := Secs.get s.conf.secs 9 0
     ((s.fld F.CLS_STAT_STATE ≠ 0 ∨ s.active = false ∨ byteOf c 0 % 2 = 0) → Runs .arm s fun t => t = s) ∧
     (s.fld F.CLS_STAT_STATE = 0 → s.active = true → byteOf c 0 % 2 = 1 →
       (s.armFaults c ≠ 0 → Runs .arm s fun t => t.on F.CLS_STAT_ARMERR = true ∧ t.fld F.CLS_STAT_STATE = 0 ∧
         t.clasp.sdk = true ∧ t.fld F.CLS_FAULT_CAUSE = Nat.lor (s.fld F.CLS_FAULT_CAUSE) (s.armFaults c) ∧
         (claspOk c = false → bits 5 5 (t.fld F.CLS_FAULT_CAUSE) = 1) ∧
         (s.clasp.logicBad = true → bits 6 6 (t.fld F.CLS_FAULT_CAUSE) = 1) ∧
         (s.padsNegated = false → bits 4 4 (t.fld F.CLS_FAULT_CAUSE) = 1) ∧
         Raised 128 (BitVec.ofNat 32 (t.fld F.CLS_FAULT_CAUSE)) s t) ∧
       (claspOk c = true → s.clasp.logicBad = false → s.padsNegated = true → Runs .arm s fun t =>
         t.fld F.CLS_STAT_STATE = 3 ∧ t.clasp.sdk = true ∧ t.reg R.CLS_CFG = BitVec.ofNat 32 (leAt c 0 3) ∧
         t.reg R.CLS_TIME = BitVec.ofNat 32 (leAt c 4 4) ∧ t.on F.CLS_STAT_WAIT = bitOf (BitVec.ofNat 32 (leAt c 0 3)) 2 ∧
         Raised 126 0 s t)))

/-- Where commands act, on an ACTIVE Spine port: a Clasp frame that ends badly counts in CLPERR alone. At a worker not
in UNUSED, HB or CMD from SUP with a good CRC and a SEQ 1 to 3 above the last accepted gives the level and, without a
loss, HBOK; a bad CRC counts in CRCERR, another SEQ in SEQERR. RST is judged alike, and resets only where FOLLOW is
set; without it the last accepted SEQ stays, except as a new base. REQ from SDN at the manager holds the level of its
source. HEARTBEAT_SEND at a distributing manager without a source failure sends one frame with the level on each
ACTIVE SDN port, else nothing; a cycle that changes the level there sends it as CMD. A cycle at an armed worker in
which the level of its ARCH pairs changes sends it as REQ; a return to 0 is repeated twice more. HEARTBEAT_TIMEOUT at
an armed worker that follows, its timer running and no frame accepted in this Clasp cycle, declares the loss.
REQ_RESEND repeats a level that stands. (11_clasp_safety.md, R308, R349, R350, R351, R352) -/
def Obligations.Clasp_HeartbeatsAndRequests : Prop :=
  ∀ (s : State), s.live →
    (∀ (p : Fin 5) (b : List Byte), s.spnActive p = true →
      ∀ e ∈ [(1, Instr.hb p b .abort), (2, .cmd p b .abort), (3, .req p b .abort), (4, .rst p b .abort)],
        byteOf b 0 / 16 = e.1 → Runs e.2 s fun t =>
          t.fld F.SPN_ERR_CLPERR = min 255 (s.fld F.SPN_ERR_CLPERR + 1) ∧ OnlyFields [F.SPN_ERR_CLPERR] s t ∧
          t = { s with regs := t.regs, lnk := { s.lnk with rxRd := t.lnk.rxRd } }) ∧
    (∀ b : List Byte, s.spnActive 0 = true → s.manager = false → s.fld F.CLS_STAT_STATE ≠ 5 → s.sdnActive = [] →
      let n := b.length - 2
      let q := byteOf b 1
      let d := match s.clasp.seqIn with
        | none => 1
        | some x => (q + 256 - x) % 256
      let good := 3 ≤ b.length ∧ beAt b n 2 = claspCrc 0 q (b.take n)
      (∀ e ∈ [(1, Instr.hb 0 b .good), (2, .cmd 0 b .good)], byteOf b 0 / 16 = e.1 →
        (good → 1 ≤ d → d ≤ 3 → Runs e.2 s fun t => t.clasp.arch = min 2 (byteOf b 2 % 4) ∧ t.clasp.seqIn = some q ∧
          t.clasp.hbIn = true ∧ (s.clasp.lost = false → t.clasp.lost = false ∧ t.on F.CLS_STAT_HBOK = true) ∧
          OnlyFields [F.CLS_STAT_HBOK] s t) ∧
        (good → (d < 1 ∨ 3 < d) → Runs e.2 s fun t =>
          t.fld F.CLS_CNT_SEQERR = min 255 (s.fld F.CLS_CNT_SEQERR + 1) ∧ t.clasp.arch = s.clasp.arch ∧
          OnlyFields [F.CLS_CNT_SEQERR] s t) ∧
        (¬ good → Runs e.2 s fun t =>
          t.fld F.CLS_CNT_CRCERR = min 255 (s.fld F.CLS_CNT_CRCERR + 1) ∧ t.clasp.arch = s.clasp.arch ∧
          OnlyFields [F.CLS_CNT_CRCERR] s t)) ∧
      (byteOf b 0 / 16 = 4 → good → 1 ≤ d → d ≤ 3 →
        (s.clsMode 1 = false → Runs (.rst 0 b .good) s fun t => t.regs = s.regs ∧
          t.clasp.seqIn = if s.clasp.seqIn = none then some q else s.clasp.seqIn) ∧
        (s.clsMode 1 = true → s.clsPrune.resetOk = true → Runs (.rst 0 b .good) s fun t =>
          t.fld F.CLS_FAULT_CAUSE = 0 ∧ t.on F.CLS_STAT_WAIT = false ∧ Raised 129 0 s t))) ∧
    (∀ (p : Fin 5) (b : List Byte), p ≠ 0 → s.spnActive p = true → s.manager = true → s.fld F.CLS_STAT_STATE ≠ 5 →
      byteOf b 0 / 16 = 3 → b.length = 7 → beAt b 5 2 = claspCrc (leAt b 3 2) (byteOf b 1) (b.take 5) →
      Tab.num s.clasp.heldSeq (leAt b 3 2) ≠ byteOf b 1 + 1 → Runs (.req p b .good) s fun t =>
        Tab.num t.clasp.held (leAt b 3 2) = min 2 (byteOf b 2 % 4) ∧
        (∀ k, k ≠ leAt b 3 2 → Tab.num t.clasp.held k = Tab.num s.clasp.held k)) ∧
    (s.claspBeats = false → Runs .heartbeatSend s fun t => t = s) ∧
    (s.claspBeats = true → Runs .heartbeatSend s fun t => t.clasp.seqOut = (s.clasp.seqOut + 1) % 256 ∧
      t.clasp.sent.length = s.clasp.sent.length + s.sdnActive.length ∧ t.regs = s.regs ∧
      ∀ p ∈ s.sdnActive, ∃ b, (p, 0, b) ∈ t.clasp.sent ∧ byteOf b 0 / 16 = 1 ∧ byteOf b 1 = s.clasp.seqOut % 256 ∧
        byteOf b 2 = s.clasp.archA % 256 ∧ beAt b (b.length - 2) 2 = claspCrc 0 s.clasp.seqOut (b.take (b.length - 2))) ∧
    ((s.manager = true ∨ s.armed = false ∨ s.clsMode 1 = false ∨ s.clasp.hbTimer = false ∨ s.clasp.hbIn = true) →
      Runs .heartbeatTimeout s fun t => t = s) ∧
    (s.manager = false → s.armed = true → s.clsMode 1 = true → s.clasp.hbTimer = true → s.clasp.hbIn = false →
      Runs .heartbeatTimeout s fun t => t.clasp.lost = true ∧ t.clasp.hbTimer = false ∧ t.on F.CLS_STAT_HBOK = false ∧
        t.fld F.CLS_CNT_HBLOSS = min 255 (s.fld F.CLS_CNT_HBLOSS + 1) ∧ Raised 130 0 s t) ∧
    ((s.manager = true ∨ s.armed = false ∨ s.on F.SPN_STAT_ADDR_VALID = false) → Runs .reqResend s fun t => t = s) ∧
    (s.manager = false → s.armed = true → s.on F.SPN_STAT_ADDR_VALID = true → s.clasp.reqLevel ≠ 0 →
      s.spnActive 0 = true → Runs .reqResend s fun t => t.clasp.sent.length = s.clasp.sent.length + 1 ∧
        t.clasp.reqSeq = (s.clasp.reqSeq + 1) % 256 ∧ t.regs = s.regs) ∧
    (s.manager = false → s.armed = true → s.on F.SPN_STAT_ADDR_VALID = true → s.clasp.reqLevel = 0 →
      s.spnActive 0 = true → (s.clasp.reqLeft = 0 → Runs .reqResend s fun t => t = s) ∧
        (s.clasp.reqLeft ≠ 0 → Runs .reqResend s fun t => t.clasp.reqLeft = s.clasp.reqLeft - 1 ∧
          t.clasp.reqSeq = (s.clasp.reqSeq + 1) % 256 ∧ ∃ b, t.clasp.sent = s.clasp.sent ++ [(0, 0, b)] ∧
            byteOf b 0 = 0x30 ∧ byteOf b 2 = 0)) ∧
    (∀ (g : Bool) (v : Nat), s.manager = false → s.armed = true → s.on F.SPN_STAT_ADDR_VALID = true →
      s.spnActive 0 = true → (s.clasp.sdk = false ∨ g = false) → v = s.pairsLevel 3 →
      (v = s.clasp.reqLevel → Runs (.claspCycle g) s fun t => t.clasp.sent = s.clasp.sent) ∧
      (v ≠ s.clasp.reqLevel → Runs (.claspCycle g) s fun t => t.clasp.reqLevel = v ∧
        t.clasp.reqLeft = (if v = 0 then 2 else 0) ∧ t.clasp.reqSeq = (s.clasp.reqSeq + 1) % 256 ∧
        ∃ b, t.clasp.sent = s.clasp.sent ++ [(0, 0, b)] ∧ byteOf b 0 = 0x30 ∧ byteOf b 1 = s.clasp.reqSeq % 256 ∧
          byteOf b 2 = v ∧ leAt b 3 2 = s.fld F.SPN_STAT_ADDR ∧
          beAt b 5 2 = claspCrc (s.fld F.SPN_STAT_ADDR) s.clasp.reqSeq (b.take 5))) ∧
    (∀ (g : Bool) (new : Nat), s.claspBeats = true → (s.clasp.sdk = false ∨ g = false) →
      new = (if s.clasp.archA ≤ s.archWanted ∨ s.clsMode 3 = false then s.archWanted else s.clasp.archA) →
      Runs (.claspCycle g) s fun t => t.clasp.archA = new ∧
        (new = s.clasp.archA → t.clasp.sent = s.clasp.sent ∧ t.clasp.seqOut = s.clasp.seqOut) ∧
        (new ≠ s.clasp.archA → t.clasp.seqOut = (s.clasp.seqOut + 1) % 256 ∧
          t.clasp.sent.length = s.clasp.sent.length + s.sdnActive.length ∧
          ∀ p ∈ s.sdnActive, ∃ b, (p, 0, b) ∈ t.clasp.sent ∧ byteOf b 0 / 16 = 2 ∧
            byteOf b 1 = s.clasp.seqOut % 256 ∧ byteOf b 2 = new % 256 ∧
            beAt b (b.length - 2) 2 = claspCrc 0 s.clasp.seqOut (b.take (b.length - 2))))

/-- Where commands act, outside power transitions (R362 read for coasting loops and a lost input, and SWFORCED at the
switch, as log entry 93 says; failures counted for a relocking loop, gates that a power state keeps, log entry 94):
before qualification a good window counts, a bad one starts again, and the thirty-second sets XQUAL. XTAL_LOSS after
qualification clears XQUAL, sets SRCFAIL with its event, and every started loop coasts without LOCK; before it nothing
happens. SRCFAIL_CLEAR acts with XQUAL set alone. A started loop that may lock sets its LOCK bit (an engine loop needs
the power of its die; stated where nothing waits for a clock); one that loses lock clears it, sets LOCKERR and raises
EV_CLK_LOCK_FAIL, but PLL_SCAN, which begins a relock while frames run; the third failed attempt sets SRCFAIL. A
selector takes the input asked for; the switch is forced, with its flag and event, where the old input makes no edge
or made none in 32 cycles of the new clock. GATE_REQUEST stores its bits; a risen one asks its block to stop, a fallen
one opens the gate in RUN. (12_clocks_power_thermal.md, R361, R362, R363, R366, R367) -/
def Obligations.Clocks_QualifyLockSwitchGate : Prop :=
  ∀ (s : State), s.live → s.pwr.phase = .steady →
    ((s.on F.CLK_STAT_XQUAL = true ∨ s.on F.CLK_STAT_SRCFAIL = true) → Runs .xtalQualTimeout s fun t => t = s) ∧
    (s.on F.CLK_STAT_XQUAL = false → s.on F.CLK_STAT_SRCFAIL = false → Runs .xtalQualTimeout s fun t =>
      t.on F.CLK_STAT_XTAL_FAIL = true ∧ Raised 8 0 s t ∧ OnlyFields [F.CLK_STAT_XTAL_FAIL, F.FLT_STAT_LOSTOCC] s t) ∧
    (∀ n sw, s.on F.CLK_STAT_XQUAL = false →
      ((n < 944 ∨ 1104 < n ∨ sw = false) → Runs (.xtalQualWindow n sw) s fun t => t = { s with clk := { s.clk with windows := 0 } }) ∧
      (944 ≤ n → n ≤ 1104 → sw = true → s.clk.windows < 31 → Runs (.xtalQualWindow n sw) s fun t =>
        t = { s with clk := { s.clk with windows := s.clk.windows + 1 } }) ∧
      (944 ≤ n → n ≤ 1104 → sw = true → s.clk.windows = 31 → Runs (.xtalQualWindow n sw) s fun t =>
        t.on F.CLK_STAT_XQUAL = true ∧ t.clk.coast = [] ∧ t.clk.windows = 0 ∧ Tab.num t.clk.want 0 = 1)) ∧
    (s.on F.CLK_STAT_XQUAL = false → Runs .xtalLoss s fun t => t = s) ∧
    (s.on F.CLK_STAT_XQUAL = true → Runs .xtalLoss s fun t => t.on F.CLK_STAT_XQUAL = false ∧
      t.on F.CLK_STAT_SRCFAIL = true ∧ t.clk.windows = 0 ∧ Tab.num t.clk.want 0 = 0 ∧ t.clk.dead = true ∧
      (∀ l, l < 6 → Tab.on s.clk.started l = true → t.locked l = false ∧ Tab.on t.clk.coast l = true) ∧
      (s.on (F.FLT_SRCi_EN 9) = true → (s.events 9).length < 15 → t.events 9 = s.events 9 ++ [⟨0, false⟩])) ∧
    (s.on F.CLK_STAT_XQUAL = true → Runs .srcfailClear s fun t => t.on F.CLK_STAT_SRCFAIL = false ∧
      OnlyFields [F.CLK_STAT_SRCFAIL] s t ∧ t = { s with regs := t.regs }) ∧
    (s.on F.CLK_STAT_XQUAL = false → Runs .srcfailClear s fun t => t = s) ∧
    (∀ l : Fin 6,
      (s.nothingWaits → (l = 3 → s.tim.running = true) → (4 ≤ l.val → s.strait.noPower = false) → Tab.on s.clk.started l = true → s.locked l = false → s.on F.CLK_STAT_XQUAL = true →
        Tab.on s.clk.coast l = false → Runs (.pllLock l) s fun t => t.locked l = true ∧ Tab.num t.clk.fails l = 0) ∧
      (s.locked l = false → Runs (.pllUnlock l) s fun t => t = s) ∧
      (l ≠ 3 → s.locked l = true → Runs (.pllUnlock l) s fun t => t.locked l = false ∧ t.on F.CLK_STAT_LOCKERR = true ∧
        Tab.on t.clk.relocking l = true ∧ Raised 10 (BitVec.ofNat 32 (t.fld F.CLK_STAT_LOCK)) s t ∧
        OnlyFields [F.CLK_STAT_LOCK, F.CLK_STAT_LOCKERR, F.FLT_STAT_LOSTOCC] s t) ∧
      (l = 3 → s.locked 3 = true → s.tim.running = true → Runs (.pllUnlock l) s fun t => t.locked 3 = false ∧
        t.on F.TIM_STAT_RELOCK = true ∧ t.tim.relock = .locking ∧ t.chn.gclkGate = true ∧
        bits 4 4 (t.fld F.CHN_STAT_BLANK_SRC) = 1) ∧
      ((l = 3 ∨ Tab.on s.clk.relocking l = false) → Runs (.pllLockTimeout l) s fun t => t = s) ∧
      (l ≠ 3 → Tab.on s.clk.relocking l = true → Tab.num s.clk.fails l < 2 → Runs (.pllLockTimeout l) s fun t =>
        Tab.num t.clk.fails l = Tab.num s.clk.fails l + 1 ∧ t = { s with clk := { s.clk with fails := t.clk.fails } }) ∧
      (l ≠ 3 → Tab.on s.clk.relocking l = true → 2 ≤ Tab.num s.clk.fails l → Runs (.pllLockTimeout l) s fun t =>
        t.on F.CLK_STAT_SRCFAIL = true ∧ Tab.num t.clk.fails l = 0)) ∧
    (∀ x n, Tab.num s.clk.want (selIndex x) = Tab.num s.clk.sel (selIndex x) → Runs (.clockSwitch x n) s fun t => t = s) ∧
    (∀ x n, Tab.num s.clk.want (selIndex x) ≠ Tab.num s.clk.sel (selIndex x) → Runs (.clockSwitch x n) s fun t =>
      Tab.num t.clk.sel (selIndex x) = Tab.num s.clk.want (selIndex x) ∧
      ((s.inputDead (selIndex x) = true ∨ 32 ≤ n) → t.on F.CLK_STAT_SWFORCED = true ∧ Raised 11 0 s t) ∧
      (s.inputDead (selIndex x) = false → n < 32 → Quiet s t)) ∧
    (∀ v : BitVec 6, Runs (.gateRequest v) s fun t => t.fld F.CLK_GATE_GATE = v.toNat ∧
      (∀ b, b < 6 → bits b b (s.fld F.CLK_GATE_GATE) = 0 → bits b b v.toNat = 1 → s.isGated b = false →
        Tab.on t.clk.asked b = true) ∧
      (∀ b, b < 6 → bits b b (s.fld F.CLK_GATE_GATE) = 1 → bits b b v.toNat = 0 → s.fld F.PWR_STAT_STATE < 2 →
        t.isGated b = false ∧ Tab.on t.clk.asked b = false))

/-- Where commands act: PWR_REQ with no code of a state, a state not deeper, a transition in progress or the device
shut down changes nothing. From RUN with block 7 running an entry begins: BUSY is set, blank request 5 is active and
block 7 is asked to stop. IDLE_TICK clears the count while the device is not dark; dark, it counts, and with the IDLE
timer reached the entry begins. A block asked to stop that goes quiet is stopped; when the last block of an IDLE entry
does, the state is IDLE. One that stays busy sets GATE_REFUSED with its number, and in an entry the abort shows its
target and block. (12_clocks_power_thermal.md, R367, R368, R371, R372, R373) -/
def Obligations.Power_EntriesStopBlocks : Prop :=
  ∀ (s : State), s.live →
    (∀ c : BitVec 3, (c.toNat = 0 ∨ 3 < c.toNat ∨ s.entryFree c.toNat = false) → Runs (.pwrReq c) s fun t => t = s) ∧
    (∀ c : BitVec 3, 1 ≤ c.toNat → c.toNat ≤ 3 → s.entryFree c.toNat = true → s.fld F.PWR_STAT_STATE = 0 →
      s.isGated 7 = false → Runs (.pwrReq c) s fun t => t.pwr.phase = .entering c.toNat ∧ t.on F.PWR_STAT_BUSY = true ∧
        Tab.on t.clk.asked 7 = true ∧ bits 5 5 (t.fld F.CHN_STAT_BLANK_SRC) = 1 ∧ t.fld F.PWR_STAT_STATE = 0) ∧
    (s.dark = false → Runs .idleTick s fun t => t.fld F.PWR_IDLECNT_MS = 0 ∧ OnlyFields [F.PWR_IDLECNT_MS] s t ∧
      t = { s with regs := t.regs }) ∧
    (s.dark = true → s.on F.PWR_TMR0_T_DOZE = false → s.on F.PWR_TMR1_T_DEEP = false →
      (s.on F.PWR_TMR0_T_IDLE = false → Runs .idleTick s fun t =>
        t.fld F.PWR_IDLECNT_MS = min (2 ^ 32 - 1) (s.fld F.PWR_IDLECNT_MS + 1) ∧ OnlyFields [F.PWR_IDLECNT_MS] s t ∧
        t = { s with regs := t.regs }) ∧
      (s.on F.PWR_TMR0_T_IDLE = true → s.fld F.PWR_TMR0_T_IDLE ≤ s.fld F.PWR_IDLECNT_MS → s.entryFree 1 = true →
        s.isGated 7 = false → Runs .idleTick s fun t => t.pwr.phase = .entering 1 ∧ t.on F.PWR_STAT_BUSY = true ∧
          Tab.on t.clk.asked 7 = true)) ∧
    (∀ b : Fin 19, Tab.on s.clk.asked b = false → (Runs (.gateQuiesce b) s fun t => t = s) ∧
      (Runs (.gateTimeout b) s fun t => t = s)) ∧
    (∀ b : Fin 19, Tab.on s.clk.asked b = true → s.pwr.phase = .steady →
      (Runs (.gateQuiesce b) s fun t => t.isGated b = true ∧ Tab.on t.clk.asked b = false) ∧
      (Runs (.gateTimeout b) s fun t => t.on F.CLK_STAT_GATE_REFUSED = true ∧ t.fld F.CLK_STAT_GATE_BLK = b ∧
        Tab.on t.clk.asked b = false ∧ t.isGated b = s.isGated b ∧
        (s.on (F.FLT_SRCi_EN 12) = true → (s.events 12).length < 15 →
          t.events 12 = s.events 12 ++ [⟨BitVec.ofNat 32 b, false⟩]))) ∧
    (s.pwr.phase = .entering 1 → s.pwr.todo = [9] → Tab.on s.clk.asked 9 = true → Runs (.gateQuiesce 9) s fun t =>
      t.fld F.PWR_STAT_STATE = 1 ∧ t.on F.PWR_STAT_BUSY = false ∧ t.pwr.phase = .steady ∧ t.isGated 9 = true) ∧
    (∀ (b : Fin 19) k rest, s.pwr.phase = .entering k → k < 4 → s.pwr.todo = b.val :: rest → Tab.on s.clk.asked b = true →
      Runs (.gateTimeout b) s fun t => t.on F.PWR_ABORT_VALID = true ∧ t.fld F.PWR_ABORT_TARGET = k ∧
        t.fld F.PWR_ABORT_BLOCK = b ∧ t.pwr.phase = .restarting)

/-- Where commands act: a source that is not enabled and armed, and any in RUN, changes nothing. In IDLE a source but
the timer lets the next frame start leave; a WAKE write ends a forced IDLE there too (log entry 53). In DOZE, and a
WAKE write as source 1, a wake begins: BUSY, CAUSE, step 1 and the bank check of CHK7. In DEEP the device leaves DEEP
with CAUSE; a bank that fails sets LOST, and LB1 or LB2 ends the wake with FAILSTEP 7. In a wake or restart (log entry
47) WAKE_STEP starts the next step where the one before is ready, after step 9 always; otherwise it waits with
WAKE_SLOW; a retried check that passes starts the next step, a fifth failed one ends the wake with WAKEFAIL and
FAILSTEP. The first step after the bank check (log entry 48) marks banks whose contents or CRC did not last LOST, with
EV_PWR_LB_LOST. Step 7 (log entry 52) restores one lost bank from its shadow in DRAM, asks flash for it, or leaves it
zero, with FAILSTEP 7 for LB1 and LB2; a bank read from flash has what was read. WAKEOUT sends tones on the ports
chosen that are not ACTIVE. A diode reading shows TEMP and the larger of PEAK; the third clamped one in a row sets
SENS; the second in a row at 130 degrees shuts the device down. (12_clocks_power_thermal.md, R374, R375, R376, R377,
R379, R381, R383, R384, R386, R387) -/
def Obligations.Power_WakesAndThermalReadings : Prop :=
  (∀ (s : State) (k : Fin 5) lost, s.inReset = false → s.pwr.deep = true → s.wakeArmed k = true →
    Runs (.wakeSource k lost) s fun t => t.pwr.deep = false ∧ t.fld F.PWR_STAT_CAUSE = k + 1 ∧
      (∀ n : Fin 16, s.retained n = true → (bits n n lost.toNat = 1 ∨ s.lockCrc n ≠ s.reg (R.PWR_LBCRCn n)) →
        t.on (F.PWR_LBn_LOST n) = true ∧ (n.val = 1 ∨ n.val = 2 → t.on F.PWR_STAT_WAKEFAIL = true ∧
          t.fld F.PWR_STAT_FAILSTEP = 7))) ∧
  ∀ (s : State), s.live →
    -- a bank fails the check of a wake; step 7 is about to start with one bank lost
    let fails (lost : BitVec 16) (n : Nat) : Prop :=
      s.retained n = true ∧ (bits n n lost.toNat = 1 ∨ s.lockCrc n ≠ s.reg (R.PWR_LBCRCn n))
    let climbs : Prop := s.pwr.phase = .restarting ∨ (s.pwr.phase = .waking ∧ s.on (F.CHKn_STAT_PWR 7) = false)
    let word (b : List Byte) (i : Nat) : Word := BitVec.ofNat 32 (leAt b (4 * i) 4)
    (∀ (k : Fin 5) lost, s.wakeArmed k = false → Runs (.wakeSource k lost) s fun t => t = s) ∧
    (∀ (k : Fin 5) lost, s.pwr.phase = .steady → s.fld F.PWR_STAT_STATE = 0 → Runs (.wakeSource k lost) s fun t => t = s) ∧
    (∀ (k : Fin 5) lost, s.wakeArmed k = true → s.pwr.phase = .steady →
      (s.fld F.PWR_STAT_STATE = 1 → k ≠ 4 → Runs (.wakeSource k lost) s fun t =>
        t = { s with pwr := { s.pwr with leave := true } }) ∧
      (s.fld F.PWR_STAT_STATE = 2 → Runs (.wakeSource k lost) s fun t => t.pwr.phase = .waking ∧ t.pwr.step = 1 ∧
        t.on F.PWR_STAT_BUSY = true ∧ t.fld F.PWR_STAT_CAUSE = k + 1 ∧ Tab.on t.clk.started 1 = true ∧
        t.on (F.CHKn_STAT_PWR 7) = true)) ∧
    (s.wakeArmed 1 = true → s.pwr.phase = .steady → s.fld F.PWR_STAT_STATE = 2 → Runs .pwrWake s fun t =>
      t.pwr.phase = .waking ∧ t.pwr.step = 1 ∧ t.fld F.PWR_STAT_CAUSE = 2) ∧
    (s.fld F.PWR_STAT_STATE = 1 → s.pwr.phase = .steady → s.pwr.forced = true → s.on F.THM_STAT_SHUT = false →
      Runs .pwrWake s fun t => t = { s with pwr := { s.pwr with leave := true } }) ∧
    (∀ b lost, (s.rising = false ∨ s.pwr.retries ≠ 0) → Runs (.wakeStep b lost) s fun t => t = s) ∧
    (∀ lost, climbs → s.pwr.retries = 0 → s.pwr.step ≠ 0 → s.pwr.step ≠ 9 →
      (Runs (.wakeStep false lost) s fun t => t.on F.PWR_STAT_WAKE_SLOW = true ∧ t.pwr = { s.pwr with retries := 1 } ∧
        OnlyFields [F.PWR_STAT_WAKE_SLOW] s t) ∧
      (∀ n rest, s.stepReady s.pwr.step = true → s.pwr.todo = n :: rest →
        (n < 10 → (n = 7 → s.pwr.lostBanks = []) → Runs (.wakeStep true lost) s fun t => t.pwr.step = n ∧ t.pwr.todo = rest ∧
          t.pwr.phase = s.pwr.phase) ∧
        (n = 10 → Runs (.wakeStep true lost) s fun t => t.pwr.phase = .steady ∧ t.fld F.PWR_STAT_STATE = 0 ∧
          t.on F.PWR_STAT_BUSY = false))) ∧
    (∀ b lost, climbs → s.pwr.retries = 0 → s.pwr.step = 9 → s.pwr.todo = [10] → Runs (.wakeStep b lost) s fun t =>
      t.pwr.phase = .steady ∧ t.fld F.PWR_STAT_STATE = 0 ∧ t.on F.PWR_STAT_BUSY = false) ∧
    (∀ lost, s.pwr.phase = .waking → s.on (F.CHKn_STAT_PWR 7) = true → s.chk.held = false → s.pwr.retries = 0 →
      s.pwr.step ≠ 0 → s.pwr.step ≠ 9 → Runs (.wakeStep false lost) s fun t =>
        t.on (F.CHKn_STAT_PWR 7) = false ∧ t.on F.PWR_STAT_WAKE_SLOW = true ∧
        (∀ n : Fin 16, (fails lost n → t.on (F.PWR_LBn_LOST n) = true ∧ Tab.on t.pwr.lostBanks n = true) ∧
          (¬fails lost n → t.on (F.PWR_LBn_LOST n) = s.on (F.PWR_LBn_LOST n) ∧
            (n.val ≠ 0 → ∀ i, i < 16384 → t.locketWord (lockBase n + 4 * i) = s.locketWord (lockBase n + 4 * i)))) ∧
        (∀ n : Fin 16, fails lost n → (∀ m : Fin 16, m ≠ n → ¬fails lost m) → s.on (F.FLT_SRCi_EN 15) = true →
          (s.events 15).length < 15 → t.events 15 = s.events 15 ++ [⟨BitVec.ofNat 32 n, false⟩])) ∧
    (∀ (n : Fin 16) rest lost, s.pwr.phase = .waking → s.on (F.CHKn_STAT_PWR 7) = false → s.pwr.retries = 0 →
      s.pwr.step = 6 → s.pwr.todo = 7 :: rest → s.stepReady 6 = true → n.val ≠ 0 → s.pwr.lostBanks = Tab.setOn [] n true →
      let u : State := { s with pwr := { s.pwr with todo := rest, step := 7 } }
      let x := u.readLines 30 (s.lockShadow n) 65536
      (s.lockSource n = 1 → s.engineReady 30 (s.lockShadow n) 65536 = false → Runs (.wakeStep true lost) s fun t =>
        t.pwr.step = 7 ∧ t.pwr.lostBanks = s.pwr.lostBanks) ∧
      (s.lockSource n = 1 → s.engineReady 30 (s.lockShadow n) 65536 = true → spanBad x.2 = false →
        Runs (.wakeStep true lost) s fun t => t.pwr.step = 7 ∧ t.pwr.todo = rest ∧ t.pwr.lostBanks = [] ∧ ∀ i, i < 16384 →
          t.locketWord (lockBase n + 4 * i) = word (spanBytes x.2 (s.lockShadow n) 65536) i) ∧
      (s.lockSource n = 1 → s.engineReady 30 (s.lockShadow n) 65536 = true → spanBad x.2 = true → n.val = 1 ∨ n.val = 2 →
        Runs (.wakeStep true lost) s fun t => t.pwr.phase = .steady ∧ t.on F.PWR_STAT_WAKEFAIL = true ∧
          t.fld F.PWR_STAT_FAILSTEP = 7 ∧ ∀ i, i < 16384 → t.locketWord (lockBase n + 4 * i) = 0) ∧
      (s.lockSource n = 2 → Runs (.wakeStep true lost) s fun t => t.pwr.lostBanks = s.pwr.lostBanks ∧
        FlashJob.locket n ∈ t.flash.running.toList ++ t.flash.waiting) ∧
      (((s.lockSource n = 1 ∧ s.engineReady 30 (s.lockShadow n) 65536 = true ∧ spanBad x.2 = true ∧ 3 ≤ n.val) ∨
        (s.lockSource n ≠ 1 ∧ s.lockSource n ≠ 2)) → Runs (.wakeStep true lost) s fun t => t.pwr.step = 7 ∧
        t.pwr.lostBanks = [] ∧ ∀ i, i < 16384 → t.locketWord (lockBase n + 4 * i) = 0)) ∧
    (∀ (n : Fin 16) (d : List Byte), n.val ≠ 0 → s.flash.running = some (.locket n) → d.length = 65536 →
      (s.lockShadow n + 65536 ≤ 0x1000000 ∨ s.on F.SYS_FLCFG_ADDR4 = true) → Runs (.flashTransferDone d) s fun t =>
        Tab.on t.pwr.lostBanks n = false ∧ ∀ i, i < 16384 → t.locketWord (lockBase n + 4 * i) = word d i) ∧
    (∀ b, (s.rising = false ∨ s.pwr.retries = 0) → Runs (.wakeReadyRetry b) s fun t => t = s) ∧
    (∀ n rest, climbs → s.pwr.retries ≠ 0 → s.stepReady s.pwr.step = true → s.pwr.todo = n :: rest → (n = 7 → s.pwr.lostBanks = []) →
      n < 10 → Runs (.wakeReadyRetry true) s fun t => t.pwr.step = n ∧ t.pwr.todo = rest ∧ t.pwr.retries = 0 ∧
        t.pwr.phase = s.pwr.phase) ∧
    (s.rising = true → s.pwr.retries ≠ 0 →
      (s.pwr.retries < 4 → Runs (.wakeReadyRetry false) s fun t => t = { s with pwr := { s.pwr with retries := s.pwr.retries + 1 } }) ∧
      (4 ≤ s.pwr.retries → s.pwr.step < 16 → Runs (.wakeReadyRetry false) s fun t => t.on F.PWR_STAT_WAKEFAIL = true ∧
        t.fld F.PWR_STAT_FAILSTEP = s.pwr.step ∧ t.pwr.phase = .steady ∧ t.fld F.PWR_STAT_STATE = 0)) ∧
    (∀ v : BitVec 4, Runs (.wakeout v) s fun t => t = { s with pwr := { s.pwr with tones := t.pwr.tones } } ∧
      ∀ k, k < 4 → Tab.num t.pwr.tones k = Tab.num s.pwr.tones k +
        if bits k k v.toNat = 1 ∧ s.linkState (4 + k) ≠ 5 then 1 else 0) ∧
    (∀ (d : Fin 3) (c : BitVec 12),
      let x : Int := ((c.toNat : Int) - s.fld (F.ADC_DIODEd_D0 d)) * signed 16 (s.fld (F.ADC_DIODEd_DS d)) / 256
      (Runs (.diodeReading d c .none) s fun t => t.fld (F.THM_Dd_TEMP d) = unsigned 16 x ∧
        (signed 16 (s.fld (F.THM_Dd_PEAK d)) < signed 16 (unsigned 16 x) → t.fld (F.THM_Dd_PEAK d) = unsigned 16 x) ∧
        (signed 16 (unsigned 16 x) ≤ signed 16 (s.fld (F.THM_Dd_PEAK d)) →
          t.fld (F.THM_Dd_PEAK d) = s.fld (F.THM_Dd_PEAK d))) ∧
      (Tab.num s.therm.clamped d = 2 → Runs (.diodeReading d c .high) s fun t => t.on (sensFlag d) = true) ∧
      (s.on (sensFlag d) = false → 1 ≤ Tab.num s.therm.hot d → 2080 ≤ signed 16 (unsigned 16 x) →
        Runs (.diodeReading d c .none) s fun t => t.on F.THM_STAT_SHUT = true))

/-- For every state and every field of a register: counting one, or adding any number, leaves the field at the smaller
of its largest value and the exact sum, never below what it was, and changes no other field and nothing outside the
registers. The chapters that state otherwise for a counter (a frame count, a sequence count) use plain sums in their
own meanings. (R8) -/
def Obligations.Counters_SaturateAtTheirMaximum : Prop :=
  ∀ (s : State) (f : Fld) (d : Nat), f.ok →
    (s.addSat f d).fld f = min f.max (s.fld f + d) ∧ s.fld f ≤ (s.addSat f d).fld f ∧
    (s.incSat f).fld f = min f.max (s.fld f + 1) ∧
    OnlyFields [f] s (s.addSat f d) ∧ s.addSat f d = { s with regs := (s.addSat f d).regs }

/-- Where commands act, a conversion of a running sequence that meets no overrange, is not discarded and does not end
its slot, with CALBYP of the slot clear when the conversion began, adds to the sum of the slot ((16 c - OFS) x GAIN +
2^17) >> 18, exact and with an arithmetic shift, limited to 0 and 0xFFF, with the GAIN and OFS, OFS in two's
complement, that the conversion took when it began: the ADC_CAL word of the channel of its slot, where the converter
was free and served nothing of a higher class. With GAIN 0x4000 and OFS 0, the values of State.reset for every
channel, that is c. (R397) -/
def Obligations.Adc_CodesAreCorrected : Prop :=
  (∀ (s : State) (vin : Int) (vref : Nat), s.live → s.adc.owner = some 2 → s.adc.discard = false → s.adc.ending = false →
    rangeOf vin vref = .none → s.adc.count + 1 < s.slotCount →
    (F.ADC_SLOTs_CALBYP s.adc.slot).of s.adc.slotWord = 0 →
    let c := rawCode vin vref
    let gain := (F.ADC_CALn_GAIN 0).of s.adc.calWord
    let ofs := (F.ADC_CALn_OFS 0).of s.adc.calWord
    let x : Int := ((16 * c : Nat) - signed 16 ofs) * gain + 2 ^ 17
    Runs (.adcConversionDone vin vref) s fun t =>
      (t.adc.sum : Int) = s.adc.sum + max 0 (min 0xFFF (x / 2 ^ 18)) ∧
      (gain = 0x4000 → ofs = 0 → t.adc.sum = s.adc.sum + c)) ∧
  (∀ s : State, s.adc.owner = none → s.adc.running = true → s.adc.diodes = [] → s.adc.capture = none → s.isGated 0 = false →
    s.adcNext.adc.owner = some 2 ∧ s.adcNext.adc.slotWord = s.reg (R.ADC_SLOTs s.adc.slot) ∧
    s.adcNext.adc.calWord = s.reg (R.ADC_CALn (s.fld (F.ADC_SLOTs_CH s.adc.slot)))) ∧
  (∀ n : Fin 32, State.reset.fld (F.ADC_CALn_GAIN n) = 0x4000 ∧ State.reset.fld (F.ADC_CALn_OFS n) = 0)

/-- Where commands act and the block is not asked to stop: the diode service makes three conversions due, taken at
once by a free converter. A trigger starts slot 0, becomes pending, or is counted as lost; START, the timer and the
selected pin edge do the same, and a source that is not enabled, or a block that stops, does nothing. Overrange
discards the next conversion, is latched for its channel and raises its event once a sequence; a discarded one is
counted. The last conversion of a slot shows VAL, MEAN and VALID, by the settings that the conversion took, then the
next slot or the end follows. A capture takes 256 conversions; its end shows Z or F, sets ZDONE, or the solved GAIN
and OFS, or ERR with its event; overrange conversions that it brings, and one that was to be discarded, count as
discards, and the former set their channel (the operands of the capture's end, and that a ZERO capture with an
overrange clears ZDONE, are log entry 41). A sequence that is to end does at the next conversion of its own; a pending
one follows. (13_measurement_calibration.md, R367, R388, R390, R391, R392, R393, R394, R396, R398) -/
def Obligations.Adc_TriggersSlotsAndCaptures : Prop :=
  ∀ (s : State), s.live →
    Runs .diodeService s (fun t => t.adc.diodes = [0, 1, 2] ∧ (s.adc.owner = none → t.adc.owner = some 0) ∧
      (∀ o, s.adc.owner = some o → t.adc.owner = some o) ∧ t = { s with adc := t.adc }) ∧
    ((s.on F.ADC_CTRL_EN = false ∨ s.stopping 0 = true) → Runs .adcStart s fun t => t = s) ∧
    (s.on F.ADC_CTRL_EN = true → s.stopping 0 = false → s.adc.running = false → Runs .adcStart s fun t =>
      t.adc.running = true ∧
      t.adc.pending = false ∧ t.adc.slot = 0 ∧ t.adc.count = 0 ∧ t.adc.sum = 0 ∧
      t.on F.ADC_STAT_BUSY = true ∧ t.on F.ADC_STAT_PENDING = false ∧ t.fld F.ADC_STAT_SLOT = 0 ∧
      OnlyFields [F.ADC_STAT_BUSY, F.ADC_STAT_PENDING, F.ADC_STAT_SLOT] s t ∧ t = { s with regs := t.regs, adc := t.adc }) ∧
    (s.on F.ADC_CTRL_EN = true → s.stopping 0 = false → s.adc.running = true → s.adc.pending = false →
      Runs .adcStart s fun t =>
      t.adc = { s.adc with pending := true } ∧ t.on F.ADC_STAT_PENDING = true ∧
      OnlyFields [F.ADC_STAT_BUSY, F.ADC_STAT_PENDING, F.ADC_STAT_SLOT] s t ∧ t = { s with regs := t.regs, adc := t.adc }) ∧
    (s.on F.ADC_CTRL_EN = true → s.stopping 0 = false → s.adc.running = true → s.adc.pending = true →
      Runs .adcStart s fun t =>
      t.fld F.ADC_STAT_TRIG_OVR = min F.ADC_STAT_TRIG_OVR.max (s.fld F.ADC_STAT_TRIG_OVR + 1) ∧
      t.adc = { s.adc with trigRaised := true } ∧ (s.adc.trigRaised = false → Raised 132 0 s t) ∧
      (s.adc.trigRaised = true → Quiet s t) ∧ OnlyFields [F.ADC_STAT_TRIG_OVR, F.FLT_STAT_LOSTOCC] s t) ∧
    ((s.fld F.ADC_TMR_PERIOD = 0 ∨ s.adcEnabled 2 = false) → Runs .adcTimer s fun t => t = s) ∧
    (s.fld F.ADC_TMR_PERIOD ≠ 0 → s.adcEnabled 2 = true → Runs .adcTimer s fun t => exec .adcStart s = .next t) ∧
    (∀ rising : Bool, ((rising = true ↔ s.fld F.ADC_CTRL_PINPOL ≠ 0) ∨ s.adcEnabled 3 = false →
        Runs (.adcPinTrigger rising) s fun t => t = s) ∧
      ((rising = true ↔ s.fld F.ADC_CTRL_PINPOL = 0) → s.adcEnabled 3 = true →
        Runs (.adcPinTrigger rising) s fun t => exec .adcStart s = .next t)) ∧
    (∀ vin vref, s.adc.owner = none → Runs (.adcConversionDone vin vref) s fun t => t = s) ∧
    (∀ (vin : Int) (vref : Nat), s.adc.owner = some 2 → s.adc.ending = false → s.adc.count + 1 < s.slotCount →
      let ovr := rangeOf vin vref
      (s.adc.discard = true → ovr = .none → Runs (.adcConversionDone vin vref) s fun t => t.adc.discard = false ∧
        t.fld F.ADC_STAT_DISC = min F.ADC_STAT_DISC.max (s.fld F.ADC_STAT_DISC + 1) ∧ t.adc.sum = s.adc.sum ∧
        t.adc.count = s.adc.count ∧ Quiet s t) ∧
      (s.adc.discard = false → ovr ≠ .none → (s.adc.running && s.adc.ovrRaised) = false →
        Runs (.adcConversionDone vin vref) s fun t => t.adc.discard = true ∧ t.adc.ovr = true ∧ t.adc.high = (ovr == .high) ∧
          t.adc.count = s.adc.count + 1 ∧ t.adc.sum = s.adc.sum + (if ovr = .high then 0xFFF else 0) ∧
          bitOf (t.reg R.ADC_OVR) s.slotCh = true ∧ Raised 133 (BitVec.ofNat 32 s.slotCh) s t)) ∧
    (∀ (vin : Int) (vref : Nat), s.adc.owner = some 2 → s.adc.ending = false → s.adc.discard = false →
      rangeOf vin vref = .none → s.adc.count + 1 = s.slotCount → s.adc.slot < 16 → s.stopping 0 = false →
      (F.ADC_SLOTs_CALBYP s.adc.slot).of s.adc.slotWord = 1 →
      let n := s.slotCh
      let sum := s.adc.sum + rawCode vin vref
      Runs (.adcConversionDone vin vref) s fun t =>
        t.fld (F.ADC_VALn_VAL n) = sum / 2 ^ min 8 ((F.ADC_SLOTs_SHIFT s.adc.slot).of s.adc.slotWord) % 2 ^ 20 ∧
        t.fld (F.ADC_MEANn_MEAN n) = min 0xFFF (sum / s.slotCount) ∧
        t.on (F.ADC_MEANn_VALID n) = true ∧ t.on (F.ADC_MEANn_OVR n) = s.adc.ovr ∧
        (s.adc.slot < s.fld F.ADC_CTRL_LAST → t.adc.slot = s.adc.slot + 1 ∧ t.adc.count = 0) ∧
        (s.fld F.ADC_CTRL_LAST ≤ s.adc.slot → t.fld F.ADC_SEQCNT_COUNT = (s.fld F.ADC_SEQCNT_COUNT + 1) % 2 ^ 32 ∧
          t.adc.running = s.adc.pending)) ∧
    (s.on F.ADC_SCAL_BUSY = true → Runs .scalZero s (fun t => t = s) ∧ Runs .scalFull s fun t => t = s) ∧
    (s.on F.ADC_SCAL_BUSY = false → Runs .scalZero s fun t => t.on F.ADC_SCAL_BUSY = true ∧ t.adc.capture = some false ∧
      t.adc.capLeft = 256 ∧ t.adc.capSum = 0 ∧ t.adc.scalCh = s.fld F.ADC_SCAL_CH ∧ OnlyFields [F.ADC_SCAL_BUSY] s t) ∧
    (s.on F.ADC_SCAL_BUSY = false → s.on F.ADC_SCAL_ZDONE = true → Runs .scalFull s fun t =>
      t.on F.ADC_SCAL_BUSY = true ∧ t.adc.capture = some true ∧ OnlyFields [F.ADC_SCAL_BUSY] s t) ∧
    (s.on F.ADC_SCAL_BUSY = false → s.on F.ADC_SCAL_ZDONE = false → Runs .scalFull s fun t =>
      t.on F.ADC_SCAL_ERR = true ∧ Raised 134 (BitVec.ofNat 32 (s.fld F.ADC_SCAL_CH)) s t ∧
      OnlyFields [F.ADC_SCAL_ERR, F.FLT_STAT_LOSTOCC] s t) ∧
    (∀ sum ovr, s.adc.capture = none → Runs (.scalCaptureDone sum ovr) s fun t => t = s) ∧
    (∀ sum ovr, s.adc.capture.isSome = true → s.adc.scalCh < 32 → ovr ≠ 0 → Runs (.scalCaptureDone sum ovr) s fun t =>
      bitOf (t.reg R.ADC_OVR) s.adc.scalCh = true ∧
      t.fld F.ADC_STAT_DISC = min F.ADC_STAT_DISC.max (s.fld F.ADC_STAT_DISC + ovr +
        if s.adc.owner = some 1 ∧ s.adc.discard = true then 1 else 0)) ∧
    (∀ (vin : Int) (vref : Nat), s.adc.owner = some 2 → s.adc.ending = true → Runs (.adcConversionDone vin vref) s fun t =>
      t.adc.ending = false ∧ t.adc.running = (s.adc.pending && !s.stopping 0) ∧ t.adc.pending = false) ∧
    (∀ sum ovr, s.adc.capture = some false → Runs (.scalCaptureDone sum ovr) s fun t =>
      let bad := s.adc.capOvr || decide (ovr ≠ 0)
      t.fld F.ADC_SCAL_ZF_Z = (s.adc.capSum + sum) / 16 % 2 ^ 16 ∧ t.on F.ADC_SCAL_BUSY = false ∧ t.adc.capture = none ∧
      t.on F.ADC_SCAL_ZDONE = !bad ∧ (bad = true → t.on F.ADC_SCAL_ERR = true)) ∧
    (∀ sum ovr, s.adc.capture = some true → s.adc.scalCh < 32 →
      let bad := s.adc.capOvr || decide (ovr ≠ 0)
      let f := (s.adc.capSum + sum) / 16
      let r := scalSolve (s.fld F.ADC_SCAL_ZF_Z) f (s.fld F.ADC_SCAL_TGT_CZ) (s.fld F.ADC_SCAL_TGT_CF)
      Runs (.scalCaptureDone sum ovr) s fun t => t.on F.ADC_SCAL_BUSY = false ∧ t.fld F.ADC_SCAL_ZF_F = f % 2 ^ 16 ∧
        (∀ g o, r = some (g, o) → bad = false → t.fld (F.ADC_CALn_GAIN s.adc.scalCh) = g ∧
          signed 16 (t.fld (F.ADC_CALn_OFS s.adc.scalCh)) = o ∧ t.on F.ADC_SCAL_ZDONE = false) ∧
        ((r = none ∨ bad = true) → t.on F.ADC_SCAL_ERR = true ∧
          (∀ c, t.reg (R.ADC_CALn c) = s.reg (R.ADC_CALn c) ∨ 32 ≤ c)))

/-- Where commands act: a group named by CAL_RUN is busy afterwards unless it waits after a bad rerun, or is group 0
with the controllers in self-refresh or the device shut down, which is deferred. CAL_RUN_DONE of a group that is not
busy, with no item, changes nothing. A rerun with no item ends: BUSY clears, RUNS counts, TREF takes the diode. A lane
pair of a lane that has stayed in ACTIVE and disagrees sets BADCAL, shows its item in CAL_BAD, raises EV_CAL_BAD and
holds the group for a second of REF cycles, from CAL_RUN too (log entry 72); one that agrees gives the eye and the
pending threshold. In full training an agreeing byte lane takes the centres of its eyes; a disagreeing one is tried
again. In TRAIN an agreeing lane takes EQ and THR at once, and lane 0 goes on to LOCK. (13_measurement_calibration.md,
R400, R402, R403, R404, R405, R406) -/
def Obligations.Calibration_RerunsStartAndEnd : Prop :=
  ∀ (s : State), s.live →
    (∀ v : BitVec 4, Runs (.calRun v) s fun t => (∀ g : Fin 4,
        let deferred := g = 0 ∧ (s.memAsleep = true ∨ s.on F.THM_STAT_SHUT = true)
        let waits := s.lnk.cycle + 1 ≤ Tab.num s.cal.wait g
        t.calBusy g = (s.calBusy g || (bits g g v.toNat == 1 && decide (¬ waits) && decide (¬ deferred))) ∧
        (g = 0 → bits g g v.toNat = 1 → s.calBusy g = false → ¬ waits → deferred → t.cal.held = true)) ∧
      OnlyFields [F.CAL_STAT_BUSY] s t ∧
      t = { s with regs := t.regs, cal := t.cal, mem := { s.mem with recalDue := t.mem.recalDue } }) ∧
    (∀ g : Fin 4, s.calBusy g = false → Runs (.calRunDone g []) s fun t => t = s) ∧
    (∀ g : Fin 4, s.calBusy g = true → s.rerunReady g = true → s.rerunCame g [] = true → s.rerunItems g [] = [] →
      Runs (.calRunDone g []) s fun t => t.calBusy g = false ∧ t.fld F.CAL_STAT_RUNS = min 255 (s.fld F.CAL_STAT_RUNS + 1) ∧
        t.fld (F.CAL_TREFg_TEMP g) = s.fld (F.THM_Dd_TEMP (calDiode g)) ∧
        OnlyFields [F.CAL_STAT_BUSY, F.CAL_STAT_RUNS, F.CAL_TREFg_TEMP g] s t ∧ t = { s with regs := t.regs }) ∧
    (∀ (i : Nat) (a b : LaneRun), i < 17 → s.linkState (lanePort i).1 = 5 → Tab.on s.cal.left i = false → s.calBusy 3 = true →
      let x := laneItem i a b
      (s.pairAgrees 3 x = false → Runs (.calRunDone 3 [.lane i a b]) s fun t => t.calBusy 3 = false ∧
        bits 3 3 (t.fld F.CAL_STAT_BADCAL) = 1 ∧ t.fld F.CAL_STAT_BADCNT = min 255 (s.fld F.CAL_STAT_BADCNT + 1) ∧
        t.on F.CAL_BAD_VALID = true ∧ t.fld F.CAL_BAD_GROUP = 3 ∧ t.fld F.CAL_BAD_ITEM = i ∧
        Tab.num t.cal.wait 3 = s.lnk.cycle + 1 + 25000000 ∧ Raised 143 (t.reg R.CAL_BAD) s t ∧
        (∀ k, t.reg (R.CAL_LANEi k) = s.reg (R.CAL_LANEi k) ∨ 17 ≤ k)) ∧
      (s.pairAgrees 3 x = true → Runs (.calRunDone 3 [.lane i a b]) s fun t => t.calBusy 3 = false ∧
        t.fld (F.CAL_LANEi_EYE_W i) = (longestRun b.phases).2 % 128 ∧
        Tab.opt t.cal.thr i = some (thrOf b.thresholds) ∧
        t.fld (F.CAL_LANEi_EQ i) = s.fld (F.CAL_LANEi_EQ i))) ∧
    (∀ (i : Nat) (a b : LaneRun), i < 17 → s.linkState (lanePort i).1 = 1 → s.calBusy 3 = false →
      s.pairAgrees 3 (laneItem i a b) = true → Runs (.calRunDone 3 [.lane i a b]) s fun t =>
        t.fld (F.CAL_LANEi_EYE_W i) = (longestRun b.phases).2 % 128 ∧ t.fld (F.CAL_LANEi_EQ i) = bestCode b.counts % 16 ∧
        t.fld (F.CAL_LANEi_THR i) = thrOf b.thresholds ∧ t.linkState (lanePort i).1 = if (lanePort i).2 = 0 then 2 else 1) ∧
    (∀ (i : Nat) (a b : ByteRun), i < 16 → s.fullTraining = true → s.calBusy 0 = false → Tab.num s.cal.first i < 3 →
      let x := byteItem i a b
      (s.pairAgrees 0 x = true → Runs (.calRunDone 0 [.byteLane i a b]) s fun t => Tab.num t.cal.first i = 0 ∧
        ∀ n, n < 8 → Tab.num t.cal.rdTap (8 * i + n) = runCentre (x.maps2.getD n []) ∧
          Tab.num t.cal.wrTap (8 * i + n) = runCentre (x.maps2.getD (8 + n) [])) ∧
      (s.pairAgrees 0 x = false → Runs (.calRunDone 0 [.byteLane i a b]) s fun t =>
        Tab.num t.cal.first i = Tab.num s.cal.first i + 1 ∧ bits 0 0 (t.fld F.CAL_STAT_BADCAL) = 1 ∧
        t.cal.rdTap = s.cal.rdTap ∧ t.cal.wrTap = s.cal.wrTap))

/-- Where commands act: PROMO_WINDOW_EXPIRY sets the count of its source to 0. PROMO_CLEAR of a promoted source does
so and clears its FLT_PROMO bit and no other; of another it changes nothing, so that an occurrence of the same cycle
still promotes it (R7; log entry 141). SRC_WRITE stores EN, CLASS, N and W, and sets the count to 0. FAULT_N_PULSE_END
ends a running pulse and negates FAULT_N unless HOLD is set. HOLD_CLEAR clears HOLD and negates FAULT_N outside a
pulse. INJ_GO enters an occurrence with INJ and FLT_INJ_DATA in the factory test mode for an index below 163, and does
nothing otherwise. Each leaves everything else unchanged. (14_checks_faults_log.md, R418, R420, R429) -/
def Obligations.FaultCollector_ControlCommands : Prop :=
  ∀ s : State, s.live →
    (∀ i : Fin 192, Runs (.promoWindowExpiry i) s fun t =>
      Tab.num t.flt.count i = 0 ∧ (∀ j, j ≠ i.val → Tab.num t.flt.count j = Tab.num s.flt.count j) ∧
      t = { s with flt := { s.flt with count := t.flt.count } }) ∧
    (∀ i : Fin 192, s.promoted i = false → Runs (.promoClear i) s fun t => t = s) ∧
    (∀ i : Fin 192, s.promoted i = true → Runs (.promoClear i) s fun t =>
      Tab.num t.flt.count i = 0 ∧ (∀ j, j ≠ i.val → Tab.num t.flt.count j = Tab.num s.flt.count j) ∧
      t.promoted i = false ∧ (∀ j : Fin 192, j ≠ i → t.promoted j = s.promoted j) ∧
      OnlyFields [F.FLT_PROMOj_VAL (i.val / 32)] s t ∧
      t = { s with regs := t.regs, flt := { s.flt with count := t.flt.count } }) ∧
    (∀ (i : Fin 192) (w : Word), Runs (.srcWrite i w) s fun t =>
      t.fld (F.FLT_SRCi_EN i) = (F.FLT_SRCi_EN i).of w ∧ t.fld (F.FLT_SRCi_CLASS i) = (F.FLT_SRCi_CLASS i).of w ∧
      t.fld (F.FLT_SRCi_N i) = (F.FLT_SRCi_N i).of w ∧ t.fld (F.FLT_SRCi_W i) = (F.FLT_SRCi_W i).of w ∧
      Tab.num t.flt.count i = 0 ∧ (∀ j, j ≠ i.val → Tab.num t.flt.count j = Tab.num s.flt.count j) ∧
      OnlyFields [F.FLT_SRCi_EN i, F.FLT_SRCi_CLASS i, F.FLT_SRCi_N i, F.FLT_SRCi_W i] s t ∧
      t = { s with regs := t.regs, flt := { s.flt with count := t.flt.count } }) ∧
    Runs .faultNPulseEnd s (fun t =>
      t.on F.FLT_STAT_PULSE = false ∧
      t.on F.FLT_STAT_PIN = (s.on F.FLT_STAT_PIN && (!s.on F.FLT_STAT_PULSE || s.on F.FLT_FCTRL_HOLD)) ∧
      OnlyFields [F.FLT_STAT_PULSE, F.FLT_STAT_PIN] s t ∧ t = { s with regs := t.regs }) ∧
    Runs .holdClear s (fun t =>
      t.on F.FLT_FCTRL_HOLD = false ∧ t.on F.FLT_STAT_PIN = (s.on F.FLT_STAT_PIN && s.on F.FLT_STAT_PULSE) ∧
      OnlyFields [F.FLT_FCTRL_HOLD, F.FLT_STAT_PIN] s t ∧ t = { s with regs := t.regs }) ∧
    (∀ x : Byte, Runs (.injGo x) s fun t =>
      (s.ldr.test = true ∧ x.toNat < 163 → s.on (F.FLT_SRCi_EN x.toNat) = true → (s.events x.toNat).length < 15 →
        t.events x.toNat = s.events x.toNat ++ [⟨s.reg R.FLT_INJ_DATA, true⟩] ∧
        (∀ j, j ≠ x.toNat → t.events j = s.events j) ∧ t = { s with flt := { s.flt with pend := t.flt.pend } }) ∧
      (s.ldr.test = false ∨ 163 ≤ x.toNat → t = s))

/-- For every event source and data word: with EN clear nothing changes; with EN set and fewer than 15 occurrences
pending the occurrence is the newest of its source; with 15 pending it is lost, LOSTOCC counts it, saturating at 255,
and the source is marked for LOSTOCC in its next log entry. No other source, field or component changes.
(14_checks_faults_log.md, R417, R418) -/
def Obligations.EventRaise_PendsUpToFifteen : Prop :=
  ∀ (s : State) (i : Fin 192) (d : Word),
    (s.on (F.FLT_SRCi_EN i) = false → s.raiseWith i d false = s) ∧
    (s.on (F.FLT_SRCi_EN i) = true → (s.events i).length < 15 →
      (s.raiseWith i d false).events i = s.events i ++ [⟨d, false⟩] ∧
      s.raiseWith i d false = { s with flt := { s.flt with pend := (s.raiseWith i d false).flt.pend } }) ∧
    (s.on (F.FLT_SRCi_EN i) = true → 15 ≤ (s.events i).length →
      (s.raiseWith i d false).fld F.FLT_STAT_LOSTOCC = min 255 (s.fld F.FLT_STAT_LOSTOCC + 1) ∧
      Tab.on (s.raiseWith i d false).flt.lost i = true ∧ Quiet s (s.raiseWith i d false) ∧
      OnlyFields [F.FLT_STAT_LOSTOCC] s (s.raiseWith i d false)) ∧
    (∀ j, j ≠ i.val → (s.raiseWith i d false).events j = s.events j ∧
      Tab.on (s.raiseWith i d false).flt.lost j = Tab.on s.flt.lost j)

/-- Where commands act: with nothing pending, or while the clock stands, EVENT_TAKE changes nothing. Otherwise, for
the pending source of the highest class that comes first from the pointer of its class, its oldest occurrence leaves
the count, LASTIDX shows it, the pointer moves past it, and the reactions of its class happen: LOG makes the entry
with time, data, INJ, PROMO, LOSTOCC, class and index, and takes the mark of lost occurrences with it; INT sets the
FLT_PEND bit; FAULT_N asserts the pin and its pulse; MGR appends to the manager's own inbox, sends an FLT on SUP or
counts the report as unsent; CLASP latches its fault; RESET acts on the block that the data names: a strait retrains,
a port returns to DETECT, a chain port gets a resync, a loop starts again, the sequence ends, a group is due, a check
unit stops (which of these a data word outside its range selects is log entry 56). An occurrence of a source that is
unpromoted opens or extends its window, and promotes it when its count reaches N. With INT and FAULT_N alone nothing
changes outside registers and the collector. (14_checks_faults_log.md, R33, R363, R417, R418, R419, R420, R421, R422,
R423, R425) -/
def Obligations.EventTake_ReactsByClass : Prop :=
  ∀ s : State, s.live →
    ((s.hubRuns = false ∨ ∀ i, i < 192 → s.events i = []) → Runs .eventTake s fun t => t = s) ∧
    (∀ (i : Fin 192) (o : Occ) (rest : List Occ),
      s.hubRuns = true → s.events i = o :: rest →
      (∀ j, j < 192 → s.events j ≠ [] → s.nextClass j ≤ s.nextClass i) →
      (∀ j, j < 192 → s.events j ≠ [] → s.nextClass j = s.nextClass i →
        First (Tab.num s.flt.ptr (3 - s.nextClass i)) i j) →
      let r := s.fld (F.FLT_REACTc_REACT (s.nextClass i))
      let logs : Prop := r % 2 = 1 ∧ i.val ≠ 162
      let e : LogEntry := ⟨BitVec.ofNat 64 s.time64, o.data, BitVec.ofNat 32 (b2n o.inj * 2 ^ 15 +
        b2n (s.promoted i || s.promotes i) * 2 ^ 14 + b2n (Tab.on s.flt.lost i) * 2 ^ 13 + s.nextClass i * 2 ^ 8 + i.val)⟩
      let rep : List Word := [o.data, BitVec.ofNat 32 s.time64, BitVec.ofNat 32 (s.time64 / 2 ^ 32)]
      let word : Word := BitVec.ofNat 32 (4 * i.val + s.nextClass i)
      let x := o.data.toNat % 256
      let g := if i.val = 143 then o.data.toNat / 2 ^ 24 % 4 else x
      let n := if i.val = 161 then o.data.toNat % 8 else (i.val - 145) % 8
      (Runs .eventTake s fun t =>
        Tab.num t.flt.ptr (3 - s.nextClass i) = i.val + 1 ∧ t.fld F.FLT_STAT_LASTIDX = i.val ∧
        t.promoted i = (s.promoted i || s.promotes i) ∧
        (s.promoted i = false → s.fld (F.FLT_SRCi_N i) ≠ 0 → s.promotes i = false →
          Tab.num t.flt.count i = Tab.num s.flt.count i + 1) ∧
        t.fltPending i = (s.fltPending i || r / 2 % 2 == 1) ∧
        (r / 8 % 2 = 1 → t.on F.FLT_STAT_PIN = true ∧ t.on F.FLT_STAT_PULSE = true) ∧
        (logs → t.locket = (s.logEntry e).locket ∧ t.log = (s.logEntry e).log ∧
          t.reg R.LOG_STAT = (s.logEntry e).reg R.LOG_STAT ∧ t.reg R.LOG_SEQ = (s.logEntry e).reg R.LOG_SEQ) ∧
        (¬logs → t.locket = s.locket ∧ t.log = s.log) ∧
        (r / 4 % 2 = 1 → i.val ≠ 59 → s.manager = true → s.spn.inbox.length < 64 →
          t.spn.inbox = s.spn.inbox ++ [⟨0, 0, i, s.nextClass i, rep⟩]) ∧
        (r / 4 % 2 = 1 → i.val ≠ 59 → s.manager = false → (s.on F.SPN_STAT_ADDR_VALID && s.spnActive 0) = false →
          t.flt.unsent = s.flt.unsent + 1) ∧
        (r / 16 % 2 = 1 → t.clasp.intDem = true ∧ bits 10 10 (t.fld F.CLS_FAULT_CAUSE) = 1) ∧
        (r / 32 % 2 = 1 →
          (∀ die, i.val < 4 → x = die + 1 → die < 2 → s.on (straitDown die) = false → s.fld (straitState die) = 2 →
            t.fld (straitState die) = 3) ∧
          (26 ≤ i.val → i.val ≤ 30 → x < 3 → t.linkState x = 0 ∧ t.fld (F.LNK_Px_STAT_FAILMASK x) = 0) ∧
          (i.val = 36 ∨ (42 ≤ i.val ∧ i.val ≤ 46) → x < 5 → t.linkState (3 + x) = 0) ∧
          (110 ≤ i.val → i.val ≤ 117 → s.nic (o.data.toNat % 64) ≠ 0 →
            t.fld (F.CHN_Cnn_ERR_RESYNC (o.data.toNat % 64)) = min (F.CHN_Cnn_ERR_RESYNC (o.data.toNat % 64)).max
              (s.fld (F.CHN_Cnn_ERR_RESYNC (o.data.toNat % 64)) + 1)) ∧
          (122 ≤ i.val → i.val ≤ 125 → x < 16 → (s.loop x).running = true →
            t.loop x = { stoppedLoop with regBits := (s.loop x).regBits }) ∧
          (132 ≤ i.val → i.val ≤ 142 → t.adc.pending = false ∧ (s.adc.owner = none → t.adc.running = false) ∧
            (s.adc.owner ≠ none → s.adc.running = true → t.adc.ending = true)) ∧
          (143 ≤ i.val → i.val ≤ 144 → g < 4 → (g = 0 → s.memAsleep = false ∧ s.on F.THM_STAT_SHUT = false) →
            Tab.num s.cal.wait g ≤ s.lnk.cycle → t.calBusy g = true) ∧
          (145 ≤ i.val → i.val ≤ 161 → (n = 7 → s.on (F.CHKn_STAT_PWR 7) = false) →
            (s.on (F.CHKn_CTRL_FEED n) = true ∨ s.chk.owner ≠ some n) → t.on (F.CHKn_STAT_BUSY n) = false))) ∧
      (Nat.land r 0x30 = 0 → Runs .eventTake s fun t =>
        t.events i = rest ∧ (∀ j, j ≠ i.val → j ≠ 162 → t.events j = s.events j) ∧
        (∀ j, j ≠ 162 → Tab.on t.flt.lost j = (Tab.on s.flt.lost j && !(decide (j = i.val ∧ r % 2 = 1) && s.logTakes))) ∧
        (r / 4 % 2 = 1 → i.val ≠ 59 → s.manager = false → (s.on F.SPN_STAT_ADDR_VALID && s.spnActive 0) = true →
          t.spn = (s.fltPass 0 (spnMake 11 0 0 3 0 s.spnAddr 0 0 0 (word :: rep))).spn ∧ t.flt.unsent = 0) ∧
        t = { s with regs := t.regs, flt := t.flt, log := t.log, locket := t.locket, spn := t.spn }) ∧
      (Nat.land r 0x35 = 0 → Runs .eventTake s fun t =>
        (∀ j, j ≠ i.val → t.events j = s.events j) ∧ t.flt.lost = s.flt.lost ∧
        OnlyFields [F.FLT_PROMOj_VAL (i.val / 32), F.FLT_STAT_LASTIDX, F.FLT_PENDj_VAL (i.val / 32), F.FLT_STAT_HIGH,
          F.FLT_STAT_PIN, F.FLT_STAT_PULSE] s t ∧
        t = { s with regs := t.regs, flt := t.flt }))

/-- While LB0 is usable and EN is set, an entry made for an occurrence goes to LB0 offset 16 x WPTR as TIME, DATA and
the information word with SEQ in its upper half; WPTR and SEQ advance modulo 1,024 and 65,536, WRAPPED is set when
WPTR wraps, and the control word mirrors the three. With STOP set and the log full, DROP is counted and nothing is
written. While entries are staged, at most 32 are kept. Where commands act LOG_CLEAR zeroes every entry, WPTR and
WRAPPED, and leaves SEQ. (14_checks_faults_log.md, R425, R426, R427) -/
def Obligations.Log_EntryWrittenAndCleared : Prop :=
  (∀ (s : State) (e : LogEntry), s.on F.LOG_CTRL_EN = true → s.pwr.lockLog = false →
    (s.on F.LOG_STAT_WRAPPED && s.on F.LOG_CTRL_STOP) = false →
    (s.logEntry e).locketWord (0x300000 + 16 * s.fld F.LOG_STAT_WPTR) = BitVec.ofNat 32 e.time.toNat ∧
    (s.logEntry e).locketWord (0x300000 + 16 * s.fld F.LOG_STAT_WPTR + 4) = BitVec.ofNat 32 (e.time.toNat / 2 ^ 32) ∧
    (s.logEntry e).locketWord (0x300000 + 16 * s.fld F.LOG_STAT_WPTR + 8) = e.data ∧
    ((s.logEntry e).locketWord (0x300000 + 16 * s.fld F.LOG_STAT_WPTR + 12)).toNat =
      e.info.toNat % 2 ^ 16 + 2 ^ 16 * s.fld F.LOG_SEQ_SEQ ∧
    (s.logEntry e).fld F.LOG_STAT_WPTR = (s.fld F.LOG_STAT_WPTR + 1) % 1024 ∧
    (s.logEntry e).fld F.LOG_SEQ_SEQ = (s.fld F.LOG_SEQ_SEQ + 1) % 65536 ∧
    (s.logEntry e).on F.LOG_STAT_WRAPPED = (s.on F.LOG_STAT_WRAPPED || s.fld F.LOG_STAT_WPTR == 1023) ∧
    ((s.logEntry e).locketWord 0x304000).toNat = (s.logEntry e).fld F.LOG_STAT_WPTR +
      2 ^ 10 * (s.logEntry e).fld F.LOG_STAT_WRAPPED + 2 ^ 16 * (s.logEntry e).fld F.LOG_SEQ_SEQ ∧
    (∀ a, a ≠ 0x304000 → (a < 0x300000 + 16 * s.fld F.LOG_STAT_WPTR ∨ 0x300000 + 16 * s.fld F.LOG_STAT_WPTR + 12 < a) →
      (s.logEntry e).locketWord a = s.locketWord a) ∧
    OnlyFields [F.LOG_STAT_WPTR, F.LOG_SEQ_SEQ, F.LOG_STAT_WRAPPED] s (s.logEntry e)) ∧
  (∀ (s : State) (e : LogEntry), s.on F.LOG_CTRL_EN = true → s.pwr.lockLog = false →
    s.on F.LOG_STAT_WRAPPED = true → s.on F.LOG_CTRL_STOP = true →
    (s.logEntry e).fld F.LOG_STAT_DROP = min 255 (s.fld F.LOG_STAT_DROP + 1) ∧ (s.logEntry e).locket = s.locket) ∧
  (∀ (s : State) (e : LogEntry), s.on F.LOG_CTRL_EN = true → s.pwr.lockLog = true →
    (s.log.staged.length < 32 → (s.logEntry e).log.staged = s.log.staged ++ [e]) ∧
    (32 ≤ s.log.staged.length → (s.logEntry e).log = s.log ∧
      (s.logEntry e).fld F.LOG_STAT_DROP = min 255 (s.fld F.LOG_STAT_DROP + 1)) ∧ (s.logEntry e).locket = s.locket) ∧
  (∀ s : State, s.live → Runs .logClear s fun t =>
    t.fld F.LOG_STAT_WPTR = 0 ∧ t.fld F.LOG_STAT_WRAPPED = 0 ∧ t.fld F.LOG_SEQ_SEQ = s.fld F.LOG_SEQ_SEQ ∧
    (∀ i, i < 4096 → t.locketWord (0x300000 + 4 * i) = 0) ∧
    (∀ a, 0x310000 ≤ a → t.locketWord a = s.locketWord a) ∧
    OnlyFields [F.LOG_STAT_WPTR, F.LOG_STAT_WRAPPED] s t)

/-- Where commands act and the power controller does not hold the unit: a START of a running unit changes nothing. A
scan whose range leaves its space sets WERR, raises EV_CHK_ERR and leaves the rest. A snoop sets BUSY and waits for
the next boundary, without end when LEN is 0; with INIT its VAL is the standard initial value, folded with TAG when
FOLD is set. A scan of LEN above 0 sets BUSY, and of DRAM, where no other waits and Q27 has room, reads the line of
its ADDR. A scan of no bytes is done at once (log entry 98): DONE, DONES and EV_CHK_DONE, and MISMATCH where CMP is
set and RESULT differs from EXP. STOP ends a running unit, after the line that is in flight for it, and leaves VAL,
ADDR and LEN. CHK7 under PWR keeps a START for later and refuses a STOP with WERR. (14_checks_faults_log.md, R409,
R410, R411, R412, R413, R414, R416) -/
def Obligations.CheckUnits_StartAndStop : Prop :=
  ∀ (s : State) (n : Fin 8), s.live →
    (n.val ≠ 7 ∨ s.on (F.CHKn_STAT_PWR 7) = false →
      (s.on (F.CHKn_STAT_BUSY n) = true → Runs (.chkStart n) s fun t => t = s) ∧
      (s.on (F.CHKn_STAT_BUSY n) = false → s.on (F.CHKn_CTRL_FEED n) = false → s.chkInSpace n = false →
        Runs (.chkStart n) s fun t => t.on (F.CHKn_STAT_WERR n) = true ∧
          Raised 161 (BitVec.ofNat 32 (n.val + 512)) s t ∧
          OnlyFields [F.CHKn_STAT_WERR n, F.FLT_STAT_LOSTOCC] s t ∧ t = { s with regs := t.regs, flt := t.flt }) ∧
      (s.on (F.CHKn_STAT_BUSY n) = false → s.on (F.CHKn_CTRL_FEED n) = true →
        Runs (.chkStart n) s fun t => t.on (F.CHKn_STAT_BUSY n) = true ∧ Tab.on t.chk.armed n = true ∧
          Tab.on t.chk.endless n = decide (s.fld (F.CHKn_LEN_LEN n) = 0) ∧
          (s.on (F.CHKn_CTRL_INIT n) = true → s.on (F.CHKn_CTRL_FOLD n) = false →
            t.reg (R.CHKn_VAL n) = crcInit (s.fld (F.CHKn_CTRL_POLY n))) ∧
          (s.on (F.CHKn_CTRL_INIT n) = true → s.on (F.CHKn_CTRL_FOLD n) = true →
            t.reg (R.CHKn_VAL n) = crcRun (s.fld (F.CHKn_CTRL_POLY n)) (crcInit (s.fld (F.CHKn_CTRL_POLY n)))
              (leBytes 4 (s.reg (R.CHKn_TAG n)).toNat)) ∧
          (s.on (F.CHKn_CTRL_INIT n) = false → t.reg (R.CHKn_VAL n) = s.reg (R.CHKn_VAL n)) ∧
          OnlyFields [⟨R.CHKn_VAL n, 31, 0⟩, ⟨R.CHKn_RESULT n, 31, 0⟩, F.CHKn_STAT_BUSY n] s t ∧
          t = { s with regs := t.regs, chk := t.chk }) ∧
      (s.on (F.CHKn_STAT_BUSY n) = false → s.on (F.CHKn_CTRL_FEED n) = false → s.fld (F.CHKn_LEN_LEN n) = 0 →
        s.chkInSpace n = true →
        Runs (.chkStart n) s fun t => t.on (F.CHKn_STAT_BUSY n) = false ∧ t.on (F.CHKn_STAT_DONE n) = true ∧
          t.fld (F.CHKn_STAT_DONES n) = min 255 (s.fld (F.CHKn_STAT_DONES n) + 1) ∧
          (s.on (F.CHKn_CTRL_CMP n) = false → Raised (145 + n.val) (t.chkResult n) s t) ∧
          (s.on (F.CHKn_CTRL_CMP n) = true → t.chkResult n ≠ s.reg (R.CHKn_EXP n) →
            t.on (F.CHKn_STAT_MISMATCH n) = true)) ∧
      (s.on (F.CHKn_STAT_BUSY n) = false → s.on (F.CHKn_CTRL_FEED n) = false → s.fld (F.CHKn_LEN_LEN n) ≠ 0 →
        s.chkInSpace n = true → Runs (.chkStart n) s fun t => t.on (F.CHKn_STAT_BUSY n) = true ∧
          (s.on (F.CHKn_CTRL_INIT n) = true → s.on (F.CHKn_CTRL_FOLD n) = false →
            t.reg (R.CHKn_VAL n) = crcInit (s.fld (F.CHKn_CTRL_POLY n))) ∧
          (s.on (F.CHKn_CTRL_INIT n) = false → t.reg (R.CHKn_VAL n) = s.reg (R.CHKn_VAL n)) ∧
          (s.on (F.CHKn_CTRL_SPACE n) = true → s.chkWaiting = [] → t = { s with regs := t.regs }) ∧
          (s.on (F.CHKn_CTRL_SPACE n) = false → s.chkWaiting = [] → s.chk.owner = none → s.hubRuns = true →
            s.stopping 1 = false → s.queueRoom 27 = true →
            t.chk.owner = some n.val ∧ Tab.lst t.mem.queues 27 = Tab.lst s.mem.queues 27 ++
              [⟨false, s.chkAddr n / 64 * 64, [], 0⟩])) ∧
      (s.on (F.CHKn_STAT_BUSY n) = true → s.on (F.CHKn_CTRL_FEED n) = false → s.chk.owner = some n.val →
        Runs (.chkStop n) s fun t => Tab.on t.chk.ending n = true ∧
          t = { s with chk := { s.chk with ending := t.chk.ending } }) ∧
      (s.on (F.CHKn_CTRL_FEED n) = true ∨ s.chk.owner ≠ some n.val → Runs (.chkStop n) s fun t =>
          t.on (F.CHKn_STAT_BUSY n) = false ∧
          OnlyFields [F.CHKn_STAT_BUSY n] s t ∧ t = { s with regs := t.regs, chk := t.chk })) ∧
    (n.val = 7 → s.on (F.CHKn_STAT_PWR 7) = true →
      (Runs (.chkStart n) s fun t => t.chk.held = true ∧ t = { s with chk := { s.chk with held := true } }) ∧
      (Runs (.chkStop n) s fun t => t.on (F.CHKn_STAT_WERR 7) = true ∧
        OnlyFields [F.CHKn_STAT_WERR 7] s t ∧ t = { s with regs := t.regs }))

/-- Where commands act, for a unit that scans on-chip memory while CHK is not stopped and the power controller does
not hold it: VAL becomes the running CRC over the bytes of the front copies and locket banks from ADDR on, LEN reads
0, ADDR has moved to the end of the range, BUSY clears, DONE is set, DONES is counted, and RESULT is VAL with the
final XOR. A unit that does not scan on-chip memory keeps its state. (14_checks_faults_log.md, R408, R409, R410, R413)
-/
def Obligations.CheckUnits_OnChipScanDone : Prop :=
  ∀ (s : State) (n : Fin 8), s.live →
    (s.on (F.CHKn_STAT_BUSY n) = true → s.on (F.CHKn_CTRL_FEED n) = false → s.on (F.CHKn_CTRL_SPACE n) = true →
      s.isGated 1 = false → s.on (F.CHKn_STAT_PWR n) = false →
      s.chkAddr n + s.fld (F.CHKn_LEN_LEN n) < 2 ^ 33 →
      Runs (.chkOnchipScanDone n) s fun t =>
        t.reg (R.CHKn_VAL n) = crcRun (s.fld (F.CHKn_CTRL_POLY n)) (s.reg (R.CHKn_VAL n))
          ((List.range (s.fld (F.CHKn_LEN_LEN n))).map fun i => s.onchipByte (s.chkAddr n + i)) ∧
        t.reg (R.CHKn_RESULT n) = crcFinal (s.fld (F.CHKn_CTRL_POLY n)) (t.reg (R.CHKn_VAL n)) ∧
        t.fld (F.CHKn_LEN_LEN n) = 0 ∧ t.chkAddr n = s.chkAddr n + s.fld (F.CHKn_LEN_LEN n) ∧
        t.on (F.CHKn_STAT_BUSY n) = false ∧ t.on (F.CHKn_STAT_DONE n) = true ∧
        t.fld (F.CHKn_STAT_DONES n) = min 255 (s.fld (F.CHKn_STAT_DONES n) + 1) ∧
        (s.on (F.CHKn_CTRL_CMP n) = true → t.reg (R.CHKn_RESULT n) ≠ s.reg (R.CHKn_EXP n) →
          t.on (F.CHKn_STAT_MISMATCH n) = true) ∧
        t = { s with regs := t.regs, flt := t.flt, chk := t.chk }) ∧
    (s.on (F.CHKn_STAT_BUSY n) = false ∨ s.on (F.CHKn_CTRL_FEED n) = true ∨ s.on (F.CHKn_CTRL_SPACE n) = false →
      Runs (.chkOnchipScanDone n) s fun t => t = s)

/-- Where commands act, the clock of the bus runs and no access waits, REGISTER_WRITE and LK_WRITE alike: a word that
names no register, in either half of a block, changes nothing but raises EV_SYS_ADDR_ERR with its byte address, as
does an isle window and a table word that no table holds. A word of a table goes to its back copy, by its valid bits,
and marks the table dirty. An LK register while Clasp is armed keeps its value and EV_CLS_LK_WRITE is raised with its
address. A write to a shadow address stores the shadowed fields alone, in the shadow copy. A register that does
nothing more (an LK register of a disarmed Clasp among them) stores its RW, LK and W1C fields at once and its shadowed
ones in the shadow copy. A locket word of LB3 to LB15 is stored; LB0 to LB2 keep theirs. A word of the DRAM window
joins the line buffer, which takes the line on the page where it is free, and is flushed where that makes it whole;
above the flat space ADDRERR is set. While the clock stands a word waits. (00_scope.md, 15_management_registers.md,
R6, R9, R105, R269, R355, R378, R440, R442) -/
def Obligations.RegisterBus_WritesByAddress : Prop :=
  (∀ (s : State) (addr : BitVec 24) (w : Word), s.live → s.hubRuns = false → s.host.jobs = [] → s.host.reading = none →
    let waits (t : State) : Prop := t.host = { s.host with jobs := [.write addr.toNat w] } ∧ t.on F.SYS_HOSTSTAT_BUSY = true ∧
      t = { s with regs := t.regs, host := t.host }
    Runs (.registerWrite addr w) s waits ∧ Runs (.lkWrite addr w) s waits) ∧
  ∀ (s : State) (addr : BitVec 24) (w : Word), s.live → s.hubRuns = true → s.host.jobs = [] → s.spn.self = [] →
    let a := addr.toNat / 4 * 4
    (a < 0x140000 → regRow? (activeAddr a) = none →
      Runs (.registerWrite addr w) s (fun t => Raised 5 (BitVec.ofNat 32 a) s t ∧ OnlyFields [F.FLT_STAT_LOSTOCC] s t ∧
        t = { s with regs := t.regs, flt := t.flt }) ∧
      Runs (.lkWrite addr w) s fun t => Raised 5 (BitVec.ofNat 32 a) s t) ∧
    (∀ r, a < 0x140000 → activeAddr a = a → regRow? a = some r → lockedRow r = true → s.armed = true →
      Runs (.lkWrite addr w) s (fun t => Raised 131 (BitVec.ofNat 32 a) s t ∧ OnlyFields [F.FLT_STAT_LOSTOCC] s t ∧
        t = { s with regs := t.regs, flt := t.flt }) ∧
      Runs (.registerWrite addr w) s fun t => exec (.lkWrite addr w) s = .next t) ∧
    (∀ r, a < 0x140000 → activeAddr a ≠ a → regRow? (activeAddr a) = some r →
      Runs (.registerWrite addr w) s fun t =>
        t.shadReg (activeAddr a) = (if r.fields.any (·.shadow) then
          writeFields (·.shadow) false r.fields (s.shadReg (activeAddr a)) w else s.shadReg (activeAddr a)) ∧
        (∀ b, b ≠ activeAddr a → t.shadReg b = s.shadReg b) ∧ t = { s with shad := t.shad }) ∧
    (∀ r, writesPlain s a r →
      Runs (.registerWrite addr w) s fun t =>
        t.reg a = writeFields storedNow false r.fields (s.reg a) w ∧ (∀ b, b ≠ a → t.reg b = s.reg b) ∧
        (r.fields.any (·.shadow) = true → t.shadReg a = writeFields (·.shadow) false r.fields (s.shadReg a) w) ∧
        t = { s with regs := t.regs, shad := t.shad }) ∧
    (isleAddr a = true → Runs (.registerWrite addr w) s fun t => Raised 5 (BitVec.ofNat 32 a) s t ∧
      OnlyFields [F.FLT_STAT_LOSTOCC] s t ∧ t = { s with regs := t.regs, flt := t.flt }) ∧
    (0x140000 ≤ a → a < 0x300000 → tableWord a = none → Runs (.registerWrite addr w) s fun t =>
      Raised 5 (BitVec.ofNat 32 a) s t ∧ OnlyFields [F.FLT_STAT_LOSTOCC] s t ∧ t = { s with regs := t.regs, flt := t.flt }) ∧
    (∀ tb mask, 0x140000 ≤ a → a < 0x300000 → tableWord a = some (tb, mask) → Runs (.registerWrite addr w) s fun t =>
      Tab.word t.tabs.back a = w &&& mask ∧ Tab.on t.tabs.dirty tb = true ∧
      (∀ b, b ≠ a → Tab.word t.tabs.back b = Tab.word (s.tableWait tb).tabs.back b) ∧
      (s.tabs.copying.contains tb = false → ∀ b, b ≠ a → Tab.word t.tabs.back b = Tab.word s.tabs.back b) ∧
      t.tabs.front = s.tabs.front ∧ t = { s with tabs := t.tabs }) ∧
    (0x800000 ≤ a →
      let flat := windowFlat (s.fld F.MEM_PAGE_PAGE) a
      let base := flat / 64 * 64
      let old := if s.mem.lineBase = some base then s.mem.lineBuf else List.replicate 64 none
      let buf := (List.range 64).map fun i => if flat % 64 ≤ i ∧ i < flat % 64 + 4
        then some (BitVec.ofNat 8 (w.toNat / 256 ^ (i - flat % 64))) else old.getD i none
      let u : State := { s with mem := { s.mem with lineBase := some base, lineBuf := buf } }
      let v := if s.flatTop ≤ flat then u.setOn F.MEM_HOST_STAT_ADDRERR true else u
      (s.mem.lineBase = none ∨ (s.mem.lineBase = some base ∧ s.mem.lineDue = false ∧ s.mem.lineBuf.length = 64)) →
      Runs (.registerWrite addr w) s fun t => t = if wholeLine buf = true then v.lineFlush else v) ∧
    (0x300000 ≤ a → a < 0x330000 → Runs (.registerWrite addr w) s fun t => t = s) ∧
    (0x330000 ≤ a → a < 0x400000 → Runs (.registerWrite addr w) s fun t => t.locketWord a = w ∧
      (∀ b, b ≠ a → t.locketWord b = s.locketWord b) ∧ t = { s with locket := t.locket })

/-- Where commands act, with the host port at rest, no request to the device itself and no unit that snoops host
writes: while the clock runs, a read of any number of register words gives marker 0xA5 and their values, WO fields as
0, and clears RC fields; of locket words their values; of one unmapped word 0 with its event. A read of one word of
the DRAM window asks Q25 for its line and waits; above the flat space it gives all ones, with ADDRERR and POISON. A
misaligned read gives marker 0xE1 and all ones for each word. A misaligned write, one longer than the free queue and
an unknown opcode change only the error code, its count and event; the opcode of a command is none (log entry 107). A
write of one word does what the bus does with it, one of several to plain registers stores each. While the clock
stands an access waits. RDSR gives SYS_HOSTSTAT as it is then. A timeout ends a read with 0xE1 and keeps its access
(log entry 103). In DEEP every host command acts as wake source 1. (15_management_registers.md, R269, R363, R374,
R431, R432, R433, R434, R435, R436, R440) -/
def Obligations.HostPort_CommandsAnswered : Prop :=
  (∀ s : State, s.live → s.hostIdle → s.spn.self = [] → (∀ n, n < 8 → s.chkSnoops 14 n = false) →
    let shown : List Fld := [F.SYS_HOSTSTAT_BUSY, F.SYS_HOSTSTAT_FREE]
    let failed (code : Nat) (t : State) : Prop := t.fld F.SYS_HOSTSTAT_LASTERR = code ∧
      t.fld F.SYS_HOSTSTAT_ERRCNT = min 255 (s.fld F.SYS_HOSTSTAT_ERRCNT + 1) ∧ Raised 4 (BitVec.ofNat 32 code) s t ∧
      OnlyFields (F.SYS_HOSTSTAT_LASTERR :: F.SYS_HOSTSTAT_ERRCNT :: F.FLT_STAT_LOSTOCC :: shown) s t
    (∀ (addr : BitVec 24) (count : Byte) (rows : List RegRow), s.hubRuns = true → addr.toNat % 4 = 0 →
      rows.length = countWords count.toNat → (∀ i r, rows[i]? = some r → readsPlain (addr.toNat + 4 * i) r) →
      let answered (t : State) : Prop := t.host.marker = 0xA5 ∧ t.host.words.length = rows.length ∧ t.host.reading = none ∧
        (∀ i r, rows[i]? = some r →
          t.host.words[i]? = some (readFields r.fields (s.reg (addr.toNat + 4 * i))) ∧
          t.reg (addr.toNat + 4 * i) = (if r.fields.any (·.acc == .rc) then clearRC r.fields (s.reg (addr.toNat + 4 * i))
            else s.reg (addr.toNat + 4 * i))) ∧
        (∀ b, (∀ i, i < rows.length → b ≠ addr.toNat + 4 * i) → b ≠ R.SYS_HOSTSTAT → t.reg b = s.reg b) ∧
        t = { s with regs := t.regs, host := t.host }
      Runs (.hostRd addr count false) s answered ∧ Runs (.qrd addr count false) s answered) ∧
    (∀ (addr : BitVec 24) (count : Byte), s.hubRuns = true → addr.toNat % 4 = 0 → 0x300000 ≤ addr.toNat →
      addr.toNat + 4 * countWords count.toNat ≤ 0x400000 → Runs (.hostRd addr count false) s fun t => t.host.marker = 0xA5 ∧
        t.host.words = (List.range (countWords count.toNat)).map (fun i => s.locketWord (addr.toNat + 4 * i)) ∧
        t.host.reading = none ∧ OnlyFields shown s t ∧ t = { s with regs := t.regs, host := t.host }) ∧
    (∀ addr : BitVec 24, s.hubRuns = true → addr.toNat % 4 = 0 → addr.toNat < 0x140000 →
      regRow? (activeAddr addr.toNat) = none →
      Runs (.hostRd addr 0 false) s fun t => t.host.marker = 0xA5 ∧ t.host.words = [0] ∧
        Raised 5 (BitVec.ofNat 32 addr.toNat) s t) ∧
    (∀ addr : BitVec 24, s.hubRuns = true → addr.toNat % 4 = 0 → 0x800000 ≤ addr.toNat →
      let flat := windowFlat (s.fld F.MEM_PAGE_PAGE) addr.toNat
      (flat < s.flatTop → s.queueRoom 25 = true → Runs (.hostRd addr 0 false) s fun t =>
        t.host = { s.host with reading := some ⟨[], addr.toNat, 1, false, true⟩ } ∧ t.on F.SYS_HOSTSTAT_BUSY = true ∧
        Tab.lst t.mem.queues 25 = Tab.lst s.mem.queues 25 ++ [⟨false, flat / 64 * 64, [], 0⟩] ∧ OnlyFields shown s t) ∧
      (s.flatTop ≤ flat → Runs (.hostRd addr 0 false) s fun t => t.host.marker = 0xA5 ∧ t.host.words = [0xFFFFFFFF] ∧
        t.on F.MEM_HOST_STAT_ADDRERR = true ∧ t.on F.MEM_HOST_STAT_POISON = true ∧ t.host.reading = none)) ∧
    (∀ (addr : BitVec 24) (count : Byte), s.hubRuns = false → addr.toNat % 4 = 0 → Runs (.hostRd addr count false) s fun t =>
      t.host = { s.host with reading := some ⟨[], addr.toNat, countWords count.toNat, false, false⟩ } ∧
      t.on F.SYS_HOSTSTAT_BUSY = true ∧ OnlyFields shown s t) ∧
    (∀ (addr : BitVec 24) (count : Byte), addr.toNat % 4 ≠ 0 →
      let refused (t : State) : Prop := failed 2 t ∧ t.host.marker = 0xE1 ∧
        t.host.words = List.replicate (count.toNat % 16 + 1) 0xFFFFFFFF ∧ t.host.reading = none
      Runs (.hostRd addr count false) s refused ∧ Runs (.qrd addr count false) s refused) ∧
    (∀ (addr : BitVec 24) (count : Byte) (ws : List Word) cut, addr.toNat % 4 ≠ 0 →
      Runs (.hostWr addr count ws cut) s (fun t => failed 2 t ∧ t.host = s.host) ∧
      Runs (.qwr addr count ws cut) s fun t => failed 2 t ∧ t.host = s.host) ∧
    (∀ (addr : BitVec 24) (w : Word), addr.toNat % 4 = 0 → s.hostCan addr.toNat = true →
      (isleAddr addr.toNat && s.isleDark addr.toNat) = false →
      let u := s.wordWrite addr.toNat w
      u.host.jobs = [] → u.host.reading = none → (∀ n, n < 8 → u.chkSnoops 14 n = false) →
      let done (t : State) : Prop := OnlyFields shown u t ∧ t = { u with regs := t.regs }
      Runs (.hostWr addr 0 [w] false) s done ∧ Runs (.qwr addr 0 [w] false) s done) ∧
    (∀ (addr : BitVec 24) (count : Byte) (ws : List Word) (rows : List RegRow), s.hubRuns = true → addr.toNat % 4 = 0 →
      ws.length = countWords count.toNat → rows.length = ws.length →
      (∀ i r, rows[i]? = some r → writesPlain s (addr.toNat + 4 * i) r ∧ addr.toNat + 4 * i ≠ R.SYS_HOSTSTAT) →
      let stored (t : State) : Prop := t.host = s.host ∧
        (∀ i r w, rows[i]? = some r → ws[i]? = some w →
          t.reg (addr.toNat + 4 * i) = writeFields storedNow false r.fields (s.reg (addr.toNat + 4 * i)) w ∧
          (r.fields.any (·.shadow) = true → t.shadReg (addr.toNat + 4 * i) =
            writeFields (·.shadow) false r.fields (s.shadReg (addr.toNat + 4 * i)) w)) ∧
        (∀ b, (∀ i, i < ws.length → b ≠ addr.toNat + 4 * i) → b ≠ R.SYS_HOSTSTAT →
          t.reg b = s.reg b ∧ t.shadReg b = s.shadReg b) ∧
        t = { s with regs := t.regs, shad := t.shad }
      Runs (.hostWr addr count ws false) s stored ∧ Runs (.qwr addr count ws false) s stored) ∧
    (∀ (addr : BitVec 24) (w : Word), s.hubRuns = false → addr.toNat % 4 = 0 → Runs (.hostWr addr 0 [w] false) s fun t =>
      t.host = { s.host with jobs := [.write addr.toNat w] } ∧ t.on F.SYS_HOSTSTAT_BUSY = true ∧
      t.fld F.SYS_HOSTSTAT_FREE = 15 ∧ OnlyFields shown s t) ∧
    Runs .rdsr s (fun t => t.host = { s.host with status := t.reg R.SYS_HOSTSTAT } ∧ t.on F.SYS_HOSTSTAT_BUSY = false ∧
      t.fld F.SYS_HOSTSTAT_FREE = 16 ∧ OnlyFields shown s t ∧ t = { s with regs := t.regs, host := t.host }) ∧
    (∀ op : Byte, op.toNat ∈ [0x03, 0x02, 0xEB, 0x38, 0x05] → Runs (.hostUnknownOpcode op) s fun t =>
      OnlyFields shown s t ∧ t = { s with regs := t.regs }) ∧
    (∀ op : Byte, op.toNat ∉ [0x03, 0x02, 0xEB, 0x38, 0x05] → Runs (.hostUnknownOpcode op) s fun t =>
      failed 3 t ∧ t.host = s.host) ∧
    Runs .hostReadTimeout s (fun t => t = s)) ∧
  (∀ (s : State) (addr : BitVec 24) (count : Byte) (ws : List Word) cut (a : Nat) (w : Word) rest, s.live →
    s.host.reading = none → s.host.jobs = .write a w :: rest → s.hostCan a = false → addr.toNat % 4 = 0 →
    s.hostFree < count.toNat % 16 + 1 → (∀ n, n < 8 → s.chkSnoops 14 n = false) →
    Runs (.hostWr addr count ws cut) s fun t => t.fld F.SYS_HOSTSTAT_LASTERR = 1 ∧ t.host = s.host ∧ Raised 4 1 s t ∧
      t.on F.SYS_HOSTSTAT_BUSY = true) ∧
  (∀ (s : State) (r : HostRead), s.live → s.host.reading = some r → r.left = 1 → r.asked = true → 0x800000 ≤ r.addr →
    windowFlat (s.fld F.MEM_PAGE_PAGE) r.addr < s.flatTop →
    Runs .hostReadTimeout s fun t => t.host.marker = 0xE1 ∧ t.host.reading = none ∧ t.host.jobs = .dropped r :: s.host.jobs ∧
      t.host.words = List.replicate (r.got.length + 1) 0xFFFFFFFF ∧ t.fld F.SYS_HOSTSTAT_LASTERR = 5 ∧ Raised 4 5 s t) ∧
  (∀ (s : State) (c : Instr), s.inReset = false → s.pwr.deep = true →
    ((∃ a n cut, c = .hostRd a n cut ∨ c = .qrd a n cut) ∨ (∃ a n ws cut, c = .hostWr a n ws cut ∨ c = .qwr a n ws cut) ∨
      c = .rdsr ∨ ∃ op, c = .hostUnknownOpcode op) → exec c s = exec (.wakeSource 1 0) s)

/-- Where commands act, with no unit that snoops the flash: a write of SYS_FLCMD stores its plain fields and clears
ERR where a 1 is written; GO has no effect while BUSY is set, sets ERR with ALEN 3, and otherwise sets BUSY and, with
the master free, ready and SFDP known, starts the transfer. The end of a reading transfer delivers its bytes to
SYS_FLDATA and clears BUSY; with POLL set status reads follow. Each of them ends the command when the flash is ready,
or with ERR and EV_SYS_FLASH_ERR after four seconds. An SFDP read without its signature sets NOSFDP. With no transfer
its end and a poll change nothing. (15_management_registers.md, R379, R381, R445, R446, R447, R448) -/
def Obligations.Flash_CommandsAndTransfers : Prop :=
  ∀ s : State, s.live → (∀ n, n < 8 → s.chkSnoops 13 n = false) →
    let stored (w : Word) (t : State) : Prop := t.fld F.SYS_FLCMD_POLL = F.SYS_FLCMD_POLL.of w ∧
      t.fld F.SYS_FLCMD_DIR = F.SYS_FLCMD_DIR.of w ∧ t.fld F.SYS_FLCMD_QUAD = F.SYS_FLCMD_QUAD.of w ∧
      t.fld F.SYS_FLCMD_ALEN = F.SYS_FLCMD_ALEN.of w ∧ t.fld F.SYS_FLCMD_DUMMY = F.SYS_FLCMD_DUMMY.of w ∧
      t.fld F.SYS_FLCMD_LEN = F.SYS_FLCMD_LEN.of w ∧ t.fld F.SYS_FLCMD_OP = F.SYS_FLCMD_OP.of w ∧
      (∀ a, a ≠ R.SYS_FLCMD → t.reg a = s.reg a)
    (∀ w : Word, (F.SYS_FLCMD_GO.of w = 0 ∨ s.on F.SYS_FLCMD_BUSY = true) → Runs (.flcmdGo w) s fun t => stored w t ∧
      t.on F.SYS_FLCMD_BUSY = s.on F.SYS_FLCMD_BUSY ∧
      t.on F.SYS_FLCMD_ERR = (s.on F.SYS_FLCMD_ERR && F.SYS_FLCMD_ERR.of w == 0) ∧ t = { s with regs := t.regs }) ∧
    (∀ w : Word, F.SYS_FLCMD_GO.of w = 1 → s.on F.SYS_FLCMD_BUSY = false → F.SYS_FLCMD_ALEN.of w = 3 →
      Runs (.flcmdGo w) s fun t => stored w t ∧ t.on F.SYS_FLCMD_ERR = true ∧ t.on F.SYS_FLCMD_BUSY = false ∧
        t = { s with regs := t.regs }) ∧
    (∀ w : Word, F.SYS_FLCMD_GO.of w = 1 → s.on F.SYS_FLCMD_BUSY = false → F.SYS_FLCMD_ALEN.of w ≠ 3 →
      Runs (.flcmdGo w) s fun t => stored w t ∧ t.on F.SYS_FLCMD_BUSY = true ∧
        (s.flash.running = none → s.flash.waiting = [] → s.flash.parsed = true → s.stopping 2 = false →
          Tab.num s.clk.want 1 ≠ 0 → t.flash.running = some .host ∧ t.flash.waiting = []) ∧
        (s.flash.running ≠ none → t.flash.running = s.flash.running ∧ t.flash.waiting = s.flash.waiting ++ [.host])) ∧
    (∀ data, (s.flash.running = none ∨ s.flash.running = some .fetch ∨ s.flash.running = some .poll) →
      Runs (.flashTransferDone data) s fun t => t = s) ∧
    (∀ data, s.flash.running = some .host → s.flash.waiting = [] → s.on F.SYS_FLCMD_DIR = false → data.length ≤ s.flLen →
      Runs (.flashTransferDone data) s fun t =>
        (∀ i, i < data.length → bits (8 * (i % 4) + 7) (8 * (i % 4)) (t.reg (R.SYS_FLDATAk (i / 4))).toNat = byteOf data i) ∧
        (∀ k, data.length ≤ 4 * k → t.reg (R.SYS_FLDATAk k) = s.reg (R.SYS_FLDATAk k)) ∧
        (s.on F.SYS_FLCMD_POLL = true → t.flash.running = some .poll ∧ t.on F.SYS_FLCMD_BUSY = s.on F.SYS_FLCMD_BUSY) ∧
        (s.on F.SYS_FLCMD_POLL = false → t.flash.running = none ∧ t.on F.SYS_FLCMD_BUSY = false)) ∧
    (∀ data, s.flash.running = some .sfdp → s.flash.waiting = [] → leAt data 0 4 ≠ 0x50444653 →
      Runs (.flashTransferDone data) s fun t => t.flash.parsed = true ∧ t.flash.running = none ∧
        t.on F.SYS_FLCFG_NOSFDP = true ∧ t.on F.SYS_FLCFG_QUAD = false ∧ t.on F.SYS_FLCFG_ADDR4 = false ∧
        t.flash.readOp = 3 ∧ Raised 6 0 s t) ∧
    (∀ data n, 3 ≤ n → n < 16 → s.flash.running = some (.locket n) → s.flash.waiting = [] → data.length = 65536 →
      s.lockShadow n + 65536 ≤ 0x1000000 → Runs (.flashTransferDone data) s fun t =>
        (∀ i, i < 16384 → (t.locketWord (lockBase n + 4 * i)).toNat = leAt data (4 * i) 4) ∧
        Tab.on t.pwr.lostBanks n = false ∧ t.flash.running = none) ∧
    (∀ busy late, s.flash.running ≠ some .poll → Runs (.flashPoll busy late) s fun t => t = s) ∧
    (s.flash.running = some .poll → s.flash.waiting = [] →
      (∀ late, Runs (.flashPoll false late) s fun t => t.flash.running = none ∧ t.on F.SYS_FLCMD_BUSY = false ∧
        t.on F.SYS_FLCMD_ERR = s.on F.SYS_FLCMD_ERR) ∧
      (Runs (.flashPoll true false) s fun t => t = { s with freeCtr := s.freeCtr + 1 }) ∧
      (Runs (.flashPoll true true) s fun t => t.flash.running = none ∧ t.on F.SYS_FLCMD_BUSY = false ∧
        t.on F.SYS_FLCMD_ERR = true ∧ Raised 6 (s.reg R.SYS_FLADDR) s t))

/-- For every state and command: with the command at the front of the queue, step answers what exec answers for it in
the same state with the rest of the queue. With an empty queue step answers the next state of one REF cycle of the
system time, the model's choice of log entries 7 and 135: outside reset and DEEP the system time advances, the links
count the cycle and the input writer takes what waits in the receive queues, and in them nothing happens.
(95_what_each_step_holds.md, R315) -/
def Obligations.Step_TakesTheFrontCommand : Prop :=
  (∀ (s : State) (c : Instr) (rest : List Instr), s.pending = c :: rest → step s = exec c { s with pending := rest }) ∧
  (∀ s : State, s.pending = [] → step s = .next (idleCycle s)) ∧
  (∀ s : State, (s.inReset = true ∨ s.pwr.deep = true) → idleCycle s = s) ∧
  (∀ s : State, s.live → idleCycle s =
    ({ s.timeTick with lnk := { s.lnk with cycle := s.lnk.cycle + 1 } }).writerTakeAll)

/-- RESET_N low for fewer than 125 CLS cycles changes nothing; from 125 on every active and shadow register takes its
reset word, no event pends, memory and tables list nothing and RESET_N is held; with SHUT set SHUT stays and its
blocks stay gated. INTERNAL_POR does the same and also ends the shutdown. RESET_RELEASE outside reset changes nothing;
in reset it samples straps and fuses, and a worker has address 0xFFF and starts in HOLD. While RESET_N is held every
other command changes nothing, and in DEEP every one but reset, wake sources and host commands. State.reset has the
reset words, and in reset the output pins stand as R453 lists them (State.pin, log entry 146). That a release must
come first is the model's reading, log entry 1. (16_package_startup.md, 00_scope.md, R10, R386, R453, R454, R460,
R462, R463, R464, R370) -/
def Obligations.Reset_HoldsReleasesAndRestores : Prop :=
  (∀ (s : State) (n : Nat), n < 125 → Runs (.resetAssert n) s fun t => t = s) ∧
  (∀ (s : State) (n : Nat), 125 ≤ n → Runs (.resetAssert n) s fun t => t.inReset = true ∧ t.pending = s.pending ∧
    t.on F.THM_STAT_SHUT = s.on F.THM_STAT_SHUT ∧ (∀ a, t.shadReg a = resetWord a) ∧ t.mem.cells = [] ∧ t.conf.secs = [] ∧
    (∀ i, t.events i = []) ∧ t.tabs = State.reset.tabs ∧
    (s.on F.THM_STAT_SHUT = false → ∀ a, t.reg a = resetWord a) ∧
    (s.on F.THM_STAT_SHUT = true → OnlyFields [F.THM_STAT_SHUT, F.CLK_GSTAT_GATED] State.reset t ∧
      ∀ b ∈ [4, 5, 6, 11, 13, 14, 15, 16], t.isGated b = true)) ∧
  (∀ s : State, Runs .internalPor s fun t => t.inReset = true ∧ t.pending = s.pending ∧ (∀ a, t.reg a = resetWord a) ∧
    (∀ a, t.shadReg a = resetWord a) ∧ t.on F.THM_STAT_SHUT = false ∧ t.mem.cells = [] ∧ t.conf.secs = []) ∧
  (∀ (s : State) (c : Instr), (c = .internalPor ∨ ∃ n, 125 ≤ n ∧ c = .resetAssert n) → Runs c s fun t =>
    t.pin .faultN = .released ∧ t.pin .hostIrqN = .released ∧ t.pin .safeOutA = .low ∧ t.pin .safeOutB = .high ∧
    t.pin .hostIo = .released ∧ t.pin .flashCs = .high ∧ t.pin .flashSck = .low ∧ t.pin .flashIo = .released ∧
    (∀ b, t.pin (.pmbus b) = .released ∧ t.pin (.dramReset b) = .low ∧ t.pin (.dramCke b) = .low) ∧
    (∀ p, t.pin (.chain p) = .low) ∧ ∀ p, t.pin (.linkTx p) = .released) ∧
  (∀ (s : State) (x : Straps), s.inReset = false → Runs (.resetRelease x) s fun t => t = s) ∧
  (∀ (s : State) (x : Straps), s.inReset = true → Runs (.resetRelease x) s fun t => t.inReset = false ∧
    t.ldr.mgr = x.mgr ∧ t.ldr.bootSrc = x.bootsrc.toNat ∧ t.ldr.sec = x.sec ∧ t.ldr.keyHash = x.keyHash ∧
    t.ldr.test = (x.testmode && x.testUnlock) ∧ t.on F.SPN_STAT_MGR = x.mgr ∧ t.on F.SPN_STAT_ADDR_VALID = x.mgr ∧
    (x.mgr = false → t.fld F.SPN_STAT_ADDR = 0xFFF ∧ t.fld F.SPN_TSTAT_STATE = 3) ∧
    (x.mgr = true → t.fld F.SPN_STAT_ADDR = s.fld F.SPN_STAT_ADDR ∧ t.fld F.SPN_TSTAT_STATE = s.fld F.SPN_TSTAT_STATE) ∧
    (∀ (d : Nat) (w : Word), d < 3 → x.diodes[d]? = some w → t.reg (R.ADC_DIODEd d) = w) ∧
    OnlyFields [F.SPN_STAT_MGR, F.SPN_STAT_ADDR_VALID, F.SPN_STAT_ADDR, F.SPN_TSTAT_STATE, F.ADC_DIODEd_D0 0, F.ADC_DIODEd_DS 0, F.ADC_DIODEd_D0 1,
      F.ADC_DIODEd_DS 1, F.ADC_DIODEd_D0 2, F.ADC_DIODEd_DS 2] s t ∧
    t = { s with regs := t.regs, inReset := false, ldr := t.ldr }) ∧
  (∀ (s : State) (c : Instr), s.inReset = true → (∀ x, c ≠ .resetRelease x) → (∀ n, c ≠ .resetAssert n) →
    c ≠ .internalPor → exec c s = .next s) ∧
  (∀ (s : State) (c : Instr), s.inReset = false → s.pwr.deep = true → (∀ n, c ≠ .resetAssert n) → c ≠ .internalPor →
    (∀ k l, c ≠ .wakeSource k l) → (∀ a n cut, c ≠ .hostRd a n cut ∧ c ≠ .qrd a n cut) →
    (∀ a n ws cut, c ≠ .hostWr a n ws cut ∧ c ≠ .qwr a n ws cut) → c ≠ .rdsr → (∀ op, c ≠ .hostUnknownOpcode op) →
    exec c s = .next s) ∧
  (∀ a, State.reset.reg a = resetWord a ∧ State.reset.shadReg a = resetWord a) ∧
  State.reset.fld F.SYS_ID_PART = 0x1048 ∧ State.reset.fld F.SYS_HOSTSTAT_FREE = 16 ∧
  State.reset.fld F.CLS_STAT_STATE = 0 ∧ State.reset.fld F.DIA_CTRL_AGE_LIM = 64 ∧ State.reset.pending = []

/-- In State.reset the active and the shadow registers, the DRAM contents and the copies of the tables are in
canonical form, no event source has more than fifteen occurrences pending, and no command waits. (00_scope.md,
08_frame_memory.md, 14_checks_faults_log.md, R10, R417, R463) -/
def Obligations.Invariants_HoldAfterReset : Prop :=
  State.reset.regsCanonical ∧ State.reset.mem.wf ∧ State.reset.tablesCanonical ∧ State.reset.eventsBounded ∧
  State.reset.pending = []

/-- For every state in which the active and shadow registers, the DRAM contents and the table copies are in canonical
form (keys rise, no word equal to what an unlisted one reads as) and no event source has more than fifteen occurrences
pending: if a step, of any command with any operands or of the empty queue, answers a next state, that state is so
too. The canonical forms are the model's own; the bound of fifteen is that of R417. (00_scope.md, 08_frame_memory.md,
14_checks_faults_log.md, R8, R417) -/
def Obligations.Steps_KeepTheInvariants : Prop :=
  ∀ s t : State, s.regsCanonical → s.mem.wf → s.tablesCanonical → s.eventsBounded → step s = .next t →
    t.regsCanonical ∧ t.mem.wf ∧ t.tablesCanonical ∧ t.eventsBounded
end

