-- ==== Sys2Proof/Laws/Fld.lean ====
section
/-! SUPPORT. What bit fields read after a field is replaced, bit by bit and field by field. -/

namespace Sys2Proof.Machine

theorem testBit_bits (msb lsb n i : Nat) :
    (bits msb lsb n).testBit i = (decide (i < msb + 1 - lsb) && n.testBit (lsb + i)) := by
  simp [bits, Nat.testBit_mod_two_pow, Nat.testBit_div_two_pow, Nat.add_comm]

theorem Fld.of_lt (f : Fld) (w : Word) : f.of w < 2 ^ (f.msb + 1 - f.lsb) := Nat.mod_lt _ (Nat.two_pow_pos _)

theorem Fld.of_le_max (f : Fld) (w : Word) : f.of w ≤ f.max := Nat.le_sub_one_of_lt (f.of_lt w)

/-- Each bit of a word after a field is replaced. -/
theorem Fld.testBit_put {f : Fld} (h : f.ok) (w : Word) (v i : Nat) :
    (f.put w v).toNat.testBit i =
      if f.lsb ≤ i ∧ i ≤ f.msb then v.testBit (i - f.lsb) else w.toNat.testBit i := by
  obtain ⟨h1, h2⟩ := h
  have hl : w.toNat % 2 ^ f.lsb < 2 ^ f.lsb := Nat.mod_lt _ (Nat.two_pow_pos _)
  have hx : v % 2 ^ (f.msb + 1 - f.lsb) < 2 ^ (f.msb + 1 - f.lsb) := Nat.mod_lt _ (Nat.two_pow_pos _)
  have hp : 2 ^ (f.msb + 1) = 2 ^ f.lsb * 2 ^ (f.msb + 1 - f.lsb) := by rw [← Nat.pow_add]; congr 1; omega
  have hin : 2 ^ f.lsb * (v % 2 ^ (f.msb + 1 - f.lsb)) + w.toNat % 2 ^ f.lsb < 2 ^ (f.msb + 1) := by
    rw [hp]
    calc _ < 2 ^ f.lsb * (v % 2 ^ (f.msb + 1 - f.lsb)) + 2 ^ f.lsb := by omega
      _ = 2 ^ f.lsb * (v % 2 ^ (f.msb + 1 - f.lsb) + 1) := by ring
      _ ≤ _ := Nat.mul_le_mul_left _ hx
  have hw := w.isLt
  have e32 : 2 ^ 32 = 2 ^ (f.msb + 1) * 2 ^ (31 - f.msb) := by rw [← Nat.pow_add]; congr 1; omega
  have hhi : w.toNat / 2 ^ (f.msb + 1) < 2 ^ (31 - f.msb) :=
    Nat.div_lt_of_lt_mul (lt_of_lt_of_eq hw e32)
  have hN : 2 ^ (f.msb + 1) * (w.toNat / 2 ^ (f.msb + 1)) +
      (2 ^ f.lsb * (v % 2 ^ (f.msb + 1 - f.lsb)) + w.toNat % 2 ^ f.lsb) < 2 ^ 32 := by
    rw [e32]
    calc _ < 2 ^ (f.msb + 1) * (w.toNat / 2 ^ (f.msb + 1)) + 2 ^ (f.msb + 1) := by omega
      _ = 2 ^ (f.msb + 1) * (w.toNat / 2 ^ (f.msb + 1) + 1) := by ring
      _ ≤ _ := Nat.mul_le_mul_left _ hhi
  have e : (f.put w v).toNat = 2 ^ (f.msb + 1) * (w.toNat / 2 ^ (f.msb + 1)) +
      (2 ^ f.lsb * (v % 2 ^ (f.msb + 1 - f.lsb)) + w.toNat % 2 ^ f.lsb) := by
    unfold Fld.put
    rw [BitVec.toNat_ofNat, Nat.mul_comm (w.toNat / _), Nat.mul_comm (v % _), Nat.add_assoc]
    exact Nat.mod_eq_of_lt hN
  rw [e, Nat.testBit_two_pow_mul_add _ hin, Nat.testBit_two_pow_mul_add _ hl]
  simp only [Nat.testBit_mod_two_pow, Nat.testBit_div_two_pow]
  by_cases c1 : i < f.msb + 1
  · by_cases c2 : i < f.lsb
    · simp [c1, c2, Nat.not_le.2 c2]
    · have c3 : f.lsb ≤ i := Nat.le_of_not_lt c2
      have c4 : i ≤ f.msb := Nat.le_of_lt_succ c1
      have c5 : i - f.lsb < f.msb + 1 - f.lsb := by omega
      simp [c1, c2, c3, c4, c5]
  · have c4 : ¬ i ≤ f.msb := by omega
    have c6 : i - (f.msb + 1) + (f.msb + 1) = i := by omega
    simp [c1, c4, c6]

/-- A field reads the value it was given, cut to its width. -/
theorem Fld.of_put_same {f : Fld} (h : f.ok) (w : Word) (v : Nat) :
    f.of (f.put w v) = v % 2 ^ (f.msb + 1 - f.lsb) := by
  apply Nat.eq_of_testBit_eq
  intro i
  have h1 := h.1
  rw [Fld.of, testBit_bits, Fld.testBit_put h, Nat.testBit_mod_two_pow]
  by_cases c : i < f.msb + 1 - f.lsb
  · have c1 : f.lsb + i ≤ f.msb := by omega
    simp [c, c1]
  · simp [c]

/-- A field that shares no bit with the one replaced reads as before. -/
theorem Fld.of_put_apart {f g : Fld} (hf : f.ok) (h : f.msb < g.lsb ∨ g.msb < f.lsb) (w : Word) (v : Nat) :
    g.of (f.put w v) = g.of w := by
  apply Nat.eq_of_testBit_eq
  intro i
  rw [Fld.of, Fld.of, testBit_bits, testBit_bits, Fld.testBit_put hf]
  by_cases c : i < g.msb + 1 - g.lsb
  · have c1 : ¬ (f.lsb ≤ g.lsb + i ∧ g.lsb + i ≤ f.msb) := by omega
    rw [if_neg c1]
  · simp [c]

end Sys2Proof.Machine
end

