-- ==== Sys2Proof/Laws/State.lean ====
section
/-! SUPPORT. What the plain updates of a state leave: one lemma for each update and each field that it does not touch, and
one for the field that it sets. -/

namespace Sys2Proof.Machine

variable (s : State)

/-! ### setReg -/

@[simp] theorem State.setReg_pending (a : Nat) (w : Word) : (s.setReg a w).pending = s.pending := rfl
@[simp] theorem State.setReg_inReset (a : Nat) (w : Word) : (s.setReg a w).inReset = s.inReset := rfl
@[simp] theorem State.setReg_freeCtr (a : Nat) (w : Word) : (s.setReg a w).freeCtr = s.freeCtr := rfl
@[simp] theorem State.setReg_shad (a : Nat) (w : Word) : (s.setReg a w).shad = s.shad := rfl
@[simp] theorem State.setReg_flt (a : Nat) (w : Word) : (s.setReg a w).flt = s.flt := rfl
@[simp] theorem State.setReg_log (a : Nat) (w : Word) : (s.setReg a w).log = s.log := rfl
@[simp] theorem State.setReg_host (a : Nat) (w : Word) : (s.setReg a w).host = s.host := rfl
@[simp] theorem State.setReg_flash (a : Nat) (w : Word) : (s.setReg a w).flash = s.flash := rfl
@[simp] theorem State.setReg_chk (a : Nat) (w : Word) : (s.setReg a w).chk = s.chk := rfl
@[simp] theorem State.setReg_mem (a : Nat) (w : Word) : (s.setReg a w).mem = s.mem := rfl
@[simp] theorem State.setReg_tabs (a : Nat) (w : Word) : (s.setReg a w).tabs = s.tabs := rfl
@[simp] theorem State.setReg_ldr (a : Nat) (w : Word) : (s.setReg a w).ldr = s.ldr := rfl
@[simp] theorem State.setReg_conf (a : Nat) (w : Word) : (s.setReg a w).conf = s.conf := rfl
@[simp] theorem State.setReg_locket (a : Nat) (w : Word) : (s.setReg a w).locket = s.locket := rfl
@[simp] theorem State.setReg_strait (a : Nat) (w : Word) : (s.setReg a w).strait = s.strait := rfl
@[simp] theorem State.setReg_pix (a : Nat) (w : Word) : (s.setReg a w).pix = s.pix := rfl
@[simp] theorem State.setReg_cor (a : Nat) (w : Word) : (s.setReg a w).cor = s.cor := rfl
@[simp] theorem State.setReg_tim (a : Nat) (w : Word) : (s.setReg a w).tim = s.tim := rfl
@[simp] theorem State.setReg_chn (a : Nat) (w : Word) : (s.setReg a w).chn = s.chn := rfl
@[simp] theorem State.setReg_diag (a : Nat) (w : Word) : (s.setReg a w).diag = s.diag := rfl
@[simp] theorem State.setReg_pmb (a : Nat) (w : Word) : (s.setReg a w).pmb = s.pmb := rfl
@[simp] theorem State.setReg_clasp (a : Nat) (w : Word) : (s.setReg a w).clasp = s.clasp := rfl
@[simp] theorem State.setReg_lnk (a : Nat) (w : Word) : (s.setReg a w).lnk = s.lnk := rfl
@[simp] theorem State.setReg_spn (a : Nat) (w : Word) : (s.setReg a w).spn = s.spn := rfl
@[simp] theorem State.setReg_clk (a : Nat) (w : Word) : (s.setReg a w).clk = s.clk := rfl
@[simp] theorem State.setReg_pwr (a : Nat) (w : Word) : (s.setReg a w).pwr = s.pwr := rfl
@[simp] theorem State.setReg_therm (a : Nat) (w : Word) : (s.setReg a w).therm = s.therm := rfl
@[simp] theorem State.setReg_adc (a : Nat) (w : Word) : (s.setReg a w).adc = s.adc := rfl
@[simp] theorem State.setReg_cal (a : Nat) (w : Word) : (s.setReg a w).cal = s.cal := rfl

/-! ### setShad -/

@[simp] theorem State.setShad_pending (a : Nat) (w : Word) : (s.setShad a w).pending = s.pending := rfl
@[simp] theorem State.setShad_inReset (a : Nat) (w : Word) : (s.setShad a w).inReset = s.inReset := rfl
@[simp] theorem State.setShad_freeCtr (a : Nat) (w : Word) : (s.setShad a w).freeCtr = s.freeCtr := rfl
@[simp] theorem State.setShad_regs (a : Nat) (w : Word) : (s.setShad a w).regs = s.regs := rfl
@[simp] theorem State.setShad_flt (a : Nat) (w : Word) : (s.setShad a w).flt = s.flt := rfl
@[simp] theorem State.setShad_log (a : Nat) (w : Word) : (s.setShad a w).log = s.log := rfl
@[simp] theorem State.setShad_host (a : Nat) (w : Word) : (s.setShad a w).host = s.host := rfl
@[simp] theorem State.setShad_flash (a : Nat) (w : Word) : (s.setShad a w).flash = s.flash := rfl
@[simp] theorem State.setShad_chk (a : Nat) (w : Word) : (s.setShad a w).chk = s.chk := rfl
@[simp] theorem State.setShad_mem (a : Nat) (w : Word) : (s.setShad a w).mem = s.mem := rfl
@[simp] theorem State.setShad_tabs (a : Nat) (w : Word) : (s.setShad a w).tabs = s.tabs := rfl
@[simp] theorem State.setShad_ldr (a : Nat) (w : Word) : (s.setShad a w).ldr = s.ldr := rfl
@[simp] theorem State.setShad_conf (a : Nat) (w : Word) : (s.setShad a w).conf = s.conf := rfl
@[simp] theorem State.setShad_locket (a : Nat) (w : Word) : (s.setShad a w).locket = s.locket := rfl
@[simp] theorem State.setShad_strait (a : Nat) (w : Word) : (s.setShad a w).strait = s.strait := rfl
@[simp] theorem State.setShad_pix (a : Nat) (w : Word) : (s.setShad a w).pix = s.pix := rfl
@[simp] theorem State.setShad_cor (a : Nat) (w : Word) : (s.setShad a w).cor = s.cor := rfl
@[simp] theorem State.setShad_tim (a : Nat) (w : Word) : (s.setShad a w).tim = s.tim := rfl
@[simp] theorem State.setShad_chn (a : Nat) (w : Word) : (s.setShad a w).chn = s.chn := rfl
@[simp] theorem State.setShad_diag (a : Nat) (w : Word) : (s.setShad a w).diag = s.diag := rfl
@[simp] theorem State.setShad_pmb (a : Nat) (w : Word) : (s.setShad a w).pmb = s.pmb := rfl
@[simp] theorem State.setShad_clasp (a : Nat) (w : Word) : (s.setShad a w).clasp = s.clasp := rfl
@[simp] theorem State.setShad_lnk (a : Nat) (w : Word) : (s.setShad a w).lnk = s.lnk := rfl
@[simp] theorem State.setShad_spn (a : Nat) (w : Word) : (s.setShad a w).spn = s.spn := rfl
@[simp] theorem State.setShad_clk (a : Nat) (w : Word) : (s.setShad a w).clk = s.clk := rfl
@[simp] theorem State.setShad_pwr (a : Nat) (w : Word) : (s.setShad a w).pwr = s.pwr := rfl
@[simp] theorem State.setShad_therm (a : Nat) (w : Word) : (s.setShad a w).therm = s.therm := rfl
@[simp] theorem State.setShad_adc (a : Nat) (w : Word) : (s.setShad a w).adc = s.adc := rfl
@[simp] theorem State.setShad_cal (a : Nat) (w : Word) : (s.setShad a w).cal = s.cal := rfl

/-! ### setFld -/

@[simp] theorem State.setFld_pending (f : Fld) (v : Nat) : (s.setFld f v).pending = s.pending := rfl
@[simp] theorem State.setFld_inReset (f : Fld) (v : Nat) : (s.setFld f v).inReset = s.inReset := rfl
@[simp] theorem State.setFld_freeCtr (f : Fld) (v : Nat) : (s.setFld f v).freeCtr = s.freeCtr := rfl
@[simp] theorem State.setFld_shad (f : Fld) (v : Nat) : (s.setFld f v).shad = s.shad := rfl
@[simp] theorem State.setFld_flt (f : Fld) (v : Nat) : (s.setFld f v).flt = s.flt := rfl
@[simp] theorem State.setFld_log (f : Fld) (v : Nat) : (s.setFld f v).log = s.log := rfl
@[simp] theorem State.setFld_host (f : Fld) (v : Nat) : (s.setFld f v).host = s.host := rfl
@[simp] theorem State.setFld_flash (f : Fld) (v : Nat) : (s.setFld f v).flash = s.flash := rfl
@[simp] theorem State.setFld_chk (f : Fld) (v : Nat) : (s.setFld f v).chk = s.chk := rfl
@[simp] theorem State.setFld_mem (f : Fld) (v : Nat) : (s.setFld f v).mem = s.mem := rfl
@[simp] theorem State.setFld_tabs (f : Fld) (v : Nat) : (s.setFld f v).tabs = s.tabs := rfl
@[simp] theorem State.setFld_ldr (f : Fld) (v : Nat) : (s.setFld f v).ldr = s.ldr := rfl
@[simp] theorem State.setFld_conf (f : Fld) (v : Nat) : (s.setFld f v).conf = s.conf := rfl
@[simp] theorem State.setFld_locket (f : Fld) (v : Nat) : (s.setFld f v).locket = s.locket := rfl
@[simp] theorem State.setFld_strait (f : Fld) (v : Nat) : (s.setFld f v).strait = s.strait := rfl
@[simp] theorem State.setFld_pix (f : Fld) (v : Nat) : (s.setFld f v).pix = s.pix := rfl
@[simp] theorem State.setFld_cor (f : Fld) (v : Nat) : (s.setFld f v).cor = s.cor := rfl
@[simp] theorem State.setFld_tim (f : Fld) (v : Nat) : (s.setFld f v).tim = s.tim := rfl
@[simp] theorem State.setFld_chn (f : Fld) (v : Nat) : (s.setFld f v).chn = s.chn := rfl
@[simp] theorem State.setFld_diag (f : Fld) (v : Nat) : (s.setFld f v).diag = s.diag := rfl
@[simp] theorem State.setFld_pmb (f : Fld) (v : Nat) : (s.setFld f v).pmb = s.pmb := rfl
@[simp] theorem State.setFld_clasp (f : Fld) (v : Nat) : (s.setFld f v).clasp = s.clasp := rfl
@[simp] theorem State.setFld_lnk (f : Fld) (v : Nat) : (s.setFld f v).lnk = s.lnk := rfl
@[simp] theorem State.setFld_spn (f : Fld) (v : Nat) : (s.setFld f v).spn = s.spn := rfl
@[simp] theorem State.setFld_clk (f : Fld) (v : Nat) : (s.setFld f v).clk = s.clk := rfl
@[simp] theorem State.setFld_pwr (f : Fld) (v : Nat) : (s.setFld f v).pwr = s.pwr := rfl
@[simp] theorem State.setFld_therm (f : Fld) (v : Nat) : (s.setFld f v).therm = s.therm := rfl
@[simp] theorem State.setFld_adc (f : Fld) (v : Nat) : (s.setFld f v).adc = s.adc := rfl
@[simp] theorem State.setFld_cal (f : Fld) (v : Nat) : (s.setFld f v).cal = s.cal := rfl

/-! ### setOn -/

@[simp] theorem State.setOn_pending (f : Fld) (b : Bool) : (s.setOn f b).pending = s.pending := rfl
@[simp] theorem State.setOn_inReset (f : Fld) (b : Bool) : (s.setOn f b).inReset = s.inReset := rfl
@[simp] theorem State.setOn_freeCtr (f : Fld) (b : Bool) : (s.setOn f b).freeCtr = s.freeCtr := rfl
@[simp] theorem State.setOn_shad (f : Fld) (b : Bool) : (s.setOn f b).shad = s.shad := rfl
@[simp] theorem State.setOn_flt (f : Fld) (b : Bool) : (s.setOn f b).flt = s.flt := rfl
@[simp] theorem State.setOn_log (f : Fld) (b : Bool) : (s.setOn f b).log = s.log := rfl
@[simp] theorem State.setOn_host (f : Fld) (b : Bool) : (s.setOn f b).host = s.host := rfl
@[simp] theorem State.setOn_flash (f : Fld) (b : Bool) : (s.setOn f b).flash = s.flash := rfl
@[simp] theorem State.setOn_chk (f : Fld) (b : Bool) : (s.setOn f b).chk = s.chk := rfl
@[simp] theorem State.setOn_mem (f : Fld) (b : Bool) : (s.setOn f b).mem = s.mem := rfl
@[simp] theorem State.setOn_tabs (f : Fld) (b : Bool) : (s.setOn f b).tabs = s.tabs := rfl
@[simp] theorem State.setOn_ldr (f : Fld) (b : Bool) : (s.setOn f b).ldr = s.ldr := rfl
@[simp] theorem State.setOn_conf (f : Fld) (b : Bool) : (s.setOn f b).conf = s.conf := rfl
@[simp] theorem State.setOn_locket (f : Fld) (b : Bool) : (s.setOn f b).locket = s.locket := rfl
@[simp] theorem State.setOn_strait (f : Fld) (b : Bool) : (s.setOn f b).strait = s.strait := rfl
@[simp] theorem State.setOn_pix (f : Fld) (b : Bool) : (s.setOn f b).pix = s.pix := rfl
@[simp] theorem State.setOn_cor (f : Fld) (b : Bool) : (s.setOn f b).cor = s.cor := rfl
@[simp] theorem State.setOn_tim (f : Fld) (b : Bool) : (s.setOn f b).tim = s.tim := rfl
@[simp] theorem State.setOn_chn (f : Fld) (b : Bool) : (s.setOn f b).chn = s.chn := rfl
@[simp] theorem State.setOn_diag (f : Fld) (b : Bool) : (s.setOn f b).diag = s.diag := rfl
@[simp] theorem State.setOn_pmb (f : Fld) (b : Bool) : (s.setOn f b).pmb = s.pmb := rfl
@[simp] theorem State.setOn_clasp (f : Fld) (b : Bool) : (s.setOn f b).clasp = s.clasp := rfl
@[simp] theorem State.setOn_lnk (f : Fld) (b : Bool) : (s.setOn f b).lnk = s.lnk := rfl
@[simp] theorem State.setOn_spn (f : Fld) (b : Bool) : (s.setOn f b).spn = s.spn := rfl
@[simp] theorem State.setOn_clk (f : Fld) (b : Bool) : (s.setOn f b).clk = s.clk := rfl
@[simp] theorem State.setOn_pwr (f : Fld) (b : Bool) : (s.setOn f b).pwr = s.pwr := rfl
@[simp] theorem State.setOn_therm (f : Fld) (b : Bool) : (s.setOn f b).therm = s.therm := rfl
@[simp] theorem State.setOn_adc (f : Fld) (b : Bool) : (s.setOn f b).adc = s.adc := rfl
@[simp] theorem State.setOn_cal (f : Fld) (b : Bool) : (s.setOn f b).cal = s.cal := rfl

/-! ### addSat -/

@[simp] theorem State.addSat_pending (f : Fld) (n : Nat) : (s.addSat f n).pending = s.pending := rfl
@[simp] theorem State.addSat_inReset (f : Fld) (n : Nat) : (s.addSat f n).inReset = s.inReset := rfl
@[simp] theorem State.addSat_freeCtr (f : Fld) (n : Nat) : (s.addSat f n).freeCtr = s.freeCtr := rfl
@[simp] theorem State.addSat_shad (f : Fld) (n : Nat) : (s.addSat f n).shad = s.shad := rfl
@[simp] theorem State.addSat_flt (f : Fld) (n : Nat) : (s.addSat f n).flt = s.flt := rfl
@[simp] theorem State.addSat_log (f : Fld) (n : Nat) : (s.addSat f n).log = s.log := rfl
@[simp] theorem State.addSat_host (f : Fld) (n : Nat) : (s.addSat f n).host = s.host := rfl
@[simp] theorem State.addSat_flash (f : Fld) (n : Nat) : (s.addSat f n).flash = s.flash := rfl
@[simp] theorem State.addSat_chk (f : Fld) (n : Nat) : (s.addSat f n).chk = s.chk := rfl
@[simp] theorem State.addSat_mem (f : Fld) (n : Nat) : (s.addSat f n).mem = s.mem := rfl
@[simp] theorem State.addSat_tabs (f : Fld) (n : Nat) : (s.addSat f n).tabs = s.tabs := rfl
@[simp] theorem State.addSat_ldr (f : Fld) (n : Nat) : (s.addSat f n).ldr = s.ldr := rfl
@[simp] theorem State.addSat_conf (f : Fld) (n : Nat) : (s.addSat f n).conf = s.conf := rfl
@[simp] theorem State.addSat_locket (f : Fld) (n : Nat) : (s.addSat f n).locket = s.locket := rfl
@[simp] theorem State.addSat_strait (f : Fld) (n : Nat) : (s.addSat f n).strait = s.strait := rfl
@[simp] theorem State.addSat_pix (f : Fld) (n : Nat) : (s.addSat f n).pix = s.pix := rfl
@[simp] theorem State.addSat_cor (f : Fld) (n : Nat) : (s.addSat f n).cor = s.cor := rfl
@[simp] theorem State.addSat_tim (f : Fld) (n : Nat) : (s.addSat f n).tim = s.tim := rfl
@[simp] theorem State.addSat_chn (f : Fld) (n : Nat) : (s.addSat f n).chn = s.chn := rfl
@[simp] theorem State.addSat_diag (f : Fld) (n : Nat) : (s.addSat f n).diag = s.diag := rfl
@[simp] theorem State.addSat_pmb (f : Fld) (n : Nat) : (s.addSat f n).pmb = s.pmb := rfl
@[simp] theorem State.addSat_clasp (f : Fld) (n : Nat) : (s.addSat f n).clasp = s.clasp := rfl
@[simp] theorem State.addSat_lnk (f : Fld) (n : Nat) : (s.addSat f n).lnk = s.lnk := rfl
@[simp] theorem State.addSat_spn (f : Fld) (n : Nat) : (s.addSat f n).spn = s.spn := rfl
@[simp] theorem State.addSat_clk (f : Fld) (n : Nat) : (s.addSat f n).clk = s.clk := rfl
@[simp] theorem State.addSat_pwr (f : Fld) (n : Nat) : (s.addSat f n).pwr = s.pwr := rfl
@[simp] theorem State.addSat_therm (f : Fld) (n : Nat) : (s.addSat f n).therm = s.therm := rfl
@[simp] theorem State.addSat_adc (f : Fld) (n : Nat) : (s.addSat f n).adc = s.adc := rfl
@[simp] theorem State.addSat_cal (f : Fld) (n : Nat) : (s.addSat f n).cal = s.cal := rfl

/-! ### incSat -/

@[simp] theorem State.incSat_pending (f : Fld) : (s.incSat f).pending = s.pending := rfl
@[simp] theorem State.incSat_inReset (f : Fld) : (s.incSat f).inReset = s.inReset := rfl
@[simp] theorem State.incSat_freeCtr (f : Fld) : (s.incSat f).freeCtr = s.freeCtr := rfl
@[simp] theorem State.incSat_shad (f : Fld) : (s.incSat f).shad = s.shad := rfl
@[simp] theorem State.incSat_flt (f : Fld) : (s.incSat f).flt = s.flt := rfl
@[simp] theorem State.incSat_log (f : Fld) : (s.incSat f).log = s.log := rfl
@[simp] theorem State.incSat_host (f : Fld) : (s.incSat f).host = s.host := rfl
@[simp] theorem State.incSat_flash (f : Fld) : (s.incSat f).flash = s.flash := rfl
@[simp] theorem State.incSat_chk (f : Fld) : (s.incSat f).chk = s.chk := rfl
@[simp] theorem State.incSat_mem (f : Fld) : (s.incSat f).mem = s.mem := rfl
@[simp] theorem State.incSat_tabs (f : Fld) : (s.incSat f).tabs = s.tabs := rfl
@[simp] theorem State.incSat_ldr (f : Fld) : (s.incSat f).ldr = s.ldr := rfl
@[simp] theorem State.incSat_conf (f : Fld) : (s.incSat f).conf = s.conf := rfl
@[simp] theorem State.incSat_locket (f : Fld) : (s.incSat f).locket = s.locket := rfl
@[simp] theorem State.incSat_strait (f : Fld) : (s.incSat f).strait = s.strait := rfl
@[simp] theorem State.incSat_pix (f : Fld) : (s.incSat f).pix = s.pix := rfl
@[simp] theorem State.incSat_cor (f : Fld) : (s.incSat f).cor = s.cor := rfl
@[simp] theorem State.incSat_tim (f : Fld) : (s.incSat f).tim = s.tim := rfl
@[simp] theorem State.incSat_chn (f : Fld) : (s.incSat f).chn = s.chn := rfl
@[simp] theorem State.incSat_diag (f : Fld) : (s.incSat f).diag = s.diag := rfl
@[simp] theorem State.incSat_pmb (f : Fld) : (s.incSat f).pmb = s.pmb := rfl
@[simp] theorem State.incSat_clasp (f : Fld) : (s.incSat f).clasp = s.clasp := rfl
@[simp] theorem State.incSat_lnk (f : Fld) : (s.incSat f).lnk = s.lnk := rfl
@[simp] theorem State.incSat_spn (f : Fld) : (s.incSat f).spn = s.spn := rfl
@[simp] theorem State.incSat_clk (f : Fld) : (s.incSat f).clk = s.clk := rfl
@[simp] theorem State.incSat_pwr (f : Fld) : (s.incSat f).pwr = s.pwr := rfl
@[simp] theorem State.incSat_therm (f : Fld) : (s.incSat f).therm = s.therm := rfl
@[simp] theorem State.incSat_adc (f : Fld) : (s.incSat f).adc = s.adc := rfl
@[simp] theorem State.incSat_cal (f : Fld) : (s.incSat f).cal = s.cal := rfl

/-! ### setShadFld -/

@[simp] theorem State.setShadFld_pending (f : Fld) (v : Nat) : (s.setShadFld f v).pending = s.pending := rfl
@[simp] theorem State.setShadFld_inReset (f : Fld) (v : Nat) : (s.setShadFld f v).inReset = s.inReset := rfl
@[simp] theorem State.setShadFld_freeCtr (f : Fld) (v : Nat) : (s.setShadFld f v).freeCtr = s.freeCtr := rfl
@[simp] theorem State.setShadFld_regs (f : Fld) (v : Nat) : (s.setShadFld f v).regs = s.regs := rfl
@[simp] theorem State.setShadFld_flt (f : Fld) (v : Nat) : (s.setShadFld f v).flt = s.flt := rfl
@[simp] theorem State.setShadFld_log (f : Fld) (v : Nat) : (s.setShadFld f v).log = s.log := rfl
@[simp] theorem State.setShadFld_host (f : Fld) (v : Nat) : (s.setShadFld f v).host = s.host := rfl
@[simp] theorem State.setShadFld_flash (f : Fld) (v : Nat) : (s.setShadFld f v).flash = s.flash := rfl
@[simp] theorem State.setShadFld_chk (f : Fld) (v : Nat) : (s.setShadFld f v).chk = s.chk := rfl
@[simp] theorem State.setShadFld_mem (f : Fld) (v : Nat) : (s.setShadFld f v).mem = s.mem := rfl
@[simp] theorem State.setShadFld_tabs (f : Fld) (v : Nat) : (s.setShadFld f v).tabs = s.tabs := rfl
@[simp] theorem State.setShadFld_ldr (f : Fld) (v : Nat) : (s.setShadFld f v).ldr = s.ldr := rfl
@[simp] theorem State.setShadFld_conf (f : Fld) (v : Nat) : (s.setShadFld f v).conf = s.conf := rfl
@[simp] theorem State.setShadFld_locket (f : Fld) (v : Nat) : (s.setShadFld f v).locket = s.locket := rfl
@[simp] theorem State.setShadFld_strait (f : Fld) (v : Nat) : (s.setShadFld f v).strait = s.strait := rfl
@[simp] theorem State.setShadFld_pix (f : Fld) (v : Nat) : (s.setShadFld f v).pix = s.pix := rfl
@[simp] theorem State.setShadFld_cor (f : Fld) (v : Nat) : (s.setShadFld f v).cor = s.cor := rfl
@[simp] theorem State.setShadFld_tim (f : Fld) (v : Nat) : (s.setShadFld f v).tim = s.tim := rfl
@[simp] theorem State.setShadFld_chn (f : Fld) (v : Nat) : (s.setShadFld f v).chn = s.chn := rfl
@[simp] theorem State.setShadFld_diag (f : Fld) (v : Nat) : (s.setShadFld f v).diag = s.diag := rfl
@[simp] theorem State.setShadFld_pmb (f : Fld) (v : Nat) : (s.setShadFld f v).pmb = s.pmb := rfl
@[simp] theorem State.setShadFld_clasp (f : Fld) (v : Nat) : (s.setShadFld f v).clasp = s.clasp := rfl
@[simp] theorem State.setShadFld_lnk (f : Fld) (v : Nat) : (s.setShadFld f v).lnk = s.lnk := rfl
@[simp] theorem State.setShadFld_spn (f : Fld) (v : Nat) : (s.setShadFld f v).spn = s.spn := rfl
@[simp] theorem State.setShadFld_clk (f : Fld) (v : Nat) : (s.setShadFld f v).clk = s.clk := rfl
@[simp] theorem State.setShadFld_pwr (f : Fld) (v : Nat) : (s.setShadFld f v).pwr = s.pwr := rfl
@[simp] theorem State.setShadFld_therm (f : Fld) (v : Nat) : (s.setShadFld f v).therm = s.therm := rfl
@[simp] theorem State.setShadFld_adc (f : Fld) (v : Nat) : (s.setShadFld f v).adc = s.adc := rfl
@[simp] theorem State.setShadFld_cal (f : Fld) (v : Nat) : (s.setShadFld f v).cal = s.cal := rfl

/-! ### usedFree -/

@[simp] theorem State.usedFree_pending : (s.usedFree).pending = s.pending := rfl
@[simp] theorem State.usedFree_inReset : (s.usedFree).inReset = s.inReset := rfl
@[simp] theorem State.usedFree_regs : (s.usedFree).regs = s.regs := rfl
@[simp] theorem State.usedFree_shad : (s.usedFree).shad = s.shad := rfl
@[simp] theorem State.usedFree_flt : (s.usedFree).flt = s.flt := rfl
@[simp] theorem State.usedFree_log : (s.usedFree).log = s.log := rfl
@[simp] theorem State.usedFree_host : (s.usedFree).host = s.host := rfl
@[simp] theorem State.usedFree_flash : (s.usedFree).flash = s.flash := rfl
@[simp] theorem State.usedFree_chk : (s.usedFree).chk = s.chk := rfl
@[simp] theorem State.usedFree_mem : (s.usedFree).mem = s.mem := rfl
@[simp] theorem State.usedFree_tabs : (s.usedFree).tabs = s.tabs := rfl
@[simp] theorem State.usedFree_ldr : (s.usedFree).ldr = s.ldr := rfl
@[simp] theorem State.usedFree_conf : (s.usedFree).conf = s.conf := rfl
@[simp] theorem State.usedFree_locket : (s.usedFree).locket = s.locket := rfl
@[simp] theorem State.usedFree_strait : (s.usedFree).strait = s.strait := rfl
@[simp] theorem State.usedFree_pix : (s.usedFree).pix = s.pix := rfl
@[simp] theorem State.usedFree_cor : (s.usedFree).cor = s.cor := rfl
@[simp] theorem State.usedFree_tim : (s.usedFree).tim = s.tim := rfl
@[simp] theorem State.usedFree_chn : (s.usedFree).chn = s.chn := rfl
@[simp] theorem State.usedFree_diag : (s.usedFree).diag = s.diag := rfl
@[simp] theorem State.usedFree_pmb : (s.usedFree).pmb = s.pmb := rfl
@[simp] theorem State.usedFree_clasp : (s.usedFree).clasp = s.clasp := rfl
@[simp] theorem State.usedFree_lnk : (s.usedFree).lnk = s.lnk := rfl
@[simp] theorem State.usedFree_spn : (s.usedFree).spn = s.spn := rfl
@[simp] theorem State.usedFree_clk : (s.usedFree).clk = s.clk := rfl
@[simp] theorem State.usedFree_pwr : (s.usedFree).pwr = s.pwr := rfl
@[simp] theorem State.usedFree_therm : (s.usedFree).therm = s.therm := rfl
@[simp] theorem State.usedFree_adc : (s.usedFree).adc = s.adc := rfl
@[simp] theorem State.usedFree_cal : (s.usedFree).cal = s.cal := rfl

/-! ### setLocket -/

@[simp] theorem State.setLocket_pending (a : Nat) (w : Word) : (s.setLocket a w).pending = s.pending := rfl
@[simp] theorem State.setLocket_inReset (a : Nat) (w : Word) : (s.setLocket a w).inReset = s.inReset := rfl
@[simp] theorem State.setLocket_freeCtr (a : Nat) (w : Word) : (s.setLocket a w).freeCtr = s.freeCtr := rfl
@[simp] theorem State.setLocket_regs (a : Nat) (w : Word) : (s.setLocket a w).regs = s.regs := rfl
@[simp] theorem State.setLocket_shad (a : Nat) (w : Word) : (s.setLocket a w).shad = s.shad := rfl
@[simp] theorem State.setLocket_flt (a : Nat) (w : Word) : (s.setLocket a w).flt = s.flt := rfl
@[simp] theorem State.setLocket_log (a : Nat) (w : Word) : (s.setLocket a w).log = s.log := rfl
@[simp] theorem State.setLocket_host (a : Nat) (w : Word) : (s.setLocket a w).host = s.host := rfl
@[simp] theorem State.setLocket_flash (a : Nat) (w : Word) : (s.setLocket a w).flash = s.flash := rfl
@[simp] theorem State.setLocket_chk (a : Nat) (w : Word) : (s.setLocket a w).chk = s.chk := rfl
@[simp] theorem State.setLocket_mem (a : Nat) (w : Word) : (s.setLocket a w).mem = s.mem := rfl
@[simp] theorem State.setLocket_tabs (a : Nat) (w : Word) : (s.setLocket a w).tabs = s.tabs := rfl
@[simp] theorem State.setLocket_ldr (a : Nat) (w : Word) : (s.setLocket a w).ldr = s.ldr := rfl
@[simp] theorem State.setLocket_conf (a : Nat) (w : Word) : (s.setLocket a w).conf = s.conf := rfl
@[simp] theorem State.setLocket_strait (a : Nat) (w : Word) : (s.setLocket a w).strait = s.strait := rfl
@[simp] theorem State.setLocket_pix (a : Nat) (w : Word) : (s.setLocket a w).pix = s.pix := rfl
@[simp] theorem State.setLocket_cor (a : Nat) (w : Word) : (s.setLocket a w).cor = s.cor := rfl
@[simp] theorem State.setLocket_tim (a : Nat) (w : Word) : (s.setLocket a w).tim = s.tim := rfl
@[simp] theorem State.setLocket_chn (a : Nat) (w : Word) : (s.setLocket a w).chn = s.chn := rfl
@[simp] theorem State.setLocket_diag (a : Nat) (w : Word) : (s.setLocket a w).diag = s.diag := rfl
@[simp] theorem State.setLocket_pmb (a : Nat) (w : Word) : (s.setLocket a w).pmb = s.pmb := rfl
@[simp] theorem State.setLocket_clasp (a : Nat) (w : Word) : (s.setLocket a w).clasp = s.clasp := rfl
@[simp] theorem State.setLocket_lnk (a : Nat) (w : Word) : (s.setLocket a w).lnk = s.lnk := rfl
@[simp] theorem State.setLocket_spn (a : Nat) (w : Word) : (s.setLocket a w).spn = s.spn := rfl
@[simp] theorem State.setLocket_clk (a : Nat) (w : Word) : (s.setLocket a w).clk = s.clk := rfl
@[simp] theorem State.setLocket_pwr (a : Nat) (w : Word) : (s.setLocket a w).pwr = s.pwr := rfl
@[simp] theorem State.setLocket_therm (a : Nat) (w : Word) : (s.setLocket a w).therm = s.therm := rfl
@[simp] theorem State.setLocket_adc (a : Nat) (w : Word) : (s.setLocket a w).adc = s.adc := rfl
@[simp] theorem State.setLocket_cal (a : Nat) (w : Word) : (s.setLocket a w).cal = s.cal := rfl

/-! ### The field that is set -/

@[simp] theorem State.setReg_regs (a : Nat) (w : Word) : (s.setReg a w).regs = Tab.put resetWord s.regs a w := rfl
@[simp] theorem State.setShad_shad (a : Nat) (w : Word) : (s.setShad a w).shad = Tab.put resetWord s.shad a w := rfl
@[simp] theorem State.usedFree_freeCtr : s.usedFree.freeCtr = s.freeCtr + 1 := rfl

end Sys2Proof.Machine
end

