-- ==== Sys2Proof/Laws/Tab.lean ====
section
/-! SUPPORT. What sparse tables answer after a change, and that every change keeps their canonical form. -/

namespace Sys2Proof.Machine

variable {α : Type} {d : Nat → α} {t : Tab α} {k j : Nat} {v : α}

@[simp] theorem Tab.get_nil : Tab.get d [] k = d k := rfl

@[simp] theorem Tab.get_erase_same : Tab.get d (Tab.erase k t) k = d k := by
  induction t with
  | nil => rfl
  | cons x t ih =>
    by_cases h : x.1 = k
    · simpa [Tab.erase, h] using ih
    · simpa [Tab.erase, Tab.get, h] using ih

theorem Tab.get_erase_other (h : j ≠ k) : Tab.get d (Tab.erase k t) j = Tab.get d t j := by
  induction t with
  | nil => rfl
  | cons x t ih =>
    by_cases hx : x.1 = k
    · have hj : x.1 ≠ j := fun e => h (e.symm.trans hx)
      simpa [Tab.erase, Tab.get, hx, hx ▸ hj] using ih
    · rw [Tab.erase, if_neg hx, Tab.get, Tab.get, ih]

@[simp] theorem Tab.get_ins_same : Tab.get d (Tab.ins k v t) k = v := by
  induction t with
  | nil => simp [Tab.ins, Tab.get]
  | cons x t ih =>
    by_cases h1 : k < x.1
    · simp [Tab.ins, Tab.get, h1]
    · by_cases h2 : x.1 = k
      · simp [Tab.ins, Tab.get, h2]
      · simpa [Tab.ins, Tab.get, h1, h2] using ih

theorem Tab.get_ins_other (h : j ≠ k) : Tab.get d (Tab.ins k v t) j = Tab.get d t j := by
  induction t with
  | nil => simp [Tab.ins, Tab.get, h.symm]
  | cons x t ih =>
    by_cases h1 : k < x.1
    · simp [Tab.ins, Tab.get, h1, h.symm]
    · by_cases h2 : x.1 = k
      · subst h2
        simp [Tab.ins, Tab.get, h.symm]
      · rw [Tab.ins, if_neg h1, if_neg h2, Tab.get, Tab.get, ih]

/-- The value that was put is read back, whatever the table held. -/
@[simp] theorem Tab.get_put_same [DecidableEq α] : Tab.get d (Tab.put d t k v) k = v := by
  unfold Tab.put
  split
  · next h => rw [Tab.get_erase_same, h]
  · exact Tab.get_ins_same

/-- A put at one key leaves every other key. -/
theorem Tab.get_put_other [DecidableEq α] (h : j ≠ k) : Tab.get d (Tab.put d t k v) j = Tab.get d t j := by
  unfold Tab.put
  split
  · exact Tab.get_erase_other h
  · exact Tab.get_ins_other h

@[simp] theorem Tab.on_setOn_same {t : Tab Bool} {b : Bool} : Tab.on (Tab.setOn t k b) k = b := Tab.get_put_same

theorem Tab.on_setOn_other {t : Tab Bool} {b : Bool} (h : j ≠ k) : Tab.on (Tab.setOn t k b) j = Tab.on t j :=
  Tab.get_put_other h

@[simp] theorem Tab.num_setNum_same {t : Tab Nat} {n : Nat} : Tab.num (Tab.setNum t k n) k = n := Tab.get_put_same

theorem Tab.num_setNum_other {t : Tab Nat} {n : Nat} (h : j ≠ k) : Tab.num (Tab.setNum t k n) j = Tab.num t j :=
  Tab.get_put_other h

@[simp] theorem Tab.word_setWord_same {t : Tab Word} {w : Word} : Tab.word (Tab.setWord t k w) k = w := Tab.get_put_same

theorem Tab.word_setWord_other {t : Tab Word} {w : Word} (h : j ≠ k) : Tab.word (Tab.setWord t k w) j = Tab.word t j :=
  Tab.get_put_other h

@[simp] theorem Tab.lst_setLst_same [DecidableEq α] {t : Tab (List α)} {l : List α} : Tab.lst (Tab.setLst t k l) k = l :=
  Tab.get_put_same

theorem Tab.lst_setLst_other [DecidableEq α] {t : Tab (List α)} {l : List α} (h : j ≠ k) :
    Tab.lst (Tab.setLst t k l) j = Tab.lst t j := Tab.get_put_other h

@[simp] theorem Tab.opt_setOpt_same [DecidableEq α] {t : Tab (Option α)} {o : Option α} :
    Tab.opt (Tab.setOpt t k o) k = o := Tab.get_put_same

theorem Tab.opt_setOpt_other [DecidableEq α] {t : Tab (Option α)} {o : Option α} (h : j ≠ k) :
    Tab.opt (Tab.setOpt t k o) j = Tab.opt t j := Tab.get_put_other h

/-! ## The canonical form -/

/-- The canonical form in words that proofs use: keys rise, and no entry equals its default. -/
def Tab.Canon (d : Nat → α) (t : Tab α) : Prop := t.Pairwise (fun a b => a.1 < b.1) ∧ ∀ x ∈ t, x.2 ≠ d x.1

theorem Tab.wf_iff [DecidableEq α] : ∀ (t : Tab α), Tab.wf d t = true ↔ Tab.Canon d t
  | [] => by simp [Tab.wf, Tab.Canon]
  | [(k, v)] => by simp [Tab.wf, Tab.Canon]
  | (k, v) :: (j, w) :: t => by
    have ih := Tab.wf_iff ((j, w) :: t)
    simp only [Tab.wf, Bool.and_eq_true, decide_eq_true_eq, ih, bne_iff_ne, Tab.Canon, List.pairwise_cons,
      List.forall_mem_cons]
    constructor
    · rintro ⟨⟨hv, hk⟩, ⟨hj, hp⟩, hw, ht⟩
      exact ⟨⟨⟨hk, fun x hx => Nat.lt_trans hk (hj x hx)⟩, hj, hp⟩, hv, hw, ht⟩
    · rintro ⟨⟨⟨hk, _⟩, hj, hp⟩, hv, hw, ht⟩
      exact ⟨⟨hv, hk⟩, ⟨hj, hp⟩, hw, ht⟩

theorem Tab.mem_erase {x : Nat × α} (h : x ∈ Tab.erase k t) : x ∈ t := by
  induction t with
  | nil => cases h
  | cons y t ih =>
    unfold Tab.erase at h
    split at h
    · exact .tail _ (ih h)
    · rcases List.mem_cons.1 h with rfl | h
      · exact .head _
      · exact .tail _ (ih h)

theorem Tab.canon_erase (h : Tab.Canon d t) : Tab.Canon d (Tab.erase k t) := by
  induction t with
  | nil => exact h
  | cons y t ih =>
    obtain ⟨hp, hd⟩ := h
    rw [List.pairwise_cons] at hp
    have ih := ih ⟨hp.2, fun x hx => hd x (.tail _ hx)⟩
    unfold Tab.erase
    split
    · exact ih
    · refine ⟨List.pairwise_cons.2 ⟨fun x hx => hp.1 x (Tab.mem_erase hx), ih.1⟩, fun x hx => ?_⟩
      rcases List.mem_cons.1 hx with rfl | hx
      · exact hd _ (.head _)
      · exact ih.2 x hx

theorem Tab.mem_ins {x : Nat × α} (h : x ∈ Tab.ins k v t) : x = (k, v) ∨ x ∈ t := by
  induction t with
  | nil => simpa [Tab.ins] using h
  | cons y t ih =>
    unfold Tab.ins at h
    split at h
    · simpa using h
    · split at h
      · rcases List.mem_cons.1 h with rfl | h
        · exact .inl rfl
        · exact .inr (.tail _ h)
      · rcases List.mem_cons.1 h with rfl | h
        · exact .inr (.head _)
        · exact (ih h).imp id (.tail _)

theorem Tab.canon_ins (hv : v ≠ d k) (h : Tab.Canon d t) : Tab.Canon d (Tab.ins k v t) := by
  refine ⟨?_, fun x hx => ?_⟩
  · induction t with
    | nil => simp [Tab.ins]
    | cons y t ih =>
      obtain ⟨hp, hd⟩ := h
      have hp' := List.pairwise_cons.1 hp
      unfold Tab.ins
      split
      · next hk =>
        refine List.pairwise_cons.2 ⟨fun x hx => ?_, hp⟩
        rcases List.mem_cons.1 hx with rfl | hx
        · exact hk
        · exact Nat.lt_trans hk (hp'.1 x hx)
      · next hk =>
        split
        · next he => exact List.pairwise_cons.2 ⟨fun x hx => he ▸ hp'.1 x hx, hp'.2⟩
        · next he =>
          refine List.pairwise_cons.2 ⟨fun x hx => ?_, ih ⟨hp'.2, fun x hx => hd x (.tail _ hx)⟩⟩
          rcases Tab.mem_ins hx with rfl | hx
          · exact Nat.lt_of_le_of_ne (Nat.le_of_not_lt hk) he
          · exact hp'.1 x hx
  · rcases Tab.mem_ins hx with rfl | hx
    · exact hv
    · exact h.2 x hx

/-- A put keeps the canonical form. -/
theorem Tab.wf_put [DecidableEq α] (h : Tab.wf d t = true) : Tab.wf d (Tab.put d t k v) = true := by
  rw [Tab.wf_iff] at *
  unfold Tab.put
  split
  · exact Tab.canon_erase h
  · next hv => exact Tab.canon_ins hv h

/-- Leaving entries out keeps the canonical form. -/
theorem Tab.wf_filter [DecidableEq α] {p : Nat × α → Bool} (h : Tab.wf d t = true) :
    Tab.wf d (List.filter p t) = true := by
  rw [Tab.wf_iff] at *
  exact ⟨h.1.filter p, fun x hx => h.2 x ((List.mem_filter.1 hx).1)⟩

theorem Tab.get_of_canon {x : Nat × α} (h : Tab.Canon d t) (hx : x ∈ t) : Tab.get d t x.1 = x.2 := by
  induction t with
  | nil => cases hx
  | cons y t ih =>
    have hp := List.pairwise_cons.1 h.1
    rcases List.mem_cons.1 hx with rfl | hx
    · simp [Tab.get]
    · have : y.1 ≠ x.1 := Nat.ne_of_lt (hp.1 x hx)
      simpa [Tab.get, this] using ih ⟨hp.2, fun z hz => h.2 z (.tail _ hz)⟩ hx

end Sys2Proof.Machine
end

