-- ==== Sys2Proof/Laws/Regs.lean ====
section
/-! SUPPORT. Everything that a change of a register or of a field can do, said once: what the register and the field read
afterwards, and that nothing else differs. -/

namespace Sys2Proof.Machine

variable {s t u : State} {f g : Fld} {a b : Nat} {w : Word} {v n : Nat}

@[simp] theorem State.reg_setReg_same : (s.setReg a w).reg a = w := Tab.get_put_same

theorem State.reg_setReg_other (h : b ≠ a) : (s.setReg a w).reg b = s.reg b := Tab.get_put_other h

@[simp] theorem State.shadReg_setShad_same : (s.setShad a w).shadReg a = w := Tab.get_put_same

theorem State.shadReg_setShad_other (h : b ≠ a) : (s.setShad a w).shadReg b = s.shadReg b := Tab.get_put_other h

@[simp] theorem State.shadReg_setReg : (s.setReg a w).shadReg b = s.shadReg b := rfl

@[simp] theorem State.reg_setShad : (s.setShad a w).reg b = s.reg b := rfl

theorem State.fld_congr (h : t.regs = s.regs) : t.fld f = s.fld f := by simp only [State.fld, State.reg, h]

/-- A field reads what it was set to, cut to its width. -/
theorem State.fld_setFld_same (h : f.ok) : (s.setFld f v).fld f = v % 2 ^ (f.msb + 1 - f.lsb) := by
  simp only [State.fld, State.setFld, State.reg_setReg_same, Fld.of_put_same h]

/-- A value that fits is read back. -/
theorem State.fld_setFld_fits (h : f.ok) (hv : v ≤ f.max) : (s.setFld f v).fld f = v := by
  rw [State.fld_setFld_same h]
  exact Nat.mod_eq_of_lt (Nat.lt_of_le_sub_one (Nat.two_pow_pos _) hv)

/-- A field that shares no bit with the one set reads as before. -/
theorem State.fld_setFld_apart (h : f.ok) (hg : f.apart g) : (s.setFld f v).fld g = s.fld g := by
  unfold State.fld State.setFld
  by_cases ha : g.addr = f.addr
  · rw [ha, State.reg_setReg_same]
    rcases hg with hg | hg
    · exact absurd ha.symm hg
    · exact Fld.of_put_apart h hg _ _
  · rw [State.reg_setReg_other ha]

theorem Fld.one_le_max (h : f.ok) : 1 ≤ f.max := by
  have h1 := h.1
  have : 2 ^ 1 ≤ 2 ^ (f.msb + 1 - f.lsb) := Nat.pow_le_pow_right (by decide) (by omega)
  unfold Fld.max
  omega

/-- A flag reads what it was set to. -/
theorem State.on_setOn_same (h : f.ok) (x : Bool) : (s.setOn f x).on f = x := by
  have h1 := Fld.one_le_max h
  unfold State.on State.setOn
  rw [State.fld_setFld_fits h (by cases x <;> simp [b2n, h1])]
  cases x <;> rfl

theorem State.on_setOn_apart (h : f.ok) (hg : f.apart g) (x : Bool) : (s.setOn f x).on g = s.on g := by
  unfold State.on State.setOn
  rw [State.fld_setFld_apart h hg]

theorem State.fld_le_max : s.fld f ≤ f.max := Fld.of_le_max _ _

theorem satAdd_eq (m x y : Nat) : satAdd m x y = min m (x + y) := by
  unfold satAdd
  split <;> omega

/-! ## Only some fields differ -/

theorem onlyFields_refl (l : List Fld) (s : State) : OnlyFields l s s := fun _ _ _ => rfl

theorem onlyFields_of_regs (l : List Fld) (h : t.regs = s.regs) : OnlyFields l s t := fun _ _ _ => State.fld_congr h

theorem onlyFields_trans {l : List Fld} (h1 : OnlyFields l s t) (h2 : OnlyFields l t u) : OnlyFields l s u :=
  fun g hg ha => (h2 g hg ha).trans (h1 g hg ha)

theorem onlyFields_mono {l m : List Fld} (hl : ∀ f ∈ l, f ∈ m) (h : OnlyFields l s t) : OnlyFields m s t :=
  fun g hg ha => h g hg fun f hf => ha f (hl f hf)

/-- Setting a field changes that field alone. -/
theorem onlyFields_setFld (h : f.ok) : OnlyFields [f] s (s.setFld f v) :=
  fun _ _ ha => State.fld_setFld_apart h (ha f (.head _))

theorem onlyFields_setOn (h : f.ok) (x : Bool) : OnlyFields [f] s (s.setOn f x) := onlyFields_setFld h

theorem onlyFields_addSat (h : f.ok) : OnlyFields [f] s (s.addSat f n) := onlyFields_setFld h

theorem onlyFields_incSat (h : f.ok) : OnlyFields [f] s (s.incSat f) := onlyFields_setFld h

end Sys2Proof.Machine
end

