-- ==== Sys2Proof/Laws/Events.lean ====
section
/-! SUPPORT. Everything that raising an event can do, said once; runs of changes keep what each change keeps. -/

namespace Sys2Proof.Machine

variable {s : State} {i j : Nat} {d : Word} {x : Bool}

/-- What `each` keeps: whatever every single change keeps. -/
theorem State.each_keeps {α : Type} {P : State → Prop} {l : List α} {f : State → α → State} (h0 : P s)
    (h : ∀ s a, a ∈ l → P s → P (f s a)) : P (s.each l f) := by
  unfold State.each
  induction l generalizing s with
  | nil => exact h0
  | cons a t ih => exact ih (h s a (.head _) h0) fun s b hb => h s b (.tail _ hb)

/-- What `whenDo` keeps. -/
theorem State.whenDo_keeps {P : State → Prop} {b : Bool} {f : State → State} (h0 : P s) (h : ∀ s, P s → P (f s)) :
    P (s.whenDo b f) := by
  cases b
  · exact h0
  · exact h s h0

/-- Raising an event discards it, enters it, or loses and counts it (R417, R418). -/
theorem State.raiseWith_cases (s : State) (i : Nat) (d : Word) (x : Bool) :
    (s.on (F.FLT_SRCi_EN i) = false ∧ s.raiseWith i d x = s) ∨
    (s.on (F.FLT_SRCi_EN i) = true ∧ (s.events i).length < 15 ∧
      s.raiseWith i d x = { s with flt := { s.flt with pend := Tab.setLst s.flt.pend i (s.events i ++ [⟨d, x⟩]) } }) ∨
    (s.on (F.FLT_SRCi_EN i) = true ∧ 15 ≤ (s.events i).length ∧
      s.raiseWith i d x =
        { s with flt := { s.flt with lost := Tab.setOn s.flt.lost i true } }.incSat F.FLT_STAT_LOSTOCC) := by
  unfold State.raiseWith State.events
  by_cases h : s.on (F.FLT_SRCi_EN i) = true
  · by_cases h2 : (Tab.lst s.flt.pend i).length < 15
    · exact .inr (.inl ⟨h, h2, by simp [h, h2]⟩)
    · exact .inr (.inr ⟨h, Nat.le_of_not_lt h2, by simp [h, h2]⟩)
  · exact .inl ⟨by simpa using h, by simp [h]⟩

/-- Other sources keep what they have pending. -/
theorem State.events_raiseWith_other (h : j ≠ i) : (s.raiseWith i d x).events j = s.events j := by
  rcases State.raiseWith_cases s i d x with ⟨_, e⟩ | ⟨_, _, e⟩ | ⟨_, _, e⟩ <;> rw [e]
  · exact Tab.lst_setLst_other h
  · rfl

theorem State.events_raiseWith_same (h : s.on (F.FLT_SRCi_EN i) = true) (hl : (s.events i).length < 15) :
    (s.raiseWith i d x).events i = s.events i ++ [⟨d, x⟩] := by
  rcases State.raiseWith_cases s i d x with ⟨h', e⟩ | ⟨_, _, e⟩ | ⟨_, h', e⟩
  · rw [h] at h'
    cases h'
  · rw [e]
    exact Tab.lst_setLst_same
  · exact absurd h' (Nat.not_le.2 hl)

theorem onlyFields_raiseWith : OnlyFields [F.FLT_STAT_LOSTOCC] s (s.raiseWith i d x) := by
  rcases State.raiseWith_cases s i d x with ⟨_, e⟩ | ⟨_, _, e⟩ | ⟨_, _, e⟩ <;> rw [e]
  · exact onlyFields_refl _ _
  · exact onlyFields_of_regs _ rfl
  · exact onlyFields_incSat (by decide)

theorem State.regs_wf_raiseWith (h : s.regsCanonical) : (s.raiseWith i d x).regsCanonical := by
  rcases State.raiseWith_cases s i d x with ⟨_, e⟩ | ⟨_, _, e⟩ | ⟨_, _, e⟩ <;> rw [e]
  · exact h
  · exact h
  · exact ⟨Tab.wf_put h.1, h.2⟩

theorem State.eventsBounded_raiseWith (h : s.eventsBounded) : (s.raiseWith i d x).eventsBounded := by
  intro j
  by_cases hj : j = i
  · subst hj
    rcases State.raiseWith_cases s j d x with ⟨_, e⟩ | ⟨_, h2, e⟩ | ⟨_, _, e⟩ <;> rw [e]
    · exact h j
    · rw [show State.events { s with flt := { s.flt with pend := Tab.setLst s.flt.pend j (s.events j ++ [⟨d, x⟩]) } } j
        = s.events j ++ [⟨d, x⟩] from Tab.lst_setLst_same]
      simpa using h2
    · exact h j
  · rw [State.events_raiseWith_other hj]
    exact h j

/-! ## Registers stay canonical -/

theorem State.regsCanonical_setReg {a : Nat} {w : Word} (h : s.regsCanonical) : (s.setReg a w).regsCanonical :=
  ⟨Tab.wf_put h.1, h.2⟩

theorem State.regsCanonical_setShad {a : Nat} {w : Word} (h : s.regsCanonical) : (s.setShad a w).regsCanonical :=
  ⟨h.1, Tab.wf_put h.2⟩

theorem State.regsCanonical_setFld {f : Fld} {v : Nat} (h : s.regsCanonical) : (s.setFld f v).regsCanonical :=
  State.regsCanonical_setReg h

end Sys2Proof.Machine
end

