-- ==== Sys2Proof/Laws/Memory.lean ====
section
/-! SUPPORT. The frame memory: a byte that was stored is read back, every other byte is as before, and every operation keeps
the canonical form. -/

namespace Sys2Proof.Machine

variable {m : MemState} {s : State} {k j line : Nat} {b : Byte} {l : List (Option Byte)}

@[simp] theorem MemState.cell_setCell_same : (m.setCell k b).cell k = b := Tab.get_put_same

theorem MemState.cell_setCell_other (h : j ≠ k) : (m.setCell k b).cell j = m.cell j := Tab.get_put_other h

@[simp] theorem MemState.setCells_epoch : (m.setCells k l).epoch = m.epoch := by
  induction l generalizing m k with
  | nil => rfl
  | cons x t ih =>
    cases x with
    | none => exact ih
    | some b => exact ih

/-- Every byte after a run of bytes is stored: the byte given for its place, else as before. -/
theorem MemState.cell_setCells :
    (m.setCells k l).cell j = (if k ≤ j then (l.getD (j - k) none).getD (m.cell j) else m.cell j) := by
  induction l generalizing m k with
  | nil => simp [MemState.setCells]
  | cons x t ih =>
    by_cases hlt : k + 1 ≤ j
    · have h1 : k ≤ j := by omega
      have h2 : j - k = (j - (k + 1)) + 1 := by omega
      have h3 : j ≠ k := by omega
      cases x <;> simp [MemState.setCells, ih, hlt, h1, h2, MemState.cell_setCell_other h3]
    · by_cases he : j = k
      · subst he
        have h0 : ¬ j + 1 ≤ j := by omega
        cases x <;> simp [MemState.setCells, ih, h0]
      · have h1 : ¬ k ≤ j := by omega
        cases x <;> simp [MemState.setCells, ih, hlt, h1, MemState.cell_setCell_other he]

theorem MemState.wf_setCell (h : m.wf) : (m.setCell k b).wf := Tab.wf_put h

theorem MemState.wf_setCells (h : m.wf) : (m.setCells k l).wf := by
  induction l generalizing m k with
  | nil => exact h
  | cons x t ih =>
    cases x with
    | none => exact ih h
    | some b => exact ih (MemState.wf_setCell h)

theorem MemState.wf_commitLine (h : m.wf) : (m.commitLine line l).wf := by
  unfold MemState.commitLine
  split
  · exact MemState.wf_setCells h
  · exact MemState.wf_setCells h

theorem MemState.wf_setPoison (h : m.wf) : (m.setPoison line).wf := h

theorem MemState.wf_overtake (h : m.wf) : (m.overtake line).wf := h

theorem MemState.wf_unpost (h : m.wf) : (m.unpost line).wf := h

theorem MemState.wf_storeLine (h : m.wf) : (m.storeLine line l).wf := by
  cases hp : (m.overtake line).posted line with
  | some e => simp only [MemState.storeLine, hp]; exact h
  | none => simp only [MemState.storeLine, hp]; exact MemState.wf_commitLine h

theorem MemState.wf_post {q : Nat} (h : m.wf) : (m.post line q l).wf := h

theorem MemState.wf_touchEcc {c : Nat} {dirty : Bool} (h : m.wf) : (m.touchEcc c k dirty).wf := h

theorem MemState.wf_cleanEcc {c : Nat} (h : m.wf) : (m.cleanEcc c).wf := h

/-- A line written back after a read keeps the canonical form. -/
theorem State.mem_wf_writeBack {data : List Byte} {p : Bool} (h : s.mem.wf) : (s.writeBack line data p).mem.wf := by
  unfold State.writeBack
  cases p
  · exact MemState.wf_commitLine h
  · exact MemState.wf_setPoison (MemState.wf_commitLine h)

/-- A change of the contents with a new configuration lists nothing. -/
theorem State.mem_wf_dramReconfigured {d : List Byte} : (s.dramReconfigured d).mem.wf := rfl

/-- After reset memory lists nothing. -/
theorem State.mem_wf_reset : State.reset.mem.wf := rfl

end Sys2Proof.Machine
end

