-- ==== Sys2Proof/Laws/Accesses.lean ====
section
/-! SUPPORT. What an engine's access to memory does: findings, counters and activations leave the stored bytes alone, a
refused access leaves all of memory alone, and every access keeps the canonical form. -/

namespace Sys2Proof.Machine

variable {s : State} {q a flat line rank : Nat}

@[simp] theorem State.mem_raiseWith (i : Nat) (d : Word) (x : Bool) : (s.raiseWith i d x).mem = s.mem := by
  rcases State.raiseWith_cases s i d x with ⟨_, e⟩ | ⟨_, _, e⟩ | ⟨_, _, e⟩
  · rw [e]
  · rw [e]
  · rw [e]
    rfl

@[simp] theorem State.mem_raise (i d : Nat) : (s.raise i d).mem = s.mem := State.mem_raiseWith i _ false

@[simp] theorem State.mem_outOfRange : (s.outOfRange q).mem = s.mem := by
  unfold State.outOfRange
  rw [State.mem_raise, State.incSat_mem]

@[simp] theorem State.mem_migStart : (s.migStart rank).mem = s.mem := by
  unfold State.migStart
  rw [State.mem_raise, State.setFld_mem, State.setFld_mem, State.setFld_mem]

@[simp] theorem State.mem_memFinding : (s.memFinding rank).mem = s.mem := by
  unfold State.memFinding
  split
  · split
    · split
      · exact State.mem_migStart
      · rw [State.mem_raise, State.setFld_mem]
    · split
      · rfl
      · exact State.mem_raise 71 rank
    · rw [State.mem_raise, State.setFld_mem]
    · rfl
  · rfl

@[simp] theorem State.mem_countUE : (s.countUE line).mem = s.mem :=
  State.mem_memFinding.trans ((State.mem_raise _ _).trans
    ((State.setOn_mem _ _ _).trans ((State.setFld_mem _ _ _).trans (State.incSat_mem _ _))))

theorem ite_keeps {P : State → Prop} {c : Prop} [Decidable c] {u v : State} (hu : P u) (hv : P v) :
    P (if c then u else v) := by
  split
  · exact hu
  · exact hv

/-- Two states whose memories hold the same bytes. -/
abbrev SameCells (s t : State) : Prop := t.mem.cells = s.mem.cells ∧ t.mem.epoch = s.mem.epoch

theorem sameCells_of_mem {s t : State} (e : t.mem = s.mem) : SameCells s t := by
  unfold SameCells
  rw [e]
  exact ⟨rfl, rfl⟩

theorem sameCells_trans {s t u : State} (h : SameCells s t) (h' : SameCells t u) : SameCells s u :=
  ⟨h'.1.trans h.1, h'.2.trans h.2⟩

theorem sameCells_ceCount {s : State} {n : Tab Nat} : SameCells s { s with mem := { s.mem with ceCount := n } } := ⟨rfl, rfl⟩

theorem sameCells_ceHit {s : State} {n : Tab Bool} : SameCells s { s with mem := { s.mem with ceHit := n } } := ⟨rfl, rfl⟩

theorem sameCells_throttle {s : State} {n : Tab Nat} : SameCells s { s with mem := { s.mem with throttle := n } } := ⟨rfl, rfl⟩

theorem State.cells_countCE : SameCells s (s.countCE rank) :=
  have h := sameCells_trans (sameCells_of_mem (State.incSat_mem s (F.MEM_RKj_ERR_CE rank))) sameCells_ceCount
  ite_keeps (P := SameCells s)
    (sameCells_trans (sameCells_trans h sameCells_ceHit)
      (sameCells_of_mem (State.mem_memFinding.trans (State.mem_raise _ _)))) h

theorem MemState.wf_of_cells {m n : MemState} (h : m.wf) (hc : n.cells = m.cells) (he : n.epoch = m.epoch) : n.wf := by
  unfold MemState.wf
  rw [hc, he]
  exact h

theorem State.mem_wf_countCE (h : s.mem.wf) : (s.countCE rank).mem.wf :=
  MemState.wf_of_cells h State.cells_countCE.1 State.cells_countCE.2

/-- What a read of a line brings leaves the canonical form. -/
theorem State.mem_wf_handleRead {c : LineClass × List Byte} {o : Bool} (h : s.mem.wf) : (s.handleRead line c o).1.mem.wf := by
  unfold State.handleRead
  split
  · exact h
  · cases o
    · exact State.mem_wf_countCE (State.mem_wf_writeBack h)
    · exact State.mem_wf_countCE h
  · rw [State.incSat_mem]
    exact h
  · cases o
    · exact Eq.mpr (congrArg MemState.wf State.mem_countUE) (State.mem_wf_writeBack (s := { s with freeCtr := s.freeCtr + 64 }) h)
    · exact Eq.mpr (congrArg MemState.wf State.mem_countUE) h

/-- A whole line stored keeps the canonical form. -/
theorem State.mem_wf_putLine {l : List Byte} {p : Bool} {e : ReadNoise} (h : s.mem.wf) : (s.putLine line l p e).mem.wf := by
  have hw (k : Nat) : (s.mem.commitLine k (l.map some)).wf := MemState.wf_commitLine h
  unfold State.putLine
  dsimp only
  split
  · cases p <;> exact hw _
  · split
    · exact h
    · cases p <;> exact hw _

theorem State.cells_activate : SameCells s (s.activate q line) :=
  have h {l : Tab (List HotEntry)} {r thr : Tab Nat} :
      SameCells s { s with mem := { s.mem with hot := l, row := r, throttle := thr } } := ⟨rfl, rfl⟩
  ite_keeps (P := SameCells s)
    (sameCells_trans (sameCells_trans h sameCells_throttle) (sameCells_of_mem ((State.mem_raise _ _).trans
      ((State.setFld_mem _ _ _).trans ((State.incSat_mem _ _).trans ((State.setFld_mem _ _ _).trans
        ((State.setFld_mem _ _ _).trans ((State.setFld_mem _ _ _).trans (State.setFld_mem _ _ _))))))))) h

theorem State.cells_opens {b : Bool} : SameCells s (s.whenDo b (·.activate q line)) := by
  cases b
  · exact ⟨rfl, rfl⟩
  · exact State.cells_activate

/-- What an access does for its queue before its data move leaves the bytes alone. -/
theorem State.cells_touchLine {w : Bool} : SameCells s (s.touchLine q line w) := by
  have h {t : State} (ht : SameCells s t) {k : Nat} :
      SameCells s { t.whenDo (t.activates line) (·.activate q line) with
        mem := (t.whenDo (t.activates line) (·.activate q line)).mem.touchEcc (lineCtl line) k w } :=
    sameCells_trans (sameCells_trans ht State.cells_opens) ⟨rfl, rfl⟩
  unfold State.touchLine
  dsimp only
  split
  · exact h State.cells_opens
  · exact h ⟨rfl, rfl⟩

theorem State.mem_wf_touchLine {w : Bool} (h : s.mem.wf) : (s.touchLine q line w).mem.wf :=
  MemState.wf_of_cells h State.cells_touchLine.1 State.cells_touchLine.2

/-- A write of some bytes of a line, judged first where it is partial, keeps the canonical form. -/
theorem State.mem_wf_dramWrite {l : List (Option Byte)} {r w : ReadNoise} (h : s.mem.wf) :
    (s.dramWrite q line l r w).mem.wf := by
  unfold State.dramWrite
  dsimp only
  split
  · exact State.mem_wf_putLine (State.mem_wf_touchLine h)
  · exact State.mem_wf_putLine (State.mem_wf_handleRead (State.mem_wf_touchLine h))

/-- A read from the DRAM keeps the canonical form: it changes bytes by a write-back alone. -/
theorem State.mem_wf_dramRead (h : s.mem.wf) : (s.dramRead q line).1.mem.wf :=
  State.mem_wf_handleRead (State.mem_wf_touchLine h)

theorem State.cells_reserve : SameCells s (s.reserve q line) := by
  unfold State.reserve
  exact ite_keeps sameCells_throttle ⟨rfl, rfl⟩

theorem State.cells_awaitThrottle : SameCells s (s.awaitThrottle q line) := by
  unfold State.awaitThrottle
  dsimp only
  split
  · exact sameCells_trans ⟨rfl, rfl⟩ State.cells_reserve
  · exact State.cells_reserve

/-- The throttle's wait keeps the canonical form. -/
theorem State.mem_wf_awaitThrottle (h : s.mem.wf) : (s.awaitThrottle q line).mem.wf :=
  MemState.wf_of_cells h State.cells_awaitThrottle.1 State.cells_awaitThrottle.2

/-- An engine's read keeps the canonical form. -/
theorem State.mem_wf_lineRead (h : s.mem.wf) : (s.lineRead q flat).1.mem.wf := by
  unfold State.lineRead
  dsimp only
  split
  · rw [State.mem_outOfRange]
    exact h
  · split
    · exact h
    · dsimp only
      exact State.mem_wf_dramRead (State.mem_wf_awaitThrottle h)

/-- A write that waits leaves the bytes alone. -/
theorem State.cells_queueWrite {e : MemEntry} : SameCells s (s.queueWrite q e) := by
  unfold State.queueWrite
  split
  · rename_i h
    unfold State.pushReq
    rw [if_pos h]
    exact ⟨rfl, rfl⟩
  · exact ⟨rfl, rfl⟩

theorem State.mem_wf_readEach {l : List Nat} (h : s.mem.wf) : (s.readEach q l).1.mem.wf := by
  induction l generalizing s with
  | nil => exact h
  | cons x t ih =>
    have e : (s.readEach q (x :: t)).1 = ((s.lineRead q x).1.readEach q t).1 := rfl
    rw [e]
    exact ih (State.mem_wf_lineRead h)

/-- An engine's reads of a range keep the canonical form. -/
theorem State.mem_wf_readLines {n : Nat} (h : s.mem.wf) : (s.readLines q a n).1.mem.wf := State.mem_wf_readEach h

theorem State.mem_wf_queueWrite {e : MemEntry} (h : s.mem.wf) : (s.queueWrite q e).mem.wf :=
  MemState.wf_of_cells h (State.cells_queueWrite (s := s)).1 (State.cells_queueWrite (s := s)).2

/-- An engine's write to a line keeps the canonical form. -/
theorem State.mem_wf_lineStore {l : List (Option Byte)} (h : s.mem.wf) : (s.lineStore q flat l).mem.wf := by
  unfold State.lineStore
  dsimp only
  split
  · exact State.mem_wf_queueWrite h
  · split
    · rw [State.mem_outOfRange]
      exact h
    · split
      · exact MemState.wf_storeLine h
      · exact State.mem_wf_dramWrite (MemState.wf_overtake (State.mem_wf_awaitThrottle h))

/-- An engine's write of bytes keeps the canonical form. -/
theorem State.mem_wf_writeFlat {l : List Byte} (h : s.mem.wf) : (s.writeFlat q a l).mem.wf := by
  unfold State.writeFlat
  exact State.each_keeps (P := fun u => u.mem.wf) h fun _ _ _ hu => State.mem_wf_lineStore hu

/-- An access above the flat space changes nothing in memory (R246). -/
theorem State.lineRead_above (h : s.flatTop ≤ flat) :
    s.lineRead q flat = (s.outOfRange q, ⟨flat, List.replicate 64 0, true⟩) := if_pos h

theorem State.lineStore_above {l : List (Option Byte)} (h : s.flatTop ≤ flat) (hq : s.queueIdle q = true) :
    s.lineStore q flat l = s.outOfRange q := by
  unfold State.lineStore State.flatOpen
  rw [hq, decide_eq_true h]
  exact if_pos h

/-- A line that the write buffer holds whole is read from it: no access to the DRAM takes place (R254). -/
theorem State.lineRead_posted {e : WEntry} (h : ¬ s.flatTop ≤ flat) (hp : s.mem.posted (s.lineOf flat) = some e)
    (hw : wholeLine e.bytes = true) :
    s.lineRead q flat = (s, ⟨flat, e.bytes.map (·.getD 0), false⟩) := by
  have hb : s.mem.postedBytes (s.lineOf flat) = e.bytes := by
    unfold MemState.postedBytes
    rw [hp]
  unfold State.lineRead
  rw [if_neg h]
  dsimp only
  rw [hb]
  exact if_pos hw

/-- A write that cannot pass at once waits: in its queue, or before it where that is full (R37). -/
theorem State.lineStore_waits {l : List (Option Byte)} (h : (s.queueIdle q && s.flatOpen flat) = false) :
    s.lineStore q flat l = s.queueWrite q ⟨true, flat, l, 0⟩ := by
  unfold State.lineStore
  rw [h]
  rfl

end Sys2Proof.Machine
end

