-- ==== Sys2Proof/WellFormed.lean ====
section
/-! DEFINITION. What the interfaces can bring: the lengths and ranges of the operands that their types leave wider. Every
meaning is total, so nothing else of the model asks for this. -/

namespace Sys2Proof

/-- A control packet: twelve header bytes and at most sixteen words (R298). -/
def CtlPkt.wellFormed (p : CtlPkt) : Bool := decide (p.startLane < 4) && p.hdr.length == 12 && decide (p.words.length ≤ 16)

/-- A general frame: sixteen header bytes and at most sixty-four words (R309). -/
def SpnFrame.wellFormed (f : SpnFrame) : Bool := f.hdr.length == 16 && decide (f.words.length ≤ 64)

/-- A request: a write carries one to sixty-four bytes of one line, a read none (R253). -/
def MemReq.wellFormed (r : MemReq) : Bool :=
  if r.write then decide (0 < r.bytes.length) && decide (r.flat % 64 + r.bytes.length ≤ 64) else r.bytes.isEmpty

/-- What a read meets: differences for at most eight words (R249). -/
def ReadNoise.wellFormed (n : ReadNoise) : Bool := decide (n.data.length ≤ 8) && decide (n.check.length ≤ 8)

/-- A calibration pair: an item that exists, and as many points as a run has (R399 to R402). -/
def CalPair.wellFormed : CalPair → Bool
  | .byteLane i a b => decide (i < 16) && [a, b].all fun r => r.codes.length == 2 && r.fines.length == 2 && r.samples.length == 16
  | .sdo p a b => decide (p < 64) && [a, b].all fun r => decide (r.capture.length ≤ 64) && decide (r.taps.length ≤ 32)
  | .lane i a b => decide (i < 17) && [a, b].all fun r => decide (r.counts.length ≤ 16)

/-- Whether the operands of a command are such as its interface can bring. [log 16] -/
def Instr.wellFormed : Instr → Bool
  | .fetchDone image => image.all fun b => decide (b.length ≤ 16777216)
  | .videoPacketReceive _ pkt => decide (pkt.startLane < 4)
  | .coefRewrite table => decide (table < 40)
  | .readbackReceive _ records _ monitor => decide (records.length ≤ 32) && decide (monitor.length ≤ 32)
  | .memRequest _ r => r.wellFormed
  | .memReadComplete _ noise => noise.wellFormed
  | .memWriteComplete write => write.read.wellFormed && write.written.wellFormed
  | .scrubStep noise => noise.wellFormed
  | .migrationLineCopy noise => noise.wellFormed
  | .ts1Receive _ _ ts => ts.syms.length == 16
  | .ts2Receive _ _ ts => ts.syms.length == 16
  | .blockHeaderReceive _ _ hdr => hdr.syms.length == 8
  | .skpReceive _ _ fill => decide (fill ≤ 32)
  | .lnkRd _ pkt => pkt.wellFormed
  | .lnkWr _ pkt => pkt.wellFormed
  | .lnkRdr _ pkt => pkt.wellFormed
  | .lnkWrr _ pkt => pkt.wellFormed
  | .spnRd _ frame => frame.wellFormed
  | .spnWr _ frame => frame.wellFormed
  | .spnRdr _ frame => frame.wellFormed
  | .spnWrr _ frame => frame.wellFormed
  | .img _ frame => frame.wellFormed
  | .imge _ frame => frame.wellFormed
  | .imgr _ frame => frame.wellFormed
  | .flt _ frame => frame.wellFormed
  | .fsync _ frame => frame.wellFormed
  | .time _ frame => frame.wellFormed
  | .walk _ frame => frame.wellFormed
  | .done _ frame => frame.wellFormed
  | .adcConversionDone _ vref => decide (0 < vref)
  | .scalCaptureDone sum ovr => decide (sum ≤ 256 * 4095) && decide (ovr ≤ 256)
  | .calRunDone _ items => items.all CalPair.wellFormed
  | .hostWr _ count words _ => decide (words.length ≤ count.toNat % 16 + 1)
  | .qwr _ count words _ => decide (words.length ≤ count.toNat % 16 + 1)
  | .flashTransferDone data => decide (data.length ≤ 65536)
  | .resetRelease straps => straps.diodes.length == 3
  | .straitFlitReceive _ _ _ _ | .straitRetrainDone _ _ | .downClear _ | .straitTrainingDone _ _
  | .beadContextSelect _ _ _ _ | .load _ _ | .abort | .revert | .checkDone | .authDone | .admissionDone
  | .apply | .commit | .commitWindowOpen | .commitWindowClose | .publish _ | .bankLoadStart _
  | .bankLoadComplete _ | .tableCopyDone | .writebackLine _ _ _ | .writebackPublish _ | .monitorPacketSend _
  | .guardSumsComplete _ | .agePoisonClear | .frameStart | .rowBoundary _ | .genlockEdge _ _
  | .genlockVirtualInstant | .pllScanLocked | .chainLineShift _ _ | .strb _ | .row _ _ _ | .bwr _ _ _
  | .bsel _ _ _ | .rdbk _ _ _ | .glnt _ _ _ | .cur _ _ _ | .pwm _ _ _ | .gdly _ _ _ | .blnk _ _ _ | .sync _ _
  | .win _ _ _ | .forceBlank _ | .pmbusTransactionDone _ _ | .pmbusRetry _ | .memAccept _
  | .refreshDue _ _ _ | .mr4Poll _ _ _ _ | .refreshWindowStart | .ceWindowEnd | .spareStart _ | .timingRecal _
  | .memReconfigDone | .dramTrainingDone _ _ _ _ | .hostLineBufferFlush | .receiverDetect _ _
  | .linkStateTimeout _ | .roleHoldoffEnd _ | .videoTimeout | .revertHoldExpiry | .foSwitch | .retrain _
  | .clrfail _ | .packetSelect _ | .cmSend | .cmTimeout _ | .quarantineExpiry _ _ | .cmRspRead | .hb _ _ _
  | .cmd _ _ _ | .req _ _ _ | .rst _ _ _ | .walkStart | .autowalkTimer | .doneTimeout _ | .timeHoldTimeout
  | .tsetWrite _ | .timeLoRead _ | .raSend | .raTimeout _ | .mcStart | .mcChunkSend | .imgrWaitTimeout
  | .finRead | .claspCycle _ | .clsFilterAccept _ | .discTimeout _ | .clsKey _ | .keyTimeout | .arm | .sdkReq _
  | .heartbeatSend | .heartbeatTimeout | .reqResend | .offPulseTest _ _ | .outputReadbackCheck _ _
  | .selfTest _ | .clsClockCheck _ | .lkWrite _ _ | .xtalQualWindow _ _ | .xtalQualTimeout | .xtalLoss
  | .srcfailClear | .pllLock _ | .pllUnlock _ | .clockSwitch _ _ | .gateRequest _ | .gateQuiesce _
  | .gateTimeout _ | .pwrReq _ | .idleTick | .pwrWake | .wakeSource _ _ | .wakeStep _ _ | .wakeReadyRetry _
  | .wakeout _ | .diodeReading _ _ _ | .diodeService | .adcStart | .adcTimer | .adcPinTrigger _
  | .scalZero | .scalFull | .calRun _ | .chkStart _ | .chkStop _ | .eventTake
  | .promoWindowExpiry _ | .promoClear _ | .srcWrite _ _ | .faultNPulseEnd | .holdClear | .injGo _ | .logClear
  | .hostRd _ _ _ | .qrd _ _ _ | .rdsr | .hostReadTimeout | .registerWrite _ _ | .flcmdGo _ | .flashPoll _ _
  | .resetAssert _ | .internalPor | .vddCoreLow | .raRspRead | .blockHeaderSend _ _ | .clsInChange _ _
  | .claspWatchdogExpiry | .pllLockTimeout _ | .laneWidthTimeout _ | .chkOnchipScanDone _ | .timingRecalDone _
  | .codeError _ _ | .elasticBufferSlip _ _ | .hostUnknownOpcode _ | .spnInvalidFrame _ _
  | .lnkInvalidControl _ => true

end Sys2Proof
end

