-- ==== Sys2Proof/Tests/Slice0.lean ====
section
/-! SUPPORT. Tests of the model. The theorems `wit_…` show, for each statement of the certificate, concrete states and
operands that meet the hypotheses of its clauses; `test_wf_…` show ill-formed operands refused; `test_…` one step each.
Expected results are from the rule named in the comment, worked by hand. -/

namespace Sys2Proof.Tests

open Sys2Proof Sys2Proof.Machine

set_option Elab.async false

/-- The device after the first release of RESET_N, no strap or fuse set. -/
def x0 : State := { State.reset with inReset := false }

/-- The same with every loop locked. -/
def xl : State := x0.setFld F.CLK_STAT_LOCK 63

/-! ## Witnesses -/

/-- The strait of die 1 works, its inbound direction has failed `n` times in a row. -/
def straitUp (n : Nat) : State :=
  { x0.setFld (straitState 1) 2 with strait := { x0.strait with bad := [(3, n)] } }

theorem wit_Strait_FlitsReplayAndRetrain :
    (x0.live ∧ x0.fld (straitState 1) ≠ 2) ∧
    ((straitUp 1).live ∧ (straitUp 1).fld (straitState 1) = 2 ∧
      crc16 (flitBytes 0) = (BitVec.ofNat 16 (crc16 (flitBytes 0))).toNat) ∧
    (crc16 (flitBytes 0) ≠ (BitVec.ofNat 16 (crc16 (flitBytes 0)) ^^^ 1).toNat ∧
      Tab.num (straitUp 2).strait.bad (2 * 1 + b2n true) < 3) ∧
    3 ≤ Tab.num (straitUp 3).strait.bad (2 * 1 + b2n true) := by decide +kernel

/-- Die 0 retrains, or trains after DOWN, for the third time. -/
def straitTry (fromDown : Bool) (n : Nat) : State :=
  { x0.setFld (straitState 0) 3 with strait := { x0.strait with fromDown := [(0, fromDown)], fails := [(0, n)] } }

theorem wit_Strait_AttemptsAndDown :
    (x0.live ∧ (straitTry false 1).live ∧ (straitTry true 2).live) ∧
    (∀ n ∈ [1, 2], (straitTry false n).fld (straitState 0) = 3 ∧
      Tab.on (straitTry false n).strait.fromDown 0 = false) ∧
    Tab.num (straitTry false 1).strait.fails 0 < 2 ∧ 2 ≤ Tab.num (straitTry false 2).strait.fails 0 ∧
    ((straitTry true 2).fld (straitState 0) = 3 ∧ Tab.on (straitTry true 2).strait.fromDown 0 = true) ∧
    2 ≤ Tab.num (straitTry true 2).strait.fails 0 ∧
    (x0.setFld (straitState 0) 1).fld (straitState 0) = 1 ∧
    (x0.setOn (straitDown 0) true).on (straitDown 0) = true ∧ x0.on (straitDown 0) = false ∧ x0.strait.noPower = false ∧
    x0.chn.bringDue = false ∧
    (let s := { x0.setOn (straitDown 0) true with strait := { x0.strait with noPower := true } }
     s.live ∧ s.on (straitDown 0) = true ∧ s.strait.noPower = true) := by decide +kernel

/-- The loader in a given state, with a load of source `src`. -/
def loader (st src : Nat) : State := { xl.setFld F.CFG_STATUS_STATE st with ldr := { x0.ldr with src := src } }

theorem wit_Loader_LoadAbortRevert :
    (x0.live ∧ x0.on F.THM_STAT_SHUT = false ∧ x0.stopping 10 = false ∧ x0.ldrState = 0 ∧ x0.on F.SPN_MC_RX_ACTIVE = false) ∧
    ((x0.gated 10 true).live ∧ (x0.gated 10 true).on F.THM_STAT_SHUT = false ∧ (x0.gated 10 true).stopping 10 = true) ∧
    ((loader 6 0).live ∧ (loader 6 0).on F.THM_STAT_SHUT = false ∧ (loader 6 0).stopping 10 = false ∧ (loader 6 0).ldrState ≠ 0) ∧
    (∀ n ∈ [1, 4], 1 ≤ (loader n 0).ldrState ∧ (loader n 0).ldrState ≤ 4 ∧ (loader n 0).ldr.boot = false ∧
      (loader n 0).ldr.commit ≠ .held) ∧
    4 < (loader 5 0).ldrState := by decide +kernel

/-- A header that begins right, of an image of 64 bytes (R39). -/
def header64 : List Byte :=
  [0x47, 0x4C, 0x42, 0x31, 0, 0, 0, 0, 64, 0, 0, 0] ++ List.replicate 52 0

/-- The loader fetches from the flash. -/
def fetching (src : Nat) (boot : Bool) : State :=
  { loader 1 src with ldr := { (loader 1 src).ldr with boot := boot }, flash := { x0.flash with running := some .fetch } }

/-- The header stands in the staging area of a memory of one rank in service. -/
def staged : State :=
  let s := (loader 2 0).setFld F.MEM_STAT_INSVC 1
  s.writeFlat 24 s.stageBase header64

/-- A partial image of 136 bytes with one empty LUTCOEF record (R39 to R42); its two CRCs computed by hand. -/
def partImage : List Byte :=
  [71, 76, 66, 49, 1, 0, 64, 0, 136, 0, 0, 0, 72, 16, 0, 2, 5, 0, 0, 0, 1, 0, 0, 0, 64] ++ List.replicate 35 0 ++
  [83, 224, 67, 43, 3, 0, 0, 0, 128, 0, 0, 0, 8, 0, 0, 0, 138, 178, 40, 140] ++ List.replicate 56 0

/-- The partial image stands in the staging area, a configuration runs. -/
def stagedPart : State :=
  let s := ((loader 2 1).setFld F.MEM_STAT_INSVC 1).setOn F.CFG_STATUS_ACTIVE true
  s.writeFlat 24 s.stageBase partImage

/-- An image of 256 bytes whose one section is a signature under the private key 1 with the nonce 1 (R48). -/
def signedImage : List Byte :=
  [71, 76, 66, 49, 1, 0, 64, 0, 0, 1, 0, 0, 72, 16, 0, 1, 5, 0, 0, 0, 1, 0, 0, 0, 64] ++ List.replicate 35 0 ++
  [32, 162, 101, 140, 254, 0, 0, 0, 128, 0, 0, 0, 128, 0, 0, 0, 190, 253, 77, 13] ++ List.replicate 48 0 ++
  beBytes 32 pGen.1 ++ beBytes 32 pGen.2 ++ beBytes 32 pGen.1 ++
  beBytes 32 0xab7365469ec23235ed6e86f3ccd9805758f37e0afdde009b2b0683990598ec07

/-- The loader authenticates an image; the key hash fuses hold the hash of the public key of `signedImage`. -/
def authenticating (img : List Byte) : State :=
  let keys : BitVec 256 := 0xd875db7def232236aec738c6b0bb3e80142f5d0fd8f4df24fed6eef5cbb50d9f
  { loader 3 0 with ldr := { (loader 3 0).ldr with sec := true, img := img, keyHash := keys } }

theorem wit_authentic : authentic signedImage (authenticating signedImage).ldr.keyHash.toNat = true := by decide +kernel

/-- An image of `n` bytes read from the staging area through Q24: the machine then, the bytes and the poisoned lines. -/
def readStaged (s : State) (n : Nat) : State × List Byte × List Nat :=
  let r := s.lineRead 24 s.stageBase
  let q := r.1.readLines 24 (s.stageBase + 64) (n - 64)
  (q.1, spanBytes (r.2 :: q.2) s.stageBase n, ((r.2 :: q.2).filter (·.poisoned)).map fun x => x.flat - s.stageBase)

theorem wit_Loader_FetchCheckAuth :
    (x0.live ∧ (x0.ldrState ≠ 1 ∧ x0.ldrState ≠ 2 ∧ x0.ldrState ≠ 3) ∧ x0.flash.running ≠ some .dropped) ∧
    (let s := { x0 with flash := { x0.flash with running := some .dropped } }
     s.live ∧ s.flash.running = some .dropped) ∧
    (let s := fetching 1 false
     s.live ∧ s.ldrRuns = true ∧ s.ldrState = 1 ∧ s.flash.running = some .fetch ∧ leAt header64 0 4 = 0x31424C47 ∧
     64 ≤ leAt header64 8 4 ∧ leAt header64 8 4 ≤ 0x1000000 ∧ (s.ldr.src = 2 → s.on F.SYS_FLCFG_ADDR4 = true) ∧
     s.ldr.boot = false) ∧
    (let s := fetching 1 true
     s.live ∧ s.ldrRuns = true ∧ s.ldrState = 1 ∧ s.flash.running = some .fetch ∧ s.ldr.boot = true ∧ s.ldr.src = 1 ∧
     s.ldr.bootSrc = 0) ∧
    ((loader 3 0).live ∧ (loader 3 0).ldrState = 3 ∧ (loader 3 0).ldrRuns = true ∧ (loader 3 0).ldr.sec = false) ∧
    (let s := authenticating signedImage
     s.live ∧ s.ldrRuns = true ∧ s.ldrState = 3 ∧ s.ldr.sec = true ∧ s.ldr.img = signedImage) ∧
    (let s := authenticating header64
     s.live ∧ s.ldrRuns = true ∧ s.ldrState = 3 ∧ s.ldr.sec = true ∧ s.ldr.boot = false ∧
     authentic s.ldr.img s.ldr.keyHash.toNat = false) := by
  decide +kernel

theorem wit_Loader_check :
    (staged.live ∧ staged.ldrRuns = true ∧ staged.ldrState = 2 ∧ staged.engineFree 24 = true ∧
      leAt (staged.lineRead 24 staged.stageBase).2.data 8 4 = 64 ∧ (readStaged staged 64).2 = (header64, []) ∧
      (readStaged staged 64).1.checkFinding header64 [] = some (1, 0) ∧ staged.ldr.boot = false) ∧
    (stagedPart.live ∧ stagedPart.ldrRuns = true ∧ stagedPart.ldrState = 2 ∧ stagedPart.engineFree 24 = true ∧
      leAt (stagedPart.lineRead 24 stagedPart.stageBase).2.data 8 4 = 136 ∧ (readStaged stagedPart 136).2 = (partImage, []) ∧
      (readStaged stagedPart 136).1.checkFinding partImage [] = none) := by
  decide +kernel

/-- The sections of a configuration without contexts and without an active feed. -/
def secs0 : Secs :=
  [(64, [0, 0x80]), (80, [0]),
   (96, leBytes 4 (2 ^ 20 + 60) ++ leBytes 4 (3 * 2 ^ 26 + 100 * 2 ^ 11 + 64) ++ List.replicate 40 0),
   (112, List.replicate 16 0 ++ [1]), (128, [0, 0, 5, 0, 0, 2, 7, 7, 0, 0, 16, 4])]

/-- An image with these sections is under admission on a device with two trained ranks. -/
def admitting (active : Bool) : State :=
  let s := ((x0.setFld F.CFG_STATUS_STATE 4).setFld F.MEM_STAT_TRAINED 5).setOn F.CFG_STATUS_ACTIVE active
  { s with ldr := { s.ldr with secs := secs0 }, mem := { s.mem with populated := [(0, true), (2, true)] } }

/-- The registers that admission judges there. -/
def regs0 (active : Bool) : Tab Word := (admitting active).imageCandidate.regs

theorem admission_first : admission (admitting false).imageCandidate = none := by decide +kernel
theorem admission_next : admission (admitting true).imageCandidate = none := by decide +kernel

/-- A configuration runs, in which the registers and sections are those that admission judged. -/
def running (st : Nat) (commit : CommitPhase) (img : List Byte) (secs : Secs) : State :=
  let s := admitting true
  let s := { s with regs := regs0 true, conf := { s.conf with secs := secs0 } }.setFld F.CFG_STATUS_STATE st
  { s with ldr := { s.ldr with commit := commit, img := img, secs := secs, snap := regs0 true } }

theorem finding_first : (admitting false).imageFinding = none := by
  rw [State.imageFinding, admission_first]; decide +kernel

theorem finding_full : (running 4 .idle [] secs0).imageFinding = none := by
  rw [State.imageFinding, show (running 4 .idle [] secs0).imageCandidate = (admitting true).imageCandidate by decide +kernel,
    admission_next]
  decide +kernel

theorem finding_partial : (running 4 .idle partImage []).imageFinding = none := by
  rw [State.imageFinding, show (running 4 .idle partImage []).imageCandidate = (admitting true).imageCandidate by decide +kernel,
    admission_next]
  decide +kernel

/-- The same while frames run on a coasting PLL_SCAN. -/
def runningFrames : State :=
  let s := running 4 .idle [] secs0
  { s with tim := { s.tim with running := true }, clk := { s.clk with coast := [(3, true)] } }

theorem finding_frames : runningFrames.imageFinding = none := by
  rw [State.imageFinding, show runningFrames.imageCandidate = (admitting true).imageCandidate by decide +kernel,
    admission_next]
  decide +kernel

theorem finding_held : (running 4 .held [] secs0).imageFinding = none := by
  rw [State.imageFinding, show (running 4 .held [] secs0).imageCandidate = (admitting true).imageCandidate by decide +kernel,
    admission_next]
  decide +kernel

/-- A commit is admitted where no configuration runs: a snapshot with every register of `regs0`. -/
def firstCommit : State :=
  let s := admitting false
  { s with conf := { s.conf with secs := secs0 }, ldr := { s.ldr with commit := .admitting, snap := regs0 false },
           regs := regs0 false }

theorem commit_first :
    admission (firstCommit.candidate firstCommit.conf.secs (withShadows firstCommit.regs firstCommit.ldr.snap)) = none := by
  rw [show firstCommit.candidate firstCommit.conf.secs (withShadows firstCommit.regs firstCommit.ldr.snap) =
    (admitting false).imageCandidate by decide +kernel]
  exact admission_first

theorem commit_admitted :
    let s := running 4 .admitting [] []
    admission (s.candidate s.conf.secs (withShadows s.regs s.ldr.snap)) = none := by
  intro s
  rw [show s.candidate s.conf.secs (withShadows s.regs s.ldr.snap) = (admitting true).imageCandidate by decide +kernel]
  exact admission_next

/-- A commit under admission without a configuration. -/
def badCommit : State := { loader 0 0 with ldr := { x0.ldr with commit := .admitting } }

theorem wit_Loader_AdmissionApply :
    ((loader 4 0).live ∧ (loader 4 0).ldrState = 4 ∧ (loader 4 0).ldr.commit = .idle ∧
      (loader 4 0).imageFinding = some (17, 256) ∧ (loader 4 0).ldr.boot = false) ∧
    (let s := { admitting false with ldr := { (admitting false).ldr with dry := true } }
     s.live ∧ s.ldrState = 4 ∧ s.ldr.commit = .idle ∧ s.ldr.dry = true ∧ s.imageCandidate = (admitting false).imageCandidate ∧
     s.spineUp = false) ∧
    (let s := admitting false
     s.live ∧ s.ldrState = 4 ∧ s.ldr.commit = .idle ∧ s.ldr.dry = false ∧ s.active = false) ∧
    (let s := running 4 .idle [] secs0
     s.live ∧ s.ldrState = 4 ∧ s.ldr.commit = .idle ∧ s.ldr.dry = false ∧ s.active = true ∧ s.framesRun = false ∧
     isPartial s.ldr.img = false) ∧
    (let s := runningFrames
     s.live ∧ s.ldrState = 4 ∧ s.ldr.commit = .idle ∧ s.ldr.dry = false ∧ s.active = true ∧ s.framesRun = true ∧
     isPartial s.ldr.img = false) ∧
    (let s := running 4 .idle partImage []
     s.live ∧ s.ldrState = 4 ∧ s.ldr.commit = .idle ∧ s.ldr.dry = false ∧ s.active = true ∧ isPartial s.ldr.img = true) ∧
    (badCommit.live ∧ badCommit.ldr.commit = .admitting ∧
      admission (badCommit.candidate badCommit.conf.secs (withShadows badCommit.regs badCommit.ldr.snap)) = some (17, 256)) ∧
    (let s := running 4 .admitting [] []
     s.live ∧ s.ldr.commit = .admitting ∧ s.active = true ∧ s.on F.TIM_STAT_WINDOW = false ∧ s.tim.winClosed = false) ∧
    (x0.live ∧ x0.ldrState ≠ 4 ∧ x0.ldr.commit ≠ .admitting ∧ x0.ldrState ≠ 6 ∧ (loader 6 0).ldrState = 6) := by
  decide +kernel

theorem wit_Loader_commits :
    (∀ s ∈ [x0, loader 4 0, admitting false, running 4 .idle [] secs0, runningFrames, running 4 .idle partImage [], badCommit,
      running 4 .admitting [] [], loader 6 0], s.isGated 10 = false ∧ s.hubRuns = true) ∧
    (let s := running 4 .held [] secs0
     s.live ∧ s.ldrState = 4 ∧ s.ldr.commit = .held ∧ s.ldr.dry = false ∧ s.isGated 10 = false ∧ s.hubRuns = true) ∧
    (firstCommit.live ∧ firstCommit.ldr.commit = .admitting ∧ firstCommit.active = false ∧
      Tab.wf resetWord firstCommit.regs = true ∧ Tab.wf resetWord firstCommit.shad = true ∧
      Tab.wf resetWord firstCommit.ldr.snap = true ∧ firstCommit.isGated 10 = false ∧ firstCommit.hubRuns = true) := by
  decide +kernel

/-- COMMIT reads 0 in a loader state, with a configuration running. -/
def committing (st : Nat) : State := (x0.setFld F.CFG_STATUS_STATE st).setOn F.CFG_STATUS_ACTIVE true

/-- Frames run on a locked PLL_SCAN. -/
def frames : State :=
  { x0.setFld F.CLK_STAT_LOCK 8 with tim := { x0.tim with running := true } }

theorem wit_Commit_HeldRefusedArrived :
    (x0.live ∧ x0.on F.THM_STAT_SHUT = false ∧ x0.framesRun = false) ∧
    ((x0.setOn F.TIM_COMMIT_COMMIT true).live ∧ (x0.setOn F.TIM_COMMIT_COMMIT true).on F.THM_STAT_SHUT = false ∧
      (x0.setOn F.TIM_COMMIT_COMMIT true).on F.TIM_COMMIT_COMMIT = true) ∧
    (∀ n ∈ [0, 3, 4, 5, 6], (committing n).live ∧ (committing n).on F.THM_STAT_SHUT = false ∧
      (committing n).on F.TIM_COMMIT_COMMIT = false ∧ (committing n).ldrState = n) ∧
    (let s := (committing 3).setShadFld F.TIM_CTRL_TSEL 1
     s.live ∧ s.on F.THM_STAT_SHUT = false ∧ s.on F.TIM_COMMIT_COMMIT = false ∧ s.ldrState < 4 ∧ s.active = true ∧
     changesAdmitted s.regs s.shad = true) ∧
    (let s := committing 3
     s.active = true ∧ changesAdmitted s.regs s.shad = false ∧ s.on F.TIM_STAT_WINDOW = false ∧ s.tim.winClosed = false) ∧
    (frames.live ∧ frames.framesRun = true ∧ frames.on F.TIM_STAT_WINDOW = false ∧ frames.tim.winClosed = false ∧
      frames.ldr.commit ≠ .arrived) ∧
    (let s := { frames with ldr := { frames.ldr with commit := .arrived } }
     s.live ∧ s.framesRun = true ∧ s.on F.TIM_STAT_WINDOW = false ∧ s.tim.winClosed = false ∧ s.ldr.commit = .arrived ∧
     Tab.wf resetWord s.regs = true ∧ Tab.wf resetWord s.shad = true ∧ Tab.wf resetWord s.ldr.snap = true) ∧
    (x0.on F.TIM_COMMIT_COMMIT = false ∧ x0.ldrState < 4 ∧ x0.active = false ∧ Tab.wf resetWord x0.regs = true ∧ Tab.wf resetWord x0.shad = true) ∧
    (let s := (committing 3).setOn F.TIM_STAT_WINDOW true
     s.live ∧ s.on F.THM_STAT_SHUT = false ∧ s.on F.TIM_COMMIT_COMMIT = false ∧ s.ldrState < 4 ∧ s.active = true ∧
     changesAdmitted s.regs s.shad = false ∧ s.on F.TIM_STAT_WINDOW = true ∧ Tab.wf resetWord s.regs = true ∧ Tab.wf resetWord s.shad = true) := by decide +kernel

/-- A load of bank 0 that has formed nothing. -/
def load0 : Load where
  bank := 0
  bankE1 := 0
  regs := []
  tables := []
  front := []
  srcs := List.replicate 8 none
  gains := []
  att := 256
  phase := 0
  cap := none
  done := []
  lines := []
  packed := []
  dose := []
  sums := []
  shifted := []
  sigs := []
  sent := false
  under := []
  empty := []
  rowsIn := []
  rowCount := []

/-- A load of feed 0 is due on one port with a driver. -/
def due0 : State :=
  let s := ((x0.setFld (F.CHN_Cnn_CFG_NIC 63) 1).setFld (straitState 0) 2).setFld (straitState 1) 2
  { s with tim := { s.tim with active := [0], due := [(0, true)] } }

theorem wit_Pixels_BankLoadStart :
    (x0.live ∧ Tab.on x0.tim.due 3 = false) ∧
    (∀ s ∈ [due0, due0.setFld (straitState 1) 3, (due0.setFld (straitState 0) 0).setFld (straitState 1) 3],
      s.live ∧ Tab.on s.tim.due 0 = true ∧ Tab.opt s.pix.loads 0 = none ∧ s.mayLoad = true ∧ s.turnOf 0 = true ∧
      s.bankShown 0 0 (s.loadBank 0 0) = false ∧ s.bankShown 1 0 (s.loadBank 1 0) = false ∧ Tab.on s.cor.sumsIn 0 = false) ∧
    (due0.straitSkips 0 = false ∧ (due0.setFld (straitState 1) 3).straitSkips 1 = true) ∧
    (let s := (due0.setFld (straitState 0) 0).setFld (straitState 1) 3
     s.straitSkips 0 = true ∧ s.straitSkips 1 = true) := by decide +kernel

/-- Two contexts of kind 4 of bead 7 of strand 3 of isle 0, of classes 1 and 0, and the load of feed 0 that they serve. -/
def beads : State :=
  let rec0 (ctx cls : Nat) : List Byte := leBytes 8 (3 * 2 ^ 59 + 7 * 2 ^ 56 + ctx * 2 ^ 53 + 4 * 2 ^ 49 + cls * 2 ^ 41)
  let topo : List Byte := List.replicate 32 0 ++ [2, 0] ++ List.replicate 14 0 ++ rec0 0 1 ++ rec0 7 0
  let s := (x0.setFld F.CLK_STAT_LOCK 0x38).setFld (straitState 0) 2
  { s with conf := { s.conf with secs := [(16, topo)] }, pix := { s.pix with loads := [(0, some load0)] } }

/-- The record of the second. -/
def bead1 : Ctx := ctxOf (3 * 2 ^ 59 + 7 * 2 ^ 56 + 7 * 2 ^ 53 + 4 * 2 ^ 49)

theorem beads_ctxs : Secs.ctxs beads.conf.secs = [{ bead1 with ctx := 0, cls := 1 }, bead1] := by decide +kernel

theorem wit_Pixels_BeadRunsOneContext :
    (beads.live ∧ beads.beadsRun 0 = true ∧ beads.fetchRuns 0 = true ∧ beads.beadReady 0 3 7 1 bead1 load0 ∧
      (∀ j y m, beads.beadReady 0 3 7 j y m →
        ∀ e ∈ m.needs (feedCtxs (Secs.ctxs beads.conf.secs) 0 y.feed) j y, beads.hasRows true e = true) ∧
      ∀ j y m, beads.beadReady 0 3 7 j y m → j ≠ 1 → bead1.cls < y.cls ∨ (bead1.cls = y.cls ∧ bead1.ctx ≠ y.ctx ∧
        First (Tab.num beads.pix.beadPtr (4 * (32 * 0 + 8 * 3 + 7) + bead1.cls)) bead1.ctx y.ctx)) ∧
    (x0.live ∧ x0.beadsRun 0 = false ∧ ∀ j y m, ¬ x0.beadReady 0 0 0 j y m) := by
  refine ⟨⟨by decide, by decide +kernel, by decide +kernel, ?_, ?_, ?_⟩, by decide, by decide +kernel, ?_⟩
  · unfold State.beadReady; decide +kernel
  · intro j y m h
    have hy := h.1
    have hm := h.2.2.2.2.1
    rw [beads_ctxs] at hy
    match j with
    | 0 => cases hy; cases hm; decide +kernel
    | 1 => cases hy; cases hm; decide +kernel
    | n + 2 => cases hy
  · intro j y m h hj
    have hy := h.1
    rw [beads_ctxs] at hy
    match j, hj with
    | 0, _ => cases hy; exact .inl (by decide)
    | n + 2, _ => cases hy
  · intro j y m h
    have hy := h.1
    rw [show Secs.ctxs x0.conf.secs = [] by decide +kernel] at hy
    cases hy

/-- A load under which the facet correction is on. -/
def facetLoad : Load := { load0 with regs := [(R.COR_Fk_FCTRL 0, 0xFFFFFFFF)] }

/-- A facet context of bead 0, whose offset rows no buffer holds. -/
def facetBead : State :=
  let topo : List Byte := List.replicate 32 0 ++ [1, 0] ++ List.replicate 14 0 ++ leBytes 8 (5 * 2 ^ 49)
  let s := (xl.setFld (straitState 0) 2).setFld F.MEM_STAT_INSVC 1
  { s with conf := { s.conf with secs := [(16, topo)] }, pix := { s.pix with loads := [(0, some facetLoad)] } }

theorem facetBead_ctxs : Secs.ctxs facetBead.conf.secs = [ctxOf (5 * 2 ^ 49)] := by decide +kernel

theorem wit_Pixels_bead_empty :
    facetBead.live ∧ facetBead.beadsRun 0 = true ∧ facetBead.fetchRuns 0 = true ∧
    facetBead.beadReady 0 0 0 0 (ctxOf (5 * 2 ^ 49)) facetLoad ∧
    ∀ j y m, facetBead.beadReady 0 0 0 j y m →
      ∃ e ∈ m.needs (feedCtxs (Secs.ctxs facetBead.conf.secs) 0 y.feed) j y, facetBead.hasRows false e = false := by
  refine ⟨by decide, by decide +kernel, by decide +kernel, ?_, ?_⟩
  · exact ⟨by decide +kernel, by decide +kernel, by decide +kernel, by decide +kernel, rfl, by decide +kernel⟩
  · intro j y m h
    have hy := h.1
    have hm := h.2.2.2.2.1
    rw [facetBead_ctxs] at hy
    match j with
    | 0 => cases hy; cases hm; decide +kernel
    | n + 1 => cases hy

/-- Feed 0 has packed a row that port 0 shows, one value in its first column. -/
def shifting : State :=
  let s := ((x0.setFld (F.CHN_Cnn_CFG_NIC 0) 1).setFld (straitState 0) 2).setFld F.CLK_STAT_LOCK 0x38
  { s with conf := { s.conf with secs := [(64, [0, 0x80])] },
           pix := { s.pix with loads := [(0, some { load0 with packed := [(0, [5])] })] },
           chn := { s.chn with ports := [(0, { Port.idle with loads := [0] })] } }

theorem wit_Pixels_ShiftLandsOnMappedChannels :
    (x0.live ∧ (x0.port 63).loads = []) ∧
    (let l := { load0 with packed := [(0, [5])] }
     shifting.live ∧ (shifting.port 0).loads.head? = some 0 ∧ Tab.opt shifting.pix.loads 0 = some l ∧ shifting.mute 0 = false ∧
     shifting.fld (straitState 0) = 2 ∧ shifting.clocked 4 = true ∧ shifting.slotBars 0 0 = false ∧ (Secs.portRows shifting.conf.secs 0)[Tab.num l.shifted 0]? = some 0 ∧
     Tab.lst l.packed (128 * (0 / 8) + 0) ≠ [] ∧ l.bankOf 0 < 4) ∧
    (let l := { load0 with shifted := [(0, 1)] }
     let s := { shifting with conf := { shifting.conf with secs := [(64, [0, 0x80, 1, 0x80])] },
                              pix := { shifting.pix with loads := [(0, some l)] } }
     s.live ∧ (s.port 0).loads.head? = some 0 ∧ Tab.opt s.pix.loads 0 = some l ∧ s.mute 0 = false ∧
     s.fld (straitState 0) = 2 ∧ s.clocked 4 = true ∧ s.slotBars 0 0 = false ∧
     (Secs.portRows s.conf.secs 0)[Tab.num l.shifted 0]? = some 1 ∧ Tab.num l.shifted 0 ≠ 0 ∧ s.slowed 0 = false ∧
     l.bankOf 0 < 4) := by decide +kernel

/-- A load of feed 3 runs where no port has drivers. -/
def finishing : State := { x0 with pix := { x0.pix with loads := [(3, some load0)] } }

theorem wit_Pixels_LoadAndSumsComplete :
    (finishing.live ∧ Tab.opt finishing.pix.loads 3 = some load0 ∧ finishing.loadShifted 3 load0 = true ∧
      finishing.packed 3 load0 = true ∧ finishing.skipsAll 3 = false ∧ finishing.skips 0 3 = false ∧
      finishing.skips 1 3 = false) ∧
    (let s := { finishing with tim := { finishing.tim with skipped := [(7, true)] } }
     s.live ∧ Tab.opt s.pix.loads 3 = some load0 ∧ s.loadShifted 3 load0 = true ∧ s.packed 3 load0 = true ∧
     s.skipsAll 3 = false ∧ s.skips 1 3 = true) ∧
    (shifting.live ∧ Tab.opt shifting.pix.loads 0 = some { load0 with packed := [(0, [5])] } ∧
      shifting.loadShifted 0 { load0 with packed := [(0, [5])] } = false) ∧
    (x0.live ∧ Tab.opt x0.pix.loads 3 = none ∧ x0.straitSkips 0 = true ∧ Tab.lst due0.cor.waiting 3 = []) ∧
    (let s := { due0 with cor := { due0.cor with waiting := [(3, [[(12287, 511)], []])] } }
     s.live ∧ s.straitSkips 0 = false ∧ s.straitSkips 1 = false ∧ Tab.lst s.cor.waiting 3 = [[(12287, 511)], []]) ∧
    (let s := (due0.setFld (F.COR_Fk_GCTRL_MODE 3) 2).setOn (F.FLT_SRCi_EN 95) true
     let s := { s with cor := { s.cor with waiting := [(3, [[]])], overdue := [(3, 1)] } }
     s.live ∧ s.straitSkips 0 = false ∧ s.straitSkips 1 = false ∧ Tab.lst s.cor.waiting 3 = [[]] ∧
     Tab.num s.cor.overdue 3 ≠ 0 ∧ s.fld (F.COR_Fk_GCTRL_MODE 3) = 2 ∧ s.on (F.FLT_SRCi_EN 95) = true ∧
     (s.events 95).length < 15) := by decide +kernel

theorem wit_Tables_CopyAndRewrite :
    (let s := { x0 with tabs := { x0.tabs with front := [(0x200000, 1)], copying := [0], rewrite := [(0, true)] } }
     s.live ∧ Tab.wf (fun _ => (0 : Word)) s.tabs.front = true ∧ Tab.on s.tabs.rewrite 0 = true) ∧
    Tab.on x0.tabs.rewrite 39 = false := by decide +kernel

/-- A capture in buffer 3 of which `n` tile rows are accounted for. -/
def cap (n : Nat) (dropped : Bool) : Capture := ⟨3, 0, 1, false, [], (List.range n).map fun i => (i, true), dropped⟩

/-- A load whose one context has formed two rows. -/
def capLoad : Load := { load0 with done := [(0, 2)], lines := [(1, [⟨1, 2, 3, 0⟩])] }

/-- That capture of feed 3, whose QLUT context is the only one. -/
def capturing (n : Nat) (dropped : Bool) : State :=
  let topo : List Byte := List.replicate 32 0 ++ [1, 0] ++ List.replicate 14 0 ++ leBytes 8 (4 * 2 ^ 49 + 3 * 2 ^ 47)
  { x0.setFld (straitState 0) 2 with
            conf := { x0.conf with secs := [(16, topo)] },
            pix := { x0.pix with capture := [(3, some (cap n dropped))], loads := [(3, some capLoad)] } }

/-- The last line but one of a monitor frame of feed 0. -/
def mon0 : Monitor := ⟨0, 1022, 0, 1, 0, 0, 0⟩

/-- It is to be sent on port 0, whose link is ACTIVE or not; the queue is empty or holds one long packet. -/
def monitoring (active full : Bool) : State :=
  let s := if active then xl.setFld (F.LNK_Px_STAT_STATE 0) 5 else xl
  { s with pix := { s.pix with monitor := [(0, some mon0)] },
           lnk := { s.lnk with queues := if full then [(41, [⟨false, List.replicate 16382 0, false⟩])] else [] } }

theorem listed : ∀ (l : List Nat) (i : Nat), i ∈ l → Tab.on (l.map fun i => (i, true)) i = true
  | j :: l, i, h => by
    by_cases e : j = i
    · simp [Tab.on, Tab.get, e]
    · have := listed l i ((List.mem_cons.mp h).resolve_left (Ne.symm e))
      simpa [Tab.on, Tab.get, e] using this

theorem cap_full (n : Nat) (d : Bool) : (List.range n).all (Tab.on (cap n d).written) = true :=
  List.all_eq_true.mpr fun i h => listed _ i h

theorem wit_Writeback_LinesAndPublication :
    (x0.live ∧ Tab.opt x0.pix.capture 3 = none ∧ Tab.opt x0.pix.monitor 3 = none ∧ Tab.on x0.pix.monDue 3 = false) ∧
    (let s := capturing 0 false
     s.live ∧ Tab.opt s.pix.capture 3 = some (cap 0 false) ∧ Tab.opt s.pix.loads 3 = some capLoad ∧
      ((findCtx (feedCtxs (Secs.ctxs s.conf.secs) (1 / 128) 3) 4 none).map fun x => x.1) = some 0 ∧
      1 % 128 < Tab.num capLoad.done 0 ∧ Tab.on (cap 0 false).written 1 = false ∧ (cap 0 false).dec = 1 ∧
      capLoad.line 0 (1 % 128) ≠ [] ∧ (List.range 1024).all (Tab.on (cap 0 false).written) = false ∧
      s.writebackRoom 3 (1 / 512) false (64 / 1) = false ∧ s.writebackRoom 3 (1 / 512) true (64 / 1) = true) ∧
    (let c := { cap 0 false with dec := 2 }
     let s := { capturing 0 false with pix := { (capturing 0 false).pix with capture := [(3, some c)] } }
     s.live ∧ Tab.opt s.pix.capture 3 = some c ∧
     ((List.range 2).map fun i => Tab.lst (Tab.setLst c.rows 1 (capLoad.line 0 1)) (1 / 2 * 2 + i)).all
       (fun b => !b.isEmpty) = false ∧ s.writebackRoom 3 (1 / 512) true 0 = true) ∧
    (∀ d, (capturing 1024 d).live ∧ Tab.opt (capturing 1024 d).pix.capture 3 = some (cap 1024 d) ∧
      (cap 1024 d).dropped = d ∧ (cap 1024 d).buf < 4) ∧
    (∀ a f, (monitoring a f).live ∧ Tab.opt (monitoring a f).pix.monitor 0 = some mon0 ∧ (monitoring a f).monPort 0 = some 0 ∧
      (monitoring a f).linkActive 0 = a) ∧
    (let s := (monitoring true false).setOn (F.LAY_Fk_WBCTRL_MON_PORT 0) true
     s.live ∧ Tab.opt s.pix.monitor 0 = some mon0 ∧ s.monPort 0 = none) ∧
    ((monitoring true false).queueFill 41 + mon0.size ≤ 16384 ∧
      (monitoring true false).engineReady 21 (mon0.lineBase mon0.line) (4 * (1024 / mon0.dec)) = true ∧
      16384 < (monitoring true true).queueFill 41 + mon0.size) := by
  refine ⟨by decide, by decide +kernel, by decide +kernel, fun d => ⟨⟨rfl, rfl⟩, rfl, rfl, Nat.lt_succ_self 3⟩,
    by decide +kernel, by decide +kernel, by decide +kernel, by decide +kernel⟩

theorem wit_FrameStart_CountsAndStartsRows :
    (x0.live ∧ x0.framesRun = false) ∧ (let s : State := { x0.setFld F.CLK_STAT_LOCK 8 with tim := { x0.tim with running := true } }
      s.live ∧ s.framesRun = true) := by decide +kernel

/-- Frames run with feed 3 alone, whose GUARD sums have come or have been judged, in a mode; a load of it is due or runs;
zone model and headroom are on. -/
def busyFrame (came : Bool) (mode : Nat) (hold : Bool) : State :=
  let s := (((frames.setFld (F.COR_Fk_GCTRL_MODE 3) mode).setOn F.COR_ZM_CTRL_EN true).setOn F.COR_ZM_CTRL_ACC_HOLD hold)
  let s := (s.setOn F.PMB_CTRL_EN true).setOn (F.PMB_LDn_CFG_EN 15) true
  let s := (s.setFld (F.PMB_LDn_CFG_PORTS 15) 0x80).setFld (F.CHN_Cnn_CFG_NIC 63) 1
  let s := { s with chn := { s.chn with ports := [(63, { Port.idle with bringup := .up, drv := { Drivers.powerUp with blank := false } })] },
                    clasp := { s.clasp with sdk := false, outA := true, outB := false },
                    pmb := { s.pmb with loops := [(15, { s.loop 15 with running := true })] } }
  { s with tim := { s.tim with active := [3], due := [(3, true)], set := List.replicate 10 0 },
           cor := { s.cor with sumsIn := [(3, came)], judged := [(3, !came)] } }

/-- What a frame start makes of it. -/
def afterFrame (s : State) (p : State → Bool) : Bool := match exec .frameStart s with
  | .next t => p t
  | _ => false

theorem wit_FrameStart_guard :
    (∀ c, ∀ m ∈ [0, 1, 2, 3], (busyFrame c m false).live ∧ (busyFrame c m false).framesRun = true ∧
      3 ∈ (busyFrame c m false).tim.active ∧ Tab.on (busyFrame c m false).cor.sumsIn 3 = c ∧
      Tab.on (busyFrame c m false).cor.judged 3 = !c ∧ (busyFrame c m false).fld (F.COR_Fk_GCTRL_MODE 3) = m) := by
  decide +kernel

theorem wit_FrameStart_rest :
    (let s := busyFrame true 2 false
     s.tim.active.length ≤ 2 ∧ Tab.on s.tim.due 3 = true ∧ s.paced = false ∧
     s.nextSet.words = s.tim.set ∧ s.fld F.TIM_STAT_TSEL_ACT = s.fld F.TIM_CTRL_TSEL ∧ s.sigsMoved = false ∧
     s.tim.commitSince = false ∧ s.isGated 9 = false ∧ s.fld F.PWR_STAT_STATE = 0 ∧ s.on F.COR_ZM_CTRL_EN = true ∧
     s.on F.COR_ZM_CTRL_ACC_HOLD = false ∧ s.engineFree 22 = true ∧ s.cor.passes = [] ∧ s.cor.ran = false ∧
     (busyFrame true 2 true).on F.COR_ZM_CTRL_ACC_HOLD = true ∧ frames.on F.COR_ZM_CTRL_EN = false) ∧
    (let s := (busyFrame true 2 false).setOn F.COR_ZM_CTRL_EN false
     s.on F.PMB_CTRL_EN = true ∧ s.on (F.PMB_LDn_CFG_EN 15) = true ∧ (s.loop 15).running = true ∧
     (s.loop 15).failed = false ∧ (afterFrame s fun t => !(t.loop 15).held) = true) := by
  decide +kernel

/-- Port 63 with one driver is up while timing runs; it runs row period `r`. -/
def rowing (r : Option Nat) : State :=
  let s := xl.setFld (F.CHN_Cnn_CFG_NIC 63) 1
  { s with tim := { s.tim with running := true, set := [0, 1] },
           conf := { s.conf with secs := [(80, [1])] },
           chn := { s.chn with ports := [(63, { Port.idle with bringup := .up, row := r, drv := { Drivers.powerUp with rowNext := some 7, blank := false } })] } }

theorem wit_RowBoundary_RunsEachRowOfAPort :
    (x0.live ∧ x0.mute 63 = true) ∧
    (∀ r ∈ [none, some 0, some 1],
      (rowing r).live ∧ (rowing r).mute 63 = false ∧ (rowing r).tim.running = true ∧ (rowing r).tim.relock ≠ .locking ∧ (rowing r).clocked 3 = true ∧
      ((rowing r).port 63).bringup = .up ∧ ((rowing r).port 63).row = r ∧ ((rowing r).port 63).queue = [] ∧
      ((rowing r).port 63).drv.rowNext = some 7 ∧ ((rowing r).port 63).drv.blank = false) ∧
    (rowing none).tset.rows (rowing none).nlines = 2 := by decide +kernel

/-- The pin is the reference, with a nominal period in force. -/
def pinRef (st good poor : Nat) : State :=
  let s := (x0.setFld F.TIM_GCTRL_SRC 1).setFld F.TIM_GSTAT_STATE st
  { s with tim := { s.tim with running := true, set := [2 ^ 20 + 60], good := good, poor := poor } }

theorem wit_Genlock_PeriodsAndStates :
    (x0.live ∧ x0.refSelected = false ∧ x0.tim.relock ≠ .locking) ∧
    (∀ st ∈ [0, 1], ∀ g ∈ [6, 7], (pinRef st g 0).live ∧ (pinRef st g 0).refSelected = true ∧
      (pinRef st g 0).fld F.TIM_GCTRL_SRC = 1 ∧ true = (!(pinRef st g 0).on F.TIM_GCTRL_POL) ∧
      (pinRef st g 0).inRange 408334 = true ∧ (pinRef st g 0).fld F.TIM_GSTAT_STATE = st) ∧
    (∀ n ∈ [1, 2], (pinRef 1 0 n).live ∧ (pinRef 1 0 n).refSelected = true ∧ (pinRef 1 0 n).fld F.TIM_GCTRL_SRC = 1 ∧
      true = (!(pinRef 1 0 n).on F.TIM_GCTRL_POL) ∧ (pinRef 1 0 n).inRange 408333 = false ∧
      (pinRef 1 0 n).fld F.TIM_GSTAT_STATE = 1) ∧
    ({ x0 with tim := { x0.tim with relock := .locking } } : State).live := by decide +kernel

/-- Port 63 with two drivers is up, GLINT_EN set or not, `n` glints armed at driver 1. -/
def chain63 (glint : Bool) (n : Nat) : State :=
  let s := ((x0.setFld (F.CHN_Cnn_CFG_NIC 63) 2).setOn F.CHN_CTRL_GLINT_EN glint).setFld F.CHN_STAT_BLANK_SRC 0
  { s with clasp := { s.clasp with sdk := false },
           chn := { s.chn with ports := [(63, { Port.idle with bringup := .up, drv := { Drivers.powerUp with glints := List.replicate n (1, 0, 0) } })] } }

theorem wit_Chain_FramesHeldUntilTheStrobe :
    (chain63 false 0).live ∧ (chain63 false 0).mute 63 = false ∧ ((chain63 false 0).port 63).sent < 64 ∧
    (let s := (chain63 false 0).setPort 63 { (chain63 false 0).port 63 with sent := 64 }
     s.live ∧ s.mute 63 = false ∧ 64 ≤ (s.port 63).sent) ∧ bits 19 18 (0xC0000 : BitVec 20).toNat = 3 ∧
    bits 19 18 (0xBFFFF : BitVec 20).toNat ≠ 3 := by decide +kernel

theorem wit_Chain_StrobeAppliesWhatIsHeld :
    (chain63 true 4).live ∧ (chain63 true 4).mute 63 = false ∧ ((chain63 true 4).port 63).sent < 64 ∧
    ((chain63 true 4).port 63).drv.blank = true ∧ ((chain63 true 4).port 63).drv.release = false ∧
    (let x := (chain63 true 4).port 63
     let s := (chain63 true 4).setPort 63 { x with drv := { x.drv with release := true } }
     s.live ∧ s.mute 63 = false ∧ (s.port 63).drv.release = true) := by decide +kernel

theorem wit_Chain_BlankReadbackGlintFrames :
    (bits 19 19 (0x80000 : BitVec 20).toNat = 1 ∧ bits 19 19 (0x7FFFF : BitVec 20).toNat = 0) ∧
    ((chain63 false 0).live ∧ (chain63 false 0).mute 63 = false ∧ (chain63 false 0).on F.CHN_CTRL_GLINT_EN = false ∧
      (chain63 false 0).mute 62 = true ∧ (chain63 false 0).blankReqs 63 = 0 ∧ ((chain63 false 0).port 63).bringup = .up ∧
      ((chain63 false 0).port 63).sent < 64 ∧ ((chain63 false 0).port 62).bringup ≠ .up ∧
      x0.blankReqs 63 ≠ 0 ∧ x0.clasp.sdk = true) ∧
    (∀ n ∈ [3, 4], (chain63 true n).live ∧ (chain63 true n).mute 63 = false ∧ (chain63 true n).on F.CHN_CTRL_GLINT_EN = true ∧
      (chain63 true n).clasp.sdk = false ∧ ((chain63 true n).port 63).sent +
        (((chain63 true n).port 63).queue.filter fun g => counted g && (g.resync || g.w == 5)).length < 64 ∧
      ((((chain63 true n).port 63).drv.glints.filter fun g => g.1 == 1).length = n)) ∧
    (let s := chain63 true 3
     ∀ i, i < 2 → Tab.num (s.port 63).probes (32 * (bits 5 0 (0 : BitVec 20).toNat / 4) + i) < 4) ∧
    (let x := (chain63 true 3).port 63
     let s := (chain63 true 3).setPort 63 { x with probes := [(1, 4)] }
     s.live ∧ 4 ≤ Tab.num (s.port 63).probes (32 * (bits 5 0 (0x04000 : BitVec 20).toNat / 4) + bits 18 14 (0x04000 : BitVec 20).toNat)) ∧
    bits 18 14 (0x04000 : BitVec 20).toNat < (chain63 true 3).nic 63 ∧
    (chain63 true 3).nic 63 ≤ bits 18 14 (0x08000 : BitVec 20).toNat := by decide +kernel

/-- A record with a CMDCNT and the rest clear, its CRC in place (R203). -/
def record (n : Nat) : BitVec 512 :=
  let b := 0xA5 * 2 ^ 504 + n * 2 ^ 496
  BitVec.ofNat 512 (b + crc8 (beBytes 15 (b / 2 ^ 392)) * 2 ^ 384)

/-- Port 63 with one driver is up and waits for a readback. -/
def awaiting : State :=
  let s := (x0.setFld (F.CHN_Cnn_CFG_NIC 63) 1).setFld (straitState 1) 2
  { s with chn := { s.chn with ports := [(63, { Port.idle with bringup := .up, reading := some 15 })] } }

theorem wit_Chain_ForceBlankAndReadback :
    (x0.live ∧ (x0.port 0).reading = none) ∧
    (awaiting.live ∧ (awaiting.port 63).reading = some 15 ∧ awaiting.nic 63 ≠ 0 ∧ awaiting.diaOn = false ∧
      awaiting.fld (straitState 1) = 2 ∧ x0.fld (straitState 1) ≠ 2 ∧
      (awaiting.port 63).bringup = .up ∧ ∀ d, d < awaiting.nic 63 → recOf [] (awaiting.nic 63) d = none) ∧
    (awaiting.clasp.lce = false ∧ (awaiting.port 63).sdk = false ∧ awaiting.nic 63 = 1 ∧
      ∀ n ∈ [0, 1], recOf [record n] 1 0 = some (record n) ∧ recBits (record n) 503 496 = n) ∧
    ((awaiting.port 63).rbCount = 0 ∧ recBits (record 0) 444 442 = 0 ∧
      ∀ c, c < 3 → recCur (record 0) c = (awaiting.port 63).codes.getD c 0) ∧
    (let s := { awaiting with diag := { awaiting.diag with ctrl := F.DIA_CTRL_EN.put 0 1 } }
     s.live ∧ s.diaOn = true ∧ s.engineFree 23 = true) ∧
    (let s := { awaiting with diag := { awaiting.diag with ctrl := F.DIA_CTRL_EN.put 0 1 },
                              mem := { awaiting.mem with queues := [(23, [⟨false, 0, [], 0⟩])] } }
     s.live ∧ s.diaOn = true ∧ s.engineFree 23 = false) ∧
    (bits 1 1 (x0.fld F.CHN_STAT_BLANK_SRC) = 0 ∧ bits 1 1 ((awaiting.setFld F.CHN_STAT_BLANK_SRC 2).fld F.CHN_STAT_BLANK_SRC) = 1 ∧
      (awaiting.setFld F.CHN_STAT_BLANK_SRC 2).live ∧ (awaiting.setFld F.CHN_STAT_BLANK_SRC 2).mute 63 = false) := by
  decide +kernel

/-- A transaction of domain 15 of a kind, that has failed `n` times, on bus 1; its loop runs or not. -/
def onBus (kind n : Nat) (running : Bool) : State :=
  { x0 with pmb := { x0.pmb with
      running := [(1, some ⟨15, kind, 0, 0, 0, n, false⟩)], loops := [(15, { x0.loop 15 with running := running })] } }

theorem wit_Pmbus_ResultsRetriesAndFailure :
    (x0.live ∧ Tab.opt x0.pmb.running 0 = none) ∧
    (∀ n ∈ [1, 2], ∀ r, (onBus 2 n r).live ∧ Tab.opt (onBus 2 n r).pmb.running 1 = some ⟨15, 2, 0, 0, 0, n, false⟩ ∧
      ((onBus 2 n r).loop 15).running = r) ∧
    (∀ k ∈ [1, 2, 3, 4], Tab.opt (onBus k 0 true).pmb.running 1 = some ⟨15, k, 0, 0, 0, 0, false⟩) ∧
    (linear16 ((onBus 3 0 true).pmbCfg 15 F.PMB_LDn_CFG_EXP) 0 < 65536 ∧ 0 ≤ linear11 0 ∧ linear11 0 < 65536) := by
  decide +kernel

/-- A video packet of one pixel. -/
def pkt (lane : Nat) (payload : List Byte) (crc : BitVec 32) : VideoPkt where
  startLane := lane
  streamId := 7
  fseq := 9
  line := 5
  npix := 1
  fmt := 0
  rsv := 0
  payload := payload
  crc := crc
  ending := .good
  age := 0

/-- Its good form. -/
def pktGood : VideoPkt :=
  pkt 0 [1, 2, 3] (crc32c (leBytes 4 9 ++ (pkt 0 [1, 2, 3] 0).header ++ [1, 2, 3]))

/-- Port 0 is ACTIVE and the upstream, PLL_MEM is locked or not; slot 7 accepts stream 7 from it and is in a frame. -/
def videoAt (lock : Nat) : State :=
  let s := ((x0.setFld (F.LNK_Px_STAT_STATE 0) 5).setFld F.LNK_STAT_UPSEL 0).setFld F.MEM_STAT_INSVC 1
  let s := ((s.setFld F.CLK_STAT_LOCK lock).setOn (F.LAY_Wm_CTRL_EN 7) true).setFld (F.LAY_Wm_CTRL_STREAM_ID 7) 7
  let s := ((s.setFld (F.LAY_Wm_SIZE_HEIGHT 7) 7).setFld (F.LAY_Wm_CTRL_FORMAT 7) 0).setOn F.LNK_FWD_CTRL_DEF_D false
  { s with pix := { s.pix with inFrame := [(7, some ⟨9, some 1, [], false⟩)] } }

/-- The writer runs. -/
def video : State := videoAt 2

theorem wit_Video_PacketsStoredOrCounted :
    (x0.live ∧ x0.linkActive 2 = false) ∧
    (video.live ∧ video.linkActive 0 = true ∧ (pkt 3 [1, 2, 3] 0).startLane ≠ 0) ∧
    (let s := { videoAt 0 with lnk := { (videoAt 0).lnk with rxVideo :=
        [(0, [([0], { pktGood with payload := List.replicate 18432 0 }), ([0], { pktGood with payload := List.replicate 18432 0 }),
          ([0], { pktGood with payload := List.replicate 18432 0 })])] } }
     s.live ∧ s.linkActive 0 = true ∧ s.lnk.revert = none ∧ s.writerRuns = false ∧ 65536 < s.rxFill 0 + s.drainedSince (rxQueue 0) pktGood.age + 18452 ∧
     s.slotPorts 0 (s.upPart 0 pktGood.age) ≠ []) ∧
    ((videoAt 0).live ∧ (videoAt 0).writerRuns = false ∧ (videoAt 0).linkActive 0 = true) ∧
    (∀ s ∈ [video, videoAt 0], s.lnk.revert = none ∧ Tab.lst s.lnk.rxVideo 0 = [] ∧ Tab.lst s.lnk.rxVideo 2 = [] ∧
      s.forwardTo 0 (s.upPart 0 0) (s.forwardBits 7).1 (s.forwardBits 7).2 = [] ∧ s.slotPorts 0 (s.upPart 0 0) = [0]) ∧
    ((pkt 0 [1, 2] 0).startLane = 0 ∧ (pkt 0 [1, 2] 0).ending = .good ∧ (pkt 0 [1, 2] 0).framed = false) ∧
    ((pkt 0 [1, 2, 3] 0).framed = true ∧ (pkt 0 [1, 2, 3] 0).crcOk = false) ∧
    (pktGood.startLane = 0 ∧ pktGood.ending = .good ∧ pktGood.framed = true ∧ pktGood.crcOk = true ∧
      video.writerRuns = true ∧ video.slotOf 0 pktGood.streamId.toNat = some 7 ∧
      video.fld (F.LAY_Wm_CTRL_FORMAT 7) = pktGood.fmt.toNat % 16 ∧
      Tab.opt video.pix.inFrame 7 = some ⟨9, some 1, [], false⟩ ∧ pktGood.fseq.toNat = 9 ∧
      pktGood.line.toNat % 8192 + 1 < video.slotH 7 ∧ pktGood.pixels ≤ video.slotW 7 ∧
      ∀ n, n < 8 → video.chkSnoops 7 n = false) := by decide +kernel

/-- A good packet of one pixel of this line. -/
def pktOf (line : BitVec 16) (age : Nat) : VideoPkt :=
  let v := { pkt 0 [1, 2, 3] 0 with line := line, age := age }
  { v with crc := crc32c (leBytes 4 9 ++ v.header ++ [1, 2, 3]) }

/-- Slot 7 is in a frame that has these lines; a frame with a line missing is dropped or not. -/
def videoFrame (lines : Tab Bool) (drop : Bool) : State :=
  let s := video.setOn (F.LAY_Wm_CTRL_DROP_INC 7) drop
  { s with pix := { s.pix with inFrame := [(7, some ⟨9, some 1, lines, false⟩)] } }

/-- The lines before the last. -/
def sixLines : Tab Bool := [(0, true), (1, true), (2, true), (3, true), (4, true), (5, true)]

theorem wit_Video_frame_ends :
    (∀ v ∈ [pktOf 5 0, pktOf 6 0], v.startLane = 0 ∧ v.ending = .good ∧ v.framed = true ∧ v.crcOk = true ∧
      v.fseq.toNat = 9 ∧ video.slotOf 0 v.streamId.toNat = some 7 ∧ v.pixels ≤ video.slotW 7 ∧
      v.line.toNat % 8192 < video.slotH 7) ∧
    (pktOf 6 0).line.toNat % 8192 + 1 = video.slotH 7 ∧
    (∀ l ∈ [sixLines, []], ∀ d ∈ [true, false], let s := videoFrame l d
      s.live ∧ s.linkActive 0 = true ∧ s.slotPorts 0 (s.upPart 0 0) = [0] ∧
      Tab.opt s.pix.inFrame 7 = some ⟨9, some 1, l, false⟩ ∧ s.on (F.LAY_Wm_CTRL_DROP_INC 7) = d ∧
      (List.range (s.slotH 7)).all (Tab.on (Tab.setOn l 6 true)) = decide (l = sixLines) ∧
      s.forwardTo 0 (s.upPart 0 0) (s.forwardBits 7).1 (s.forwardBits 7).2 = [] ∧
      s.writerRuns = true ∧ s.fld (F.LAY_Wm_CTRL_FORMAT 7) = (pktOf 6 0).fmt.toNat % 16) ∧
    (let s := video.setFld (F.LAY_Wm_CTRL_FORMAT 7) 1
     s.live ∧ s.linkActive 0 = true ∧ s.writerRuns = true ∧ s.slotOf 0 pktGood.streamId.toNat = some 7 ∧
     s.fld (F.LAY_Wm_CTRL_FORMAT 7) ≠ pktGood.fmt.toNat % 16) := by decide +kernel

/-- Ports 0 and 1 are ACTIVE, at these speeds; port 0 is the upstream and all streams of it go on to port 1. The queue
of the way from port `p` to port `d` holds `n` packets of 18,434 bytes, or the upstream has changed from port 0 since. -/
def relay (sp0 sp1 p d n : Nat) (cut : Bool) : State :=
  let s := (((x0.setFld (F.LNK_Px_STAT_STATE 0) 5).setFld (F.LNK_Px_STAT_STATE 1) 5).setFld F.LNK_STAT_UPSEL
    (if cut then 2 else 0)).setOn F.LNK_FWD_CTRL_DEF_D true
  let s := (s.setFld (F.LNK_Px_STAT_RATE 0) sp0).setFld (F.LNK_Px_STAT_RATE 1) sp1
  let s := (s.setLink 0 { s.link 0 with width := 1 }).setLink 1 { s.link 1 with width := 1 }
  { s with
    lnk := { s.lnk with
      queues := [(forwardQueue p d, List.replicate n ⟨false, List.replicate 18434 0, false⟩)]
      switchAt := if cut then some (10, 0) else none
      cycle := 12 } }

theorem wit_Video_forwarded :
    (∀ n ∈ [0, 2, 3], ∀ c ∈ [false, true], let s := relay 0 0 0 1 n c
      let part := s.upPart 0 5
      s.live ∧ s.linkActive 0 = true ∧ s.lnk.revert = none ∧ Tab.lst s.lnk.rxVideo 0 = [] ∧
      Tab.lst s.lnk.rxVideo 2 = [] ∧ (part = .cut ↔ c = true) ∧
      s.forwardTo 0 part (s.forwardBits 7).1 (s.forwardBits 7).2 = [1] ∧ (c = true → s.slotPorts 0 part = []) ∧
      (s.queueFill (forwardQueue 0 1) + s.drainedSince (forwardQueue 0 1) 5 + 18452 ≤ 65536 ↔ n < 3)) ∧
    (∀ n ∈ [0, 3], ∀ sp ∈ [0, 1], let s := relay sp 0 1 0 n false
      let part := s.upPart 1 0
      s.live ∧ s.linkActive 1 = true ∧ part = .other ∧ s.slotPorts 1 part = [] ∧
      s.forwardTo 1 part (s.forwardBits 7).1 (s.forwardBits 7).2 = [0] ∧
      (s.queueFill (forwardQueue 1 0) + s.drainedSince (forwardQueue 1 0) 0 + 18452 ≤ 65536 ↔ n < 3)) ∧
    (relay 0 0 1 0 0 false).linkSpeed 0 ≤ (relay 0 0 1 0 0 false).linkSpeed 1 ∧
    ¬ (relay 1 0 1 0 0 false).linkSpeed 0 ≤ (relay 1 0 1 0 0 false).linkSpeed 1 ∧
    (pktOf 7 5).crcOk = true ∧ (pktOf 7 5).framed = true := by decide +kernel

/-- Rank 0 in service, PLL_MEM locked. -/
def mem1 : State := (x0.setFld F.MEM_STAT_INSVC 1).setFld F.CLK_STAT_LOCK 2

/-- Its flat space with `n` writes in queue 31. -/
def queued (n : Nat) : State :=
  { mem1 with mem := { mem1.mem with queues := [(31, List.replicate n ⟨true, 256, List.replicate 63 none ++ [some 1], 0⟩)] } }

theorem wit_Memory_RequestsQueueOrAreRefused :
    mem1.live ∧ mem1.flatTop = 1879048192 ∧ (1879048191 < mem1.flatTop ∧ mem1.flatTop ≤ 1879048192) ∧
    (Tab.lst (queued 15).mem.queues 31).length < 16 ∧ mem1.hubRuns = true ∧
    (let s := { x0 with clk := { x0.clk with sel := [(1, 1)] } }
     s.live ∧ s.hubRuns = false) ∧ (∀ q : Fin 32, Tab.lst mem1.mem.behind q = [] ∧ Tab.lst mem1.mem.queues q = []) ∧
    (let s := { mem1 with mem := { mem1.mem with behind := [(31, [⟨true, 256, List.replicate 64 none, 0⟩])] } }
     s.live ∧ Tab.lst s.mem.behind 31 ≠ []) ∧ 16 ≤ (Tab.lst (queued 16).mem.queues 31).length ∧
    (queued 16).live ∧ (queued 16).flatTop = mem1.flatTop ∧
    ((let s : State := { mem1 with pix := { mem1.pix with buf := [(3, List.replicate 256 ⟨0, [], false⟩)] } }
      s.live ∧ ¬ s.fetchTaken 3 + 64 ≤ 16384) ∧ mem1.fetchTaken 3 + 64 ≤ 16384) ∧
    (∀ c : Fin 3, Tab.lst mem1.mem.inflight c = []) ∧
    (∀ q ∈ [(0 : Fin 32), 8, 22, 31], (q.val ≤ 8 ∨ 21 ≤ q.val) ∧ q ≠ 25 ∧ q ≠ 27) ∧
    (∀ q ∈ [(9 : Fin 32), 20, 22, 31], q.val ≠ 21 ∧ q.val ≠ 27 ∧ 9 ≤ q.val) := by decide +kernel

theorem wit_Memory_AcceptsHeads :
    (let s : State := { x0 with mem := { x0.mem with asleep := [(9, true)] } }
     s.live ∧ s.ctlRefuses 1 = true) ∧ ((mem1.gated 16 true).live ∧ (mem1.gated 16 true).ctlRefuses 1 = true) ∧
    (let s := queued 2
     let e : MemEntry := ⟨true, 256, List.replicate 63 none ++ [some 1], 0⟩
     s.live ∧ s.ctlRefuses 1 = false ∧ s.nothingWaits ∧ e.bytes.length = 64 ∧
     Tab.lst s.mem.queues 31 = [e, e] ∧ (∀ k : Fin 32, k ≠ 31 → Tab.lst s.mem.queues k = []) ∧
     s.acceptable 1 31 e = true) ∧
    (let e : MemEntry := ⟨false, 0, [], 0⟩
     let s : State := { mem1 with mem := { mem1.mem with queues := [(0, [e])] } }
     s.live ∧ s.ctlRefuses 0 = false ∧ s.nothingWaits ∧ Tab.lst s.mem.queues 0 = [e] ∧ (∀ k : Fin 32, k ≠ 0 → Tab.lst s.mem.queues k = []) ∧
     s.acceptable 0 0 e = true) := by decide +kernel

/-- A read of queue 9 of rank 3 in flight at controller 1. -/
def flight (poisoned : Bool) : InFlight := ⟨0, 9, 0, 3 * 2 ^ 25, 0, List.replicate 64 7, poisoned, false, false, false⟩

/-- The state that holds it. -/
def flying (poisoned : Bool) : State := { mem1 with mem := { mem1.mem with inflight := [(1, [flight poisoned])] } }

/-- Controller 0 holds one buffered write of line 5 with these bytes, and reads to serve. -/
def writing (bytes : List (Option Byte)) (read : List InFlight) : State :=
  { mem1 with mem := { mem1.mem with wbuf := [(0, [⟨5, bytes, [9]⟩])], inflight := [(0, read)] } }

theorem wit_Memory_CompletesReadsAndWrites_idle :
    x0.nothingWaits ∧ mem1.nothingWaits ∧ (∀ b, (flying b).nothingWaits) := by decide +kernel

theorem wit_Memory_CompletesReadsAndWrites :
    (x0.live ∧ x0.ctlStopped 1 = true ∧ mem1.nextRead 1 = none ∧
      ∀ k : Fin 3, ∀ f ∈ Tab.lst x0.mem.inflight k, f.done = false) ∧
    (∀ b, (flying b).live ∧ (flying b).ctlStopped 1 = false ∧ (flying b).draining 1 = false ∧
      Tab.lst (flying b).mem.inflight 1 = [flight b] ∧ Tab.lst (flying b).mem.inflight (1 - 1 : Fin 2) = [] ∧
      Tab.lst (flying b).mem.inflight 2 = [] ∧ (flight b).done = false ∧ (flight b).forwarded = false ∧
      (flight b).data.length = 64 ∧ (9 ≤ (flight b).queue ∧ (flight b).queue ≠ 25 ∧ (flight b).queue ≠ 27) ∧
      Tab.opt (flying b).mem.wrong (flight b).line = none ∧ (flight b).line / 2 ^ 25 < 4 ∧
      Tab.on (flying b).mem.hold ((flight b).line / 2 ^ 25) = false ∧ (flight b).poisoned = b) ∧
    (let f : InFlight := { flight false with line := 3 }
     let s := writing [] [f]
     s.live ∧ s.draining 0 = false ∧ f ∈ Tab.lst s.mem.inflight 0 ∧ f.done = false ∧
     Tab.on s.mem.hold (f.line / 2 ^ 25) = false) ∧
    (∀ b ∈ [List.replicate 64 (some (1 : Byte)), none :: List.replicate 63 (some 1)], let s := writing b []
     s.live ∧ s.ctlStopped 0 = false ∧ (∀ f ∈ Tab.lst s.mem.inflight 0, f.done = true) ∧
     (s.draining 0 = false) ∧ Tab.lst s.mem.wbuf 0 = [⟨5, b, [9]⟩] ∧ b.length = 64 ∧ Tab.opt s.mem.wrong 5 = none ∧ Tab.on s.mem.hold (5 / 2 ^ 25) = false) ∧
    (let s := writing (none :: List.replicate 63 (some 1)) []
     let u := { s with mem := { s.mem with poison := [(5, true)] } }
     u.live ∧ wholeLine (none :: List.replicate 63 (some 1)) = false ∧ Tab.on u.mem.poison 5 = true) := by
  decide +kernel

theorem wit_Memory_RefreshWindowsAndThrottle :
    (let s : State := { x0 with mem := { x0.mem with asleep := [(3, true)] } }
     s.live ∧ Tab.on s.mem.asleep 3 = true) ∧
    (∀ n ∈ [7, 8], let s : State := { x0 with mem := { x0.mem with postponed := [(31, n)] } }
      s.live ∧ Tab.on s.mem.asleep 3 = false ∧ Tab.num s.mem.postponed (8 * 3 + 7) = n) := by decide +kernel

/-- A migration from rank 0 to rank 3 that has come to line `n`. -/
def migrating (n : Nat) : State :=
  (((mem1.setFld F.MEM_STAT_MIG_STATE 1).setFld F.MEM_STAT_FAILED 0).setFld F.MEM_STAT_SPARE 3).setFld F.MEM_MIG_PTR_LINE n

/-- The scrubber runs; rank 0 is held or not. -/
def scrubbing (held : Bool) : State :=
  let s := mem1.setOn F.MEM_SCRUB_EN true
  { s with mem := { s.mem with hold := [(0, held)] } }

theorem wit_Memory_ScrubAndMigrate :
    (x0.live ∧ x0.on F.MEM_SCRUB_EN = false ∧ x0.on F.MEM_STAT_SPARE_VALID = false ∧ x0.fld F.MEM_STAT_MIG_STATE ≠ 1 ∧
      x0.rankOpen (x0.fld F.MEM_STAT_FAILED) = false) ∧
    (∀ h, (scrubbing h).live ∧ (scrubbing h).on F.MEM_SCRUB_EN = true ∧
      (scrubbing h).scrubAt (scrubbing h).mem.scrub = some 0 ∧ (scrubbing h).rankOpen (0 / 2 ^ 25) = !h ∧
      (scrubbing h).throttled 29 0 ((scrubbing h).cycleOf 0) = false ∧ Tab.on (scrubbing h).mem.poison 0 = false ∧
      Tab.opt (scrubbing h).mem.wrong 0 = none) ∧
    (let s := mem1.setOn F.MEM_STAT_SPARE_VALID true
     s.live ∧ s.fld F.MEM_STAT_MIG_STATE = 0 ∧ s.on F.MEM_STAT_SPARE_VALID = true ∧ s.inService 0 = true) ∧
    (∀ n ∈ [7340030, 7340031], let s := migrating n
      s.live ∧ s.fld F.MEM_STAT_MIG_STATE = 1 ∧ s.fld F.MEM_STAT_FAILED = 0 ∧ s.fld F.MEM_STAT_SPARE = 3 ∧
      s.rankOpen 0 = true ∧ s.rankOpen 3 = true ∧ s.throttled 28 n (s.cycleOf n) = false ∧
      s.throttled 28 (3 * 2 ^ 25 + n) (s.cycleOf (3 * 2 ^ 25 + n)) = false ∧
      s.fld F.MEM_CFG_DENS < 3 ∧ s.fld F.MEM_MIG_PTR_LINE = n ∧ n < s.rankLines ∧ Tab.on s.mem.poison n = false ∧
      Tab.opt s.mem.wrong n = none ∧ s.mem.posted n = none) ∧
    mem1.rankLines = 7340032 := by decide +kernel

/-- A DRAM section waits for its reconfiguration (R244): RATE 5, four ranks, the spare in rank 3. -/
def reconfiguring : State :=
  { x0 with mem := { x0.mem with reconfig := some [5, 0, 0, 2, 0, 1, 2, 7, 0x83, 0, 16, 4] } }

/-- Rank 3 has so many recalibration runs due, in an open commit window, a configuration running or not, a run made in
the window or not. -/
def recalling (due : Nat) (act made : Bool) : State :=
  let s := (x0.setOn F.CFG_STATUS_ACTIVE act).setOn F.TIM_STAT_WINDOW true
  { s with mem := { s.mem with recalDue := [(3, due)], recalMade := made } }

/-- Ranks 2 and 3 are held. -/
def holding : State := { x0 with mem := { x0.mem with hold := [(3, true), (2, true)] } }

/-- What training may find of a rank. -/
def rankFound (trained : Bool) : RankFound := ⟨true, 2, trained⟩

theorem wit_Memory_RecalTraining_found :
    (let up (r : Nat) : Bool := ([rankFound true, rankFound false, rankFound true, rankFound true][r]?).any
        (fun x => x.populated && x.trained) && !xl.rankBad r
     up 0 = true ∧ up 1 = false ∧ up 2 = true ∧ up 3 = true ∧
     ∀ x ∈ [rankFound false, rankFound true, rankFound true], x.populated = true → x.density = (rankFound true).density) ∧
    (([rankFound false][0]?).any (fun x => x.populated && x.trained) && !xl.rankBad 0) = false ∧
    xl.on (F.FLT_SRCi_EN 60) = true ∧ (xl.events 60).length < 15 := by decide +kernel

theorem wit_Memory_RecalFlush_lineBuffer : holding.nothingWaits ∧
    (∀ n ∈ [15, 16], ∀ b ∈ [1879048128, 1879048192],
      let e : MemEntry := ⟨true, 0, [], 0⟩
      let s : State := { mem1 with mem := { mem1.mem with lineBase := some b, queues := [(25, List.replicate n e)] } }
      s.live ∧ s.mem.lineBase = some b ∧ (b < s.flatTop ↔ b = 1879048128) ∧ (Tab.lst s.mem.queues 25).length = n ∧ Tab.lst s.mem.behind 25 = []) ∧
    (let e : MemEntry := ⟨true, 0, [], 0⟩
     let s : State := { mem1 with mem := { mem1.mem with lineBase := some 64, behind := [(25, [e])] } }
     s.live ∧ s.mem.lineBase = some 64 ∧ 64 < s.flatTop ∧ Tab.lst s.mem.behind 25 ≠ []) := by
  decide +kernel

theorem wit_Memory_RecalTrainingReconfigFlush :
    (x0.live ∧ Tab.num x0.mem.recalDue 3 = 0 ∧ x0.mem.reconfig = none ∧ x0.mem.lineBase = none ∧
      x0.on F.CFG_STATUS_ACTIVE = false ∧ ∀ k : Fin 4, Tab.on x0.mem.hold k = false) ∧
    (∀ due ∈ [1, 2], ∀ act ∈ [false, true], ∀ made ∈ [false, true], let s := recalling due act made
     s.live ∧ Tab.num s.mem.recalDue 3 = due ∧ (∀ k : Fin 4, Tab.on s.mem.hold k = false) ∧
     (due = 2 → ∀ k : Fin 4, Tab.num s.mem.recalDue k ≠ 1) ∧ s.on F.CFG_STATUS_ACTIVE = act ∧
     (s.on F.TIM_STAT_WINDOW = true) ∧ s.mem.recalMade = made) ∧
    (let s := holding
     s.live ∧ Tab.on s.mem.hold 3 = true ∧
     Tab.on s.mem.hold 1 = false) ∧
    (x0.locked 0 = false ∧ xl.live ∧ xl.mem.trained = false ∧ xl.locked 0 = true ∧ xl.locked 1 = true ∧ xl.locked 2 = true ∧
      (∀ r, r < 4 → xl.rankBad r = false ∧ reconfiguring.rankBad r = false) ∧ Secs.get xl.conf.secs 8 0 = []) ∧
    (reconfiguring.live ∧ reconfiguring.mem.reconfig.isSome = true ∧ reconfiguring.active = false ∧
      Tab.lst reconfiguring.lnk.rxVideo 0 = [] ∧ Tab.lst reconfiguring.lnk.rxVideo 2 = []) := by decide +kernel

/-- Port `p` in state `st` with what its bring-up holds; PLL_SER is locked. -/
def linkAt (p st : Nat) (x : LinkPort) : State :=
  let s := (x0.setFld F.CLK_STAT_LOCK 4).setFld (linkStateF p) st
  { s with lnk := { s.lnk with ports := [(p, x)] } }

/-- Every lane of a port in one condition. -/
def lanes (l : Lane) : Tab Lane := [(0, l), (1, l), (2, l), (3, l)]

/-- TS1 (D 0x4A) or TS2 (D 0x45), its five bytes before the last equal to `v`, the last its CRC-8 in TS2. -/
def trainSet (d v : Byte) : TrainSet :=
  let body : List (Bool × Byte) := (false, d) :: List.replicate 12 (false, v)
  let crc : Byte := BitVec.ofNat 8 (crc8 (body.map (·.2)))
  { syms := [symCom, symTsk] ++ body ++ [(false, crc)], codeError := false, inverted := false }

theorem wit_Link_BringUpOfAPort :
    (let s := linkAt 3 0 .idle
     s.live ∧ s.linkRuns 3 = true ∧ s.linkState 3 = 0 ∧ (s.link 3).holdoff = false ∧ (1 : BitVec 4).toNat % 2 = 1) ∧
    (x0.live ∧ x0.linkRuns 2 = false ∧ x0.linkState 2 = 0 ∧ 5 ≤ (linkAt 2 5 .idle).linkState 2) ∧
    (∀ n ∈ [1, 4], 1 ≤ (linkAt 2 n .idle).linkState 2 ∧ (linkAt 2 n .idle).linkState 2 ≤ 4) ∧
    (let s := linkAt 2 4 { LinkPort.idle with attempt := true }
     s.live ∧ (s.link 2).attempt = true) ∧
    (let s := linkAt 0 2 { LinkPort.idle with lanes := lanes { Lane.idle with ts1 := 8 } }
     s.live ∧ s.linkState 0 = 2 ∧ (s.link 0).width = 0 ∧ ((s.link 0).lane 0).symLock = true) ∧
    (let s := linkAt 0 1 { LinkPort.idle with detected := 8 }
     s.live ∧ s.linkState 0 = 1 ∧ bits 3 3 (s.link 0).detected = 1 ∧ (trainSet 0x4A 0x4A).opens 0x4A = true ∧
     (trainSet 0x4A 0x4A).inverted = ((s.link 0).lane 3).inv) ∧
    (let x := trainSet 0x45 4
     let s := linkAt 0 4 { LinkPort.idle with ts2 := x.syms.map fun y => y.2.toNat }
     s.live ∧ s.linkState 0 = 4 ∧ (s.link 0).ack = false ∧ x.opens 0x45 = true ∧ x.inverted = ((s.link 0).lane 0).inv ∧
     symAt x.syms 15 = crc8 (((x.syms.drop 2).take 13).map (·.2)) ∧ (s.link 0).ts2 = x.syms.map (fun y => y.2.toNat) ∧
     bits 2 2 (symAt x.syms 5) = s.linkRole 0) ∧
    (let x := trainSet 0x45 0
     let s := linkAt 0 4 { LinkPort.idle with ts2 := x.syms.map fun y => y.2.toNat }
     s.live ∧ s.linkState 0 = 4 ∧ (s.link 0).ack = false ∧ x.opens 0x45 = true ∧ x.inverted = ((s.link 0).lane 0).inv ∧
     symAt x.syms 15 = crc8 (((x.syms.drop 2).take 13).map (·.2)) ∧ (s.link 0).ts2 = x.syms.map (fun y => y.2.toNat) ∧
     (linkAt 0 4 .idle).live ∧ ((linkAt 0 4 .idle).link 0).ts2 ≠ x.syms.map (fun y => y.2.toNat) ∧
     bits 2 2 (symAt x.syms 5) ≠ s.linkRole 0 ∧
     s.linkAgree 0 (symAt x.syms 4 % 16) (symAt x.syms 8) = s.fld (linkRateF 0)) ∧
    ((linkAt 2 5 .idle).live ∧ (linkAt 2 5 .idle).linkActive 2 = true ∧ x0.linkActive 2 = false) := by decide +kernel

/-- A block-locked lane of which `n` of the last positions judged were bad. -/
def judged (n : Nat) : Lane := { Lane.idle with locked := true, judged := List.replicate n true }

/-- A header that stands at its place or not. -/
def header (ok : Bool) : HeaderRx where
  syms := [symCom, symBhd] ++ List.replicate 6 (false, 0)
  codeError := false
  atExpected := ok
  timeNs := 0

theorem wit_Link_BlocksAndLaneCounters :
    (x0.live ∧ x0.linkState 7 < 3) ∧
    (let s := linkAt 2 5 { LinkPort.idle with width := 4, lanes := lanes (judged 3) }
     s.live ∧ s.linkState 2 = 5 ∧ 3 < (s.link 2).width ∧ ((s.link 2).lane 3).locked = true ∧ (header false).atExpected = false ∧
     3 ≤ ((((s.link 2).lane 3).judged.take 31).filter id).length ∧ (s.link 2).upTo (s.link 2).width (·.locked) = true ∧
     ((((s.link 2).lane 3).judged.take 31).filter id).length < 4 ∧ (header true).atExpected = true) ∧
    (∀ st ∈ [0, 1, 2, 3, 5], (linkAt 2 st .idle).live ∧ (linkAt 2 st .idle).linkState 2 = st ∧
      ((linkAt 2 st .idle).link 2).width ≤ 4) ∧
    (∀ n ∈ [30, 31], ((linkAt 2 1 { LinkPort.idle with sets := n, detected := 8 }).link 2).sets = n) ∧
    (isCodeError (!weandi 7) false 0 = true ∧ isCodeError (!weandi 7) false (BitVec.ofNat 10 (dataGroup false 0)).toNat = false) ∧
    (let s : State := { x0 with cal := { x0.cal with thr := [(laneIndex 7 0, some 65)] } }
     s.live ∧ Tab.opt s.cal.thr (laneIndex 7 0) = some 65) ∧
    (let s := linkAt 2 4 { LinkPort.idle with ack := true, ackSent := 7, ackGot := 2 }
     s.live ∧ s.linkState 2 = 4 ∧ (s.link 2).ack = true ∧ 7 ≤ (s.link 2).ackSent ∧ 2 ≤ (s.link 2).ackGot) ∧
    (Tab.opt x0.cal.thr (laneIndex 7 0) = none ∧ x0.linkActive 2 = false ∧ (linkAt 2 5 .idle).linkActive 2 = true) := by
  decide +kernel

/-- The upstream is U or B; B is of mode 2; `u` and `b` say which is usable. -/
def ups (sel : Nat) (u b : Bool) : State :=
  let s := ((x0.setFld F.LNK_STAT_UPSEL sel).setFld F.LNK_CTRL_BMODE 2).setFld F.LNK_FO_VTMO 1
  let s := ((s.setOn (F.LNK_Px_STAT_USABLE 0) u).setOn (F.LNK_Px_STAT_USABLE 2) b).setOn F.LNK_CTRL_FO_REVERT true
  { s with lnk := { s.lnk with bSince := true } }

/-- A frame of TYPE FSYNC. -/
def aFrame : SpnFrame := spnMake 4 0 0 1 0xFFF 0 0 0 0 [0, 0, 0]

theorem wit_Link_UpstreamAndTransmitChoice :
    (x0.live ∧ x0.upstream = none ∧ x0.linkActive 0 = false ∧ Tab.lst x0.lnk.rxCtl 0 = [] ∧ x0.lnk.cm.waiting = none) ∧
    ((ups 0 true true).live ∧ (ups 0 true true).upstream = some 0 ∧ (ups 0 true true).isUp (2 - 0) = true ∧
      (ups 0 true true).usable (2 - 0) = true ∧ (ups 0 true true).switchedNow = false ∧ (ups 0 true false).usable 2 = false) ∧
    (let s := { ups 0 true true with lnk := { (ups 0 true true).lnk with switchAt := some ((ups 0 true true).lnk.cycle, 2) } }
     s.live ∧ s.upstream = some 0 ∧ s.switchedNow = true) ∧
    (∀ b, (ups 0 true b).live ∧ (ups 0 true b).upstream = some 0 ∧ (ups 0 true b).fld F.LNK_FO_VTMO ≠ 0 ∧
      (ups 0 true b).lnk.bSince = true ∧ (ups 0 true b).switchedNow = false ∧ (ups 0 true b).fld F.LNK_CTRL_BMODE = 2 ∧ (ups 0 true b).on F.LNK_CTRL_FO_AUTO = true ∧
      (ups 0 true b).usable 2 = b) ∧
    ((ups 1 true true).live ∧ (ups 1 true true).upstream = some 2 ∧ (ups 1 true true).on F.LNK_CTRL_FO_REVERT = true ∧
      (ups 1 true true).usable 0 = true ∧ (ups 1 false true).usable 0 = false) ∧
    (let s := { linkAt 2 5 .idle with lnk := { x0.lnk with queues := [(40, [⟨true, [1], false⟩])] } }
     s.live ∧ s.linkActive 2 = true ∧ Tab.lst s.lnk.rxCtl 2 = [] ∧ s.lnk.cm.waiting = none ∧ Tab.lst s.lnk.queues (38 + 2) = [⟨true, [1], false⟩]) ∧
    (let s := { linkAt 7 5 .idle with spn := { x0.spn with queues := [(16, [(0, aFrame)])] } }
     s.live ∧ s.linkActive 7 = true ∧ (∀ e ∈ s.clasp.sent, e.1 ≠ 7 - 3) ∧ Tab.lst s.spn.queues (4 * (7 - 3)) = [(0, aFrame)] ∧
     Tab.lst s.spn.stalled (4 * (7 - 3)) = []) := by
  decide +kernel

/-- The HUB domain follows PLL_HUB, which has no lock. -/
def hubStopped : State := { x0 with clk := { x0.clk with sel := [(1, 1)] } }

theorem wit_Link_clocks_run_or_stop :
    x0.clocked 2 = false ∧ hubStopped.live ∧ hubStopped.hubRuns = false ∧ Tab.lst hubStopped.lnk.rxCtl 0 = [] ∧
    hubStopped.lnk.cm.waiting = none ∧
    ∀ p ∈ [2, 7], ∀ st ∈ [1, 2, 3, 4, 5], let s := linkAt p st .idle
      s.live ∧ s.clocked 2 = true ∧ s.hubRuns = true ∧ s.linkState p = st ∧ (s.link p).width ≤ 4 ∧ (s.link p).ackSent < 7 ∧
      Tab.opt s.lnk.rxRd (4 * p) = none := by decide +kernel

/-- A control packet from address 5 to this device, with a good CRC. -/
def ctl (op addr cnt : Nat) (words : List Word) : CtlPkt :=
  let h : List Byte := [BitVec.ofNat 8 (16 * op), 0, 0, 0, 5, 0] ++ leBytes 3 addr ++ [BitVec.ofNat 8 cnt, 0, 0]
  ⟨0, h, words, crc32c (leBytes 4 (ctlTag h) ++ h ++ wordsBytes words), .good, 0⟩

/-- The device at address 0, port 2 ACTIVE; NEW of the mailbox is set or clear. -/
def device (new : Bool) : State :=
  ((linkAt 2 5 .idle).setOn F.SPN_STAT_ADDR_VALID true).setOn F.LNK_MBOX_STAT_NEW new

theorem wit_Control_PacketsAnswered :
    (x0.live ∧ x0.linkActive 2 = false) ∧ (∀ b, (device b).live ∧ (device b).linkActive 2 = true ∧
      (device b).on F.LNK_MBOX_STAT_NEW = b ∧ Tab.lst (device b).lnk.rxCtl 2 = [] ∧ (device b).queueFill (38 + 2) + 84 ≤ 2048) ∧
    (let c := ctl 0 0 0 []
     let s := { device false with lnk := { x0.lnk with rxCtl := [(2, List.replicate 110 c)] } }
     s.live ∧ s.linkActive 2 = true ∧ c.startLane = 0 ∧ s.ctlMine c = true ∧ 2048 < s.ctlFill 2 + s.drainedSince (45 + 2) c.age + 84 ∧
     { c with startLane := 2 }.startLane ≠ 0) ∧
    ((device false).hubRuns = true ∧ (device false).drainedSince (45 + 2) 0 + 84 ≤ 2048) ∧
    (let a := leAt (ctl 0 (R.LNK_MBOXk 0) 1 []).hdr 6 3
     0x50000 ≤ a ∧ a + 4 * 2 ≤ 0x51000 ∧ ∀ i, i < 2 → (regRow? (a / 4 * 4 + 4 * i)).isSome = true) ∧
    (∀ c ∈ [ctl 0 0 0 [], ctl 0 (R.LNK_MBOXk 0) 1 [], ctl 0 4 0 [], ctl 0 0x50FFC 1 [], ctl 1 (R.LNK_MBOXk 0 - 4) 0 [1], ctl 1 (R.LNK_MBOXk 15) 1 [1, 2],
        ctl 1 (R.LNK_MBOXk 0) 15 (List.replicate 16 7)],
      c.ending = .good ∧ c.framed = true ∧ c.crcOk = true ∧ c.startLane = 0 ∧
      (device false).ctlMine c = true) ∧
    0x51000 < leAt (ctl 0 0x50FFC 1 []).hdr 6 3 + 4 * 2 ∧ R.LNK_MBOXk 16 < leAt (ctl 1 (R.LNK_MBOXk 15) 1 [1, 2]).hdr 6 3 + 4 * 2 ∧
    leAt (ctl 1 (R.LNK_MBOXk 0) 15 (List.replicate 16 7)).hdr 6 3 = R.LNK_MBOXk 0 := by decide +kernel

/-- A requester with 15 tags outstanding from tag 0 on and one in quarantine. -/
def requesting : Requester :=
  { Requester.idle with tags := (List.range 15).map (fun t => (t, 1)) ++ [(63, 2)] }

/-- One whose response queue holds a result. -/
def answered : Requester := { Requester.idle with results := [⟨0, 63, 15, 5, List.replicate 16 7⟩] }

/-- Both requesters are `q`; port 2 is ACTIVE and the control request goes to port `p`; SDN port 0 leads to address 5. -/
def asking (q : Requester) (p dst : Nat) : State :=
  let s := ((device false).setFld F.LNK_CM_REQ0_PORT p).setFld F.SPN_RA_REQ0_DST dst
  let s := ((s.setFld (F.SPN_Pp_STAT_STATE 1) 5).setOn (F.SPN_Pp_STAT_RVALID 1) true).setFld (F.SPN_Pp_RANGE_HI 1) 5
  { s with lnk := { s.lnk with cm := q }, spn := { s.spn with ra := q } }

theorem wit_Requesters_TagsAndResults :
    (let q : Requester := { Requester.idle with waiting := some ⟨0, 0, 0, 0, 0, 0, []⟩ }
     let s := asking q 0 0
     s.live ∧ s.lnk.cm.waiting.isSome = true) ∧
    (∀ p ∈ [0, 3], let s := asking requesting p 6
     s.live ∧ s.lnk.cm.waiting = none ∧ s.lnk.cm.full = false ∧ s.fld F.LNK_CM_REQ0_OP < 2 ∧ s.fld F.LNK_CM_REQ0_PORT = p ∧
     (∀ k, k < 3 → k = p → s.linkActive k = false) ∧ s.spn.ra.waiting = none ∧ s.spn.self = [] ∧ s.spn.ra.full = false ∧
     s.fld F.SPN_RA_REQ0_OP < 2 ∧ s.spnWay (s.fld F.SPN_RA_REQ0_DST) = .nowhere) ∧
    (let s := asking requesting 2 5
     s.live ∧ s.lnk.cm.waiting = none ∧ s.lnk.cm.full = false ∧ s.fld F.LNK_CM_REQ0_OP < 2 ∧ s.fld F.LNK_CM_REQ0_PORT < 3 ∧
     s.linkActive (s.fld F.LNK_CM_REQ0_PORT) = true ∧ s.queueFill (38 + s.fld F.LNK_CM_REQ0_PORT) + 84 ≤ 2048 ∧ s.lnk.cm.freeTag = some 15 ∧ Tab.num s.lnk.cm.tags 14 = 1 ∧
     Tab.num s.lnk.cm.tags 63 = 2 ∧ s.spnWay (s.fld F.SPN_RA_REQ0_DST) = .port 1 ∧ s.spn.ra.freeTag = some 15) ∧
    (let s := asking answered 2 5
     s.live ∧ s.lnk.cm.waiting = none ∧ s.lnk.cm.results = [⟨0, 63, 15, 5, List.replicate 16 7⟩]) ∧
    (∀ c ∈ [ctl 8 0 15 (List.replicate 16 7), ctl 9 0 0 []], let s := asking requesting 2 5
     c.ending = .good ∧ c.framed = true ∧ c.crcOk = true ∧ c.startLane = 0 ∧
     Tab.lst s.lnk.rxCtl 2 = [] ∧ s.queueFill (38 + 2) ≤ 2048 ∧ s.drainedSince (45 + 2) c.age + 84 ≤ 2048 ∧ s.hubRuns = true ∧ s.ctlMine c = true ∧ Tab.num s.lnk.cm.tags (byteOf c.hdr 1 % 64) = 1) ∧
    (∀ f ∈ [spnMake 8 0 14 0 0 5 0 0 0 [7], spnMake 9 0 14 0 0 5 0 0 0 []], let s := asking requesting 2 5
     s.spnActive 1 = true ∧ f.framed = true ∧ f.crcOk = true ∧ f.mode = 0 ∧ s.spnWay f.dst = .here ∧
     Tab.num s.spn.ra.tags f.tag = 1) := by decide +kernel

/-- A worker at address `n` on port SUP with no SDN port ACTIVE. -/
def worker (n : Nat) : State :=
  (((x0.setFld (F.SPN_Pp_STAT_STATE 0) 5).setOn F.SPN_STAT_ADDR_VALID true).setFld F.SPN_STAT_ADDR n).setFld F.MEM_STAT_INSVC 1

/-- The manager at address 0, port 4 (SDN3) ACTIVE with addresses 1 to 9 behind it. -/
def manager : State :=
  let s := ((x0.setFld (F.SPN_Pp_STAT_STATE 4) 5).setOn F.SPN_STAT_ADDR_VALID true).setFld F.MEM_STAT_INSVC 1
  let s := ((s.setOn (F.SPN_Pp_STAT_RVALID 4) true).setFld (F.SPN_Pp_RANGE_LO 4) 1).setFld (F.SPN_Pp_RANGE_HI 4) 9
  { s with ldr := { s.ldr with mgr := true } }

/-- A frame whose CRC fails. -/
def spoilt (f : SpnFrame) : SpnFrame := { f with crc := f.crc ^^^ 1 }

theorem wit_Spine_FramesCheckedRoutedAnswered :
    (x0.live ∧ x0.spnActive 4 = false) ∧
    (manager.live ∧ manager.spnActive 4 = true ∧
      ∀ k, k < 12 → (⟨leBytes 1 (16 * k), [], 0⟩ : SpnFrame).type = k ∧ (⟨leBytes 1 (16 * k), [], 0⟩ : SpnFrame).framed = false) ∧
    (∀ f ∈ [spnMake 0 0 0 0 0 0 0 0 0 [], spnMake 1 0 0 0 0 0 0 0 0 [1], spnMake 2 0 0 0 0 0 0 0 0 [1],
        spnMake 3 0 0 0 0 0 0 0 0 [1], spnMake 4 0 0 0 0 0 0 0 0 [1, 2, 3], spnMake 5 0 0 0 0 0 0 0 0 [1, 2, 3, 4],
        spnMake 6 0 0 0 0 0 0 0 0 [], spnMake 7 0 0 0 0 0 0 0 0 [], spnMake 8 0 0 0 0 0 0 0 0 [1],
        spnMake 9 0 0 0 0 0 0 0 0 [], spnMake 10 0 0 0 0 0 0 0 0 [1, 2, 3], spnMake 11 0 0 0 0 0 0 0 0 [1, 2, 3, 4]],
      (spoilt f).framed = true ∧ (spoilt f).crcOk = false ∧ f.crcOk = true ∧ f.mode = 0) ∧
    (manager.spnWay 9 = .port 4 ∧ manager.spnRoom 4 0 = true ∧ manager.spnRoom 4 1 = true ∧ manager.spnRoom 4 2 = true ∧
      manager.spnWay 10 = .nowhere ∧ manager.spnWay 0 = .here ∧ manager.fld F.PWR_STAT_STATE = 0 ∧
      manager.pwr.phase = .steady ∧ manager.hubRuns = true ∧ manager.spn.self = [] ∧ manager.spnWay 9 = .port 4 ∧
      Tab.lst manager.spn.stalled (4 * 4 + 1) = [] ∧ manager.spnFill 4 1 + 278 ≤ 4096) ∧
    (let f := spnMake 1 0 7 0 0 9 0xFFFFFC 0 1 [1]
     f.type = 1 ∧ f.framed = true ∧ f.crcOk = true ∧ 0x800000 ≤ f.addr / 4 * 4 ∧ f.addr / 4 * 4 + 4 * (f.cnt + 1) ≤ 0x1000000) ∧
    (let f := spnMake 1 0 7 0 0 9 0x7FFFFC 0 0 [1, 2]
     f.framed = true ∧ f.crcOk = true ∧ f.addr / 4 * 4 < 0x800000 ∧ 0x800000 < f.addr / 4 * 4 + 4 * (f.cnt + 1)) ∧
    (let f := spnMake 0 0 7 0 0 9 R.SYS_ID 0 0 []
     f.type = 0 ∧ f.framed = true ∧ f.crcOk = true ∧ f.addr / 4 * 4 = R.SYS_ID ∧ f.cnt = 0) := by decide +kernel

/-- A worker in a state of R317 that knows the times of headers 1 and 2. -/
def timed (st : Nat) : State :=
  let s := (worker 1).setFld F.SPN_TSTAT_STATE st
  { s with spn := { s.spn with t2 := [(1, 5001)], t3 := [(2, 6001)] } }

/-- TIME for them, sent at `t1`, received back at `t4`. -/
def timeFrame (t1 t4 : Nat) : SpnFrame :=
  spnMake 5 0 0 3 0xFFF 0 0 0 (1 + 2 * 256 + 65536) [BitVec.ofNat 32 t1, 0, BitVec.ofNat 32 t4, 0]

theorem wit_Spine_TimeFollowsTheParent :
    (manager.live ∧ manager.manager = true ∧ (worker 1).live ∧ (worker 1).manager = false ∧
      (worker 1).fld F.SPN_TSTAT_STATE ≠ 3 ∧ (timed 3).fld F.SPN_TSTAT_STATE = 3) ∧
    (∀ k ∈ [1, 3], ∀ f ∈ [timeFrame 3000 6000, timeFrame 2998 6000, timeFrame 5000 6000], let s := timed k
      s.live ∧ s.manager = false ∧ s.spnActive 0 = true ∧ f.type = 5 ∧ f.framed = true ∧ f.crcOk = true ∧
      f.aux / 65536 % 2 = 1 ∧ Tab.num s.spn.t2 (f.aux % 256) = 5000 + 1 ∧ Tab.num s.spn.t3 (f.aux / 256 % 256) = 6000 + 1 ∧
      s.fld F.SPN_TSTAT_STATE = k) ∧
    ((5000 - 3000 : Int) - (6000 - 6000) ≤ 2000 ∧ (2000 : Int) < 5000 - 2998 - (6000 - 6000) ∧
      (5000 - 3000 : Int) + (6000 - 6000) = 2 * (1000 : Nat)) ∧
    (∀ n ∈ [0, 1], let f := spnMake 4 0 0 1 0xFFF 0 0 0 0 [BitVec.ofNat 32 n, 0, 5]
      (worker 1).live ∧ (worker 1).spnActive 0 = true ∧ (worker 1).sdnActive = [] ∧ f.type = 4 ∧ f.framed = true ∧
      f.crcOk = true ∧ f.mode = 1 ∧ ((worker 1).time64 < f.word 0 + 2 ^ 32 * f.word 1 ↔ n = 1)) := by decide +kernel

/-- A walk waits for the DONE of SDN port 3. -/
def walking : State :=
  { manager with spn := { manager.spn with walk := some ⟨7, 1, false, 0, 3⟩ } }

theorem wit_Spine_WalkGivesAddresses :
    (∀ n ∈ [0, 4095], let f := spnMake 6 0 0 3 0 0 n 0 6 []
      (worker 1).live ∧ (worker 1).manager = false ∧ (worker 1).spnActive 0 = true ∧ (worker 1).sdnActive = [] ∧ f.type = 6 ∧
      f.framed = true ∧ f.crcOk = true ∧ f.addr % 8192 ≤ 4095 ∧ f.aux % 8 ≤ 6 ∧ f.aux / 8 % 2 = 0 ∧
      Tab.lst (worker 1).spn.stalled 0 = [] ∧ (worker 1).spnFill 0 0 + 22 ≤ 1024) ∧
    (let s : State := { x0 with ldr := { x0.ldr with mgr := true }, spn := { x0.spn with sdnSeen := true } }
     s.live ∧ s.manager = true ∧ s.on F.SPN_WALK_BUSY = false ∧ s.sdnActive = [] ∧ s.on F.SPN_CTRL_AUTOWALK = true ∧
     s.spn.sdnSeen = true ∧ s.spn.autoDone = false) ∧
    (x0.live ∧ x0.manager = false ∧ x0.spn.walk = none ∧ (worker 1).spn.walk = none) ∧
    (let f := spnMake 7 0 0 3 0 0 4096 0 0 []
     walking.live ∧ walking.spn.walk = some ⟨7, 1, false, 0, 3⟩ ∧ (∀ i, i < 4 → 3 < i → walking.spnActive (i + 1) = false) ∧
     walking.spnActive 4 = true ∧ f.type = 7 ∧ f.framed = true ∧ f.crcOk = true ∧ 7 < f.addr % 8192 ∧ f.addr % 8192 ≤ 4096) := by
  decide +kernel

/-- A multicast engine that sends to the subtree of SDN3, its next chunk at `off` of `len` bytes. -/
def casting (off len : Nat) : State :=
  let s := ((manager.setFld F.SPN_MC_CTRL_MODE 1).setFld F.SPN_MC_LEN_LEN len).setFld F.CLK_STAT_LOCK 2
  { s with spn := { s.spn with mcNext := some off } }

/-- A member that receives session 7 and expects chunk offset 256. -/
def receiving : State :=
  let s := (((worker 1).setOn F.SPN_MC_RX_ACTIVE true).setFld F.SPN_MC_RX_SESSION 7).setFld F.CLK_STAT_LOCK 2
  { s with spn := { s.spn with rxNext := 256 } }

/-- IMGE of session 7 for `len` bytes, its CRC that of the staged bytes or not. -/
def imageEnd (s : State) (len : Nat) (good : Bool) : SpnFrame :=
  let crc := (crc32c (spanBytes (s.readLines 26 s.stageBase 4).2 s.stageBase 4)).toNat
  spnMake 3 0 0 1 0xFFF 0 0 7 len [BitVec.ofNat 32 (if good then crc else crc + 1)]

theorem wit_Spine_chunk_ready_or_not :
    (let s := casting 512 769
     s.hubRuns = true ∧ s.engineReady 26 (baseBytes (s.fld F.SPN_MC_BASE_BASE) + 512) 256 = true) ∧
    (let s := (casting 512 769).setFld F.CLK_STAT_LOCK 0
     s.live ∧ s.spn.mcNext = some 512 ∧ 512 + 256 ≤ s.fld F.SPN_MC_LEN_LEN ∧
     s.engineReady 26 (baseBytes (s.fld F.SPN_MC_BASE_BASE) + 512) 256 = false) ∧
    hubStopped.hubRuns = false ∧ receiving.engineFree 26 = true ∧ receiving.isGated 10 = false := by decide +kernel

theorem wit_Spine_images_end :
    (∀ n ∈ [4, 257, 16777217], ∀ g : Bool, let f := imageEnd receiving n g
      f.type = 3 ∧ f.framed = true ∧ f.crcOk = true ∧ f.mode = 1 ∧ f.session = 7 ∧ f.aux = n) ∧
    (let s := receiving.setFld F.CFG_STATUS_STATE 6
     s.live ∧ s.ldrState ≠ 0 ∧ s.on F.SPN_MC_RX_ACTIVE = true ∧ (worker 1).ldrState = 0 ∧ s.engineFree 26 = true) ∧
    (crc32c (spanBytes (receiving.readLines 26 receiving.stageBase 4).2 receiving.stageBase 4)).toNat ≠
      (imageEnd receiving 4 false).word 0 := by decide +kernel

/-- The roll-up waits for SDN3; the inbox holds `n` reports. -/
def rolling (n : Nat) : State :=
  { manager with spn := { manager.spn with roll := some ⟨7, [4], 1, 2, none, 0⟩, inbox := List.replicate n ⟨9, 0, 5, 1, [1, 2, 3]⟩ } }

theorem wit_Spine_MulticastAndFaultReports :
    (x0.live ∧ x0.manager = false ∧ x0.spn.mcNext = none ∧ x0.spn.roll = none ∧ x0.spn.inbox = []) ∧
    (manager.manager = true ∧ manager.on F.SPN_MC_CTRL_BUSY = false) ∧
    (let f : SpnFrame := spnMake 2 0 0 1 0xFFF 0 0 7 0 [1]
     let s := { casting 0 1000 with spn := { (casting 0 1000).spn with queues := [(18, List.replicate 147 (0, f))] } }
     s.live ∧ 4 ∈ s.mcPorts ∧ s.spnRoom 4 2 = false) ∧
    (let s := casting 512 769
     s.live ∧ s.spn.mcNext = some 512 ∧ s.fld F.SPN_MC_CTRL_MODE = 1 ∧ s.sdnActive = [4] ∧ s.spnRoom 4 2 = true ∧
     Tab.lst s.spn.stalled (4 * 4 + 2) = [] ∧ s.mem.wrong = [] ∧ 512 + 256 < s.fld F.SPN_MC_LEN_LEN ∧ s.fld F.SPN_MC_LEN_LEN ≤ 16777216) ∧
    (∀ f ∈ [spnMake 2 0 0 1 0xFFF 0 0 7 0 [1], spnMake 3 0 0 1 0xFFF 0 0 7 257 [0]], ∀ b : Bool,
      let s := if b then worker 1 else receiving
      s.live ∧ s.spnActive 0 = true ∧ s.manager = false ∧ s.sdnActive = [] ∧ f.framed = true ∧ f.crcOk = true ∧ f.mode = 1 ∧
      s.on F.SPN_STAT_ADDR_VALID = true ∧ s.fld F.PWR_STAT_STATE = 0 ∧ s.pwr.phase = .steady ∧
      (∀ n, n < 8 → s.chkSnoops 15 n = false) ∧ s.spn.held = []) ∧
    ((worker 1).on F.SPN_MC_RX_ACTIVE = false ∧ (worker 1).ldrState = 0 ∧ receiving.on F.SPN_MC_RX_ACTIVE = true ∧
      receiving.fld F.SPN_MC_RX_SESSION = 7 ∧ receiving.spn.rxNext < 257) ∧
    (let r := receiving.readLines 26 receiving.stageBase 4
     let f := spnMake 3 0 0 1 0xFFF 0 0 7 4 [BitVec.ofNat 32 (crc32c (spanBytes r.2 receiving.stageBase 4)).toNat]
     f.type = 3 ∧ f.framed = true ∧ f.crcOk = true ∧ f.mode = 1 ∧ f.session = 7 ∧ f.aux = 4 ∧ f.aux ≤ receiving.spn.rxNext ∧
     receiving.ldrState = 0 ∧ (crc32c (spanBytes r.2 receiving.stageBase f.aux)).toNat = f.word 0) := by decide +kernel

theorem wit_Spine_MulticastAndFaultReports_ends :
    (∀ n ∈ [1, 63, 64],
      let f : SpnFrame := spnMake 10 0 0 3 0xFFF 9 0 7 0 [BitVec.ofNat 32 (8190 + 65536 * 8189), 0, 0]
      let g : SpnFrame := spnMake 11 0 0 3 0xFFF 9 0 0 0 [0x05000000, 1, 2, 3]
      (rolling n).live ∧ (rolling n).spnActive 4 = true ∧ f.type = 10 ∧ f.framed = true ∧ f.crcOk = true ∧
      (rolling n).manager = true ∧ (rolling n).spn.roll = some ⟨7, [4], 1, 2, none, 0⟩ ∧ f.session = 7 ∧
      1 + f.word 0 % 8192 < 8192 ∧ 2 + f.word 0 / 65536 % 8192 < 8192 ∧ g.type = 11 ∧ g.framed = true ∧ g.crcOk = true ∧
      g.mode = 3 ∧ (rolling n).spn.inbox.length = n) := by decide +kernel

/-- Clasp in a state, following; the archipelago asks for a level. -/
def clasp (st mode level : Nat) : State :=
  let s := (x0.setFld F.CLS_STAT_STATE st).setFld F.CLS_CFG_MODE (2 + mode)
  { s with clasp := { s.clasp with arch := level, sdk := decide (3 ≤ st) } }

theorem wit_Clasp_CycleTakesTheDemandLevel :
    (∀ st ∈ [1, 2, 3], ∀ d ∈ [0, 1, 2], (clasp st 0 d).live ∧ (clasp st 0 d).armed = true ∧
      (clasp st 0 d).fld F.CLS_FAULT_CAUSE = 0 ∧ (clasp st 0 d).fld F.CLS_STAT_STATE = st ∧ (clasp st 0 d).demand = d ∧
      (clasp st 0 d).on F.CLS_STAT_WAIT = false ∧ (clasp st 0 d).clsMode 3 = false) ∧
    (clsLevel 1 false = 0 ∧ clsLevel 2 false = 1 ∧ clsLevel 3 false = 2) ∧
    ((clasp 4 0 0).armed = true ∧ (clasp 4 0 0).fld F.CLS_STAT_STATE = 4 ∧ (clasp 4 0 0).clasp.sdk = true) ∧
    ((clasp 3 8 1).demand = 1 ∧ (clasp 3 8 1).clsMode 3 = true ∧ (clasp 3 8 1).clasp.follow = false) ∧
    (let s := (clasp 3 0 1).setOn F.CLS_STAT_WAIT true
     s.live ∧ s.armed = true ∧ s.demand = 1 ∧ s.on F.CLS_STAT_WAIT = true ∧ s.clasp.sdk = true) ∧
    (x0.live ∧ x0.armed = false) := by decide +kernel

/-- A CLASP section with the smallest values allowed. -/
def claspSec (mode : Byte) : List Byte :=
  let b : List Byte := [mode, 0, 0, 0, 2, 2, 1, 1, 0, 0, 0, 0, 0, 0, 3, 1] ++ List.replicate 44 0
  b ++ leBytes 4 (crc32c (leBytes 4 64 ++ b)).toNat

theorem wit_Clasp_InputsAndDiagnosticsLatchFaults :
    (let s := ((clasp 1 0 0).setFld F.CLS_CFG_PAIR1 1).setFld F.CLS_IN_RAW 4
     let s : State := { s with clasp := { s.clasp with cycle := 33332, changes := [(1, List.replicate 8 0)] } }
     s.live ∧ s.armed = true ∧ bits 2 2 (s.fld F.CLS_IN_FILT) ≠ bits 2 2 (s.fld F.CLS_IN_RAW) ∧ s.pairFunc (2 / 2) ≠ 0 ∧
     bits 3 3 (s.fld F.CLS_FAULT_CAUSE) = 0 ∧
     8 ≤ ((Tab.lst s.clasp.changes (2 / 2)).filter fun x => decide (s.clasp.cycle < x + 33333)).length ∧
     s.pairEqual 1 = true ∧ bits 1 1 (s.fld F.CLS_FAULT_CAUSE) = 0 ∧ s.fld F.CLS_STAT_STATE ≠ 5) ∧
    (x0.live ∧ x0.pairFunc 1 = 0 ∧ x0.armed = false ∧ x0.on F.CLK_STAT_XQUAL = false) ∧
    (let s : State := { clasp 1 0 0 with clasp := { (clasp 1 0 0).clasp with outA := true, outB := false } }
     s.live ∧ s.safeOut = true ∧ s.armed = true ∧ bits 4 4 (s.fld F.CLS_FAULT_CAUSE) = 0 ∧ s.clasp.outA ≠ false ∧
     bits 7 7 (s.fld F.CLS_FAULT_CAUSE) = 0) ∧
    (let s : State := { clasp 1 0 0 with clasp := { (clasp 1 0 0).clasp with copy := claspSec 3 } }.loadLk (claspSec 3)
     s.live ∧ s.lkGood = true ∧ s.armed = true ∧ bits 6 6 (s.fld F.CLS_FAULT_CAUSE) = 0 ∧
     (clasp 1 0 0).lkGood = false ∧ bits 5 5 ((clasp 1 0 0).fld F.CLS_FAULT_CAUSE) = 0 ∧ x0.safeOut = false) ∧
    (let s := (clasp 1 0 0).setOn F.CLK_STAT_XQUAL true
     s.live ∧ s.on F.CLK_STAT_XQUAL = true ∧ s.armed = true ∧ bits 7 7 (s.fld F.CLS_FAULT_CAUSE) = 0) := by decide +kernel

/-- A key sequence has been started. -/
def keyed (s : State) : State := { s with clasp := { s.clasp with key := true } }

/-- A device in DISARMED whose active configuration uses Clasp, with a pad of SAFE_OUT stuck or the logic bad. -/
def unarmed (stuck bad : Bool) : State :=
  { x0.setOn F.CFG_STATUS_ACTIVE true with
    conf := { x0.conf with secs := [(144, claspSec 1)] }
    clasp := { x0.clasp with padA := if stuck then some true else none, logicBad := bad } }

theorem wit_Clasp_arming_fails :
    (∀ p ∈ [(true, false), (false, true), (true, true)], (unarmed p.1 p.2).live ∧ (unarmed p.1 p.2).fld F.CLS_STAT_STATE = 0 ∧
      (unarmed p.1 p.2).active = true ∧ (unarmed p.1 p.2).armFaults (claspSec 1) ≠ 0 ∧ (unarmed p.1 p.2).padsNegated = !p.1 ∧
      (unarmed p.1 p.2).clasp.logicBad = p.2) ∧
    (x0.setFld F.CLS_STAT_STATE 5).fld F.CLS_STAT_STATE = 5 ∧ (x0.setFld F.CLS_STAT_STATE 5).live ∧
    x0.on F.CLS_STAT_WAIT = false ∧ x0.clasp.outA = false ∧ x0.clasp.outB = true := by decide +kernel

theorem wit_Clasp_KeysAndArming :
    (x0.live ∧ x0.clasp.key = false ∧ x0.fld F.CLS_STAT_STATE = 0 ∧ x0.active = false) ∧
    ((keyed (clasp 4 0 0)).live ∧ (keyed (clasp 4 0 0)).clasp.key = true ∧ (keyed (clasp 4 0 0)).armed = true ∧
      (keyed (clasp 4 0 0)).clsPrune.resetOk = true ∧ (keyed (clasp 4 0 0)).fld F.CLS_STAT_STATE = 4) ∧
    ((keyed (clasp 1 0 0)).live ∧ (keyed (clasp 1 0 0)).clsPrune.resetOk = false) ∧
    (∀ b ∈ [claspSec 1, claspSec 1 ++ [0]],
      let s : State := { x0.setOn F.CFG_STATUS_ACTIVE true with conf := { x0.conf with secs := [(144, b)] } }
      s.live ∧ s.fld F.CLS_STAT_STATE = 0 ∧ s.active = true ∧ byteOf (Secs.get s.conf.secs 9 0) 0 % 2 = 1 ∧
      s.clasp.logicBad = false ∧ s.padsNegated = true ∧ (s.armFaults b ≠ 0 ↔ b ≠ claspSec 1)) ∧
    (claspOk (claspSec 1) = true ∧ claspOk (claspSec 1 ++ [0]) = false) := by decide +kernel

/-- A worker with Clasp in RUN that last accepted SEQ 255. -/
def follower (mode : Nat) : State :=
  let s := ((worker 1).setFld F.CLS_STAT_STATE 3).setFld F.CLS_CFG_MODE mode
  { s with clasp := { s.clasp with seqIn := some 255, hbTimer := true } }

/-- A Clasp frame of type `k`, SEQ `q`, level 3. -/
def frameOf (k q : Nat) : List Byte := claspFrame 0 q [BitVec.ofNat 8 (16 * k), BitVec.ofNat 8 q, 3]

theorem wit_Clasp_HeartbeatsAndRequests :
    (manager.live ∧ manager.spnActive 4 = true ∧ ∀ k ∈ [1, 2, 3, 4], byteOf (frameOf k 0) 0 / 16 = k) ∧
    (∀ m ∈ [0, 2], (follower m).live ∧ (follower m).spnActive 0 = true ∧ (follower m).manager = false ∧
      (follower m).fld F.CLS_STAT_STATE ≠ 5 ∧ (follower m).sdnActive = [] ∧ (follower m).clasp.lost = false ∧
      (follower m).clasp.hbTimer = true ∧ (follower m).clasp.hbIn = false ∧ (follower m).armed = true ∧ (follower m).clsMode 1 = decide (m = 2) ∧
      (follower m).clsPrune.resetOk = true) ∧
    (∀ k ∈ [1, 2, 4], ∀ q ∈ [0, 2, 3], let b := frameOf k q
      3 ≤ b.length ∧ beAt b (b.length - 2) 2 = claspCrc 0 q (b.take (b.length - 2)) ∧ byteOf b 1 = q ∧
      ((1 ≤ (q + 256 - 255) % 256 ∧ (q + 256 - 255) % 256 ≤ 3) ↔ q ≠ 3)) ∧
    (let b := frameOf 1 0 ++ [1]
     beAt b (b.length - 2) 2 ≠ claspCrc 0 0 (b.take (b.length - 2))) ∧
    (let b := claspFrame 9 255 ([0x30, 255, 3] ++ leBytes 2 9)
     manager.manager = true ∧ manager.fld F.CLS_STAT_STATE ≠ 5 ∧ byteOf b 0 / 16 = 3 ∧ b.length = 7 ∧
     beAt b 5 2 = claspCrc (leAt b 3 2) (byteOf b 1) (b.take 5) ∧ Tab.num manager.clasp.heldSeq (leAt b 3 2) ≠ byteOf b 1 + 1) ∧
    (x0.live ∧ x0.claspBeats = false ∧ x0.armed = false) ∧
    (let s := (manager.setFld F.CLS_STAT_STATE 1).setFld F.CLS_CFG_MODE 16
     s.live ∧ s.claspBeats = true) ∧
    (let s : State := { follower 2 with clasp := { (follower 2).clasp with reqLevel := 1 } }
     s.live ∧ s.on F.SPN_STAT_ADDR_VALID = true ∧ s.clasp.reqLevel ≠ 0 ∧ s.spnActive 0 = true) := by decide +kernel
/-- Clasp of state 1 follows at a worker or at the manager, its pair 1 an ARCH pair of FUNC 2; the lines have these levels;
`asked` is the level of the last REQ, or that of the archipelago. -/
def archPair (mgr : Bool) (filt asked left : Nat) : State :=
  let s := (((if mgr then manager else follower 2).setFld F.CLS_STAT_STATE 1).setFld F.CLS_CFG_MODE 18).setFld F.CLS_CFG_PAIR1 10
  let s := s.setFld F.CLS_IN_FILT filt
  { s with clasp := { s.clasp with reqLevel := asked, archA := asked, reqLeft := left, sdk := false } }

theorem wit_Clasp_levels_sent :
    (∀ e ∈ [(8, 0), (4, 1), (8, 1), (4, 0)], ∀ l ∈ [0, 2], let s := archPair false e.1 e.2 l
      s.live ∧ s.manager = false ∧ s.armed = true ∧ s.on F.SPN_STAT_ADDR_VALID = true ∧ s.spnActive 0 = true ∧
      s.clasp.sdk = false ∧ s.clasp.reqLevel = e.2 ∧ s.clasp.reqLeft = l ∧ s.pairsLevel 3 = (if e.1 = 4 then 0 else 1)) ∧
    (∀ e ∈ [(8, 0), (4, 1), (4, 0), (8, 1)], let s := archPair true e.1 e.2 0
      s.live ∧ s.claspBeats = true ∧ s.clasp.sdk = false ∧ s.archWanted = (if e.1 = 4 then 0 else 1) ∧
      s.clsMode 3 = false ∧ s.sdnActive = [4]) := by decide +kernel

/-- The crystal is qualified or not; the loops of `lock` are locked and started. -/
def clocked (xqual : Bool) (lock : Nat) : State :=
  let s := (x0.setOn F.CLK_STAT_XQUAL xqual).setFld F.CLK_STAT_LOCK lock
  { s with clk := { s.clk with started := [(0, true), (5, true)] } }

theorem wit_Clocks_QualifyLockSwitchGate :
    (x0.live ∧ x0.pwr.phase = .steady ∧ x0.on F.CLK_STAT_XQUAL = false ∧ x0.on F.CLK_STAT_SRCFAIL = false ∧
      x0.clk.windows < 31 ∧ x0.locked 5 = false ∧ Tab.on x0.clk.relocking 5 = false) ∧
    (let s : State := { x0 with clk := { x0.clk with windows := 31 } }
     s.live ∧ s.pwr.phase = .steady ∧ s.on F.CLK_STAT_XQUAL = false ∧ s.clk.windows = 31) ∧
    ((clocked true 0).live ∧ (clocked true 0).pwr.phase = .steady ∧ (clocked true 0).on F.CLK_STAT_XQUAL = true ∧
      Tab.on (clocked true 0).clk.started 5 = true ∧ (clocked true 0).locked 5 = false ∧ Tab.on (clocked true 0).clk.coast 5 = false) ∧
    ((clocked true 32).live ∧ (clocked true 32).locked 5 = true) ∧
    (let s : State := { clocked true 8 with tim := { x0.tim with running := true } }
     s.live ∧ s.pwr.phase = .steady ∧ s.locked 3 = true ∧ s.tim.running = true) ∧
    (∀ n ∈ [1, 2], let s : State := { x0 with clk := { x0.clk with relocking := [(5, true)], fails := [(5, n)] } }
      s.live ∧ s.pwr.phase = .steady ∧ Tab.on s.clk.relocking 5 = true ∧ Tab.num s.clk.fails 5 = n) ∧
    (let s : State := { x0 with clk := { x0.clk with want := [(4, 15)] } }
     s.live ∧ Tab.num s.clk.want (selIndex .eng1) ≠ Tab.num s.clk.sel (selIndex .eng1) ∧
     Tab.num s.clk.want (selIndex .ref) = Tab.num s.clk.sel (selIndex .ref) ∧ s.inputDead (selIndex .eng1) = true ∧
     (s.setFld F.CLK_STAT_LOCK 32).inputDead (selIndex .eng1) = false) ∧
    (let s := x0.setFld F.CLK_GATE_GATE 32
     s.live ∧ bits 5 5 (s.fld F.CLK_GATE_GATE) = 1 ∧ s.fld F.PWR_STAT_STATE < 2 ∧ bits 0 0 (s.fld F.CLK_GATE_GATE) = 0 ∧
     s.isGated 0 = false) := by decide +kernel

theorem wit_Clocks_power_of_dies_and_gates :
    (clocked true 0).nothingWaits ∧ (clocked true 0).strait.noPower = false ∧
    (∀ v ∈ [1, 32], let s := x0.setFld F.CLK_GATE_GATE 32
      bits 0 0 (BitVec.ofNat 6 v).toNat = (if v = 1 then 1 else 0) ∧ bits 5 5 (BitVec.ofNat 6 v).toNat = (if v = 1 then 0 else 1) ∧
      s.fld F.PWR_STAT_STATE < 2) ∧
    (let s := clocked true 63
     s.live ∧ s.on F.CLK_STAT_XQUAL = true ∧ s.on (F.FLT_SRCi_EN 9) = true ∧ (s.events 9).length < 15 ∧
     Tab.on s.clk.started 5 = true) := by decide +kernel

/-- Both dies are blank; the IDLE timer is 5, the count `n`. -/
def darkFor (n : Nat) (timer : Bool) : State :=
  let s := ((x0.setOn F.CHN_STAT_BLANK_E0 true).setOn F.CHN_STAT_BLANK_E1 true).setFld F.CHN_STAT_BLANK_SRC 2
  ((s.setFld F.PWR_IDLECNT_MS n).setFld F.PWR_TMR0_T_IDLE (if timer then 5 else 0)).setOn F.CHN_CTRL_FORCE_BLANK true

/-- A block has been asked to stop, in a phase with blocks left to stop. -/
def stopping (b : Nat) (phase : PwrPhase) (todo : List Nat) : State :=
  { x0 with clk := { x0.clk with asked := [(b, true)] }, pwr := { x0.pwr with phase := phase, todo := todo } }

theorem wit_Power_EntriesStopBlocks :
    (x0.live ∧ x0.entryFree 3 = true ∧ x0.fld F.PWR_STAT_STATE = 0 ∧ x0.isGated 7 = false ∧
      (x0.setFld F.PWR_STAT_STATE 1).entryFree 1 = false) ∧
    (let s := (x0.setOn F.CHN_STAT_BLANK_E0 false)
     s.live ∧ s.dark = false) ∧
    ((darkFor 7 false).live ∧ (darkFor 7 false).dark = true ∧ (darkFor 7 false).on F.PWR_TMR0_T_DOZE = false ∧
      (darkFor 7 false).on F.PWR_TMR1_T_DEEP = false ∧ (darkFor 7 false).on F.PWR_TMR0_T_IDLE = false) ∧
    (∀ n ∈ [5, 6], let s := (x0.setFld F.PWR_TMR0_T_IDLE 5).setFld F.PWR_IDLECNT_MS n
      s.live ∧ s.dark = true ∧ s.on F.PWR_TMR0_T_DOZE = false ∧ s.on F.PWR_TMR1_T_DEEP = false ∧
      s.on F.PWR_TMR0_T_IDLE = true ∧ s.fld F.PWR_TMR0_T_IDLE ≤ s.fld F.PWR_IDLECNT_MS ∧ s.entryFree 1 = true ∧
      s.isGated 7 = false) ∧
    Tab.on x0.clk.asked 18 = false ∧
    (∀ b ∈ [0, 18], (stopping b .steady []).live ∧ Tab.on (stopping b .steady []).clk.asked b = true ∧
      (stopping b .steady []).pwr.phase = .steady) ∧
    (let s := stopping 9 (.entering 1) [9]
     s.live ∧ s.pwr.phase = .entering 1 ∧ s.pwr.todo = [9] ∧ Tab.on s.clk.asked 9 = true) ∧
    (let s := stopping 18 (.entering 3) [18, 31]
     s.live ∧ s.pwr.phase = .entering 3 ∧ s.pwr.todo = 18 :: [31] ∧ Tab.on s.clk.asked 18 = true) := by decide +kernel

/-- The device in a power state. -/
def resting (st : Nat) : State := x0.setFld F.PWR_STAT_STATE st

/-- A restart at a step, with a ready check that has failed `n` times. -/
def restarting (step n : Nat) (todo : List Nat) : State :=
  { xl with pwr := { x0.pwr with phase := .restarting, step := step, retries := n, todo := todo } }

theorem wit_Power_wake_steps :
    (let s : State := { restarting 2 0 [7] with pwr := { (restarting 2 0 [7]).pwr with phase := .waking } }
     s.live ∧ s.on (F.CHKn_STAT_PWR 7) = false ∧ s.stepReady 2 = true ∧ s.pwr.lostBanks = []) ∧
    ((restarting 9 0 [10]).live ∧ (restarting 9 0 [10]).pwr.step = 9 ∧ (restarting 9 0 [10]).pwr.todo = [10]) ∧
    x0.retained 1 = true ∧ bits 1 1 (2 : BitVec 16).toNat = 1 := by decide +kernel

theorem wit_Power_WakesAndThermalReadings :
    (let s : State := { x0 with pwr := { x0.pwr with deep := true } }
     s.inReset = false ∧ s.pwr.deep = true ∧ s.wakeArmed 0 = true ∧ s.wakeArmed 3 = true) ∧
    (x0.live ∧ x0.wakeArmed 2 = false ∧ x0.wakeArmed 4 = false ∧ x0.pwr.phase = .steady ∧ x0.fld F.PWR_STAT_STATE = 0) ∧
    (∀ n ∈ [1, 2], (resting n).live ∧ (resting n).wakeArmed 1 = true ∧ (resting n).pwr.phase = .steady ∧
      (resting n).fld F.PWR_STAT_STATE = n) ∧
    (let s : State := { resting 1 with pwr := { (resting 1).pwr with forced := true } }
     s.live ∧ s.fld F.PWR_STAT_STATE = 1 ∧ s.pwr.phase = .steady ∧ s.pwr.forced = true ∧ s.on F.THM_STAT_SHUT = false) ∧
    ((restarting 2 3 [9]).live ∧ (restarting 2 3 [9]).pwr.phase = .restarting ∧ (restarting 2 3 [9]).pwr.retries ≠ 0 ∧
      (restarting 2 3 [9]).stepReady 2 = true ∧ (restarting 2 3 [9]).pwr.todo = [9]) ∧
    (let s := (resting 2).setFld F.PWR_TMR1_T_WAKE 1
     s.wakeArmed 4 = true ∧ s.fld F.PWR_STAT_STATE = 2) ∧
    (x0.rising = false ∧ x0.pwr.retries = 0) ∧
    (∀ t ∈ [[9], [10]], (restarting 2 0 t).live ∧ (restarting 2 0 t).pwr.phase = .restarting ∧ (restarting 2 0 t).pwr.retries = 0 ∧
      (restarting 2 0 t).pwr.step ≠ 0 ∧ (restarting 2 0 t).pwr.step ≠ 9 ∧ (restarting 2 0 t).stepReady 2 = true ∧
      (restarting 2 0 t).pwr.todo = t) ∧
    (∀ n ∈ [3, 4], (restarting 10 n []).live ∧ (restarting 10 n []).rising = true ∧ (restarting 10 n []).pwr.retries = n ∧
      (restarting 10 n []).pwr.step < 16) ∧
    (let s : State := { x0.setFld (F.ADC_DIODEd_DS 2) 0x100 with
       therm := { x0.therm with clamped := [(2, 2)], hot := [(2, 1)] } }
     let x : Int := (((2080 : BitVec 12).toNat : Int) - s.fld (F.ADC_DIODEd_D0 2)) * signed 16 (s.fld (F.ADC_DIODEd_DS 2)) / 256
     s.live ∧ Tab.num s.therm.clamped 2 = 2 ∧ s.on (sensFlag 2) = false ∧ 1 ≤ Tab.num s.therm.hot 2 ∧
     signed 16 (unsigned 16 x) = 2080) := by decide +kernel

/-- A wake comes to step 7 with bank `n` lost, its shadow where `src` says; the ranks of `insvc` are in service. -/
def restoring (n src insvc lock : Nat) : State :=
  let s := (((x0.setFld F.CLK_STAT_LOCK lock).setFld F.MEM_STAT_INSVC insvc).setFld (straitState 0) 2).setFld (straitState 1) 2
  let s := s.setFld (F.PWR_LBn_SHADOW n) src
  { s with pwr := { s.pwr with phase := .waking, step := 6, todo := [7], lostBanks := Tab.setOn [] n true } }

/-- The write buffers hold every line of the first 65,536 bytes whole. -/
def wholeLines (s : State) : List WEntry :=
  (linesOf 0 65536).map fun a => ⟨s.lineOf a, List.replicate 64 (some 0), []⟩

/-- The shadow of bank 1, at flat address 0, stands whole in the write buffers. -/
def shadowed (s : State) : State := { s with mem := { s.mem with wbuf := [(0, wholeLines s), (1, wholeLines s)] } }

theorem readEach_posted {s : State} {q : Nat} {ls : List Nat} {b : List (Option Byte)} (hb : wholeLine b = true)
    (h : ∀ a ∈ ls, ¬ s.flatTop ≤ a ∧ ∃ e, s.mem.posted (s.lineOf a) = some e ∧ e.bytes = b) :
    s.readEach q ls = (s, ls.map fun a => ⟨a, b.map (·.getD 0), false⟩) := by
  induction ls with
  | nil => rfl
  | cons a t ih =>
    obtain ⟨ht, e, hp, he⟩ := h a List.mem_cons_self
    have := ih fun x hx => h x (List.mem_cons_of_mem a hx)
    rw [State.readEach, State.lineRead_posted ht hp (he ▸ hb)]
    dsimp only
    rw [this, he]
    rfl

theorem shadowed_posted {s : State} {a : Nat} (h : a ∈ linesOf 0 65536) (hc : lineCtl (s.lineOf a) < 2) :
    ∃ e, (shadowed s).mem.posted ((shadowed s).lineOf a) = some e ∧ e.bytes = List.replicate 64 (some 0) := by
  have hl : ∀ c, c < 2 → Tab.lst (shadowed s).mem.wbuf c = wholeLines s := by
    intro c hc
    match c, hc with
    | 0, _ => rfl
    | 1, _ => rfl
  have ho : (shadowed s).lineOf a = s.lineOf a := rfl
  rw [ho]
  cases hf : (shadowed s).mem.posted (s.lineOf a) with
  | some e =>
    refine ⟨e, rfl, ?_⟩
    unfold MemState.posted at hf
    rw [hl _ hc] at hf
    obtain ⟨x, _, rfl⟩ := List.mem_map.1 (List.mem_of_find?_eq_some hf)
    rfl
  | none =>
    exfalso
    unfold MemState.posted at hf
    rw [hl _ hc] at hf
    have := List.find?_eq_none.1 hf _ (List.mem_map_of_mem h)
    exact this (beq_self_eq_true _)

theorem shadowed_good {s : State} {q : Nat} (ht : (shadowed s).flatTop = 1879048192)
    (h : ∀ a ∈ linesOf 0 65536, a < 65536 ∧ lineCtl (s.lineOf a) < 2) :
    spanBad ((shadowed s).readLines q 0 65536).2 = false := by
  have hb : wholeLine (List.replicate 64 (some (0 : Byte))) = true := by decide
  rw [State.readLines, readEach_posted hb fun a ha => ?_]
  · unfold spanBad
    rw [List.any_map]
    exact List.any_eq_false.2 fun _ _ => Bool.false_ne_true
  · have h := h a ha
    exact ⟨by rw [ht]; omega, shadowed_posted ha h.2⟩

theorem wit_Power_step7_good :
    ((shadowed (restoring 1 1 1 63)).live ∧ (shadowed (restoring 1 1 1 63)).lockShadow 1 = 0 ∧
      (shadowed (restoring 1 1 1 63)).engineReady 30 0 65536 = true) ∧
    (shadowed (restoring 1 1 1 63)).pwr = (restoring 1 1 1 63).pwr ∧
    spanBad ((shadowed (restoring 1 1 1 63)).readLines 30 0 65536).2 = false :=
  ⟨by decide +kernel, rfl, shadowed_good (by decide +kernel) (by decide +kernel)⟩

theorem readEach_bad {s : State} {q a : Nat} {t : List Nat} (h : (s.lineRead q a).2.poisoned = true) :
    spanBad (s.readEach q (a :: t)).2 = true := by
  unfold State.readEach spanBad
  dsimp only
  rw [List.any_cons, h, Bool.true_or]

theorem wit_Power_step7_bad : ∀ n ∈ [1, 3],
    ((restoring n 1 0 63).live ∧ (restoring n 1 0 63).lockSource n = 1 ∧ (restoring n 1 0 63).lockShadow n = 0 ∧
      (restoring n 1 0 63).engineReady 30 0 65536 = true) ∧
    spanBad ((restoring n 1 0 63).readLines 30 0 65536).2 = true := by
  have hl : linesOf 0 65536 = 0 :: (linesOf 0 65536).tail := by decide +kernel
  have h : ∀ n ∈ [1, 3], ((restoring n 1 0 63).live ∧ (restoring n 1 0 63).lockSource n = 1 ∧
      (restoring n 1 0 63).lockShadow n = 0 ∧ (restoring n 1 0 63).engineReady 30 0 65536 = true) ∧
      ((restoring n 1 0 63).lineRead 30 0).2.poisoned = true := by decide +kernel
  intro n hn
  refine ⟨(h n hn).1, ?_⟩
  rw [State.readLines, hl]
  exact readEach_bad (h n hn).2

theorem wit_Power_step7_other :
    (∀ e ∈ [(1, 1), (3, 2), (15, 0)], let s := restoring e.1 e.2 1 0
      s.live ∧ s.pwr.phase = .waking ∧ s.on (F.CHKn_STAT_PWR 7) = false ∧ s.pwr.retries = 0 ∧ s.pwr.step = 6 ∧
      s.pwr.todo = [7] ∧ s.stepReady 6 = true ∧ s.pwr.lostBanks = Tab.setOn [] e.1 true ∧ s.lockSource e.1 = e.2) ∧
    (restoring 1 1 1 0).engineReady 30 ((restoring 1 1 1 0).lockShadow 1) 65536 = false := by decide +kernel

/-- A wake after DOZE whose bank check runs; the CRC of bank 2 in PWR_LBCRC is `w`. -/
def bankCheck (w : Word) : State :=
  { (xl.setOn (F.CHKn_STAT_PWR 7) true).setReg (R.PWR_LBCRCn 2) w with
    pwr := { xl.pwr with phase := .waking, step := 1, todo := [2] } }

theorem bankCheck_reg (w : Word) (a : Nat) :
    (bankCheck w).reg a = ((xl.setOn (F.CHKn_STAT_PWR 7) true).setReg (R.PWR_LBCRCn 2) w).reg a := by
  unfold bankCheck State.reg
  rfl

theorem bankCheck_fld {w : Word} {f : Fld} (h : f.addr ≠ R.PWR_LBCRCn 2) :
    (bankCheck w).fld f = (xl.setOn (F.CHKn_STAT_PWR 7) true).fld f := by
  unfold State.fld
  rw [bankCheck_reg, State.reg_setReg_other h]

/-- Bank 1 has lost its power; bank 2 reads as its CRC says. -/
theorem bankCheck_facts (w : Word) (hw : w = (bankCheck 0).lockCrc 2) :
    (bankCheck w).live ∧ (bankCheck w).pwr = { xl.pwr with phase := .waking, step := 1, todo := [2] } ∧
    (bankCheck w).on (F.CHKn_STAT_PWR 7) = true ∧ (bankCheck w).chk.held = false ∧ (bankCheck w).retained 1 = true ∧
    bits 1 1 (2 : BitVec 16).toNat = 1 ∧
    (∀ m : Fin 16, m ≠ 1 → ¬ ((bankCheck w).retained m = true ∧
      (bits m m (2 : BitVec 16).toNat = 1 ∨ (bankCheck w).lockCrc m ≠ (bankCheck w).reg (R.PWR_LBCRCn m)))) := by
  refine ⟨⟨rfl, rfl⟩, rfl, ?_, rfl, rfl, by decide, ?_⟩
  · unfold State.on
    rw [bankCheck_fld (by decide)]
    decide +kernel
  · intro m hm h
    have hr : ∀ m : Fin 16, (F.PWR_LBn_RETAIN m).addr ≠ R.PWR_LBCRCn 2 := by decide
    have hd : ∀ m : Fin 16, m ≠ 1 → m ≠ 2 → (m.val == 1 || m.val == 2 ||
        (xl.setOn (F.CHKn_STAT_PWR 7) true).fld (F.PWR_LBn_RETAIN m) != 0) = false := by decide +kernel
    by_cases h2 : m = 2
    · subst h2
      have hb : bits 2 2 (2 : BitVec 16).toNat ≠ 1 := by decide
      have hc : (bankCheck w).reg (R.PWR_LBCRCn 2) = w := by rw [bankCheck_reg, State.reg_setReg_same]
      rcases h.2 with h | h
      · exact hb h
      · exact h (hw.symm.trans hc.symm)
    · have := hd m hm h2
      rw [← bankCheck_fld (w := w) (hr m)] at this
      have ht := h.1
      unfold State.retained State.on at ht
      exact Bool.false_ne_true (this.symm.trans ht)

theorem wit_Power_bank_check :
    ∃ w, w = (bankCheck 0).lockCrc 2 ∧ (bankCheck w).live ∧ (bankCheck w).on (F.CHKn_STAT_PWR 7) = true ∧
      ∀ m : Fin 16, m ≠ 1 → ¬ ((bankCheck w).retained m = true ∧
        (bits m m (2 : BitVec 16).toNat = 1 ∨ (bankCheck w).lockCrc m ≠ (bankCheck w).reg (R.PWR_LBCRCn m))) :=
  have h := bankCheck_facts _ rfl
  ⟨_, rfl, h.1, h.2.2.1, h.2.2.2.2.2.2⟩

/-- A bank is being read from flash. -/
def flashBank : State := { x0 with flash := { x0.flash with running := some (.locket 3) } }

theorem wit_Power_flash_bank (b : Byte) :
    flashBank.live ∧ flashBank.flash.running = some (.locket 3) ∧ (List.replicate 65536 b).length = 65536 ∧
    flashBank.lockShadow 3 + 65536 ≤ 0x1000000 ∧ x0.on F.SYS_FLCFG_ADDR4 = false ∧
    (x0.setOn F.SYS_FLCFG_ADDR4 true).on F.SYS_FLCFG_ADDR4 = true :=
  ⟨by decide +kernel, rfl, List.length_replicate, by decide +kernel, by decide +kernel, by decide +kernel⟩

theorem wit_Counters_SaturateAtTheirMaximum : F.LNK_STAT_SWITCHES.ok ∧ F.TIM_FRAME_COUNT.ok := by decide

/-- A sequence converts slot 15, of 2^`avg` conversions of channel 31 with CALBYP as `byp` says; `n` have counted. -/
def converting (avg n byp : Nat) (discard : Bool) : State :=
  let w := BitVec.ofNat 32 (byp * 2 ^ 16 + avg * 2 ^ 8 + 31)
  { x0.setOn F.ADC_CTRL_EN true with
    adc := { x0.adc with
      owner := some 2, running := true, slot := 15, count := n, discard := discard, slotWord := w, calWord := 0x40000000 } }

theorem wit_Adc_CodesAreCorrected :
    (let s := converting 1 0 0 false
     s.live ∧ s.adc.owner = some 2 ∧ s.adc.discard = false ∧ s.adc.ending = false ∧ rangeOf 5 2500000 = .none ∧
     s.adc.count + 1 < s.slotCount ∧ (F.ADC_SLOTs_CALBYP s.adc.slot).of s.adc.slotWord = 0 ∧
     (F.ADC_CALn_GAIN 0).of s.adc.calWord = 0x4000 ∧ (F.ADC_CALn_OFS 0).of s.adc.calWord = 0) ∧
    (let s := { converting 1 0 0 false with adc := { (converting 1 0 0 false).adc with owner := none } }
     s.adc.owner = none ∧ s.adc.running = true ∧ s.adc.diodes = [] ∧ s.adc.capture = none ∧ s.isGated 0 = false) := by
  decide +kernel

/-- A capture of channel 31 runs. -/
def capturingRef (full : Bool) : State :=
  let s := (x0.setFld F.ADC_SCAL_TGT_CF 1024).setOn F.ADC_SCAL_BUSY true
  { s with adc := { s.adc with capture := some full, capLeft := 256, scalCh := 31 } }

theorem wit_Adc_TriggersSlotsAndCaptures :
    (x0.live ∧ x0.on F.ADC_CTRL_EN = false ∧ x0.adc.owner = none ∧ x0.fld F.ADC_TMR_PERIOD = 0 ∧ x0.adcEnabled 3 = false ∧
      x0.on F.ADC_SCAL_BUSY = false ∧ x0.on F.ADC_SCAL_ZDONE = false ∧ x0.adc.capture = none) ∧
    (let s := x0.setOn F.ADC_CTRL_EN true
     s.live ∧ s.on F.ADC_CTRL_EN = true ∧ s.adc.running = false) ∧
    (x0.stopping 0 = false ∧ (x0.setFld F.CLK_GSTAT_GATED 1).stopping 0 = true) ∧
    (let s := converting 0 0 1 false
     s.live ∧ s.on F.ADC_CTRL_EN = true ∧ s.stopping 0 = false ∧ s.adc.running = true ∧ s.adc.pending = false) ∧
    (let s : State := { converting 0 0 1 false with adc := { (converting 0 0 1 false).adc with pending := true } }
     s.live ∧ s.on F.ADC_CTRL_EN = true ∧ s.stopping 0 = false ∧ s.adc.running = true ∧ s.adc.pending = true ∧
     s.adc.trigRaised = false) ∧
    (let s := (x0.setFld F.ADC_TMR_PERIOD 1).setFld F.ADC_CTRL_TRIGEN 15
     s.live ∧ s.fld F.ADC_TMR_PERIOD ≠ 0 ∧ s.adcEnabled 2 = true ∧ s.adcEnabled 3 = true ∧ s.fld F.ADC_CTRL_PINPOL = 0) ∧
    (x0.setOn F.ADC_SCAL_ZDONE true).on F.ADC_SCAL_ZDONE = true ∧
    (∀ b, (capturingRef b).live ∧ (capturingRef b).on F.ADC_SCAL_BUSY = true ∧ (capturingRef b).adc.capture = some b ∧
      (capturingRef b).adc.scalCh < 32 ∧
      scalSolve ((capturingRef b).fld F.ADC_SCAL_ZF_Z) (((capturingRef b).adc.capSum + 262144) / 16)
        ((capturingRef b).fld F.ADC_SCAL_TGT_CZ) ((capturingRef b).fld F.ADC_SCAL_TGT_CF) = some (16384, 0)) := by decide +kernel

theorem wit_Adc_ends :
    (∀ p : Bool, let s : State := { converting 0 0 1 true with adc := { (converting 0 0 1 true).adc with ending := true, pending := p } }
     s.live ∧ s.adc.owner = some 2 ∧ s.adc.ending = true ∧ s.adc.pending = p) ∧
    (let s : State := { capturingRef false with adc := { (capturingRef false).adc with owner := some 1, discard := true } }
     s.live ∧ s.adc.capture.isSome = true ∧ s.adc.scalCh < 32 ∧ s.adc.owner = some 1 ∧ s.adc.discard = true) ∧
    (∀ b : Bool, let s : State := { capturingRef true with adc := { (capturingRef true).adc with capOvr := b } }
     s.live ∧ s.adc.capture = some true ∧ s.adc.capOvr = b) := by decide +kernel

theorem wit_Adc_conversions :
    (∀ b, (converting 1 0 0 b).live ∧ (converting 1 0 0 b).adc.owner = some 2 ∧ (converting 1 0 0 b).adc.ending = false ∧
      (converting 1 0 0 b).adc.count + 1 < (converting 1 0 0 b).slotCount ∧ (converting 1 0 0 b).adc.discard = b ∧
      ((converting 1 0 0 b).adc.running && (converting 1 0 0 b).adc.ovrRaised) = false) ∧
    (rangeOf 5 2500000 = .none ∧ rangeOf 2520001 2500000 ≠ .none ∧ rangeOf (-20001) 2500000 ≠ .none) ∧
    (let s := converting 8 255 1 false
     s.live ∧ s.adc.owner = some 2 ∧ s.adc.ending = false ∧ s.adc.discard = false ∧ s.adc.count + 1 = s.slotCount ∧
     s.adc.slot < 16 ∧ s.stopping 0 = false ∧ (F.ADC_SLOTs_CALBYP s.adc.slot).of s.adc.slotWord = 1 ∧
     s.fld F.ADC_CTRL_LAST ≤ s.adc.slot) ∧
    (let s : State := { converting 0 0 1 false with adc := { (converting 0 0 1 false).adc with slot := 14 } }.setFld F.ADC_CTRL_LAST 15
     s.adc.slot < s.fld F.ADC_CTRL_LAST) := by
  decide +kernel

/-- A rerun of a group runs; every port is ACTIVE. -/
def rerunning (g : Nat) : State :=
  ((List.range 8).foldl (fun s p => s.setFld (linkStateF p) 5) x0).setFld F.CAL_STAT_BUSY (2 ^ g)

/-- What a run of a lane brought: every phase open, or only the first eight. -/
def laneRun (whole : Bool) : LaneRun :=
  let m : List Bool := if whole then List.replicate 64 true else List.replicate 8 true ++ List.replicate 56 false
  ⟨[5, 6, 7, 8], m, m⟩

/-- What a run of byte lane 15 brought. -/
def byteRun (codes : List Nat) : ByteRun := ⟨codes, [3, 4], List.replicate 16 (List.replicate 64 0xFFFF)⟩

theorem wit_Calibration_RerunsStartAndEnd :
    (x0.live ∧ x0.calBusy 3 = false ∧ x0.fullTraining = true ∧ x0.calBusy 0 = false ∧ Tab.num x0.cal.first 15 < 3) ∧
    ((rerunning 3).live ∧ (rerunning 3).calBusy 3 = true ∧ (rerunning 3).rerunReady 3 = true ∧
      (rerunning 3).rerunCame 3 [] = true ∧ (rerunning 3).rerunItems 3 [] = []) ∧
    (∀ b, (rerunning 3).linkState (lanePort 16).1 = 5 ∧ Tab.on (rerunning 3).cal.left 16 = false ∧
      (rerunning 3).pairAgrees 3 (laneItem 16 (laneRun true) (laneRun b)) = b) ∧
    (∀ i ∈ [0, 16], let s := x0.setFld (linkStateF (lanePort i).1) 1
      s.live ∧ s.linkState (lanePort i).1 = 1 ∧ s.calBusy 3 = false ∧
      s.pairAgrees 3 (laneItem i (laneRun true) (laneRun true)) = true) ∧
    (∀ c ∈ [[1, 2], [9, 9]], x0.pairAgrees 0 (byteItem 15 (byteRun [1, 2]) (byteRun c)) = decide (c = [1, 2])) ∧
    (let s := x0.setOn F.THM_STAT_SHUT true
     s.live ∧ s.on F.THM_STAT_SHUT = true ∧ bits 0 0 (1 : BitVec 4).toNat = 1 ∧ ¬ x0.lnk.cycle + 1 ≤ Tab.num x0.cal.wait 0) := by
  decide +kernel

/-- `n` occurrences of source 162 are pending; INT and FAULT_N are the reactions of every class. -/
def pending (n : Nat) : State :=
  let s := (List.range 4).foldl (fun s c => s.setFld (F.FLT_REACTc_REACT c) 10) x0
  { s with flt := { s.flt with pend := [(162, List.replicate n ⟨7, false⟩)] } }

theorem wit_FaultCollector_ControlCommands :
    (let s : State := { pending 14 with ldr := { (pending 14).ldr with test := true } }
     s.live ∧ s.ldr.test = true ∧ (162 : Byte).toNat < 163 ∧ s.on (F.FLT_SRCi_EN 162) = true ∧ (s.events 162).length < 15) ∧
    (x0.live ∧ x0.ldr.test = false) := by decide +kernel

theorem wit_EventRaise_PendsUpToFifteen :
    (pending 14).on (F.FLT_SRCi_EN 162) = true ∧ ((pending 14).events 162).length < 15 ∧ 15 ≤ ((pending 15).events 162).length ∧
    ((pending 15).setOn (F.FLT_SRCi_EN 162) false).on (F.FLT_SRCi_EN 162) = false := by decide +kernel

theorem wit_EventTake_ReactsByClass :
    (x0.live ∧ ∀ i, i < 192 → x0.events i = []) ∧
    (let s := pending 1
     s.live ∧ s.events 162 = ⟨7, false⟩ :: [] ∧ (∀ j, j < 192 → s.events j ≠ [] → s.nextClass j ≤ s.nextClass 162) ∧
     (∀ j, j < 192 → s.events j ≠ [] → s.nextClass j = s.nextClass 162 → First (Tab.num s.flt.ptr (3 - s.nextClass 162)) 162 j) ∧
     Nat.land (s.fld (F.FLT_REACTc_REACT (s.nextClass 162))) 0x35 = 0 ∧ s.promoted 162 = false) := by decide +kernel

/-- The log is enabled, at its last place; it has wrapped and stops, or not. -/
def logging (full locked : Bool) (staged : Nat) : State :=
  let s := ((x0.setFld F.LOG_STAT_WPTR 1023).setOn F.LOG_STAT_WRAPPED full).setOn F.LOG_CTRL_STOP full
  { s with pwr := { s.pwr with lockLog := locked }, log := { s.log with staged := List.replicate staged ⟨0, 0, 0⟩ } }

/-- One occurrence with this data pends for a source; every class has every reaction. -/
def reacting (i data : Nat) (s : State) : State :=
  let s := (List.range 4).foldl (fun s c => s.setFld (F.FLT_REACTc_REACT c) 0x3F) s
  { s with flt := { s.flt with pend := [(i, [⟨BitVec.ofNat 32 data, false⟩])] } }

theorem wit_EventTake_premises :
    (∀ i ∈ [2, 27, 44, 110, 122, 132, 143, 161], let s := reacting i 1 x0
     s.live ∧ s.hubRuns = true ∧ s.events i = [⟨1, false⟩] ∧ (∀ j, j < 192 → s.events j ≠ [] → j = i) ∧
     (∀ c, c < 4 → s.fld (F.FLT_REACTc_REACT c) = 0x3F)) ∧
    (∀ i, i < 4 → ∀ p, p < 3 → First (Tab.num x0.flt.ptr p) i i) ∧
    hubStopped.live ∧ hubStopped.hubRuns = false ∧ Nat.land 0x0F 0x30 = 0 ∧ 0x0F / 4 % 2 = 1 ∧
    manager.manager = true ∧ manager.spn.inbox.length < 64 ∧ (worker 1).manager = false ∧
    ((worker 1).on F.SPN_STAT_ADDR_VALID && (worker 1).spnActive 0) = true ∧
    (x0.on F.SPN_STAT_ADDR_VALID && x0.spnActive 0) = false := by decide +kernel

theorem wit_EventTake_blocks_reset :
    (let s := x0.setFld (straitState 0) 2
     s.on (straitDown 0) = false ∧ s.fld (straitState 0) = 2) ∧
    (let s := x0.setFld (F.CHN_Cnn_CFG_NIC 1) 3
     s.live ∧ s.nic (1 % 64) ≠ 0) ∧
    (let s : State := { x0 with pmb := { x0.pmb with loops := [(1, { stoppedLoop with running := true })] } }
     (s.loop 1).running = true) ∧
    ((converting 1 0 0 false).adc.owner ≠ none ∧ (converting 1 0 0 false).adc.running = true ∧ x0.adc.owner = none) ∧
    (x0.memAsleep = false ∧ x0.on F.THM_STAT_SHUT = false ∧ Tab.num x0.cal.wait 0 ≤ x0.lnk.cycle) ∧
    (x0.on (F.CHKn_STAT_PWR 7) = false ∧ x0.chk.owner ≠ some 0) := by decide +kernel

theorem wit_Log_EntryWrittenAndCleared :
    (∀ f, (logging f false 0).on F.LOG_CTRL_EN = true ∧ (logging f false 0).pwr.lockLog = false ∧
      (logging f false 0).on F.LOG_STAT_WRAPPED = f ∧ (logging f false 0).on F.LOG_CTRL_STOP = f) ∧
    (∀ n ∈ [31, 32], (logging false true n).on F.LOG_CTRL_EN = true ∧ (logging false true n).pwr.lockLog = true ∧
      (logging false true n).log.staged.length = n) ∧ x0.live := by decide +kernel

/-- Unit `n` is set up as a snoop or a scan of on-chip memory that reads from the table window on. -/
def checking (n : Nat) (busy feed : Bool) (len addr : Nat) : State :=
  let s := ((x0.setOn (F.CHKn_STAT_BUSY n) busy).setOn (F.CHKn_CTRL_FEED n) feed).setOn (F.CHKn_CTRL_SPACE n) true
  ((s.setFld (F.CHKn_LEN_LEN n) len).setFld (F.CHKn_ADDRL_ADDR n) addr).setOn (F.CHKn_CTRL_INIT n) true

theorem wit_CheckUnits_StartAndStop :
    (∀ b, (checking 7 b false 1 0x400000).live ∧ (checking 7 b false 1 0x400000).on (F.CHKn_STAT_PWR 7) = false ∧
      (checking 7 b false 1 0x400000).on (F.CHKn_STAT_BUSY 7) = b ∧ (checking 7 b false 1 0x400000).on (F.CHKn_CTRL_FEED 7) = false ∧
      (checking 7 b false 1 0x400000).chkInSpace 7 = false) ∧
    (let s := checking 0 false true 0 0
     s.live ∧ s.on (F.CHKn_STAT_BUSY 0) = false ∧ s.on (F.CHKn_CTRL_FEED 0) = true ∧ s.on (F.CHKn_CTRL_INIT 0) = true ∧
     s.on (F.CHKn_CTRL_FOLD 0) = false ∧ (s.setOn (F.CHKn_CTRL_FOLD 0) true).on (F.CHKn_CTRL_FOLD 0) = true) ∧
    (let s := (checking 6 false false 0 0x400000).setOn (F.CHKn_CTRL_CMP 6) true
     s.live ∧ s.on (F.CHKn_STAT_BUSY 6) = false ∧ s.on (F.CHKn_CTRL_FEED 6) = false ∧ s.fld (F.CHKn_LEN_LEN 6) = 0 ∧
     s.chkInSpace 6 = true ∧ s.on (F.CHKn_CTRL_CMP 6) = true) ∧
    (x0.setOn (F.CHKn_STAT_PWR 7) true).on (F.CHKn_STAT_PWR 7) = true := by decide +kernel

theorem wit_CheckUnits_scans :
    (let s := checking 6 false false 4 0x400000
     s.live ∧ s.on (F.CHKn_STAT_BUSY 6) = false ∧ s.on (F.CHKn_CTRL_FEED 6) = false ∧ s.fld (F.CHKn_LEN_LEN 6) ≠ 0 ∧
     s.on (F.CHKn_CTRL_SPACE 6) = true ∧ s.chkWaiting = []) ∧
    (checking 6 false false 4 0x200000).chkInSpace 6 = true ∧
    (let s := ((checking 6 false false 4 128).setOn (F.CHKn_CTRL_SPACE 6) false).setFld F.MEM_STAT_INSVC 1
     s.live ∧ s.chkInSpace 6 = true ∧ s.on (F.CHKn_CTRL_SPACE 6) = false ∧ s.chkWaiting = [] ∧ s.chk.owner = none ∧
     s.hubRuns = true ∧ s.stopping 1 = false ∧ s.queueRoom 27 = true) ∧
    (let s : State := { checking 6 true false 4 0 with chk := { x0.chk with owner := some 6 } }
     s.live ∧ s.on (F.CHKn_STAT_BUSY 6) = true ∧ s.on (F.CHKn_CTRL_FEED 6) = false ∧ s.chk.owner = some 6) := by
  decide +kernel

theorem wit_CheckUnits_OnChipScanDone :
    (let s := checking 7 true false 4 0x200000
     s.live ∧ s.on (F.CHKn_STAT_BUSY 7) = true ∧ s.on (F.CHKn_CTRL_FEED 7) = false ∧ s.on (F.CHKn_CTRL_SPACE 7) = true ∧
     s.isGated 1 = false ∧ s.on (F.CHKn_STAT_PWR 7) = false ∧ s.chkAddr 7 + s.fld (F.CHKn_LEN_LEN 7) < 2 ^ 33) ∧
    (x0.live ∧ x0.on (F.CHKn_STAT_BUSY 7) = false) := by decide +kernel

theorem wit_RegisterBus_WritesByAddress :
    (x0.live ∧ x0.spn.self = []) ∧
    (regRow? (activeAddr 0x13FFFC) = none ∧ regRow? (activeAddr 0x7FFC) = none ∧ regRow? (activeAddr 0xFFFC) = none) ∧
    (activeAddr R.CLS_CFG = R.CLS_CFG ∧ (regRow? R.CLS_CFG).any lockedRow = true ∧ R.CLS_CFG < 0x140000 ∧
      (clasp 1 0 0).live ∧ (clasp 1 0 0).spn.self = [] ∧ (clasp 1 0 0).armed = true) ∧
    (activeAddr (R.DIA_CTRL + 0x8000) = R.DIA_CTRL ∧ (regRow? R.DIA_CTRL).isSome = true) ∧
    (R.DIA_CTRL / 0x10000 = 12 ∧ activeAddr R.DIA_CTRL = R.DIA_CTRL ∧ (regRow? R.DIA_CTRL).any lockedRow = false) ∧
    (isleAddr 0x400000 = true ∧ isleAddr 0x7FFFFC = true) ∧
    (∀ a ∈ [0x140000, 0x2FFFFC], 0x140000 ≤ a ∧ a < 0x300000 ∧ tableWord a = none) ∧
    (∀ a ∈ [0x200000, 0x23EFFC], (tableWord a).isSome = true) ∧ x0.tabs.copying = [] ∧ x0.hubRuns = true ∧
    hubStopped.host.jobs = [] ∧ hubStopped.host.reading = none := by decide +kernel

theorem wit_RegisterBus_plain : (x0.armed = false ∧ (regRow? R.CLS_CFG).any lockedRow = true ∧ actsOnWrite R.CLS_CFG = false) ∧
    (∀ a ∈ [R.CLS_CFG, R.PWR_TMR0, R.MEM_HOST_STAT, R.TIM_FRAME + 0], activeAddr a = a ∧ a < 0x140000 ∧ (regRow? a).isSome = true ∧
      actsOnWrite a = false) ∧
    (∀ b ∈ [none, some 0x40], let s : State := { x0 with mem := { x0.mem with lineBase := b, lineBuf := List.replicate 64 none } }
      s.live ∧ s.hubRuns = true ∧ s.mem.lineBase = b ∧ s.mem.lineDue = false ∧ s.mem.lineBuf.length = 64 ∧
      windowFlat (s.fld F.MEM_PAGE_PAGE) 0x80007C / 64 * 64 = 0x40) ∧
    (let old : List (Option Byte) := List.replicate 60 (some 0) ++ List.replicate 4 none
     wholeLine ((List.range 64).map fun i => if 60 ≤ i ∧ i < 64 then some (0 : Byte) else old.getD i none) = true) := by
  decide +kernel

/-- The host queue holds one word for the DRAM window while the line buffer waits for room in Q25. -/
def stuckHost (words : Nat) : State :=
  { x0 with host := { x0.host with jobs := List.replicate words (.write 0x800000 7) },
            mem := { x0.mem with lineBase := some 64, lineDue := true, queues := [(25, List.replicate 16 ⟨true, 0, [], 0⟩)] } }

theorem wit_HostPort_runs_and_windows :
    (∀ l ∈ [[R.PWR_TMR0, R.PWR_TMR0 + 4], [R.MEM_HOST_STAT]], ∀ a ∈ l, a % 4 = 0 ∧ a < 0x140000 ∧ activeAddr a = a ∧
      (regRow? a).isSome = true ∧ actsOnWrite a = false ∧
      a ∉ [R.SPN_TIME_LO, R.SPN_TIME_HI, R.LNK_CM_RSP, R.SPN_RA_RSP, R.SPN_FIN0, R.FLT_INJ, R.FLT_INJ_DATA, R.SYS_HOSTSTAT]) ∧
    countWords 1 = 2 ∧ countWords 0 = 1 ∧ (0x300000 ≤ 0x3FFFF8 ∧ 0x3FFFF8 + 4 * countWords 1 ≤ 0x400000) ∧
    (x0.flatTop ≤ windowFlat (x0.fld F.MEM_PAGE_PAGE) 0x800000) ∧
    (let s := x0.setFld F.MEM_STAT_INSVC 1
     s.live ∧ s.hostIdle ∧ s.hubRuns = true ∧ windowFlat (s.fld F.MEM_PAGE_PAGE) 0x800000 < s.flatTop ∧ s.queueRoom 25 = true) ∧
    (hubStopped.hostIdle ∧ hubStopped.spn.self = [] ∧ ∀ n, n < 8 → hubStopped.chkSnoops 14 n = false) ∧
    (x0.hostCan R.PWR_TMR0 = true ∧ (isleAddr R.PWR_TMR0 && x0.isleDark R.PWR_TMR0) = false ∧
      (x0.wordWrite R.PWR_TMR0 1).host.jobs = [] ∧ (x0.wordWrite R.PWR_TMR0 1).host.reading = none ∧
      ∀ n, n < 8 → (x0.wordWrite R.PWR_TMR0 1).chkSnoops 14 n = false) := by decide +kernel

theorem wit_HostPort_CommandsAnswered :
    (x0.live ∧ x0.hostIdle ∧ x0.spn.self = [] ∧ (∀ n, n < 8 → x0.chkSnoops 14 n = false)) ∧
    (R.SYS_ID % 4 = 0 ∧ R.SYS_ID < 0x140000 ∧ activeAddr R.SYS_ID = R.SYS_ID ∧ (regRow? R.SYS_ID).isSome = true) ∧
    (R.PWR_TMR0 % 4 = 0 ∧ R.PWR_TMR0 < 0x140000 ∧ activeAddr R.PWR_TMR0 = R.PWR_TMR0 ∧ (regRow? R.PWR_TMR0).isSome = true) ∧
    regRow? (activeAddr 0x13FFFC) = none ∧
    (∀ n ∈ [1, 16], (stuckHost n).live ∧ (stuckHost n).host.reading = none ∧
      (stuckHost n).host.jobs = .write 0x800000 7 :: List.replicate (n - 1) (.write 0x800000 7) ∧ (stuckHost n).hostCan 0x800000 = false ∧
      (∀ k, k < 8 → (stuckHost n).chkSnoops 14 k = false) ∧ (stuckHost n).hostFree < (15 : Byte).toNat % 16 + 1) ∧
    (let r : HostRead := ⟨[1], 0x800004, 1, false, true⟩
     let s : State := { x0.setFld F.MEM_STAT_INSVC 1 with host := { x0.host with reading := some r } }
     s.live ∧ s.host.reading = some r ∧ r.left = 1 ∧ r.asked = true ∧ 0x800000 ≤ r.addr ∧
     windowFlat (s.fld F.MEM_PAGE_PAGE) r.addr < s.flatTop) ∧
    (let s : State := { x0 with pwr := { x0.pwr with deep := true } }
     s.inReset = false ∧ s.pwr.deep = true) := by decide +kernel

/-- The flash master with PLL_HUB in use, the SFDP table read, and a job under way. -/
def flashing (job : Option FlashJob) : State :=
  { x0 with flash := { x0.flash with running := job, parsed := true }, clk := { x0.clk with want := [(1, 1)] } }

theorem wit_Flash_CommandsAndTransfers :
    (x0.live ∧ ∀ n, n < 8 → x0.chkSnoops 13 n = false) ∧
    (F.SYS_FLCMD_GO.of 0 = 0 ∧ F.SYS_FLCMD_GO.of 0xFFFFFFFF = 1 ∧ F.SYS_FLCMD_ALEN.of 0xFFFFFFFF = 3 ∧
      F.SYS_FLCMD_ALEN.of (BitVec.ofNat 32 (2 ^ F.SYS_FLCMD_GO.lsb)) ≠ 3 ∧ x0.on F.SYS_FLCMD_BUSY = false ∧
      (x0.setOn F.SYS_FLCMD_BUSY true).on F.SYS_FLCMD_BUSY = true) ∧
    (∀ j ∈ [none, some .host, some .poll, some .sfdp, some (.locket 15)], (flashing j).live ∧ (flashing j).flash.running = j ∧
      (flashing j).flash.waiting = [] ∧ (flashing j).flash.parsed = true ∧ (flashing j).stopping 2 = false ∧
      Tab.num (flashing j).clk.want 1 ≠ 0 ∧ (∀ n, n < 8 → (flashing j).chkSnoops 13 n = false)) ∧
    (let s := (flashing (some .host)).setFld F.SYS_FLCMD_LEN 256
     s.live ∧ s.flLen = 256 ∧ s.on F.SYS_FLCMD_DIR = false ∧ (s.setOn F.SYS_FLCMD_POLL true).on F.SYS_FLCMD_POLL = true ∧
     s.on F.SYS_FLCMD_POLL = false) ∧
    leAt [] 0 4 ≠ 0x50444653 ∧ (flashing (some (.locket 15))).lockShadow 15 + 65536 ≤ 0x1000000 := by decide +kernel

theorem wit_Step_TakesTheFrontCommand :
    ({ x0 with pending := [.commit, .abort] } : State).pending = .commit :: [.abort] ∧ x0.pending = [] ∧ x0.live ∧
    State.reset.inReset = true := by decide +kernel

theorem wit_Reset_HoldsReleasesAndRestores :
    (124 < 125 ∧ 125 ≤ 125) ∧ x0.inReset = false ∧ State.reset.inReset = true ∧
    (x0.setOn F.THM_STAT_SHUT true).on F.THM_STAT_SHUT = true ∧
    (({ x0 with pwr := { x0.pwr with deep := true } } : State).pwr.deep = true) := by decide +kernel

theorem wit_Steps_KeepTheInvariants :
    x0.regsCanonical ∧ x0.mem.wf ∧ x0.tablesCanonical ∧ x0.eventsBounded ∧ step x0 = .next (idleCycle x0) := by
  refine ⟨by unfold State.regsCanonical; decide +kernel, by decide +kernel, by unfold State.tablesCanonical; decide +kernel, ?_, rfl⟩
  intro i
  exact Nat.zero_le 15

/-! ## Ill-formed operands

Each check of `Instr.wellFormed` refuses an operand that the interface cannot bring. -/

/-- Twelve header bytes. -/
def hdr12 : List Byte := List.replicate 12 0
/-- Sixteen header bytes. -/
def hdr16 : List Byte := List.replicate 16 0
/-- A frame whose header lacks a byte. -/
def shortFrame : SpnFrame := ⟨List.replicate 15 0, [], 0⟩
/-- A frame with one word too many (R309). -/
def longFrame : SpnFrame := ⟨hdr16, List.replicate 65 0, 0⟩

/-- R298: twelve header bytes, at most sixteen words. -/
theorem test_wf_control_packets :
    ([Instr.lnkRd 0, .lnkWr 1, .lnkRdr 2, .lnkWrr 0].all fun f =>
      !(f ⟨0, List.replicate 11 0, [], 0, .good, 0⟩).wellFormed && !(f ⟨0, hdr12, List.replicate 17 0, 0, .good, 0⟩).wellFormed &&
      !(f ⟨4, hdr12, [], 0, .good, 0⟩).wellFormed && (f ⟨3, hdr12, List.replicate 16 0, 0, .good, 0⟩).wellFormed) = true := by decide

/-- R309: sixteen header bytes, at most sixty-four words. -/
theorem test_wf_general_frames :
    ([Instr.spnRd 0, .spnWr 1, .spnRdr 2, .spnWrr 3, .img 4, .imge 0, .imgr 1, .flt 2, .fsync 3, .time 4, .walk 0, .done 1].all
      fun f => !(f shortFrame).wellFormed && !(f longFrame).wellFormed && (f ⟨hdr16, List.replicate 64 0, 0⟩).wellFormed) = true := by
  decide

/-- R39: an image has at most 16,777,216 bytes. -/
theorem test_wf_image_length (l : List Byte) (h : l.length = 16777217) : (Instr.fetchDone (some l)).wellFormed = false := by
  simp [Instr.wellFormed, h]

/-- R253: a write carries bytes of one line, a read none; R249: a line has eight words. -/
theorem test_wf_memory :
    (Instr.memRequest 3 ⟨true, 0, []⟩).wellFormed = false ∧ (Instr.memRequest 3 ⟨true, 63, [1, 2]⟩).wellFormed = false ∧
    (Instr.memRequest 3 ⟨false, 0, [1]⟩).wellFormed = false ∧
    ([Instr.memReadComplete 0, .scrubStep, .migrationLineCopy, fun n => .memWriteComplete ⟨1, ⟨[], [], none⟩, n⟩,
      fun n => .memWriteComplete ⟨1, n, ⟨[], [], none⟩⟩].all fun f =>
      !(f ⟨List.replicate 9 0, [], none⟩).wellFormed && !(f ⟨[], List.replicate 9 0, none⟩).wellFormed) = true := by decide

/-- R279, R274: a training set has sixteen symbols, a block header eight; R276: the fill is a number of symbols held. -/
theorem test_wf_link :
    (Instr.ts1Receive 0 0 ⟨List.replicate 15 (false, 0), false, false⟩).wellFormed = false ∧
    (Instr.ts2Receive 0 0 ⟨List.replicate 17 (false, 0), false, false⟩).wellFormed = false ∧
    (Instr.blockHeaderReceive 0 0 ⟨List.replicate 7 (false, 0), false, true, 0⟩).wellFormed = false ∧
    (Instr.skpReceive 0 0 33).wellFormed = false := by decide

/-- The remaining ranges: start lanes, coefficient tables, records, captures, items, words of a host write, flash
bytes, fused diode words. -/
theorem test_wf_ranges :
    (Instr.videoPacketReceive 0 ⟨4, 0, 0, 0, 0, 0, 0, [], 0, .good, 0⟩).wellFormed = false ∧
    (Instr.coefRewrite 40).wellFormed = false ∧
    (Instr.readbackReceive 0 (List.replicate 33 0) 0 []).wellFormed = false ∧
    (Instr.readbackReceive 0 [] 0 (List.replicate 33 false)).wellFormed = false ∧
    (Instr.scalCaptureDone 1048321 0).wellFormed = false ∧ (Instr.scalCaptureDone 0 257).wellFormed = false ∧
    (Instr.adcConversionDone 5 0).wellFormed = false ∧
    (Instr.calRunDone 1 [.sdo 64 ⟨[], []⟩ ⟨[], []⟩]).wellFormed = false ∧
    (Instr.calRunDone 3 [.lane 17 ⟨[], [], []⟩ ⟨[], [], []⟩]).wellFormed = false ∧
    (Instr.calRunDone 0 [.byteLane 0 ⟨[1], [1, 2], []⟩ ⟨[1, 2], [1, 2], []⟩]).wellFormed = false ∧
    (Instr.hostWr 0 0 [1, 2] false).wellFormed = false ∧ (Instr.qwr 0 0x0F (List.replicate 17 0) false).wellFormed = false ∧
    (Instr.resetRelease ⟨false, 0, false, false, false, 0, [0, 0]⟩).wellFormed = false := by decide

/-- R447: a flash transfer brings at most 65,536 bytes. -/
theorem test_wf_flash (l : List Byte) (h : l.length = 65537) : (Instr.flashTransferDone l).wellFormed = false := by
  simp [Instr.wellFormed, h]

/-! ## Worked examples of the manual -/

/-- Registers with some fields set, from their reset values. -/
def fields (l : List (Fld × Nat)) : State := l.foldl (fun s x => s.setFld x.1 x.2) x0

/-- 03_layer_pipeline.md, one horizontally scaled pixel: STEP, INIT, position and phase. -/
theorem test_scale_position :
    let r := (fields [(F.LAY_x_SRCWH_SRC_W 1, 1280), (F.LAY_x_DSTWH_DST_W 1, 800), (F.LAY_x_CTRL_AUTOINIT 1, 1)]).regs
    hStep r 1 true = (1677722, 314573) ∧ position (hStep r 1 true) 500 = (800, 19) ∧ position (hStep r 1 true) 0 = (0, 19) := by
  decide +kernel

/-- The same example: the taps of phase 19 over 40,000 and 80,000, and the key weight between 64 and 0. -/
theorem test_scale_filter :
    let a : Px := ⟨40000, 0, 0, 64⟩
    let b : Px := ⟨80000, 0, 0, 0⟩
    filterPx [-8, 30, -96, 848, 312, -72, 16, -6] [a, a, a, a, b, b, b, b] a b 19 = ⟨49766, 0, 0, 45⟩ := by decide +kernel

/-- 03_layer_pipeline.md, a soft source key: weight 28 and the blend 46,450. -/
theorem test_soft_key :
    let r := (fields [(F.LAY_x_KEY0_MAX 4, 0xFF), (F.LAY_x_KEY1_MAX 4, 0xFF), (F.LAY_x_KEY2_MAX 4, 0xFF),
      (F.LAY_x_CTRL_SOFT 4, 32), (F.LAY_x_CTRL_KEYMODE 4, 1)]).regs
    (withKey r 4 ⟨273 * 64, 144 * 64, 257 * 64, 0⟩).w = 28 ∧
    (keyb r 4 ⟨4800, 0, 0, 28⟩ ⟨100000, 0, 0, 0⟩).c0 = 46450 := by decide +kernel

/-- 04_correction.md, limit settings: ATT_T. -/
theorem test_guard_target :
    (fields [(F.COR_Fk_GDY_DY 0, 0x8000), (F.COR_Fk_GRED_RED_MIN 0, 0x20000)]).attTarget 0 = 8191 := by decide +kernel

/-- 04_correction.md, derating the zone: the three thermal efficiencies at 866 with TREF 400. -/
theorem test_zone_efficiency :
    let s := ((fields [(F.COR_ZM_TREF_TREF, 400)]).setReg R.COR_ZM_KT0 (BitVec.ofNat 32 (52 * 65536 + 328))).setReg R.COR_ZM_KT1 31
    s.thermEff 0 866 = 27992 ∧ s.thermEff 1 866 = 32011 ∧ s.thermEff 2 866 = 32317 := by decide +kernel

/-- The same example: the age efficiency of red and the three gains. -/
theorem test_zone_gain :
    let s0 := ((((fields [(F.COR_ZM_TREF_TREF, 400), (F.COR_ZM_AGE_SHIFT_R, 44), (F.COR_ZM_LIM_GMAX, 0xFFFF)]).setReg
      R.COR_ZM_KT0 (BitVec.ofNat 32 (52 * 65536 + 328))).setReg R.COR_ZM_KT1 31).setReg
      R.COR_ZM_TGT0 (BitVec.ofNat 32 (31000 * 65536 + 26000))).setReg R.COR_ZM_TGT1 31000
    let s := { s0 with
      tabs := { s0.tabs with front := [(0x281508, 31900), (0x28150C, 31500)] }
      cor := { s0.cor with tz := [(0, some 866)], eff := [(0, 31589), (1, 32441), (2, 32101)] } }
    s.ageEff 0 0x00002C8000000000 = 31588 ∧
    s.gainTarget 0 = (31573, false) ∧ s.gainTarget 1 = (32053, false) ∧ s.gainTarget 2 = (32086, false) := by decide +kernel

/-- The same example, the pixel: FACET, ZGAIN and DITH. -/
theorem test_correction_pixel :
    let t : Tab Word := [(0x281020, BitVec.ofInt 32 (-200)), (0x281024, 0), (0x281028, 150)]
    let f : Facet := ⟨[952, 51, 4086, 20, 993, 10, 0, 4065, 1065], 2⟩
    let g : Tab Nat := [(3 * (64 * 19 + 43), 31573), (3 * (64 * 19 + 43) + 1, 32053), (3 * (64 * 19 + 43) + 2, 32086)]
    let v (c p : Nat) : Nat := clampPx ((p * gainAt g 19 43 c + 16384 : Nat) / 32768)
    facetPx [] t 0 f ⟨120000, 90000, 30000, 0⟩ none none = ⟨115552, 89912, 28627, 0⟩ ∧
    v 0 115552 = 111338 ∧ v 1 89912 = 87950 ∧ v 2 28627 = 28031 ∧
    dither 0 3 700 305 111338 = 27835 ∧ dither 0 3 700 305 87950 = 21988 ∧ dither 0 3 700 305 28031 = 7008 := by decide +kernel

/-- Timing set T0 of 05_timing_scanout.md's worked example. -/
def camera : TimSet :=
  timSet (fields [(F.TIM_Tn_RATE_FR_NUM 0, 120), (F.TIM_Tn_RATE_FR_DEN 0, 1), (F.TIM_Tn_SCAN_CYC 0, 64), (F.TIM_Tn_SCAN_DB 0, 24),
    (F.TIM_Tn_SCAN_GMUL 0, 2), (F.TIM_Tn_SCAN_SEG 0, 0), (F.TIM_Tn_SCAN_FEEDEN 0, 3),
    (⟨R.TIM_Tn_OFSk 0 1, 16, 0⟩, 1280), (⟨R.TIM_Tn_OFSk 0 0, 16, 0⟩, 0), (⟨R.TIM_Tn_LENk 0 0, 16, 0⟩, 1152),
    (⟨R.TIM_Tn_LENk 0 1, 16, 0⟩, 640)]).regs 0

/-- That example: ROWCLK, M, the pulses of an on-window, S; the slots of rows 44, 1,200 and 1,300. -/
theorem test_timing_set :
    camera.rowclk 32 = 498 ∧ camera.ratio 32 = 1019904 ∧ camera.onClk 32 = 474 ∧ camera.segments 32 = 35 ∧
    camera.slotAt 44 = some 0 ∧ camera.slotAt 1200 = none ∧ camera.slotAt 1300 = some 1 := by decide +kernel

/-- 06_umlis_chain.md: channel 28 of driver 11 of 32 travels on SD1 in value slot 499. -/
theorem test_value_slot :
    (portSlots 32 [(64 * 11 + 28, 0)] [21988]).getD 499 (0, 0) = (0, 21988) ∧
    (portSlots 32 [(64 * 11 + 28, 0)] [21988]).length = 768 := by decide +kernel

/-- 07_led_diagnostics.md, an open lamp: the entry after a good result, after 64 results 0, after the two glints. -/
theorem test_age_entry :
    ageStep 0 0 5 1 false = (1, 0, 0) ∧ ageStep 1 0 63 0 false = (1, 0, 64) ∧ ageStep 1 0 64 2 false = (2, 1, 0) ∧
    ageStep 2 1 8 2 false = (2, 2, 0) := by decide +kernel

/-- 08_frame_memory.md, decoding one flat address: position 1, data line 9,730,109, bank 7, row 21,718, line 53. -/
theorem test_flat_address :
    let s := fields [(F.MEM_STAT_INSVC, 0xF), (F.MEM_CFG_DENS, 2), (F.MEM_CFG_POS, 0x3120), (F.MEM_CFG_ORDER, 1)]
    s.rankCap = 1879048192 ∧ s.flatPos 0x4A3C1F40 = (1, 622726976) ∧ lineDecode 1 9730109 = (7, 21718, 53) ∧
    lineEncode 1 7 21718 53 = 9730109 := by decide +kernel

/-- R249's example: the fold bytes of line address 0x1D5_35B5, and of row 21,719 in place of 21,718. -/
theorem test_fold_bytes :
    (List.range 8).map (foldByte 0x1D535B5) = [0x35, 0xEB, 0xD4, 0x8E, 0, 0, 0, 0] ∧
    7 * 2 ^ 22 + 21718 * 2 ^ 6 + 53 = 0x1D535B5 ∧ foldByte (7 * 2 ^ 22 + 21719 * 2 ^ 6 + 53) 0 = 0xF5 ∧
    wordClass 0 0 (Nat.xor 0x35 0xF5) false = .bad := by decide +kernel

/-- 15_management_registers.md, reading one DRAM line: page 0x094, window address 0xBC_1F40. -/
theorem test_host_window : windowFlat 0x094 0xBC1F40 = 0x4A3C1F40 := by decide

/-- 13_measurement_calibration.md, calibrating a thermistor channel: GAIN, OFS and the corrected code of 2,000. -/
theorem test_adc_scale :
    scalSolve 2724 62424 164 3932 = some (16545, 126) ∧ corrected 16545 126 2000 = 2012 := by decide +kernel

/-- 13_measurement_calibration.md, an in-service SDO rerun: taps 9 to 22 and 10 to 22. -/
theorem test_sdo_centres :
    let taps (a : Nat) : List Bool := (List.range 32).map fun i => decide (a ≤ i ∧ i ≤ 22)
    longestRun (taps 9) = (9, 14) ∧ runCentre (taps 9) = 15 ∧ runCentre (taps 10) = 16 := by decide +kernel

/-- 12_clocks_power_thermal.md, throttling: OCC 595 in the three modes gives m_t 1, 2 and 4. -/
theorem test_throttle_modes :
    ([2, 0, 1].map fun m => (fields [(F.CFG_OCC_MAX_OCC, 595), (F.THM_STAT_THR_E0, 1), (F.THM_CTRL_MODE, m)]).throttleDiv) =
      [1, 2, 4] := by decide +kernel

/-- R272, IEEE 802.3: K28.5 is 001111 1010 and 110000 0101, D21.5 is 101010 1010 at either disparity; K28.4 is no symbol
of a port. -/
theorem test_code_groups :
    symGroup false symCom = 0b0011111010 ∧ symGroup true symCom = 0b1100000101 ∧ dataGroup false 0xB5 = 0b1010101010 ∧
    dataGroup true 0xB5 = 0b1010101010 ∧ isCodeError false false 0b0011110010 = true := by decide +kernel

/-- R388: code 2,048 is half of VREF; the limits are 0 and 0xFFF. -/
theorem test_raw_code :
    rawCode 1250000 2500000 = 2048 ∧ rawCode 2500000 2500000 = 4095 ∧ rawCode (-1) 2500000 = 0 := by decide

/-- 14_checks_faults_log.md, a flapping downstream link: source 27, CLASS 1, N = 3, one occurrence taken per command. -/
def flapping : State :=
  let s := fields [(F.FLT_SRCi_CLASS 27, 1), (F.FLT_SRCi_N 27, 3), (F.FLT_SRCi_W 27, 2000), (F.FLT_SRCi_EN 27, 1)]
  (s.raise 27 1).eventTake

/-- The first two occurrences are MINOR, the third promotes the source and is SEVERE. -/
theorem test_promotion :
    flapping.promoted 27 = false ∧ Tab.num flapping.flt.count 27 = 1 ∧
    ((flapping.raise 27 1).eventTake).promoted 27 = false ∧
    ((((flapping.raise 27 1).eventTake).raise 27 1).eventTake).promoted 27 = true := by decide +kernel

/-! ## One step each -/

/-- R463, R464: with RESET_N held only its release acts; a command of another kind changes nothing. -/
theorem test_held_in_reset :
    exec .frameStart State.reset = .next State.reset := rfl

/-- FIPS 180-4's example "abc": the hash that R49's signature check uses. -/
theorem test_sha256 :
    sha256 [0x61, 0x62, 0x63] = 0xba7816bf8f01cfea414140de5dae2223b00361a396177a9cb410ff61f20015ad := by decide +kernel

/-- The state after a command; a command that would stop leaves none. -/
def after (c : Instr) (s : State) : Option State :=
  match step { s with pending := [c] } with
  | .next t => some t
  | _ => none

/-- R442: a register write reaches MEM_PAGE, and only its ten PAGE bits are kept. -/
theorem test_register_write :
    (after (.registerWrite 0x070008 0xFFFFFC94) x0).map (·.reg R.MEM_PAGE) = some 0x94 := by decide +kernel

/-- R199: FORCE_BLANK is a blank request of every port. -/
theorem test_force_blank :
    (after (.forceBlank true) x0).map (·.on F.CHN_CTRL_FORCE_BLANK) = some true := by decide +kernel

/-- R28: a flit with a wrong CRC-16 counts a replay, one with the right CRC does not. -/
theorem test_flit_replay :
    let s := x0.setFld (straitState 0) 2
    let crc := BitVec.ofNat 16 (crc16 (flitBytes 0))
    (after (.straitFlitReceive 0 true 0 (crc ^^^ 1)) s).map (·.fld (straitReplay 0)) = some 1 ∧
    (after (.straitFlitReceive 0 true 0 crc) s).map (·.fld (straitReplay 0)) = some 0 := by decide +kernel

/-- A step takes the command at the front of the queue and leaves the rest (log entry 1). -/
theorem test_queue_moves :
    (match step { x0 with pending := [.rdsr, .abort] } with
      | .next t => decide (t.pending = [.abort])
      | _ => false) = true := by decide +kernel

end Sys2Proof.Tests
end

section

/-!
# Counters, and the state after reset

O44 and O59.
-/

namespace Sys2Proof.Machine

/-- Settles O44: the sum is cut at the field's largest value before it is stored. -/
theorem counters_SaturateAtTheirMaximum : Obligations.Counters_SaturateAtTheirMaximum := by
  intro s f d hf
  have fld_addSat (d : Nat) : (s.addSat f d).fld f = min f.max (s.fld f + d) := by
    rw [State.addSat, satAdd_eq]
    exact State.fld_setFld_fits hf (min_le_left _ _)
  refine ⟨fld_addSat d, ?_, fld_addSat 1, onlyFields_addSat hf, rfl⟩
  rw [fld_addSat]
  exact le_min State.fld_le_max (Nat.le_add_right _ _)

/-- Settles O59: nothing is listed and nothing pends after a reset. -/
theorem invariants_HoldAfterReset : Obligations.Invariants_HoldAfterReset :=
  ⟨⟨rfl, rfl⟩, rfl, ⟨rfl, rfl, rfl⟩, fun _ => Nat.zero_le _, rfl⟩
end Sys2Proof.Machine

end

section

/-!
# Reset and start-up

What a reset leaves, what a release does, and which commands act in between (O58).
-/

namespace Sys2Proof.Machine

variable {s t u : State}

/-! ## What a command does where the device does not act -/

theorem effect_idle {f : State → State} (h : (s.inReset || s.pwr.deep) = true) : effect f s = .next s := if_pos h

theorem hostCommand_inReset {f : State → State} (h : s.inReset = true) : hostCommand f s = .next s := if_pos h

/-- While RESET_N is held only a reset, its release and a power-on reset act. -/
theorem exec_inReset (c : Instr) (h : s.inReset = true) (hrelease : ∀ x, c ≠ .resetRelease x)
    (hassert : ∀ n, c ≠ .resetAssert n) (hpor : c ≠ .internalPor) : exec c s = .next s := by
  have idle : (s.inReset || s.pwr.deep) = true := by rw [h, Bool.true_or]
  cases c with
  | resetRelease x => exact absurd rfl (hrelease x)
  | resetAssert n => exact absurd rfl (hassert n)
  | internalPor => exact absurd rfl hpor
  | wakeSource k l => exact if_pos h
  | hostRd | hostWr | qrd | qwr | rdsr | hostUnknownOpcode =>
    dsimp only [exec]
    exact hostCommand_inReset h
  | _ =>
    dsimp only [exec]
    exact effect_idle idle

theorem State.resetRelease_live {x : Straps} (h : s.inReset = false) : s.resetRelease x = s := by
  rw [State.resetRelease, h]
  rfl

/-- In DEEP only a reset, a power-on reset, the wake sources and the commands of the host act. -/
theorem exec_deep (c : Instr) (hr : s.inReset = false) (h : s.pwr.deep = true) (hassert : ∀ n, c ≠ .resetAssert n)
    (hpor : c ≠ .internalPor) (hwake : ∀ k l, c ≠ .wakeSource k l)
    (hread : ∀ a n cut, c ≠ .hostRd a n cut ∧ c ≠ .qrd a n cut)
    (hwrite : ∀ a n ws cut, c ≠ .hostWr a n ws cut ∧ c ≠ .qwr a n ws cut) (hstatus : c ≠ .rdsr)
    (hopcode : ∀ op, c ≠ .hostUnknownOpcode op) : exec c s = .next s := by
  have idle : (s.inReset || s.pwr.deep) = true := by rw [h, Bool.or_true]
  cases c with
  | resetRelease x => exact congrArg Host.Outcome.next (State.resetRelease_live hr)
  | resetAssert n => exact absurd rfl (hassert n)
  | internalPor => exact absurd rfl hpor
  | wakeSource k l => exact absurd rfl (hwake k l)
  | hostRd a n cut => exact absurd rfl (hread a n cut).1
  | qrd a n cut => exact absurd rfl (hread a n cut).2
  | hostWr a n ws cut => exact absurd rfl (hwrite a n ws cut).1
  | qwr a n ws cut => exact absurd rfl (hwrite a n ws cut).2
  | rdsr => exact absurd rfl hstatus
  | hostUnknownOpcode op => exact absurd rfl (hopcode op)
  | _ =>
    dsimp only [exec]
    exact effect_idle idle

/-! ## Changes of the active registers alone -/

/-- Nothing outside the active registers differs. -/
def RegsOnly (s t : State) : Prop := ∃ r, t = { s with regs := r }

theorem RegsOnly.refl (s : State) : RegsOnly s s := ⟨s.regs, rfl⟩

theorem RegsOnly.setFld {f : Fld} {v : Nat} (h : RegsOnly s t) : RegsOnly s (t.setFld f v) := by
  obtain ⟨r, rfl⟩ := h
  exact ⟨_, rfl⟩

theorem RegsOnly.setOn {f : Fld} {b : Bool} (h : RegsOnly s t) : RegsOnly s (t.setOn f b) := h.setFld

theorem RegsOnly.each {α : Type} {l : List α} {f : State → α → State} (h : RegsOnly s t)
    (hf : ∀ {u a}, RegsOnly s u → RegsOnly s (f u a)) : RegsOnly s (t.each l f) :=
  State.each_keeps h fun _ _ _ => hf

/-! ## A power-on reset -/

/-- The state after a power-on reset, whatever becomes of the free values and the locket banks. -/
def State.fresh (s : State) (n : Nat) (l : LocketState) : State :=
  { State.reset with
    pending := s.pending, freeCtr := n, locket := l, mem := { State.reset.mem with epoch := s.mem.epoch + 1 } }

theorem State.powerOn_fresh (s : State) : ∃ n l, s.powerOn = s.fresh n l :=
  State.each_keeps (P := fun t => ∃ n l, t = s.fresh n l) ⟨_, _, rfl⟩ fun _ _ _ => by
    rintro ⟨n, l, rfl⟩
    exact ⟨_, _, rfl⟩

variable {n : Nat} {l : LocketState}

theorem State.reg_fresh (a : Nat) : (s.fresh n l).reg a = resetWord a := rfl

theorem State.fld_fresh (f : Fld) : (s.fresh n l).fld f = State.reset.fld f := rfl

/-! ## The thermal shutdown stays -/

theorem State.staysShut_regsOnly : RegsOnly s s.staysShut := ((RegsOnly.refl s).setOn).each (·.setFld)

theorem State.staysShut_onlyFields : OnlyFields [F.THM_STAT_SHUT, F.CLK_GSTAT_GATED] s s.staysShut := by
  refine State.each_keeps (P := OnlyFields _ s) ?_ fun t b _ h => ?_
  · exact onlyFields_mono (by simp) (onlyFields_setOn (by decide) true)
  · exact onlyFields_trans h (onlyFields_mono (by simp) (onlyFields_setFld (by decide)))

theorem State.staysShut_shut : s.staysShut.on F.THM_STAT_SHUT = true := by
  refine State.each_keeps (P := fun t => t.on F.THM_STAT_SHUT = true) (State.on_setOn_same (by decide) true) ?_
  intro t b _ h
  rw [State.on, State.gated, State.setBit, State.fld_setFld_apart (by decide) (by decide)]
  exact h

theorem State.isGated_congr {b : Nat} (h : t.fld F.CLK_GSTAT_GATED = s.fld F.CLK_GSTAT_GATED) :
    t.isGated b = s.isGated b := by
  rw [State.isGated, h, State.isGated]

/-- The shutdown stops the chains, the pixel path and its straits; what it stops depends on the registers alone. -/
theorem State.regs_staysShut (h : t.regs = s.regs) : t.staysShut.regs = s.staysShut.regs := by
  have each (l : List Nat) {s t : State} (h : t.regs = s.regs) :
      (t.each l fun s b => s.gated b true).regs = (s.each l fun s b => s.gated b true).regs := by
    induction l generalizing s t with
    | nil => exact h
    | cons b l ih =>
      refine ih ?_
      show Tab.put resetWord t.regs _ _ = Tab.put resetWord s.regs _ _
      rw [State.fld_congr h, State.reg, State.reg, h]
  refine each _ ?_
  show Tab.put resetWord t.regs _ _ = Tab.put resetWord s.regs _ _
  rw [State.reg, State.reg, h]

theorem State.isGated_staysShut (h : s.regs = []) :
    ∀ b ∈ [4, 5, 6, 11, 13, 14, 15, 16], s.staysShut.isGated b = true := by
  have regs : s.staysShut.regs = State.reset.staysShut.regs := State.regs_staysShut h
  intro b hb
  rw [State.isGated_congr (State.fld_congr regs)]
  revert b
  decide +kernel

/-! ## RESET_ASSERT and INTERNAL_POR -/

/-- The state after an accepted reset: that of a power-on reset, or with the shutdown kept. -/
theorem State.resetAssert_cases {cycles : Nat} (h : 125 ≤ cycles) : ∃ n l,
    (s.on F.THM_STAT_SHUT = true ∧ s.resetAssert cycles = (s.fresh n l).staysShut) ∨
    (s.on F.THM_STAT_SHUT = false ∧ s.resetAssert cycles = s.fresh n l) := by
  obtain ⟨n, l, e⟩ := s.powerOn_fresh
  refine ⟨n, l, ?_⟩
  rw [State.resetAssert, if_neg (Nat.not_lt.2 h), e]
  cases hs : s.on F.THM_STAT_SHUT
  · exact .inr ⟨rfl, rfl⟩
  · exact .inl ⟨rfl, rfl⟩

/-- A state in reset: that of a power-on reset but for the shutdown and the blocks that it gates. -/
structure InReset (s t : State) : Prop where
  same : ∃ n l, RegsOnly (s.fresh n l) t
  fields : OnlyFields [F.THM_STAT_SHUT, F.CLK_GSTAT_GATED] State.reset t

theorem inReset_fresh (s : State) (n : Nat) (l : LocketState) : InReset s (s.fresh n l) :=
  ⟨⟨n, l, RegsOnly.refl _⟩, onlyFields_of_regs _ rfl⟩

theorem inReset_staysShut (s : State) (n : Nat) (l : LocketState) : InReset s (s.fresh n l).staysShut :=
  ⟨⟨n, l, State.staysShut_regsOnly⟩, onlyFields_trans (onlyFields_of_regs _ rfl) State.staysShut_onlyFields⟩

theorem inReset_resetAssert {cycles : Nat} (h : 125 ≤ cycles) : InReset s (s.resetAssert cycles) := by
  obtain ⟨n, l, ⟨_, e⟩ | ⟨_, e⟩⟩ := State.resetAssert_cases (s := s) h
  · rw [e]
    exact inReset_staysShut s n l
  · rw [e]
    exact inReset_fresh s n l

theorem inReset_powerOn : InReset s s.powerOn := by
  obtain ⟨n, l, e⟩ := s.powerOn_fresh
  rw [e]
  exact inReset_fresh s n l

namespace InReset

/-- What lies outside the active registers has its reset value. -/
theorem state (h : InReset s t) : t.inReset = true ∧ t.pending = s.pending ∧ (∀ a, t.shadReg a = resetWord a) ∧
    t.mem.cells = [] ∧ t.conf.secs = [] ∧ (∀ i, t.events i = []) ∧ t.tabs = State.reset.tabs := by
  obtain ⟨⟨n, l, r, rfl⟩, _⟩ := h
  exact ⟨rfl, rfl, fun _ => rfl, rfl, rfl, fun _ => rfl, rfl⟩

theorem fld (h : InReset s t) {f : Fld} (hf : f.ok) (ha : ∀ g ∈ [F.THM_STAT_SHUT, F.CLK_GSTAT_GATED], g.apart f) :
    t.fld f = State.reset.fld f := h.fields f hf ha

theorem on (h : InReset s t) {f : Fld} (hf : f.ok) (ha : ∀ g ∈ [F.THM_STAT_SHUT, F.CLK_GSTAT_GATED], g.apart f) :
    t.on f = State.reset.on f := by
  rw [State.on, h.fld hf ha, State.on]

/-- The output pins as R453 lists them. -/
theorem pins (h : InReset s t) : t.pin .faultN = .released ∧ t.pin .hostIrqN = .released ∧ t.pin .safeOutA = .low ∧
    t.pin .safeOutB = .high ∧ t.pin .hostIo = .released ∧ t.pin .flashCs = .high ∧ t.pin .flashSck = .low ∧
    t.pin .flashIo = .released ∧
    (∀ b, t.pin (.pmbus b) = .released ∧ t.pin (.dramReset b) = .low ∧ t.pin (.dramCke b) = .low) ∧
    (∀ p, t.pin (.chain p) = .low) ∧ ∀ p, t.pin (.linkTx p) = .released := by
  have fault : t.pin .faultN = .released := by
    rw [State.pin, h.on (by decide) (by decide)]
    decide +kernel
  have irq : t.pin .hostIrqN = .released := by
    have none : ∀ j ∈ List.range 6, ¬ t.on (F.FLT_PENDj_VAL j) = true := by
      intro j hj
      rw [h.on (by decide +revert) (by decide +revert)]
      revert j
      decide +kernel
    rw [State.pin, State.hostIrq, List.any_eq_false.2 none, Bool.and_false]
    rfl
  have link (p) : t.pin (.linkTx p) = .released := by
    have state : t.txState p.val = State.reset.txState p.val := by
      unfold State.txState State.linkState
      split
      · exact h.fld (by decide +revert) (by decide +revert)
      · exact h.fld (by decide +revert) (by decide +revert)
    rw [State.pin, state]
    clear state
    revert p
    decide +kernel
  obtain ⟨⟨n, l, r, rfl⟩, _⟩ := h
  exact ⟨fault, irq, rfl, rfl, rfl, rfl, rfl, rfl, fun _ => ⟨rfl, rfl, rfl⟩, fun _ => rfl, link⟩

end InReset

/-! ## RESET_RELEASE -/

/-- The compensation of a diode from its fuses. -/
def State.loadDiode (s : State) (d : Nat × Word) : State :=
  (s.setFld (F.ADC_DIODEd_D0 d.1) ((F.ADC_DIODEd_D0 d.1).of d.2)).setFld (F.ADC_DIODEd_DS d.1)
    ((F.ADC_DIODEd_DS d.1).of d.2)

theorem State.reg_loadDiode_same (d : Nat) (w : Word) : (s.loadDiode (d, w)).reg (R.ADC_DIODEd d) = w := by
  have low : (s.setFld (F.ADC_DIODEd_D0 d) ((F.ADC_DIODEd_D0 d).of w)).reg (R.ADC_DIODEd d) =
      (F.ADC_DIODEd_D0 d).put (s.reg (R.ADC_DIODEd d)) ((F.ADC_DIODEd_D0 d).of w) := State.reg_setReg_same
  have both : (s.loadDiode (d, w)).reg (R.ADC_DIODEd d) = (F.ADC_DIODEd_DS d).put
      ((F.ADC_DIODEd_D0 d).put (s.reg (R.ADC_DIODEd d)) ((F.ADC_DIODEd_D0 d).of w)) ((F.ADC_DIODEd_DS d).of w) := by
    rw [← low]
    exact State.reg_setReg_same
  rw [both]
  refine BitVec.eq_of_toNat_eq ?_
  have hw := w.isLt
  simp only [Fld.put, Fld.of, bits, BitVec.toNat_ofNat]
  omega

theorem State.reg_loadDiode_other {d a : Nat} {w : Word} (h : a ≠ R.ADC_DIODEd d) :
    (s.loadDiode (d, w)).reg a = s.reg a :=
  (State.reg_setReg_other h).trans (State.reg_setReg_other h)

/-- Each diode listed has its word, when none is listed twice. -/
theorem State.reg_each_loadDiode {ds : List (Nat × Word)} {d : Nat} {w : Word} (hn : (ds.map Prod.fst).Nodup)
    (hm : (d, w) ∈ ds) : (s.each ds State.loadDiode).reg (R.ADC_DIODEd d) = w := by
  induction ds generalizing s with
  | nil => cases hm
  | cons x ds ih =>
    rw [List.map_cons, List.nodup_cons] at hn
    obtain ⟨hx, hn⟩ := hn
    show ((s.loadDiode x).each ds State.loadDiode).reg _ = w
    rcases List.mem_cons.1 hm with rfl | hm
    · refine State.each_keeps (P := fun t => t.reg (R.ADC_DIODEd d) = w) (State.reg_loadDiode_same d w) ?_
      intro t y hy ht
      have ne : y.1 ≠ d := by
        rintro rfl
        have hy' : y.1 ∈ ds.map Prod.fst := List.mem_map_of_mem hy
        exact hx hy'
      exact (State.reg_loadDiode_other (by unfold R.ADC_DIODEd; omega)).trans ht
    · exact ih hn hm

/-- The fields of the diodes' registers. -/
abbrev diodeFields : List Fld := [F.ADC_DIODEd_D0 0, F.ADC_DIODEd_DS 0, F.ADC_DIODEd_D0 1, F.ADC_DIODEd_DS 1,
  F.ADC_DIODEd_D0 2, F.ADC_DIODEd_DS 2]

theorem State.onlyFields_loadDiode {d : Nat} {w : Word} (hd : d < 3) :
    OnlyFields diodeFields s (s.loadDiode (d, w)) := by
  have facts : (F.ADC_DIODEd_D0 d ∈ diodeFields ∧ (F.ADC_DIODEd_D0 d).ok) ∧
      F.ADC_DIODEd_DS d ∈ diodeFields ∧ (F.ADC_DIODEd_DS d).ok := by
    interval_cases d <;> decide
  obtain ⟨⟨low, lowOk⟩, high, highOk⟩ := facts
  exact onlyFields_trans (onlyFields_mono (List.forall_mem_singleton.2 low) (onlyFields_setFld lowOk))
    (onlyFields_mono (List.forall_mem_singleton.2 high) (onlyFields_setFld highOk))

section
variable {x : Straps}

/-- What the fuses and straps hold of a device at its release. -/
def State.strapped (s : State) (x : Straps) : State :=
  { s with
    inReset := false,
    ldr := { s.ldr with
      mgr := x.mgr, bootSrc := x.bootsrc.toNat, sec := x.sec, keyHash := x.keyHash,
      test := x.testmode && x.testUnlock } }

/-- The role that a device takes at its release: a worker has no address and starts in HOLD. -/
def State.takeRole (s : State) (mgr : Bool) : State :=
  let t := (s.setOn F.SPN_STAT_MGR mgr).setOn F.SPN_STAT_ADDR_VALID mgr
  if mgr then t else (t.setFld F.SPN_STAT_ADDR 0xFFF).setFld F.SPN_TSTAT_STATE 3

theorem State.resetRelease_eq (h : s.inReset = true) :
    s.resetRelease x = ((s.strapped x).takeRole x.mgr).each (List.zip (List.range 3) x.diodes) State.loadDiode := by
  rw [State.resetRelease, h]
  rfl
end

theorem State.takeRole_regsOnly {mgr : Bool} : RegsOnly s (s.takeRole mgr) := by
  have h := (RegsOnly.refl s).setOn (f := F.SPN_STAT_MGR) (b := mgr) |>.setOn (f := F.SPN_STAT_ADDR_VALID) (b := mgr)
  cases mgr
  · exact h.setFld.setFld
  · exact h

/-- The fields that tell the role of a device. -/
abbrev roleFields : List Fld := [F.SPN_STAT_MGR, F.SPN_STAT_ADDR_VALID, F.SPN_STAT_ADDR, F.SPN_TSTAT_STATE]

theorem State.takeRole_onlyFields {mgr : Bool} : OnlyFields roleFields s (s.takeRole mgr) := by
  have field {f : Fld} {v : Nat} {t : State} (hf : f.ok) (hm : f ∈ roleFields) :
      OnlyFields roleFields t (t.setFld f v) :=
    onlyFields_mono (List.forall_mem_singleton.2 hm) (onlyFields_setFld hf)
  have h : OnlyFields roleFields s ((s.setOn F.SPN_STAT_MGR mgr).setOn F.SPN_STAT_ADDR_VALID mgr) :=
    onlyFields_trans (field (by decide) (by decide)) (field (by decide) (by decide))
  cases mgr
  · exact onlyFields_trans h (onlyFields_trans (field (by decide) (by decide)) (field (by decide) (by decide)))
  · exact h

theorem State.takeRole_mgr {mgr : Bool} :
    (s.takeRole mgr).on F.SPN_STAT_MGR = mgr ∧ (s.takeRole mgr).on F.SPN_STAT_ADDR_VALID = mgr := by
  have h : ((s.setOn F.SPN_STAT_MGR mgr).setOn F.SPN_STAT_ADDR_VALID mgr).on F.SPN_STAT_MGR = mgr := by
    rw [State.on_setOn_apart (by decide) (by decide), State.on_setOn_same (by decide)]
  have h' : ((s.setOn F.SPN_STAT_MGR mgr).setOn F.SPN_STAT_ADDR_VALID mgr).on F.SPN_STAT_ADDR_VALID = mgr :=
    State.on_setOn_same (by decide) _
  have other {f g : Fld} {v : Nat} {t : State} (hf : f.ok) (hg : f.apart g) : (t.setFld f v).on g = t.on g := by
    rw [State.on, State.fld_setFld_apart hf hg, State.on]
  cases mgr
  · constructor
    · exact ((other (by decide) (by decide)).trans (other (by decide) (by decide))).trans h
    · exact ((other (by decide) (by decide)).trans (other (by decide) (by decide))).trans h'
  · exact ⟨h, h'⟩

theorem State.takeRole_worker :
    (s.takeRole false).fld F.SPN_STAT_ADDR = 0xFFF ∧ (s.takeRole false).fld F.SPN_TSTAT_STATE = 3 :=
  ⟨(State.fld_setFld_apart (by decide) (by decide)).trans (State.fld_setFld_fits (by decide) (by decide)),
    State.fld_setFld_fits (by decide) (by decide)⟩

theorem State.takeRole_manager : (s.takeRole true).fld F.SPN_STAT_ADDR = s.fld F.SPN_STAT_ADDR ∧
    (s.takeRole true).fld F.SPN_TSTAT_STATE = s.fld F.SPN_TSTAT_STATE :=
  ⟨(State.fld_setFld_apart (by decide) (by decide)).trans (State.fld_setFld_apart (by decide) (by decide)),
    (State.fld_setFld_apart (by decide) (by decide)).trans (State.fld_setFld_apart (by decide) (by decide))⟩

/-- What the fuses of the diodes leave of a state. -/
theorem State.each_loadDiode {ds : List Word} : RegsOnly s (s.each (List.zip (List.range 3) ds) State.loadDiode) ∧
    OnlyFields diodeFields s (s.each (List.zip (List.range 3) ds) State.loadDiode) := by
  constructor
  · exact (RegsOnly.refl s).each fun h => h.setFld.setFld
  · refine State.each_keeps (P := OnlyFields diodeFields s) (onlyFields_refl _ s) fun t d hd h => ?_
    exact onlyFields_trans h (State.onlyFields_loadDiode (List.mem_range.1 (List.of_mem_zip hd).1))

theorem State.reg_resetRelease_diode {ds : List Word} {d : Nat} {w : Word} (hd : d < 3) (hw : ds[d]? = some w) :
    (s.each (List.zip (List.range 3) ds) State.loadDiode).reg (R.ADC_DIODEd d) = w := by
  refine State.reg_each_loadDiode ?_ ?_
  · rw [List.zip_eq_zip_take_min, List.map_fst_zip (by simp)]
    exact (List.take_sublist _ _).nodup List.nodup_range
  · refine List.mem_of_getElem? (i := d) ?_
    rw [List.getElem?_zip_eq_some]
    exact ⟨by simp [hd], hw⟩

/-- What a release in reset leaves outside the registers, and which fields it changes. -/
theorem State.resetRelease_frame {x : Straps} (h : s.inReset = true) : RegsOnly (s.strapped x) (s.resetRelease x) ∧
    OnlyFields (roleFields ++ diodeFields) s (s.resetRelease x) := by
  rw [State.resetRelease_eq h]
  constructor
  · exact State.takeRole_regsOnly.each fun h => h.setFld.setFld
  · have role : OnlyFields roleFields s ((s.strapped x).takeRole x.mgr) :=
      onlyFields_trans (onlyFields_of_regs _ rfl) State.takeRole_onlyFields
    exact onlyFields_trans (onlyFields_mono (fun _ => List.mem_append_left _) role)
      (onlyFields_mono (fun _ => List.mem_append_right _) State.each_loadDiode.2)

theorem State.fld_resetRelease {x : Straps} {f : Fld} (h : s.inReset = true) (hf : f.ok)
    (ha : ∀ g ∈ diodeFields, g.apart f) : (s.resetRelease x).fld f = ((s.strapped x).takeRole x.mgr).fld f := by
  rw [State.resetRelease_eq h]
  exact State.each_loadDiode.2 f hf ha

/-- The role of a device after its release. -/
theorem State.resetRelease_role {x : Straps} (h : s.inReset = true) :
    let t := s.resetRelease x
    t.on F.SPN_STAT_MGR = x.mgr ∧ t.on F.SPN_STAT_ADDR_VALID = x.mgr ∧
    (x.mgr = false → t.fld F.SPN_STAT_ADDR = 0xFFF ∧ t.fld F.SPN_TSTAT_STATE = 3) ∧
    (x.mgr = true → t.fld F.SPN_STAT_ADDR = s.fld F.SPN_STAT_ADDR ∧
      t.fld F.SPN_TSTAT_STATE = s.fld F.SPN_TSTAT_STATE) := by
  simp only [State.on]
  rw [State.fld_resetRelease h (by decide) (by decide), State.fld_resetRelease h (by decide) (by decide),
    State.fld_resetRelease h (by decide) (by decide), State.fld_resetRelease h (by decide) (by decide)]
  obtain ⟨mgr, valid⟩ := State.takeRole_mgr (s := s.strapped x) (mgr := x.mgr)
  refine ⟨mgr, valid, fun hm => ?_, fun hm => ?_⟩
  · rw [hm]
    exact State.takeRole_worker
  · rw [hm]
    exact State.takeRole_manager

/-! ## The statement -/

/-- After an accepted reset. -/
theorem resetAssert_accepted {cycles : Nat} (hn : 125 ≤ cycles) :
    let t := s.resetAssert cycles
    t.on F.THM_STAT_SHUT = s.on F.THM_STAT_SHUT ∧
    (s.on F.THM_STAT_SHUT = false → ∀ a, t.reg a = resetWord a) ∧
    (s.on F.THM_STAT_SHUT = true → ∀ b ∈ [4, 5, 6, 11, 13, 14, 15, 16], t.isGated b = true) := by
  obtain ⟨m, l, ⟨hs, e⟩ | ⟨hs, e⟩⟩ := State.resetAssert_cases (s := s) hn
  · rw [e, hs]
    exact ⟨State.staysShut_shut, nofun, fun _ => State.isGated_staysShut rfl⟩
  · rw [e, hs]
    refine ⟨?_, fun _ => State.reg_fresh, nofun⟩
    rw [State.on, State.fld_fresh]
    decide +kernel

theorem powerOn_regs : (∀ a, s.powerOn.reg a = resetWord a) ∧ s.powerOn.on F.THM_STAT_SHUT = false := by
  obtain ⟨n, l, e⟩ := s.powerOn_fresh
  rw [e]
  refine ⟨State.reg_fresh, ?_⟩
  rw [State.on, State.fld_fresh]
  decide +kernel

/-- Settles O58: a reset leaves the state of a power-on reset (`InReset`), with the shutdown kept where it was set;
until the release no arm of `exec` but a reset acts. -/
theorem reset_HoldsReleasesAndRestores : Obligations.Reset_HoldsReleasesAndRestores := by
  refine ⟨fun s n hn => ⟨s, congrArg Host.Outcome.next (if_pos hn), rfl⟩, fun s n hn => ⟨_, rfl, ?_⟩,
    fun s => ⟨_, rfl, ?_⟩, ?_, fun s x h => ⟨s, congrArg Host.Outcome.next (State.resetRelease_live h), rfl⟩,
    fun s x h => ⟨_, rfl, ?_⟩, fun s c h hrelease hassert hpor => exec_inReset c h hrelease hassert hpor,
    fun s c hr h hassert hpor hwake hread hwrite hstatus hopcode =>
      exec_deep c hr h hassert hpor hwake hread hwrite hstatus hopcode, fun a => ⟨rfl, rfl⟩, ?_⟩
  · obtain ⟨reset, pending, shad, mem, conf, events, tabs⟩ := (inReset_resetAssert hn).state (s := s)
    obtain ⟨shut, regs, gated⟩ := resetAssert_accepted (s := s) hn
    exact ⟨reset, pending, shut, shad, mem, conf, events, tabs, regs,
      fun h => ⟨(inReset_resetAssert hn).fields, gated h⟩⟩
  · obtain ⟨reset, pending, shad, mem, conf, _, _⟩ := inReset_powerOn.state (s := s)
    obtain ⟨regs, shut⟩ := powerOn_regs (s := s)
    exact ⟨reset, pending, regs, shad, shut, mem, conf⟩
  · rintro s c (rfl | ⟨n, hn, rfl⟩)
    · exact ⟨_, rfl, inReset_powerOn.pins⟩
    · exact ⟨_, rfl, (inReset_resetAssert hn).pins⟩
  · obtain ⟨mgr, valid, worker, manager⟩ := State.resetRelease_role (x := x) h
    obtain ⟨regs, fields⟩ := State.resetRelease_frame (x := x) h
    have diodes {d w} (hd : d < 3) (hw : x.diodes[d]? = some w) : (s.resetRelease x).reg (R.ADC_DIODEd d) = w := by
      rw [State.resetRelease_eq h]
      exact State.reg_resetRelease_diode hd hw
    generalize s.resetRelease x = t at *
    obtain ⟨r, rfl⟩ := regs
    exact ⟨rfl, rfl, rfl, rfl, rfl, rfl, mgr, valid, worker, manager, fun d w => diodes, fields, rfl⟩
  · decide +kernel

end Sys2Proof.Machine

end

section

/-!
# The invariants

What every step keeps, from any state that has it (O60).
-/

namespace Sys2Proof.Machine

/-! ## Copies of tables and register files stay canonical -/

theorem Tab.wf_copyTables {p : Nat → Bool} {src dst : Tab Word} (h : Tab.wf (fun _ => (0 : Word)) dst = true) :
    Tab.wf (fun _ => (0 : Word)) (copyTables p src dst) = true := by
  have merge (l : List (Nat × Word)) {d : Tab Word} (hd : Tab.wf (fun _ => (0 : Word)) d = true) :
      Tab.wf (fun _ => (0 : Word)) (copyTables.merge l d) = true := by
    induction l generalizing d with
    | nil => exact hd
    | cons x t ih => exact ih (Tab.wf_put hd)
  exact merge _ (Tab.wf_filter h)

/-- What a fold keeps: whatever each of its steps keeps. -/
theorem foldl_keeps {α β : Type} {P : β → Prop} {f : β → α → β} {l : List α} {b : β} (h : P b)
    (hf : ∀ {b a}, P b → P (f b a)) : P (l.foldl f b) :=
  List.foldlRecOn l f h fun _ hb _ _ => hf hb

theorem Tab.wf_withShadows {regs snap : Tab Word} (h : Tab.wf resetWord regs = true) :
    Tab.wf resetWord (withShadows regs snap) = true := by
  refine foldl_keeps (P := fun r => Tab.wf resetWord r = true) h fun {r a} hr => ?_
  split
  · exact hr
  · exact Tab.wf_put hr

theorem Tab.wf_loadWords {regs : Tab Word} {l : List (Nat × Word)} (h : Tab.wf resetWord regs = true) :
    Tab.wf resetWord (loadWords regs l) = true := by
  refine foldl_keeps (P := fun r => Tab.wf resetWord r = true) h fun {r x} hr => ?_
  dsimp only
  split
  · exact hr
  · exact Tab.wf_put hr

/-! ## The invariant

The rest of the file says of each operation of the model, in the model's order, that it keeps `State.Inv`: the lemma
`State.Inv.f` about `State.f`. A proof follows the operation's definition, with `.ite` for its branches, `h.g` for a
call of `g`, `.each`, `.foldl` and `.whenDo` for its loops and conditions, and `.frame` for a change of what the
invariant does not speak of. -/

/-- What every step keeps (R8, R417): registers, DRAM and tables in canonical form, at most fifteen occurrences
pending per source. -/
structure State.Inv (s : State) : Prop where
  regs : s.regsCanonical
  mem : s.mem.wf
  tabs : s.tablesCanonical
  events : s.eventsBounded

section
variable {s t : State} {α : Type}

/-- A change of the parts that the invariant does not speak of. -/
theorem State.Inv.frame {pending inReset freeCtr log host flash chk ldr conf locket strait pix cor tim chn diag pmb
    clasp lnk spn clk pwr therm adc cal} (h : s.Inv) :
    ({ s with pending, inReset, freeCtr, log, host, flash, chk, ldr, conf, locket, strait, pix, cor, tim, chn, diag,
              pmb, clasp, lnk, spn, clk, pwr, therm, adc, cal } : State).Inv :=
  ⟨h.regs, h.mem, h.tabs, h.events⟩

/-- The same with a change of the fault collector beside its pending occurrences. -/
theorem State.Inv.fltFrame {pending inReset freeCtr log host flash chk ldr conf locket strait pix cor tim chn diag
    pmb clasp lnk spn clk pwr therm adc cal lost count cls fltPtr unsent} (h : s.Inv) :
    ({ s with pending, inReset, freeCtr, log, host, flash, chk, ldr, conf, locket, strait, pix, cor, tim, chn, diag,
              pmb, clasp, lnk, spn, clk, pwr, therm, adc, cal,
              flt := { s.flt with lost, count, cls, ptr := fltPtr, unsent } } : State).Inv :=
  ⟨h.regs, h.mem, h.tabs, h.events⟩

/-- The same with a change of the memory controllers beside the bytes. -/
theorem State.Inv.memFrame {pending inReset freeCtr log host flash chk ldr conf locket strait pix cor tim chn diag
    pmb clasp lnk spn clk pwr therm adc cal poison wrong populated queues inflight accepted wbuf drain memPtr
    memCycle ecc row postponed hold recalDue ceCount ceHit scrub hot throttle got asleep lineBase lineBuf lineDue
    reconfig behind recalMade trained} (h : s.Inv) :
    ({ s with pending, inReset, freeCtr, log, host, flash, chk, ldr, conf, locket, strait, pix, cor, tim, chn, diag,
              pmb, clasp, lnk, spn, clk, pwr, therm, adc, cal,
              mem := { s.mem with
                poison, wrong, populated, queues, inflight, accepted, wbuf, drain, ptr := memPtr, cycle := memCycle,
                ecc, row, postponed, hold, recalDue, ceCount, ceHit, scrub, hot, throttle, got, asleep, lineBase,
                lineBuf, lineDue, reconfig, behind, recalMade, trained } } : State).Inv :=
  ⟨h.regs, h.mem, h.tabs, h.events⟩

/-- The same with a change of what is to be copied between the tables. -/
theorem State.Inv.tabsFrame {pending inReset freeCtr log host flash chk ldr conf locket strait pix cor tim chn diag
    pmb clasp lnk spn clk pwr therm adc cal dirty copying rewrite} (h : s.Inv) :
    ({ s with pending, inReset, freeCtr, log, host, flash, chk, ldr, conf, locket, strait, pix, cor, tim, chn, diag,
              pmb, clasp, lnk, spn, clk, pwr, therm, adc, cal, tabs := { s.tabs with dirty, copying, rewrite } } :
              State).Inv :=
  ⟨h.regs, h.mem, h.tabs, h.events⟩

theorem State.Inv.withMem {m : MemState} (h : s.Inv) (hm : m.wf) : ({ s with mem := m } : State).Inv :=
  ⟨h.regs, hm, h.tabs, h.events⟩

theorem State.Inv.withTabs {m : TableState} (h : s.Inv) (hf : Tab.wf (fun _ => (0 : Word)) m.front = true)
    (hb : Tab.wf (fun _ => (0 : Word)) m.back = true) (hd : Tab.wf (fun _ => (0 : Word)) m.beads = true) :
    ({ s with tabs := m } : State).Inv :=
  ⟨h.regs, h.mem, ⟨hf, hb, hd⟩, h.events⟩

theorem State.Inv.withRegs {r : Tab Word} (h : s.Inv) (hr : Tab.wf resetWord r = true) :
    ({ s with regs := r } : State).Inv :=
  ⟨⟨hr, h.regs.2⟩, h.mem, h.tabs, h.events⟩

theorem State.Inv.withShad {r : Tab Word} (h : s.Inv) (hr : Tab.wf resetWord r = true) :
    ({ s with shad := r } : State).Inv :=
  ⟨⟨h.regs.1, hr⟩, h.mem, h.tabs, h.events⟩

theorem State.Inv.ite {c : Prop} {_ : Decidable c} (hs : s.Inv) (ht : t.Inv) : (if c then s else t).Inv :=
  ite_keeps hs ht

theorem State.Inv.ite_fst {c : Prop} {_ : Decidable c} {p q : State × α} (hp : p.1.Inv) (hq : q.1.Inv) :
    (if c then p else q).1.Inv := by
  split
  · exact hp
  · exact hq

/-- The state that an operation answers beside a value. -/
theorem State.Inv.of_eq {p : State × α} {a : α} (h : p.1.Inv) (e : p = (t, a)) : t.Inv := by
  rw [e] at h
  exact h

theorem State.Inv.each {l : List α} {f : State → α → State} (h : s.Inv)
    (hf : ∀ {t a}, t.Inv → (f t a).Inv) :
    (s.each l f).Inv :=
  State.each_keeps h fun _ _ _ => hf

theorem State.Inv.foldl {l : List α} {f : State → α → State} (h : s.Inv)
    (hf : ∀ {t a}, t.Inv → (f t a).Inv) :
    (l.foldl f s).Inv :=
  foldl_keeps h hf

theorem State.Inv.foldl_fst {β : Type} {l : List α} {f : State × β → α → State × β} {p : State × β}
    (h : p.1.Inv) (hf : ∀ {q a}, q.1.Inv → (f q a).1.Inv) : (l.foldl f p).1.Inv :=
  foldl_keeps (P := fun q : State × β => q.1.Inv) h hf

theorem State.Inv.whenDo {b : Bool} {f : State → State} (h : s.Inv) (hf : ∀ {t}, t.Inv → (f t).Inv) :
    (s.whenDo b f).Inv :=
  State.whenDo_keeps h fun _ => hf

/-- If a command answers a next state, that state has the invariant. -/
def Keeps (o : Host.Outcome State Fault Refusal) : Prop := ∀ t, o = .next t → t.Inv

theorem Keeps.next (h : s.Inv) : Keeps (.next s) := by
  rintro _ ⟨⟩
  exact h

theorem Keeps.ite {c : Prop} {_ : Decidable c} {o u : Host.Outcome State Fault Refusal} (ho : Keeps o)
    (hu : Keeps u) : Keeps (if c then o else u) := by
  split
  · exact ho
  · exact hu

theorem State.Inv.effect {f : State → State} (h : s.Inv) (hf : ∀ {t}, t.Inv → (f t).Inv) :
    Keeps (effect f s) :=
  .ite (.next h) (.next (hf h))

/-! ### Machine/Ops.lean -/

theorem State.Inv.setReg {a w} (h : s.Inv) : (s.setReg a w).Inv := h.withRegs (Tab.wf_put h.regs.1)

theorem State.Inv.setShad {a w} (h : s.Inv) : (s.setShad a w).Inv := h.withShad (Tab.wf_put h.regs.2)

theorem State.Inv.setFld {f v} (h : s.Inv) : (s.setFld f v).Inv := h.setReg

theorem State.Inv.setOn {f b} (h : s.Inv) : (s.setOn f b).Inv := h.setFld

theorem State.Inv.setShadFld {f v} (h : s.Inv) : (s.setShadFld f v).Inv := h.setShad

theorem State.Inv.addSat {f d} (h : s.Inv) : (s.addSat f d).Inv := h.setFld

theorem State.Inv.incSat {f} (h : s.Inv) : (s.incSat f).Inv := h.addSat

theorem State.Inv.usedFree (h : s.Inv) : s.usedFree.Inv := h.frame

theorem State.Inv.raiseWith {i data inj} (h : s.Inv) : (s.raiseWith i data inj).Inv := by
  have tabs : (s.raiseWith i data inj).tablesCanonical := by
    rcases State.raiseWith_cases s i data inj with ⟨_, e⟩ | ⟨_, _, e⟩ | ⟨_, _, e⟩
    all_goals
      rw [e]
      exact h.tabs
  have mem : (s.raiseWith i data inj).mem.wf := by
    rw [State.mem_raiseWith]
    exact h.mem
  exact ⟨State.regs_wf_raiseWith h.regs, mem, tabs, State.eventsBounded_raiseWith h.events⟩

theorem State.Inv.raise {i data} (h : s.Inv) : (s.raise i data).Inv := h.raiseWith

theorem State.Inv.outOfRange {queue} (h : s.Inv) : (s.outOfRange queue).Inv := h.incSat.raise

theorem State.Inv.setLocket {a w} (h : s.Inv) : (s.setLocket a w).Inv := h.frame

theorem State.Inv.lockLose {n zero} (h : s.Inv) : (s.lockLose n zero).Inv := h.frame

theorem State.Inv.pushReq {q e} (h : s.Inv) : (s.pushReq q e).Inv := .ite h.memFrame h

/-! ### Machine/Chk.lean -/

theorem State.Inv.chkSync {n} (h : s.Inv) : (s.chkSync n).Inv := h.setReg

theorem State.Inv.chkAdvance {n k} (h : s.Inv) : (s.chkAdvance n k).Inv := h.setFld.setFld

theorem State.Inv.chkDone {n} (h : s.Inv) : (s.chkDone n).Inv := h.setOn.incSat.raise.whenDo (·.setOn.raise)

theorem State.Inv.chkInit {n} (h : s.Inv) : (s.chkInit n).Inv := h.setReg.chkSync

theorem State.Inv.chkIdle {n} (h : s.Inv) : (s.chkIdle n).Inv := h.frame.setOn

theorem State.Inv.chkFeed {n bytes} (h : s.Inv) : (s.chkFeed n bytes).Inv := by
  unfold State.chkFeed
  extract_lets len b s1 s2
  have h1 : s1.Inv := h.setReg.chkSync
  have h2 : s2.Inv := h1.setFld
  exact .ite h.setReg.chkSync (.ite h2.chkIdle.chkDone h2)

theorem State.Inv.snoop {stream bytes} (h : s.Inv) : (s.snoop stream bytes).Inv :=
  h.each fun h => .ite h.chkFeed h

theorem State.Inv.snoopBoundary {stream} (h : s.Inv) : (s.snoopBoundary stream).Inv :=
  h.each fun h => .ite (.ite h.frame (.ite h.setReg.chkDone.chkInit h)) h

theorem State.Inv.chkAsk (h : s.Inv) : s.chkAsk.Inv := by
  unfold State.chkAsk
  split
  · exact h
  · split
    · exact h
    · exact .ite h.pushReq.frame h

theorem State.Inv.chkPoisoned {n} (h : s.Inv) : (s.chkPoisoned n).Inv := h.chkIdle.setOn.raise

theorem State.Inv.chkLine {d} (h : s.Inv) : (s.chkLine d).Inv := by
  unfold State.chkLine
  split
  · exact h
  · extract_lets _ s1 off b s2 s3
    have h1 : s1.Inv := h.frame
    have h2 : s2.Inv := h1.chkAdvance.chkFeed
    have h3 : s3.Inv := .ite (.ite h1.chkPoisoned (.ite h2.chkIdle h2)) h1
    exact h3.chkAsk

theorem State.Inv.chkStart {n} (h : s.Inv) : (s.chkStart n).Inv := by
  unfold State.chkStart
  refine .ite h.frame (.ite h ?_)
  extract_lets feed s1 s2 _ _
  have h1 : s1.Inv := h.whenDo (·.chkInit)
  have h2 : s2.Inv := h1.setOn
  exact .ite h.setOn.raise (.ite h2.frame (.ite h2.chkIdle.chkDone h2.chkAsk))

theorem State.Inv.chkStop {n} (h : s.Inv) : (s.chkStop n).Inv :=
  .ite h.setOn (.ite h (.ite h.frame h.chkIdle))

theorem State.Inv.execChkStart {unit} (h : s.Inv) : Keeps (execChkStart unit s) := h.effect (·.chkStart)

theorem State.Inv.execChkStop {unit} (h : s.Inv) : Keeps (execChkStop unit s) := h.effect (·.chkStop)

/-! ### Machine/Memory.lean -/

theorem State.Inv.migStart {rank} (h : s.Inv) : (s.migStart rank).Inv := h.setFld.setFld.setFld.raise

theorem State.Inv.memFinding {rank} (h : s.Inv) : (s.memFinding rank).Inv := by
  unfold State.memFinding
  refine .ite ?_ h
  split
  · exact .ite h.migStart h.setFld.raise
  · exact .ite h h.raise
  · exact h.setFld.raise
  · exact h

theorem State.Inv.countCE {rank} (h : s.Inv) : (s.countCE rank).Inv := by
  unfold State.countCE
  extract_lets s1 n _ s2 _
  have h1 : s1.Inv := h.incSat
  have h2 : s2.Inv := h1.memFrame
  exact .ite h2.memFrame.raise.memFinding h2

theorem State.Inv.countUE {line} (h : s.Inv) : (s.countUE line).Inv := h.incSat.setFld.setOn.raise.memFinding

theorem State.Inv.writeBack {line data poisoned} (h : s.Inv) : (s.writeBack line data poisoned).Inv :=
  h.withMem (State.mem_wf_writeBack h.mem)

theorem State.Inv.handleRead {line c overtaken} (h : s.Inv) : (s.handleRead line c overtaken).1.Inv := by
  unfold State.handleRead
  extract_lets rank s1
  have h1 : s1.Inv := h.frame
  split
  · exact h
  · exact .countCE (.ite h h.writeBack)
  · exact h.incSat
  · exact .countUE (.ite h1 h1.writeBack)

theorem State.Inv.spareStart {rank} (h : s.Inv) : (s.spareStart rank).Inv := .ite h.setFld.migStart h.setFld

theorem State.Inv.execSpareStart {rank} (h : s.Inv) : Keeps (execSpareStart rank s) := h.effect (·.spareStart)

theorem State.Inv.execCeWindowEnd (h : s.Inv) : Keeps (execCeWindowEnd s) := h.effect (·.memFrame)

theorem State.Inv.queueWrite {q e} (h : s.Inv) : (s.queueWrite q e).Inv := .ite h.pushReq h.memFrame

theorem State.Inv.dropHead {q} (h : s.Inv) : (s.dropHead q).Inv := h.memFrame

theorem State.Inv.reserve {q line} (h : s.Inv) : (s.reserve q line).Inv := .ite h.memFrame h

theorem State.Inv.activate {q line} (h : s.Inv) : (s.activate q line).Inv := by
  unfold State.activate
  extract_lets b row c _
  split
  · extract_lets s1 limit _ _ s2 s3 s4 s5
    have h1 : s1.Inv := h.memFrame
    have h2 : s2.Inv := h1.memFrame
    have h3 : s3.Inv := h2.setFld.setFld.setFld.setFld
    have h4 : s4.Inv := h3.incSat
    have h5 : s5.Inv := h4.setFld
    exact .ite h5.raise h1

theorem State.Inv.touchLine {q line write} (h : s.Inv) : (s.touchLine q line write).Inv := by
  unfold State.touchLine
  extract_lets l key out s1 s2
  have h1 : s1.Inv := by
    unfold s1
    clear_value out
    split
    · exact h.whenDo (·.activate)
    · exact h
  have h2 : s2.Inv := h1.whenDo (·.activate)
  exact h2.withMem (MemState.wf_touchEcc h2.mem)

theorem State.Inv.drainStep {c} (h : s.Inv) : (s.drainStep c).Inv := h.memFrame

theorem State.Inv.takeOut {line} (h : s.Inv) : (s.takeOut line).Inv := by
  unfold State.takeOut
  extract_lets s1
  have h1 : s1.Inv := h.drainStep
  exact (h1.withMem (MemState.wf_unpost h1.mem)).drainStep

theorem State.Inv.putLine {line data poisoned e} (h : s.Inv) : (s.putLine line data poisoned e).Inv := by
  unfold State.putLine
  extract_lets wrong put
  have hput (l w) : (put l w).Inv := h.withMem (by cases poisoned <;> exact MemState.wf_commitLine h.mem)
  split
  · exact hput _ _
  · split
    · exact h
    · exact hput _ _

theorem State.Inv.dramRead {q line} (h : s.Inv) : (s.dramRead q line).1.Inv := by
  unfold State.dramRead
  extract_lets s1 c
  have h1 : s1.Inv := h.touchLine
  split
  rename_i s2 _ e2
  exact h1.handleRead.of_eq e2

theorem State.Inv.dramWrite {q line bytes read written} (h : s.Inv) :
    (s.dramWrite q line bytes read written).Inv := by
  unfold State.dramWrite
  extract_lets s1 c
  have h1 : s1.Inv := h.touchLine
  refine .ite h1.putLine ?_
  split
  rename_i s2 _ e2
  have h2 := h1.handleRead.of_eq e2
  exact h2.putLine

theorem State.Inv.issueEntry {e read written} (h : s.Inv) : (s.issueEntry e read written).Inv :=
  h.takeOut.dramWrite

theorem State.Inv.awaitThrottle {q line} (h : s.Inv) : (s.awaitThrottle q line).Inv :=
  .reserve (.ite h.memFrame h)

theorem State.Inv.lineRead {q flat} (h : s.Inv) : (s.lineRead q flat).1.Inv := by
  unfold State.lineRead
  refine .ite_fst h.outOfRange ?_
  extract_lets line posted
  refine .ite_fst h ?_
  split
  rename_i s1 _ _ e1
  exact h.awaitThrottle.dramRead.of_eq e1

theorem State.Inv.readEach {q l} (h : s.Inv) : (s.readEach q l).1.Inv := by
  induction l generalizing s with
  | nil => exact h
  | cons x t ih =>
    show ((s.lineRead q x).1.readEach q t).1.Inv
    exact ih h.lineRead

theorem State.Inv.readLines {q a n} (h : s.Inv) : (s.readLines q a n).1.Inv := h.readEach

theorem State.Inv.lineStore {q flat bytes} (h : s.Inv) : (s.lineStore q flat bytes).Inv := by
  unfold State.lineStore
  refine .ite h.queueWrite (.ite h.outOfRange ?_)
  extract_lets line s1
  have h1 : s1.Inv := h.awaitThrottle
  exact .ite (h.withMem (MemState.wf_storeLine h.mem)) (h1.withMem (MemState.wf_overtake h1.mem)).dramWrite

theorem State.Inv.writeFlat {queue a bytes} (h : s.Inv) : (s.writeFlat queue a bytes).Inv :=
  h.each (·.lineStore)

theorem State.Inv.readDone {c i noise} (h : s.Inv) : (s.readDone c i noise).Inv := by
  unfold State.readDone
  split
  · exact h
  · split
    rename_i s1 _ _ e1
    have h1 : s1.Inv := by
      refine .of_eq ?_ e1
      refine .ite_fst h ?_
      extract_lets s1 r
      have h1 : s1.Inv := h.touchLine
      split
      rename_i s2 _ e2
      exact h1.handleRead.of_eq e2
    exact h1.memFrame

theorem State.Inv.readsDone {c p} (h : s.Inv) : (s.readsDone c p).Inv := h.each (·.readDone)

theorem State.Inv.cleaned {c asleep recalDue} (h : s.Inv) :
    ({ s with mem := { s.mem.cleanEcc c with asleep, recalDue } } : State).Inv :=
  h.withMem (MemState.wf_cleanEcc (c := c) h.mem)

theorem State.Inv.migDone (h : s.Inv) : s.migDone.Inv := by
  unfold State.migDone
  extract_lets bad s1 new p pos s2 s3 partner s4 _ s5
  have h1 : s1.Inv := h.readsDone
  have h2 : s2.Inv := h1.setFld
  have h3 : s3.Inv := h2.setFld
  have h4 : s4.Inv := h3.whenDo (·.setOn)
  have h5 : s5.Inv := h4.cleaned
  exact h5.setFld.raise

theorem State.Inv.migCopy {noise} (h : s.Inv) : (s.migCopy noise).Inv := by
  unfold State.migCopy
  extract_lets bad new n line dst s1 c waits
  have h1 : s1.Inv := h.reserve.reserve.touchLine
  refine .ite ?_ h
  split
  rename_i s2 _ e2
  have h2 := h1.handleRead.of_eq e2
  extract_lets s3 s4 s5 s6
  have h3 : s3.Inv := h2.touchLine.putLine
  have h4 : s4.Inv := by
    unfold s4
    clear_value waits
    split
    · exact h3
    · exact h3.takeOut.dramWrite
  have h5 : s5.Inv := h4.whenDo (·.incSat)
  have h6 : s6.Inv := h5.setFld
  exact .ite h6.migDone h6

theorem State.Inv.execMigrationLineCopy {noise} (h : s.Inv) : Keeps (execMigrationLineCopy noise s) :=
  h.effect (·.migCopy)

theorem State.Inv.scrub {noise} (h : s.Inv) : (s.scrub noise).Inv := by
  unfold State.scrub
  refine .ite ?_ h
  split
  · exact h
  · refine .ite h ?_
    extract_lets s1 c past s2 _
    have h1 : s1.Inv := h.reserve.touchLine
    have h2 : s2.Inv := h1.handleRead
    exact h2.memFrame

theorem State.Inv.execScrubStep {noise} (h : s.Inv) : Keeps (execScrubStep noise s) := h.effect (·.scrub)

theorem State.Inv.acceptHead {c q e} (h : s.Inv) : (s.acceptHead c q e).Inv := by
  unfold State.acceptHead
  extract_lets line s1
  have h1 : s1.Inv := h.dropHead.reserve
  exact .ite (h1.withMem (MemState.wf_post h1.mem)).drainStep h1.memFrame

theorem State.Inv.memCycle {urgent c} (h : s.Inv) : (s.memCycle urgent c).Inv := by
  unfold State.memCycle
  extract_lets heads ok classes win aged fl _ s1 _
  have h1 : s1.Inv := h.memFrame
  clear_value win
  split
  · exact h1
  · split
    · exact h1
    · exact h1.memFrame.acceptHead

theorem State.Inv.writeIssue {c read written} (h : s.Inv) : (s.writeIssue c read written).Inv := by
  unfold State.writeIssue
  extract_lets reads
  refine .ite h (.ite ?_ h)
  split
  · exact h
  · exact h.issueEntry

theorem State.Inv.execMemWriteComplete {write} (h : s.Inv) : Keeps (execMemWriteComplete write s) :=
  h.effect (·.writeIssue)

theorem State.Inv.finishOps {c} (h : s.Inv) : (s.finishOps c).Inv := h.readsDone.each (·.issueEntry)

theorem State.Inv.refreshDue {rank bank busy} (h : s.Inv) : (s.refreshDue rank bank busy).Inv :=
  .ite h (.ite h.memFrame h.memFrame)

theorem State.Inv.execRefreshDue {rank bank busy} (h : s.Inv) : Keeps (execRefreshDue rank bank busy s) :=
  h.effect (·.refreshDue)

theorem State.Inv.mr4Poll {codes} (h : s.Inv) : (s.mr4Poll codes).Inv :=
  h.each fun h => .ite (h.setFld.whenDo (·.raise)) h

theorem State.Inv.execMr4Poll {code0 code1 code2 code3} (h : s.Inv) :
    Keeps (execMr4Poll code0 code1 code2 code3 s) :=
  h.effect (·.mr4Poll)

theorem State.Inv.execRefreshWindowStart (h : s.Inv) : Keeps (execRefreshWindowStart s) :=
  h.effect (·.memFrame.setFld)

theorem State.Inv.timingRecal {rank} (h : s.Inv) : (s.timingRecal rank).Inv :=
  .ite (h.withMem (MemState.wf_cleanEcc (c := rank / 2) h.mem)) h

theorem State.Inv.execTimingRecal {rank} (h : s.Inv) : Keeps (execTimingRecal rank s) :=
  h.effect (·.timingRecal)

theorem State.Inv.dramTrained {ranks} (h : s.Inv) : (s.dramTrained ranks).1.Inv := by
  unfold State.dramTrained
  extract_lets get mask trained dens ok same good _ _ pop _ s1 s2 s3 s4
  have h1 : s1.Inv := h.memFrame
  have h2 : s2.Inv := h1.setFld.setFld
  have h3 : s3.Inv := h2.setFld.setFld.setFld
  have h4 : s4.Inv := h3.setFld
  exact .ite_fst h4.setOn h2.setFld.raise

theorem State.Inv.dramReconfigured {d} (h : s.Inv) : (s.dramReconfigured d).Inv := by
  unfold State.dramReconfigured
  extract_lets pos sp insvc reads fl _ s1
  have h1 : s1.Inv := h.withMem rfl
  exact h1.setFld.setFld.setFld.setOn.setFld.setFld.setOn.setFld.setFld

theorem State.Inv.lineFlush (h : s.Inv) : s.lineFlush.Inv := by
  unfold State.lineFlush
  split
  · exact h
  · extract_lets free _ _
    exact .ite h.memFrame.outOfRange (.ite h.memFrame h.memFrame.pushReq)

theorem State.Inv.execHostLineBufferFlush (h : s.Inv) : Keeps (execHostLineBufferFlush s) :=
  h.effect (·.lineFlush)

theorem State.Inv.lineWrite {flat w} (h : s.Inv) : (s.lineWrite flat w).Inv := by
  unfold State.lineWrite
  extract_lets base s1 _ s2 s3 buf _ s4
  have h1 : s1.Inv := h.lineFlush
  have h2 : s2.Inv := .ite h h1.memFrame
  have h3 : s3.Inv := h2.whenDo (·.setOn)
  have h4 : s4.Inv := h3.memFrame
  exact .ite h4.lineFlush h4

/-! ### Machine/Tables.lean -/

theorem State.Inv.tableCopyDone (h : s.Inv) : s.tableCopyDone.Inv :=
  h.withTabs h.tabs.1 (Tab.wf_copyTables h.tabs.2.1) h.tabs.2.2

theorem State.Inv.execTableCopyDone (h : s.Inv) : Keeps (execTableCopyDone s) := h.effect (·.tableCopyDone)

theorem State.Inv.tableWait {t} (h : s.Inv) : (s.tableWait t).Inv := .ite h.tableCopyDone h

theorem State.Inv.tableRead {a t} (h : s.Inv) : (s.tableRead a t).1.Inv := h.tableWait

theorem State.Inv.tableWrite {a t mask w} (h : s.Inv) : (s.tableWrite a t mask w).Inv :=
  have h1 := h.tableWait
  h1.withTabs h1.tabs.1 (Tab.wf_put h1.tabs.2.1) h1.tabs.2.2

theorem State.Inv.swapTables (h : s.Inv) : s.swapTables.Inv := by
  unfold State.swapTables
  extract_lets s1
  have h1 : s1.Inv := .ite h h.tableCopyDone
  exact h1.withTabs (Tab.wf_copyTables h1.tabs.1) (Tab.wf_copyTables h1.tabs.2.1) h1.tabs.2.2

theorem State.Inv.rewriteTable {t} (h : s.Inv) : (s.rewriteTable t).Inv :=
  .ite (h.withTabs h.tabs.1 h.tabs.2.1 (Tab.wf_copyTables h.tabs.2.2)) h

theorem State.Inv.execCoefRewrite {table} (h : s.Inv) : Keeps (execCoefRewrite table s) :=
  h.effect (·.rewriteTable)

theorem State.Inv.rewriteAll (h : s.Inv) : s.rewriteAll.Inv := h.each (·.rewriteTable)

theorem State.Inv.chkOnchip {n} (h : s.Inv) : (s.chkOnchip n).Inv := .ite h.chkAdvance.chkFeed h

theorem State.Inv.execChkOnchipScanDone {unit} (h : s.Inv) : Keeps (execChkOnchipScanDone unit s) :=
  h.effect (·.chkOnchip)

/-! ### Machine/Loader.lean -/

theorem State.Inv.cfgPending (h : s.Inv) : s.cfgPending.Inv := h.setOn

theorem State.Inv.ldrGo {st} (h : s.Inv) : (s.ldrGo st).Inv := by
  unfold State.ldrGo
  extract_lets s1 _
  have h1 : s1.Inv := h.setFld.cfgPending
  exact .ite h1.frame.setOn.setOn h1

theorem State.Inv.setAdmit {origin reason item} (h : s.Inv) : (s.setAdmit origin reason item).Inv :=
  h.setFld.setFld.setFld

theorem State.Inv.refuse {origin reason item} (h : s.Inv) : (s.refuse origin reason item).Inv :=
  h.setAdmit.raise

theorem State.Inv.revert (h : s.Inv) : s.revert.Inv := h.withShad (Tab.wf_withShadows h.regs.2)

theorem State.Inv.execRevert (h : s.Inv) : Keeps (execRevert s) := h.effect (·.revert)

theorem State.Inv.flashNext (h : s.Inv) : s.flashNext.Inv := by
  unfold State.flashNext
  split
  · exact h
  · extract_lets due _ key reqs
    refine .ite h (.ite h.frame ?_)
    split
    · exact h
    · split
      · exact h
      · exact h.frame

theorem State.Inv.flashAsk {j} (h : s.Inv) : (s.flashAsk j).Inv := h.frame.flashNext

theorem State.Inv.loadBegin {src boot} (h : s.Inv) : (s.loadBegin src boot).Inv :=
  .ite h.frame.setFld.ldrGo.flashAsk h.frame.setFld.ldrGo

theorem State.Inv.bootNext {boot src} (h : s.Inv) : (s.bootNext boot src).Inv :=
  .ite (.ite h.loadBegin h.raise) h

theorem State.Inv.loadRefuse {reason item} (h : s.Inv) : (s.loadRefuse reason item).Inv :=
  h.refuse.ldrGo.bootNext

theorem State.Inv.load {src dry} (h : s.Inv) : (s.load src dry).Inv := by
  unfold State.load
  extract_lets s1
  have h1 : s1.Inv := h.setFld.setOn
  exact .ite h1 (.ite h1.incSat.raise (.ite h1.refuse h1.setOn.loadBegin))

theorem State.Inv.execLoad {src dryrun} (h : s.Inv) : Keeps (execLoad src dryrun s) := h.effect (·.load)

theorem State.Inv.fetchEnds {image} (h : s.Inv) : (s.fetchEnds image).Inv := h.frame.snoop.snoopBoundary

theorem State.Inv.fetchDone {image} (h : s.Inv) : (s.fetchDone image).Inv := by
  unfold State.fetchDone
  refine .ite h.fetchEnds.flashNext (.ite ?_ h)
  extract_lets s1 s2
  have h1 : s1.Inv := h.fetchEnds
  have h2 : s2.Inv := by
    unfold s2
    split
    · exact h1.loadRefuse
    · exact .ite h1.loadRefuse h1.writeFlat.ldrGo
  exact h2.flashNext

theorem State.Inv.execFetchDone {image} (h : s.Inv) : Keeps (execFetchDone image s) := h.effect (·.fetchDone)

theorem State.Inv.checkDone (h : s.Inv) : s.checkDone.Inv := by
  unfold State.checkDone
  refine .ite ?_ h
  extract_lets base
  split
  rename_i s1 _ e1
  have h1 := h.lineRead.of_eq e1
  extract_lets total n
  split
  rename_i s2 _ e2
  have h2 := h1.readLines.of_eq e2
  extract_lets img found s3 _
  have h3 : s3.Inv := h2.snoop.snoopBoundary
  clear_value found
  split
  · exact h3.loadRefuse
  · exact h3.frame.ldrGo

theorem State.Inv.execCheckDone (h : s.Inv) : Keeps (execCheckDone s) := h.effect (·.checkDone)

theorem State.Inv.authDone (h : s.Inv) : s.authDone.Inv :=
  .ite (.ite h.setFld.ldrGo (.ite h.setFld.ldrGo h.setFld.setAdmit.raise.loadRefuse)) h

theorem State.Inv.execAuthDone (h : s.Inv) : Keeps (execAuthDone s) := h.effect (·.authDone)

/-! ### Machine/Drivers.lean -/

theorem State.Inv.setPort {p x} (h : s.Inv) : (s.setPort p x).Inv := h.frame

theorem State.Inv.sendAs {p f complete} (h : s.Inv) : (s.sendAs p f complete).Inv := .ite h h.setPort

theorem State.Inv.sendFrame {p w payload complete} (h : s.Inv) : (s.sendFrame p w payload complete).Inv :=
  h.sendAs

theorem State.Inv.queueFrames {p l} (h : s.Inv) : (s.queueFrames p l).Inv := .ite h h.setPort

theorem State.Inv.resync {p} (h : s.Inv) : (s.resync p).Inv := .ite h h.queueFrames.incSat.raise

theorem State.Inv.blankSync (h : s.Inv) : s.blankSync.Inv := .ite h.setOn.setOn h.setOn.setOn.frame.setFld

theorem State.Inv.setLoop {n l} (h : s.Inv) : (s.setLoop n l).Inv := h.frame

theorem State.Inv.holdLoops (h : s.Inv) : s.holdLoops.Inv := h.each (·.setLoop)

theorem State.Inv.blankOn {bit} (h : s.Inv) : (s.blankOn bit).Inv := by
  unfold State.blankOn
  extract_lets v s1
  have h1 : s1.Inv := h.setFld
  exact .ite h (.holdLoops (.blankSync (h1.each (·.sendFrame))))

theorem State.Inv.blankOff {bit} (h : s.Inv) : (s.blankOff bit).Inv := by
  unfold State.blankOff
  extract_lets v s1
  have h1 : s1.Inv := h.setFld
  exact .ite h (.blankSync (h1.each fun h => .ite h.sendFrame h))

theorem State.Inv.pwrUnblank (h : s.Inv) : s.pwrUnblank.Inv := .ite h h.blankOff

theorem State.Inv.blankReq {bit on} (h : s.Inv) : (s.blankReq bit on).Inv := .ite h.blankOn h.blankOff

theorem State.Inv.bringUp {p} (h : s.Inv) : (s.bringUp p).Inv := by
  unfold State.bringUp
  refine .ite h ?_
  extract_lets t fs s1 x _ s2
  have h1 : s1.Inv := h.each (·.sendFrame)
  have h2 : s2.Inv := h1.frame
  exact h2.setPort

theorem State.Inv.bringUpFails {p} (h : s.Inv) : (s.bringUpFails p).Inv := h.setPort.setOn.raise

theorem State.Inv.sendRdbk {p part} (h : s.Inv) : (s.sendRdbk p part).Inv := by
  unfold State.sendRdbk
  extract_lets s1 x drop waits capped dark lit s2
  have h1 : s1.Inv := h.sendFrame
  have h2 : s2.Inv := h1.setPort
  exact h2.addSat

theorem State.Inv.bringUpRead {p} (h : s.Inv) : (s.bringUpRead p).Inv := h.setPort.sendRdbk

theorem State.Inv.bringUpAll (h : s.Inv) : s.bringUpAll.Inv := h.frame.blankOn.each (·.bringUp)

theorem State.Inv.defer {p n} (h : s.Inv) : (s.defer p n).Inv := .ite h.setPort.addSat h.setPort.addSat.raise

theorem State.Inv.sendOut {p f complete} (h : s.Inv) : (s.sendOut p f complete).Inv := by
  unfold State.sendOut
  refine .ite h ?_
  extract_lets f x probes s1 _ s2 f
  have h1 : s1.Inv := h.setPort
  have h2 : s2.Inv := .ite h1.frame h1
  exact .ite h1.sendRdbk h2.sendAs

theorem State.Inv.frameCmd {p w payload complete} (h : s.Inv) : (s.frameCmd p w payload complete).Inv :=
  .ite h (.ite h.sendOut h.setPort.defer)

theorem State.Inv.execStrb {port} (h : s.Inv) : Keeps (execStrb port s) := h.effect (·.sendFrame.blankSync)

theorem State.Inv.execRow {port payload complete} (h : s.Inv) : Keeps (execRow port payload complete s) :=
  h.effect (·.frameCmd)

theorem State.Inv.execBwr {port payload complete} (h : s.Inv) : Keeps (execBwr port payload complete s) :=
  h.effect (·.frameCmd)

theorem State.Inv.execBsel {port payload complete} (h : s.Inv) : Keeps (execBsel port payload complete s) :=
  h.effect (·.frameCmd)

theorem State.Inv.execRdbk {port payload complete} (h : s.Inv) : Keeps (execRdbk port payload complete s) :=
  h.effect (·.frameCmd)

theorem State.Inv.execGlnt {port payload complete} (h : s.Inv) : Keeps (execGlnt port payload complete s) :=
  h.effect fun h => .ite h.frameCmd h

theorem State.Inv.execCur {port payload complete} (h : s.Inv) : Keeps (execCur port payload complete s) :=
  h.effect (·.frameCmd)

theorem State.Inv.execPwm {port payload complete} (h : s.Inv) : Keeps (execPwm port payload complete s) :=
  h.effect (·.frameCmd)

theorem State.Inv.execGdly {port payload complete} (h : s.Inv) : Keeps (execGdly port payload complete s) :=
  h.effect (·.frameCmd)

theorem State.Inv.execBlnk {port payload complete} (h : s.Inv) : Keeps (execBlnk port payload complete s) :=
  h.effect fun h => .ite h h.frameCmd.blankSync

theorem State.Inv.execSync {port complete} (h : s.Inv) : Keeps (execSync port complete s) :=
  h.effect (·.frameCmd.blankSync)

theorem State.Inv.execWin {port payload complete} (h : s.Inv) : Keeps (execWin port payload complete s) :=
  h.effect (·.frameCmd)

theorem State.Inv.forceBlank {on} (h : s.Inv) : (s.forceBlank on).Inv := h.setOn.blankReq

theorem State.Inv.execForceBlank {on} (h : s.Inv) : Keeps (execForceBlank on s) := h.effect (·.forceBlank)

/-! ### Machine/Strait.lean -/

theorem State.Inv.straitDrops {die} (h : s.Inv) : (s.straitDrops die).Inv := h.frame

theorem State.Inv.straitRetrain {die} (h : s.Inv) : (s.straitRetrain die).Inv :=
  h.frame.straitDrops.setFld.raise

theorem State.Inv.straitFlit {die dir flit c} (h : s.Inv) : (s.straitFlit die dir flit c).Inv :=
  .ite (.ite h.frame (.ite h.frame.straitRetrain h.frame.incSat)) h

theorem State.Inv.execStraitFlitReceive {die toEngine flit crc} (h : s.Inv) :
    Keeps (execStraitFlitReceive die toEngine flit crc s) :=
  h.effect (·.straitFlit)

theorem State.Inv.straitGoesDown {die} (h : s.Inv) : (s.straitGoesDown die).Inv :=
  h.frame.straitDrops.setFld.setOn.raise.blankOn

theorem State.Inv.straitAttempt {die ok} (h : s.Inv) : (s.straitAttempt die ok).Inv :=
  .ite h.frame.setFld (.ite h.straitGoesDown h.frame)

theorem State.Inv.bringUpDue (h : s.Inv) : s.bringUpDue.Inv := .ite h.frame.bringUpAll h

theorem State.Inv.bringUpAsk {startUp} (h : s.Inv) : (s.bringUpAsk startUp).Inv :=
  .ite h.frame.blankOn.bringUpDue h.bringUpAll

theorem State.Inv.execStraitRetrainDone {die ok} (h : s.Inv) : Keeps (execStraitRetrainDone die ok s) :=
  h.effect fun h => .ite h.straitAttempt.bringUpDue h

theorem State.Inv.execStraitTrainingDone {die ok} (h : s.Inv) : Keeps (execStraitTrainingDone die ok s) :=
  h.effect fun h => .ite h.straitAttempt.bringUpDue h

theorem State.Inv.downClear {die back} (h : s.Inv) : (s.downClear die back).Inv :=
  .ite h (.ite h.setOn h.frame.setOn.setFld)

theorem State.Inv.downWrite {die} (h : s.Inv) : (s.downWrite die).Inv := h.downClear.whenDo (·.usedFree)

theorem State.Inv.execDownClear {clear} (h : s.Inv) : Keeps (execDownClear clear s) := h.effect (·.downClear)

theorem State.Inv.execVddCoreLow (h : s.Inv) : Keeps (execVddCoreLow s) :=
  h.effect (·.straitGoesDown.straitGoesDown.frame)

/-! ### Machine/Lines.lean -/

theorem State.Inv.urgentStep (h : s.Inv) : s.urgentStep.Inv := h.frame

theorem State.Inv.setBuf {q l} (h : s.Inv) : (s.setBuf q l).Inv := h.frame.urgentStep

theorem State.Inv.fetchPoison {n} (h : s.Inv) : (s.fetchPoison n).Inv := h.incSat.raise

theorem State.Inv.takeLine {q flat} (h : s.Inv) : (s.takeLine q flat).1.Inv := by
  unfold State.takeLine
  split
  · exact h.setBuf
  · split
    rename_i s1 _ e1
    have h1 := h.lineRead.of_eq e1
    exact h1.whenDo (·.fetchPoison)

theorem State.Inv.takeLines {q l} (h : s.Inv) : (s.takeLines q l).1.Inv := by
  induction l generalizing s with
  | nil => exact h
  | cons x t ih =>
    show ((s.takeLine q x).1.takeLines q t).1.Inv
    exact ih h.takeLine

theorem State.Inv.fetchRow {l fc n src c prev} (h : s.Inv) : (s.fetchRow l fc n src c prev).1.Inv := by
  unfold State.fetchRow
  extract_lets w o
  split
  · split
    rename_i s1 _ e1
    exact h.takeLines.of_eq e1

theorem State.Inv.fetchNext {l fc n isle src} (h : s.Inv) : (s.fetchNext l fc n isle src).1.Inv := by
  unfold State.fetchNext
  extract_lets vscl t c prev
  split
  rename_i s1 _ e1
  exact .of_eq (.ite_fst h h.fetchRow) e1

theorem State.Inv.fetchTo {l fc n isle t} (h : s.Inv) : (s.fetchTo l fc n isle t).1.Inv := by
  unfold State.fetchTo
  split
  · exact h
  · exact h.foldl_fst (·.fetchNext)

/-! ### Machine/InputWriter.lean -/

theorem State.Inv.frameBegin {m seq} (h : s.Inv) : (s.frameBegin m seq).Inv := by
  unfold State.frameBegin
  split
  · exact h.frame.setFld
  · exact h.frame.incSat.raise

theorem State.Inv.publishFrame {m b lines} (h : s.Inv) : (s.publishFrame m b lines).Inv := by
  unfold State.publishFrame
  extract_lets sig s1 s2 s3 _
  have h1 : s1.Inv := h.setFld
  have h2 : s2.Inv := h1.setFld.setOn
  have h3 : s3.Inv := h2.setReg
  exact h3.frame.setFld

theorem State.Inv.frameEnd {m f} (h : s.Inv) : (s.frameEnd m f).Inv := by
  unfold State.frameEnd
  extract_lets _ s1 s2 s3
  have h1 : s1.Inv := h.frame
  have h2 : s2.Inv := h1.incSat.raise
  have h3 : s3.Inv := by
    unfold s3
    split
    · exact h1
    · exact .ite h1.publishFrame (.ite h2 h2.publishFrame)
  exact h3.snoopBoundary

theorem State.Inv.inputPacket {m seq line npix payload} (h : s.Inv) :
    (s.inputPacket m seq line npix payload).Inv := by
  unfold State.inputPacket
  extract_lets s1 _
  have h1 : s1.Inv := by
    unfold s1
    split
    · exact h.frameBegin
    · exact .ite h (.frameBegin (.ite h h.frameEnd))
  refine .ite h1.incSat ?_
  split
  · exact h1
  · refine .ite h1 ?_
    extract_lets f s2 bytes s3
    have h2 : s2.Inv := h1.frame
    have h3 : s3.Inv := by
      unfold s3
      split
      · exact h2
      · exact h2.writeFlat.snoop
    exact .ite h3.frameEnd h3

theorem State.Inv.slotEnabled {m} (h : s.Inv) : (s.slotEnabled m).Inv := h.frame.setOn

theorem State.Inv.hostPublish {n} (h : s.Inv) : (s.hostPublish n).Inv := h.incSat.frame.setFld

theorem State.Inv.execPublish {layer} (h : s.Inv) : Keeps (execPublish layer s) := h.effect (·.hostPublish)

/-! ### Machine/Pipeline.lean -/

theorem State.Inv.captureStart {r k} (h : s.Inv) : (s.captureStart r k).Inv := by
  unfold State.captureStart
  extract_lets _ s1 cs taps free _
  have h1 : s1.Inv := .ite h.frame.incSat.snoopBoundary h
  refine .ite ?_ h1
  split
  · exact h1
  · exact h1.frame

theorem State.Inv.loadStart {k} (h : s.Inv) : (s.loadStart k).Inv := by
  unfold State.loadStart
  refine .ite h ?_
  extract_lets bank bankE1 _ s1 s2 att _ s3 r layers pick phase l s4 _ _ s5 s6 s7
  have h1 : s1.Inv := h.frame
  have h2 : s2.Inv := h1.rewriteAll
  have h3 : s3.Inv := .ite h2 h2.frame.setFld
  have h4 : s4.Inv := h3.each fun h => .ite h.setOn h
  have h5 : s5.Inv := h4.frame
  have h6 : s6.Inv := h5.each (·.setPort)
  have h7 : s7.Inv := h6.each fun h => .ite h h.setBuf
  exact .ite h1 h7.captureStart

theorem State.Inv.loadDrop {k} (h : s.Inv) : (s.loadDrop k).Inv := h.frame.each (·.setPort)

theorem State.Inv.facetBlocks {r k y} (h : s.Inv) : (s.facetBlocks r k y).1.Inv := by
  unfold State.facetBlocks
  split
  rename_i s1 _ e1
  have h1 := h.takeLines.of_eq e1
  exact h1.each (·.incSat.raise)

theorem State.Inv.runCtx {l fc i x} (h : s.Inv) : (s.runCtx l fc i x).1.Inv := by
  unfold State.runCtx
  extract_lets y
  split
  rename_i s1 _ e1
  have h1 : s1.Inv := by
    refine .of_eq ?_ e1
    refine .foldl_fst ?_ ?_
    · exact h
    · intro q a hq
      exact hq.fetchTo
  split
  rename_i s2 _ e2
  have h2 : s2.Inv := by
    refine .of_eq ?_ e2
    split
    · extract_lets b
      have hb : b.1.Inv := h1.facetBlocks
      exact hb
    · exact h1
  exact h2

theorem State.Inv.countEmpty {k n} (h : s.Inv) : (s.countEmpty k n).Inv := by
  unfold State.countEmpty
  split
  · exact h
  · exact .ite h (.ite h.frame.incSat.raise h.frame.incSat.raise)

theorem State.Inv.beadSelect {isle strand bead ready room} (h : s.Inv) :
    (s.beadSelect isle strand bead ready room).Inv := by
  unfold State.beadSelect
  extract_lets cs die needs here has go dry s1 base reqs bead _
  have h1 : s1.Inv := h.each (·.countEmpty)
  split
  · exact h1.frame
  · extract_lets s2
    have h2 : s2.Inv := h1.frame
    split
    · exact h2
    · split
      · exact h2
      · split
        rename_i s3 _ e3
        have h3 := h2.runCtx.of_eq e3
        exact h3.frame

theorem State.Inv.execBeadContextSelect {isle strand bead inputs} (h : s.Inv) :
    Keeps (execBeadContextSelect isle strand bead inputs s) :=
  h.effect (·.beadSelect)

theorem State.Inv.lineShift {p missing} (h : s.Inv) : (s.lineShift p missing).Inv := by
  unfold State.lineShift
  extract_lets nic x die rows slow all _
  split
  · exact h
  · split
    · exact h
    · extract_lets j
      split
      · exact h
      · extract_lets vals slots gone sd0 sd1 x first l s1 s2 s3
        have h1 : s1.Inv := h.frame.setPort
        have h2 : s2.Inv := h1.addSat
        have h3 : s3.Inv := .ite h2.raise h2
        exact .ite h h3.sendFrame

theorem State.Inv.execChainLineShift {port missing} (h : s.Inv) : Keeps (execChainLineShift port missing s) :=
  h.effect (·.lineShift)

theorem State.Inv.freezeCheck {k l sig} (h : s.Inv) : (s.freezeCheck k l sig).Inv := by
  unfold State.freezeCheck
  extract_lets hist back same moved n _ s1 limit _
  have h1 : s1.Inv := h.frame.setFld
  exact .ite h1.frame.setFld.raise h1

theorem State.Inv.loadTaken {k l} (h : s.Inv) : (s.loadTaken k l).Inv := h.frame

theorem State.Inv.loadComplete {k} (h : s.Inv) : (s.loadComplete k).Inv := by
  unfold State.loadComplete
  split
  · exact h
  · refine .ite ?_ h
    extract_lets whole s1 sig s2 _ s3
    have h1 : s1.Inv := h.loadTaken.loadDrop
    have h2 : s2.Inv := h1.setReg
    have h3 : s3.Inv := .ite h2 h2.frame
    exact .ite h3.freezeCheck h1

theorem State.Inv.execBankLoadComplete {feed} (h : s.Inv) : Keeps (execBankLoadComplete feed s) :=
  h.effect (·.loadComplete)

theorem State.Inv.writebackLine {k y room} (h : s.Inv) : (s.writebackLine k y room).Inv := by
  unfold State.writebackLine
  split
  · split
    · exact h
    · refine .ite h ?_
      extract_lets put rows block stores s1 bytes
      have h1 : s1.Inv := h.frame
      exact .ite h.frame.incSat.raise (.ite h1.writeFlat.snoop h1)
  · exact h

theorem State.Inv.execWritebackLine {feed line straitRoom} (h : s.Inv) :
    Keeps (execWritebackLine feed line straitRoom s) :=
  h.effect (·.writebackLine)

theorem State.Inv.writebackPublish {k} (h : s.Inv) : (s.writebackPublish k).Inv := by
  unfold State.writebackPublish
  split
  · exact h
  · refine .ite h ?_
    extract_lets _ s1 s2 _ s3 _ s4
    have h1 : s1.Inv := h.frame
    have h2 : s2.Inv := h1.setFld
    have h3 : s3.Inv := h2.frame
    have h4 : s4.Inv := .ite h1.incSat (.ite h3.frame.setOn.setShadFld h3)
    exact h4.snoopBoundary

theorem State.Inv.execWritebackPublish {feed} (h : s.Inv) : Keeps (execWritebackPublish feed s) :=
  h.effect (·.writebackPublish)

/-! ### Machine/Correction.lean -/

theorem State.Inv.takeSums {k sums} (h : s.Inv) : (s.takeSums k sums).Inv := h.frame

theorem State.Inv.decideAtt {k att} (h : s.Inv) : (s.decideAtt k att).Inv := h.frame

theorem State.Inv.guardLimit {k nl nr} (h : s.Inv) : (s.guardLimit k nl nr).Inv := by
  unfold State.guardLimit
  extract_lets fl fr engage t hold rise
  split
  · exact .ite h.setFld.decideAtt.raise h.decideAtt
  · exact .ite h.decideAtt h.setFld.decideAtt
  · exact .ite h.setFld.decideAtt.raise h.setFld.decideAtt

theorem State.Inv.guardOff {k} (h : s.Inv) : (s.guardOff k).Inv := h.frame.setFld.setFld.setFld.decideAtt

theorem State.Inv.guardClassify {k fresh late} (h : s.Inv) : (s.guardClassify k fresh late).Inv := by
  unfold State.guardClassify
  extract_lets mode done cur prev first old lum red win nl nr nl0 nr0 _ s1 s2 fl fr s3 s4 s5 s6
  have h1 : s1.Inv := h.frame
  have h2 : s2.Inv := h1.setFld.setFld
  have h3 : s3.Inv := .ite h2.raise h2
  have h4 : s4.Inv := .ite h3.raise h3
  have h5 : s5.Inv := h4.frame
  have h6 : s6.Inv := h5.guardLimit
  exact .ite h.frame.guardOff (.ite (.ite h6.incSat.raise h6) h5.setFld.decideAtt)

theorem State.Inv.guardFrame {k} (h : s.Inv) : (s.guardFrame k).Inv := by
  unfold State.guardFrame
  extract_lets owed _ s1 _
  have h1 : s1.Inv := .ite h.guardClassify (.ite h (.ite h.frame h.guardClassify))
  exact h1.frame

theorem State.Inv.sumsArrive {k sums rest} (h : s.Inv) : (s.sumsArrive k sums rest).Inv :=
  .ite h.frame.takeSums.guardClassify.frame h.frame.takeSums

theorem State.Inv.guardSums {k} (h : s.Inv) : (s.guardSums k).Inv := by
  unfold State.guardSums
  extract_lets cs _
  refine .ite h ?_
  split
  · exact h.sumsArrive
  · split
    · exact h
    · exact .ite h h.frame.takeSums

theorem State.Inv.execGuardSumsComplete {feed} (h : s.Inv) : Keeps (execGuardSumsComplete feed s) :=
  h.effect (·.guardSums)

theorem State.Inv.guardModeSet {k old} (h : s.Inv) : (s.guardModeSet k old).Inv :=
  .ite (.ite h.guardOff h) (.ite h.setFld.decideAtt h)

theorem State.Inv.execBankLoadStart {feed} (h : s.Inv) : Keeps (execBankLoadStart feed s) :=
  h.effect fun h => .loadStart (.ite h.guardClassify h)

theorem State.Inv.zoneTemps (h : s.Inv) : s.zoneTemps.Inv := by
  unfold State.zoneTemps
  extract_lets all tz _ s1 s2
  have h1 : s1.Inv := h.frame
  have h2 : s2.Inv := .ite h1.incSat h1
  split
  · exact h2
  · exact h2.raise

theorem State.Inv.zoneBlock {update dose b} (h : s.Inv) : (s.zoneBlock update dose b).Inv := by
  unfold State.zoneBlock
  extract_lets base idx doses shown
  refine .ite h ?_
  split
  rename_i s1 _ e1
  have h1 := h.lineRead.of_eq e1
  refine .ite h1.frame.setOn.raise ?_
  refine h1.each fun h => ?_
  extract_lets i o v s2 _
  have h2 : s2.Inv := .ite h h.writeFlat
  exact .ite h2.frame h2

theorem State.Inv.zonePass {update dose} (h : s.Inv) : (s.zonePass update dose).Inv := h.each (·.zoneBlock)

theorem State.Inv.zoneGains {first} (h : s.Inv) : (s.zoneGains first).Inv := by
  unfold State.zoneGains
  extract_lets s1 t step new sat _ s2 low
  have h1 : s1.Inv := h.zoneTemps
  have h2 : s2.Inv := h1.frame.addSat
  split
  · exact h2
  · exact h2.raise

theorem State.Inv.zoneProbe (h : s.Inv) : s.zoneProbe.Inv := h.setFld.setFld.setFld.setFld

theorem State.Inv.zoneRun {update first dose} (h : s.Inv) : (s.zoneRun update first dose).Inv :=
  .ite h.zonePass.zoneGains.zoneProbe h.zonePass

theorem State.Inv.zoneAsk {update first} (h : s.Inv) : (s.zoneAsk update first).Inv := .ite h.zoneRun h.frame

theorem State.Inv.zoneOwed (h : s.Inv) : s.zoneOwed.Inv := .ite (h.frame.each (·.zoneRun)) h

theorem State.Inv.zoneApply (h : s.Inv) : s.zoneApply.Inv := by
  unfold State.zoneApply
  extract_lets en _ s1
  have h1 : s1.Inv := h.frame
  exact .ite h1 (.ite h1.zoneGains.zoneProbe h1.zoneAsk)

theorem State.Inv.zoneFrame (h : s.Inv) : s.zoneFrame.Inv := by
  unfold State.zoneFrame
  extract_lets _ s1 s2 _ first s3 due s4
  have h1 : s1.Inv := h.frame
  have h2 : s2.Inv := h1.each fun h => .ite h.frame h
  have h3 : s3.Inv := h2.frame
  have h4 : s4.Inv := h3.incSat
  exact .ite h2.frame (.ite (.ite h4.zoneGains.zoneProbe h4) h3.zoneAsk)

theorem State.Inv.agePoisonClear (h : s.Inv) : s.agePoisonClear.Inv := h.frame.setOn

theorem State.Inv.execAgePoisonClear (h : s.Inv) : Keeps (execAgePoisonClear s) := h.effect (·.agePoisonClear)

/-! ### Machine/Readback.lean -/

theorem State.Inv.claspFault {bit} (h : s.Inv) : (s.claspFault bit).Inv := .ite h h.setFld.raise

theorem State.Inv.chnProbe (h : s.Inv) : s.chnProbe.Inv := h.each (·.setReg)

theorem State.Inv.ageClear (h : s.Inv) : s.ageClear.Inv :=
  h.each fun h => h.each fun h => h.each (·.writeFlat)

theorem State.Inv.ageRepair {p a isTracked} (h : s.Inv) : (s.ageRepair p a isTracked).Inv :=
  h.frame.writeFlat.incSat.raise

theorem State.Inv.declare {stuck off} (h : s.Inv) : (s.declare stuck off).Inv :=
  .ite h.incSat.setReg h.incSat.setReg.frame.raise

theorem State.Inv.ageRead {p base mine} (h : s.Inv) : (s.ageRead p base mine).1.Inv := by
  unfold State.ageRead
  refine h.foldl_fst fun h => ?_
  split
  rename_i s1 _ e1
  have h1 := h.lineRead.of_eq e1
  exact .ite_fst h1.ageRepair h1

theorem State.Inv.ageEntry {p a v off r blanked} (h : s.Inv) : (s.ageEntry p a v off r blanked).1.Inv := by
  unfold State.ageEntry
  split
  · split
    · extract_lets s1 faulty s2 s3 due isle _ s4 _ s5
      have h1 : s1.Inv := h.writeFlat
      have h2 : s2.Inv := .ite h1.writeFlat h1
      have h3 : s3.Inv := .ite h2.declare h2
      have h4 : s4.Inv := h3.frame
      exact .ite h4.frame.raise h4

theorem State.Inv.ageUpdate {p part nic records blanked} (h : s.Inv) :
    (s.ageUpdate p part nic records blanked).1.Inv := by
  unfold State.ageUpdate
  extract_lets t mine
  refine h.foldl_fst fun h => ?_
  extract_lets line base
  split
  · exact h
  · split
    rename_i s1 _ e1
    have h1 := h.ageRead.of_eq e1
    refine h1.foldl_fst fun h => ?_
    extract_lets d ch r v
    split
    rename_i s2 _ e2
    exact h.ageEntry.of_eq e2

theorem State.Inv.glintPlan {p part due} (h : s.Inv) : (s.glintPlan p part due).Inv := by
  unfold State.glintPlan
  extract_lets x start order picked glint
  refine .ite h ?_
  split
  · exact h
  · exact h.setPort

theorem State.Inv.headroomFlags {p r} (h : s.Inv) : (s.headroomFlags p r).Inv := by
  unfold State.headroomFlags
  refine h.each fun h => ?_
  refine .ite ?_ h
  extract_lets cols low high l
  exact h.setLoop

theorem State.Inv.takeRecord {p d r} (h : s.Inv) : (s.takeRecord p d r).Inv := by
  unfold State.takeRecord
  extract_lets x key _ _ s1 s2 _ _ s3 s4 s5 s6
  have h1 : s1.Inv := h.frame
  have h2 : s2.Inv := .ite h1.setOn h1
  have h3 : s3.Inv := .ite h2.setPort.setOn.raise h2
  have h4 : s4.Inv := .ite h3 h3.setOn.raise
  have h5 : s5.Inv := .ite h4.setOn.raise h4
  have h6 : s6.Inv := .ite h5.claspFault h5
  exact .ite h6.headroomFlags h6

theorem State.Inv.capCheck {p part acc} (h : s.Inv) : (s.capCheck p part acc).Inv := by
  unfold State.capCheck
  extract_lets x past same s1 s2 _
  have h1 : s1.Inv := .ite h.claspFault h
  have h2 : s2.Inv := h1.whenDo (·.queueFrames)
  exact .ite h h2.setPort

theorem State.Inv.monitorTap {p acc monitor nic} (h : s.Inv) : (s.monitorTap p acc monitor nic).Inv :=
  .ite h (.ite h.frame (.ite h h.frame))

theorem State.Inv.bringUpStep {p part bad} (h : s.Inv) : (s.bringUpStep p part bad).Inv :=
  .ite h.bringUpFails (.ite h.sendRdbk h.setPort)

theorem State.Inv.readback {p records extra monitor} (h : s.Inv) :
    (s.readback p records extra monitor).Inv := by
  unfold State.readback
  extract_lets nic x acc lost up s1 silent s2 s3 s4 s5 s6 wrong miscur s7
  have h1 : s1.Inv := .ite h h.addSat.raise
  have h2 : s2.Inv := .ite h1.setOn h1
  have h3 : s3.Inv := .ite h2.raise h2
  have h4 : s4.Inv := .ite h3 h3.setOn.raise
  have h5 : s5.Inv := h4.each (·.takeRecord)
  have h6 : s6.Inv := by
    unfold s6
    split
    · exact h5
    · exact h5.setFld.setFld
  have h7 : s7.Inv := .ite (.ite h6.resync h6.raise) (.ite h6.queueFrames h6)
  split
  · exact h
  · refine .ite h ?_
    extract_lets s8 s9 y s10 s11 blanked s12
    have h8 : s8.Inv := h7.capCheck
    have h9 : s9.Inv := h8.monitorTap
    have h10 : s10.Inv := h9.setPort
    have h11 : s11.Inv := h10.chnProbe
    have h12 : s12.Inv := by
      unfold s12
      refine .ite ?_ h11
      split
      rename_i s12 _ e12
      have h12 := h11.ageUpdate.of_eq e12
      exact h12.glintPlan
    exact .ite h12 h12.bringUpStep

theorem State.Inv.execReadbackReceive {port records extra monitor} (h : s.Inv) :
    Keeps (execReadbackReceive port records extra monitor s) :=
  h.effect (·.readback)

/-! ### Machine/Adc.lean -/

theorem State.Inv.adcSync (h : s.Inv) : s.adcSync.Inv := h.setOn.setOn.setFld

theorem State.Inv.adcNext (h : s.Inv) : s.adcNext.Inv := by
  unfold State.adcNext
  split
  · exact h
  · extract_lets req captures runs w cal _
    split
    · exact h
    · exact h.frame

theorem State.Inv.adcSlot {i} (h : s.Inv) : (s.adcSlot i).Inv := h.frame

theorem State.Inv.adcBegin (h : s.Inv) : s.adcBegin.Inv := h.frame.adcSlot.adcNext.adcSync

theorem State.Inv.adcOver (h : s.Inv) : s.adcOver.Inv := .ite h.frame.adcBegin h.frame

theorem State.Inv.adcAbort (h : s.Inv) : s.adcAbort.Inv := by
  unfold State.adcAbort
  extract_lets _ s1 _
  have h1 : s1.Inv := h.frame
  exact .ite h1.adcSync (.ite h1.adcOver.adcSync h1.frame.adcSync)

theorem State.Inv.adcHalt (h : s.Inv) : s.adcHalt.Inv := h.frame.adcNext.adcSync

theorem State.Inv.adcTrigger (h : s.Inv) : s.adcTrigger.Inv :=
  .ite h (.ite h.adcBegin (.ite h.frame.adcSync (.ite h.frame.incSat.raise h.frame.incSat)))

theorem State.Inv.adcSource {src} (h : s.Inv) : (s.adcSource src).Inv := .ite h.adcTrigger h

theorem State.Inv.execAdcStart (h : s.Inv) : Keeps (execAdcStart s) := h.effect (·.adcTrigger)

theorem State.Inv.execAdcTimer (h : s.Inv) : Keeps (execAdcTimer s) := h.effect fun h => .ite h h.adcSource

theorem State.Inv.execAdcPinTrigger {rising} (h : s.Inv) : Keeps (execAdcPinTrigger rising s) :=
  h.effect fun h => .ite h.adcSource h

theorem State.Inv.adcDisable (h : s.Inv) : s.adcDisable.Inv := .adcAbort (h.each (·.setOn))

theorem State.Inv.execDiodeService (h : s.Inv) : Keeps (execDiodeService s) :=
  h.effect fun h => .ite h h.frame.adcNext

theorem State.Inv.adcWindows {slot val} (h : s.Inv) : (s.adcWindows slot val).Inv := by
  unfold State.adcWindows
  refine h.each fun h => ?_
  extract_lets lo hi hit rise s1
  have h1 : s1.Inv := h.setOn
  exact .ite h1.setOn.raise h1

theorem State.Inv.adcSlotEnd (h : s.Inv) : s.adcSlotEnd.Inv := by
  unfold State.adcSlotEnd
  extract_lets i n val mean s1 s2 s3 s4
  have h1 : s1.Inv := h.setFld
  have h2 : s2.Inv := h1.setFld.setOn.setOn
  have h3 : s3.Inv := h2.setOn
  have h4 : s4.Inv := h3.adcWindows
  exact .ite (.ite h4.adcOver h4.adcSlot) h4.setFld.adcOver

theorem State.Inv.adcResult {code ovr} (h : s.Inv) : (s.adcResult code ovr).Inv := by
  unfold State.adcResult
  extract_lets past _ w raw v s1
  have h1 : s1.Inv := h.frame
  split
  · exact h.frame
  · exact h.frame
  · exact .ite h1.adcSlotEnd h1

theorem State.Inv.adcOvr {ch} (h : s.Inv) : (s.adcOvr ch).Inv := .ite h.setReg h.setReg.frame.raise

theorem State.Inv.adcDone {code ovr} (h : s.Inv) : (s.adcDone code ovr).Inv := by
  unfold State.adcDone
  refine .ite h ?_
  extract_lets skip code past _ s1 s2 lost s3 _ s4
  have h1 : s1.Inv := h.frame
  have h2 : s2.Inv := .ite h1.adcOvr h1
  have h3 : s3.Inv := .ite h2.incSat (.ite h2 h2.adcResult)
  have h4 : s4.Inv := h3.frame
  exact .adcSync (.adcNext (.ite h4.adcOver h4))

theorem State.Inv.execAdcConversionDone {vin vref} (h : s.Inv) : Keeps (execAdcConversionDone vin vref s) :=
  h.effect (·.adcDone)

theorem State.Inv.scalBegin {full} (h : s.Inv) : (s.scalBegin full).Inv := h.frame.setOn.adcNext

theorem State.Inv.scalErr {ch} (h : s.Inv) : (s.scalErr ch).Inv := h.setOn.raise

theorem State.Inv.scalZero (h : s.Inv) : s.scalZero.Inv := .ite h h.scalBegin

theorem State.Inv.scalFull (h : s.Inv) : s.scalFull.Inv := .ite h (.ite h.scalBegin h.scalErr)

theorem State.Inv.scalOvr {ch n} (h : s.Inv) : (s.scalOvr ch n).Inv := .ite h h.adcOvr.addSat

theorem State.Inv.scalDone {sum ovr} (h : s.Inv) : (s.scalDone sum ovr).Inv := by
  unfold State.scalDone
  split
  · exact h
  · extract_lets mean bad ch s1 own skip s2 _ s3 s4 s5 r s6
    have h1 : s1.Inv := h.scalOvr
    have h2 : s2.Inv := .ite h1.incSat h1
    have h3 : s3.Inv := h2.frame.setOn
    have h4 : s4.Inv := h3.setFld
    have h5 : s5.Inv := h3.setFld
    have h6 : s6.Inv := by
      unfold s6
      refine .ite (.ite h4.setOn.scalErr h4.setOn) ?_
      split
      · exact h5.scalErr
      · exact h5.setFld.setFld.setOn
    exact .ite h6.adcOver.adcNext.adcSync h6.adcNext

theorem State.Inv.execScalZero (h : s.Inv) : Keeps (execScalZero s) := h.effect (·.scalZero)

theorem State.Inv.execScalFull (h : s.Inv) : Keeps (execScalFull s) := h.effect (·.scalFull)

theorem State.Inv.execScalCaptureDone {sum ovr} (h : s.Inv) : Keeps (execScalCaptureDone sum ovr s) :=
  h.effect (·.scalDone)

/-! ### Machine/Rows.lean -/

theorem State.Inv.sendWaiting {p next fuel room} (h : s.Inv) : (s.sendWaiting p next fuel room).Inv := by
  induction fuel generalizing s room with
  | zero => exact h
  | succ fuel ih =>
    unfold State.sendWaiting
    extract_lets l reqs
    split
    · exact h
    · split
      · exact h
      · exact ih h.setPort.sendOut

theorem State.Inv.deferFrames {p next} (h : s.Inv) : (s.deferFrames p next).Inv := .ite h h.setPort.defer

theorem State.Inv.rdbkDue {p row} (h : s.Inv) : (s.rdbkDue p row).Inv := .ite h.setPort.queueFrames h

theorem State.Inv.loadLate {k} (h : s.Inv) : (s.loadLate k).Inv := by
  unfold State.loadLate
  extract_lets late s1 _ s2
  have h1 : s1.Inv := h.loadDrop.raise
  have h2 : s2.Inv := h1.frame
  exact .ite (.ite h2.setOn.incSat h2) h

theorem State.Inv.slotEvents {row} (h : s.Inv) : (s.slotEvents row).Inv := by
  unfold State.slotEvents
  extract_lets t rows s1
  have h1 : s1.Inv := h.each fun h => .ite (.ite (h.loadLate.each fun h => .ite h h.frame) h.loadLate) h
  exact .ite h (h1.each fun h => .ite h.frame h)

theorem State.Inv.sendRow {p next} (h : s.Inv) : (s.sendRow p next).Inv := by
  unfold State.sendRow
  extract_lets fs s1
  have h1 : s1.Inv := h.usedFree.queueFrames
  exact h1.sendWaiting.deferFrames

theorem State.Inv.sendEdge {p} (h : s.Inv) : (s.sendEdge p).Inv := .setPort (h.each (·.frameCmd))

theorem State.Inv.rowStart {p row} (h : s.Inv) : (s.rowStart p row).Inv := by
  unfold State.rowStart
  extract_lets rows s1 x x s2 ahead s3 s4 x all s5 s6 next
  have h1 : s1.Inv := h.whenDo (·.sendEdge)
  have h2 : s2.Inv := h1.setPort
  have h3 : s3.Inv := .ite h2.sendRow h2
  have h4 : s4.Inv := h3.sendFrame
  have h5 : s5.Inv := h4.setPort
  have h6 : s6.Inv := h5.blankSync
  exact h6.rdbkDue.sendRow

theorem State.Inv.rowBoundary {p} (h : s.Inv) : (s.rowBoundary p).Inv := by
  unfold State.rowBoundary
  refine .ite h ?_
  extract_lets row s1 s2
  have h1 : s1.Inv := h.slotEvents
  have h2 : s2.Inv := .ite (.ite h1.adcSource h1) h
  exact .ite h h2.rowStart

theorem State.Inv.execRowBoundary {port} (h : s.Inv) : Keeps (execRowBoundary port s) :=
  h.effect (·.rowBoundary)

/-! ### Machine/Pmbus.lean -/

theorem State.Inv.setTxns {bus l} (h : s.Inv) : (s.setTxns bus l).Inv := h.frame

theorem State.Inv.pmbNext {bus} (h : s.Inv) : (s.pmbNext bus).Inv := by
  unfold State.pmbNext
  split
  · exact h
  · extract_lets due reqs _
    split
    · exact h
    · split
      · exact h
      · exact h.frame

theorem State.Inv.pmbAsk {n kind cls data} (h : s.Inv) : (s.pmbAsk n kind cls data).Inv := h.setTxns

theorem State.Inv.pmbDrop {n p} (h : s.Inv) : (s.pmbDrop n p).Inv := h.each (·.setTxns)

theorem State.Inv.pmbSet {n v} (h : s.Inv) : (s.pmbSet n v).Inv := .ite h h.pmbDrop.setFld.pmbAsk

theorem State.Inv.pmbReads {n} (h : s.Inv) : (s.pmbReads n).Inv :=
  h.pmbDrop.addSat.setLoop.pmbAsk.pmbAsk.pmbAsk

theorem State.Inv.loopShow {n} (h : s.Inv) : (s.loopShow n).Inv := h.setFld.setFld

theorem State.Inv.loopStart {n} (h : s.Inv) : (s.loopStart n).Inv := by
  unfold State.loopStart
  extract_lets i _ s1 held s2
  have h1 : s1.Inv := h.setLoop
  have h2 : s2.Inv := h1.pmbAsk
  exact .pmbReads (.ite h2 h2.pmbSet)

theorem State.Inv.loopRun {n} (h : s.Inv) : (s.loopRun n).Inv := by
  unfold State.loopRun
  extract_lets l i held ends tlim trim top last s1 v l' s2 s3
  have h1 : s1.Inv := .ite h.setOn.raise h
  have h2 : s2.Inv := h1.setLoop
  have h3 : s3.Inv := .ite h2 (.ite h2.pmbSet (.ite h2.pmbSet h2))
  exact .ite h3.pmbReads h3

theorem State.Inv.loopFrame {n} (h : s.Inv) : (s.loopFrame n).Inv := by
  unfold State.loopFrame
  extract_lets bad s1 en l _ s2
  have h1 : s1.Inv := h.setOn
  have h2 : s2.Inv := .ite (.ite h1.setLoop.pmbDrop h1) (.ite h1.loopRun (.ite h1.loopStart h1))
  exact h2.loopShow

theorem State.Inv.headroomFrame (h : s.Inv) : s.headroomFrame.Inv :=
  .pmbNext (.pmbNext (h.frame.each (·.loopFrame)))

theorem State.Inv.reading {v} (h : s.Inv) : (s.reading v).1.Inv := .ite_fst h h.usedFree

theorem State.Inv.pmbData {n kind v} (h : s.Inv) : (s.pmbData n kind v).Inv := by
  unfold State.pmbData
  split
  · extract_lets s1 f old _ s2 s3
    have h1 : s1.Inv := h.setFld
    have h2 : s2.Inv := h1.setLoop
    have h3 : s3.Inv := .ite h2 h2.setOn
    exact .ite h3.raise h3
  · split
    rename_i s1 _ e1
    have h1 := h.reading.of_eq e1
    extract_lets s2 set off twice _ s3
    have h2 : s2.Inv := h1.setFld
    have h3 : s3.Inv := h2.setLoop
    exact .ite h3.setOn.raise h3
  · split
    rename_i s1 _ e1
    have h1 := h.reading.of_eq e1
    exact h1.setFld
  · exact h

theorem State.Inv.pmbRound {n kind} (h : s.Inv) : (s.pmbRound n kind).Inv :=
  .ite h (.ite h.setLoop (.ite h.setLoop h.setLoop))

theorem State.Inv.pmbDone {bus o} (h : s.Inv) : (s.pmbDone bus o).Inv := by
  unfold State.pmbDone
  split
  · exact h
  · extract_lets _ s1 _ s2 _ s3 s4
    have h1 : s1.Inv := h.frame
    have h2 : s2.Inv := h1.setLoop
    have h3 : s3.Inv := h2.setLoop
    have h4 : s4.Inv := by
      unfold s4
      split
      · exact h1.pmbData.pmbRound
      · exact .ite h2 (.ite h2.setTxns h3.pmbDrop.setOn.raise)
    exact h4.pmbNext

theorem State.Inv.execPmbusTransactionDone {bus outcome} (h : s.Inv) :
    Keeps (execPmbusTransactionDone bus outcome s) :=
  h.effect (·.pmbDone)

theorem State.Inv.pmbRetry {n} (h : s.Inv) : (s.pmbRetry n).Inv := h.each (·.setTxns.pmbNext)

theorem State.Inv.execPmbusRetry {domain} (h : s.Inv) : Keeps (execPmbusRetry domain s) :=
  h.effect (·.pmbRetry)

/-! ### Machine/Clasp.lean -/

theorem State.Inv.claspSend {ports idx bytes} (h : s.Inv) : (s.claspSend ports idx bytes).Inv := h.frame

theorem State.Inv.claspBroadcast {type} (h : s.Inv) : (s.claspBroadcast type).Inv := h.claspSend.frame

theorem State.Inv.claspReq {level} (h : s.Inv) : (s.claspReq level).Inv := by
  unfold State.claspReq
  extract_lets q src body s1 _
  have h1 : s1.Inv := h.claspSend
  exact h1.frame

theorem State.Inv.setBit {f i b} (h : s.Inv) : (s.setBit f i b).Inv := h.setFld

theorem State.Inv.execClsInChange {line level} (h : s.Inv) : Keeps (execClsInChange line level s) :=
  h.effect (·.setBit)

theorem State.Inv.clsPrune (h : s.Inv) : s.clsPrune.Inv := h.each (·.frame.setFld)

theorem State.Inv.filterAccept {line} (h : s.Inv) : (s.filterAccept line).Inv := by
  unfold State.filterAccept
  extract_lets raw n s1 _ s2
  have h1 : s1.Inv := h.setBit
  have h2 : s2.Inv := h1.frame.clsPrune
  exact .ite h (.ite h2.claspFault h2)

theorem State.Inv.execClsFilterAccept {line} (h : s.Inv) : Keeps (execClsFilterAccept line s) :=
  h.effect (·.filterAccept)

theorem State.Inv.execDiscTimeout {pair} (h : s.Inv) : Keeps (execDiscTimeout pair s) :=
  h.effect fun h => .ite h.claspFault h

theorem State.Inv.curAll {urgent} (h : s.Inv) : (s.curAll urgent).Inv := h.each (·.queueFrames)

theorem State.Inv.sdkEnter (h : s.Inv) : s.sdkEnter.Inv := h.frame.blankOn.holdLoops

theorem State.Inv.sdkExit (h : s.Inv) : s.sdkExit.Inv := h.frame

theorem State.Inv.lceEnter (h : s.Inv) : s.lceEnter.Inv := .curAll (h.frame.each (·.setPort))

theorem State.Inv.claspEnter {st} (h : s.Inv) : (s.claspEnter st).Inv := by
  unfold State.claspEnter
  extract_lets unused sdk lce s1 _ s2
  have h1 : s1.Inv := .ite h (.ite h.sdkEnter h.sdkExit)
  have h2 : s2.Inv := .ite h1 (.ite h1.lceEnter h1.frame.curAll)
  exact h2.setFld.setFld

theorem State.Inv.archUpdate {release} (h : s.Inv) : (s.archUpdate release).Inv := by
  unfold State.archUpdate
  refine .ite h ?_
  extract_lets want old new _ s1
  have h1 : s1.Inv := h.frame
  exact .ite h1 h1.claspBroadcast

theorem State.Inv.archShow (h : s.Inv) : s.archShow.Inv := h.setFld.setFld.setFld

theorem State.Inv.reqUpdate (h : s.Inv) : s.reqUpdate.Inv := .ite h (.ite h h.frame.claspReq)

theorem State.Inv.reqResend (h : s.Inv) : s.reqResend.Inv :=
  .ite h (.ite h.claspReq (.ite h.frame.claspReq h))

theorem State.Inv.execReqResend (h : s.Inv) : Keeps (execReqResend s) := h.effect (·.reqResend)

theorem State.Inv.claspCycle {gclkActive} (h : s.Inv) : (s.claspCycle gclkActive).Inv := by
  unfold State.claspCycle
  extract_lets _ s1 s2 s3 d s4 s5 _
  have h1 : s1.Inv := h.frame.clsPrune
  have h2 : s2.Inv := .ite h1.claspFault h1
  have h3 : s3.Inv := h2.archUpdate.archShow.reqUpdate
  have h4 : s4.Inv := h3.setFld
  have h5 : s5.Inv := by
    unfold s5
    refine .ite ?_ h4.claspEnter
    split
    · exact h4.setOn.claspEnter
  exact h5.frame

theorem State.Inv.execClaspCycle {gclkActive} (h : s.Inv) : Keeps (execClaspCycle gclkActive s) :=
  h.effect (·.claspCycle)

theorem State.Inv.claspReset (h : s.Inv) : s.claspReset.Inv := by
  unfold State.claspReset
  extract_lets s1 st _ s2 s3 s4 s5 d _ s6
  have h1 : s1.Inv := h.clsPrune
  have h2 : s2.Inv := h1.frame
  have h3 : s3.Inv := h2.setFld.setOn.raise
  have h4 : s4.Inv := .ite h3.claspBroadcast h3
  have h5 : s5.Inv := h4.archUpdate.archShow
  have h6 : s6.Inv := h5.frame
  exact .ite h1.incSat h6.setFld.claspEnter

theorem State.Inv.claspDisarm (h : s.Inv) : s.claspDisarm.Inv := .ite h.setOn.setOn.claspEnter.frame.raise h

theorem State.Inv.clsKey {v} (h : s.Inv) : (s.clsKey v).Inv :=
  .ite h.frame.claspReset (.ite h.frame.claspDisarm h.frame)

theorem State.Inv.execClsKey {key} (h : s.Inv) : Keeps (execClsKey key s) := h.effect (·.clsKey)

theorem State.Inv.execKeyTimeout (h : s.Inv) : Keeps (execKeyTimeout s) := h.effect (·.frame)

theorem State.Inv.loadLk {c} (h : s.Inv) : (s.loadLk c).Inv := h.setReg.setReg.setReg.setReg.setReg

theorem State.Inv.claspArm (h : s.Inv) : s.claspArm.Inv := by
  unfold State.claspArm
  extract_lets c _ s1 bad ok s2 start _ s3 s4 s5
  have h1 : s1.Inv := h.frame
  have h2 : s2.Inv := .ite h1.loadLk h1
  have h3 : s3.Inv := h2.frame
  have h4 : s4.Inv := h2.claspEnter.setOn
  have h5 : s5.Inv := h4.setFld
  exact .ite h3.setOn.setOn.claspEnter.raise h5.raise

theorem State.Inv.arm (h : s.Inv) : s.arm.Inv := .ite h.claspArm h

theorem State.Inv.execArm (h : s.Inv) : Keeps (execArm s) := h.effect (·.arm)

theorem State.Inv.claspApply (h : s.Inv) : s.claspApply.Inv := .ite h (.ite h.claspArm h.claspEnter)

theorem State.Inv.execSdkReq {on} (h : s.Inv) : Keeps (execSdkReq on s) := h.effect (·.setOn)

theorem State.Inv.offPulse {lineB read} (h : s.Inv) : (s.offPulse lineB read).Inv := by
  unfold State.offPulse
  refine .ite h ?_
  extract_lets _ s1
  have h1 : s1.Inv := .ite h.frame h.frame
  exact .ite h1 h1.claspFault

theorem State.Inv.execOffPulseTest {lineB readback} (h : s.Inv) : Keeps (execOffPulseTest lineB readback s) :=
  h.effect (·.offPulse)

theorem State.Inv.readbackCheck {a b} (h : s.Inv) : (s.readbackCheck a b).Inv :=
  .ite h.frame h.frame.claspFault

theorem State.Inv.execOutputReadbackCheck {a b} (h : s.Inv) : Keeps (execOutputReadbackCheck a b s) :=
  h.effect (·.readbackCheck)

theorem State.Inv.selfTest {ok} (h : s.Inv) : (s.selfTest ok).Inv := by
  unfold State.selfTest
  extract_lets _ s1 s2
  have h1 : s1.Inv := h.frame
  have h2 : s2.Inv := .ite h1.claspFault h1
  exact .ite h2 h2.claspFault

theorem State.Inv.execSelfTest {logicOk} (h : s.Inv) : Keeps (execSelfTest logicOk s) := h.effect (·.selfTest)

theorem State.Inv.execClsClockCheck {clsCycles} (h : s.Inv) : Keeps (execClsClockCheck clsCycles s) :=
  h.effect fun h => .ite h.claspFault h

theorem State.Inv.execClaspWatchdogExpiry (h : s.Inv) : Keeps (execClaspWatchdogExpiry s) :=
  h.effect (·.claspFault)

theorem State.Inv.execHeartbeatSend (h : s.Inv) : Keeps (execHeartbeatSend s) :=
  h.effect fun h => .ite h.claspBroadcast h

theorem State.Inv.heartbeatTimeout (h : s.Inv) : s.heartbeatTimeout.Inv := .ite h h.frame.setOn.incSat.raise

theorem State.Inv.execHeartbeatTimeout (h : s.Inv) : Keeps (execHeartbeatTimeout s) :=
  h.effect (·.heartbeatTimeout)

theorem State.Inv.hbBroken {f} (h : s.Inv) : (s.hbBroken f).Inv := h.frame.incSat

theorem State.Inv.hbAccept {level} (h : s.Inv) : (s.hbAccept level).Inv := h.frame.setOn

theorem State.Inv.claspDown {bytes} (h : s.Inv) : (s.claspDown bytes).Inv := by
  unfold State.claspDown
  refine .ite h ?_
  extract_lets type n q good d taken _ s1
  have h1 : s1.Inv := h.frame
  exact .ite h.hbBroken (.ite h.hbBroken (.ite (.ite h1.claspReset h1) h1.hbAccept))

theorem State.Inv.claspArrive {port bytes} (h : s.Inv) : (s.claspArrive port bytes).Inv := by
  unfold State.claspArrive
  extract_lets type s1 src q good _
  have h1 : s1.Inv := h.claspSend
  exact .ite (.ite h1 h1.claspDown) (.ite (.ite h h.incSat) (.ite h.claspSend (.ite h (.ite h.incSat
    (.ite h h.frame.archShow)))))

theorem State.Inv.claspFrameStart (h : s.Inv) : s.claspFrameStart.Inv := by
  unfold State.claspFrameStart
  extract_lets _ _ s1
  have h1 : s1.Inv := by
    unfold s1
    split
    · exact h.frame
    · exact h.frame.blankOff
    · exact h
  exact .ite h1 (h1.each fun h => .ite h.setPort.claspFault h.setPort)

/-! ### Machine/Link.lean -/

theorem State.Inv.setLink {p x} (h : s.Inv) : (s.setLink p x).Inv := h.frame

theorem State.Inv.linkShow {p} (h : s.Inv) : (s.linkShow p).Inv := .ite h.setFld.setFld h

theorem State.Inv.emit {k positive l} (h : s.Inv) : (s.emit k positive l).Inv := h.frame

theorem State.Inv.sendSyms {p w l} (h : s.Inv) : (s.sendSyms p w l).Inv := h.each (·.emit)

theorem State.Inv.resendSyms {p w l} (h : s.Inv) : (s.resendSyms p w l).Inv := h.each (·.emit)

theorem State.Inv.sendEach {p lanes f} (h : s.Inv) : (s.sendEach p lanes f).Inv := h.each (·.emit)

theorem State.Inv.hears {k known l} (h : s.Inv) : (s.hears k known l).Inv := h.frame

theorem State.Inv.hearSyms {p w l} (h : s.Inv) : (s.hearSyms p w l).Inv := h.each (·.hears)

theorem State.Inv.hearGroup {p rx} (h : s.Inv) : (s.hearGroup p rx).1.Inv := h.frame

theorem State.Inv.txSyms {p} (h : s.Inv) : (s.txSyms p).Inv := by
  unfold State.txSyms
  split
  · exact h
  · exact h.sendSyms

theorem State.Inv.txAgain {p} (h : s.Inv) : (s.txAgain p).Inv := by
  unfold State.txAgain
  split
  · exact h
  · exact h.resendSyms

theorem State.Inv.drains {q bytes} (h : s.Inv) : (s.drains q bytes).Inv := h.frame

theorem State.Inv.upSwitch {dst cycle} (h : s.Inv) : (s.upSwitch dst cycle).Inv := by
  unfold State.upSwitch
  extract_lets old s1 queues tx _ s2 s3
  have h1 : s1.Inv := .ite h (h.each (·.drains))
  have h2 : s2.Inv := h1.frame
  have h3 : s3.Inv := h2.each (·.txAgain)
  exact h3.setFld.incSat

theorem State.Inv.upTrigger (h : s.Inv) : s.upTrigger.Inv := by
  unfold State.upTrigger
  split
  · exact h
  · refine .ite ?_ h
    extract_lets other s1
    have h1 : s1.Inv := h.setOn.raise
    exact .ite h.upSwitch.setOn.raise (.ite h1 h1.setFld)

theorem State.Inv.upJudge {p} (h : s.Inv) : (s.upJudge p).Inv := by
  unfold State.upJudge
  refine .ite h ?_
  extract_lets x was is s1 _ s2
  have h1 : s1.Inv := h.setOn
  have h2 : s2.Inv := .ite h1.frame h1
  exact .ite h (.ite (.ite h1.setFld h1) (.ite h2.upTrigger h2))

theorem State.Inv.videoTimeout (h : s.Inv) : s.videoTimeout.Inv := .ite h.upTrigger h

theorem State.Inv.execVideoTimeout (h : s.Inv) : Keeps (execVideoTimeout s) := h.effect (·.videoTimeout)

theorem State.Inv.revertHold (h : s.Inv) : s.revertHold.Inv := .ite h.frame h

theorem State.Inv.execRevertHoldExpiry (h : s.Inv) : Keeps (execRevertHoldExpiry s) := h.effect (·.revertHold)

theorem State.Inv.foSwitch (h : s.Inv) : s.foSwitch.Inv := by
  unfold State.foSwitch
  split
  · exact h
  · exact .ite h.upSwitch h

theorem State.Inv.execFoSwitch (h : s.Inv) : Keeps (execFoSwitch s) := h.effect (·.foSwitch)

theorem State.Inv.timeHold (h : s.Inv) : s.timeHold.Inv := .ite h h.frame.setFld.raise

theorem State.Inv.linkDown {p} (h : s.Inv) : (s.linkDown p).Inv := by
  unfold State.linkDown
  extract_lets _ s1 s2 _ s3 q s4
  have h1 : s1.Inv := h.frame
  have h2 : s2.Inv := h1.incSat.raise.setOn
  have h3 : s3.Inv := .ite h2.frame h2
  have h4 : s4.Inv := h1.incSat.raise
  exact .ite (.ite h3.upTrigger h3) (.ite h4.timeHold h4)

theorem State.Inv.linkUp {p} (h : s.Inv) : (s.linkUp p).Inv :=
  .ite (.upJudge (.ite h.raise.setOn.raise h.raise.setOn)) (.ite h.raise
    (.ite h.raise.frame.raise h.raise.frame))

theorem State.Inv.lanesUntried {p} (h : s.Inv) : (s.lanesUntried p).Inv := h.frame

theorem State.Inv.lanesDeaf {p} (h : s.Inv) : (s.lanesDeaf p).Inv := h.each (·.hears)

theorem State.Inv.linkGo {p st} (h : s.Inv) : (s.linkGo p st).Inv := by
  unfold State.linkGo
  extract_lets old x s1 s2 _ fresh
  have h1 : s1.Inv := h.setFld
  have h2 : s2.Inv := .ite h1.linkDown h1
  split
  · exact h2.setLink.lanesDeaf.linkShow
  · exact h2.setLink.lanesDeaf.lanesUntried.linkShow
  · exact h2.setLink
  · exact h2.setLink
  · exact h2.setLink.linkUp
  · exact h2

theorem State.Inv.linkTrain {p rate attempt} (h : s.Inv) : (s.linkTrain p rate attempt).Inv :=
  h.setFld.setLink.linkGo

theorem State.Inv.linkCheck {p} (h : s.Inv) : (s.linkCheck p).Inv := by
  unfold State.linkCheck
  extract_lets s1 _ s2
  have h1 : s1.Inv := .ite h h.linkGo
  have h2 : s2.Inv := h1.setLink
  exact .ite h1 (.ite h2.setFld h2)

theorem State.Inv.linkCheckAll (h : s.Inv) : s.linkCheckAll.Inv := h.each (·.linkCheck)

theorem State.Inv.receiverDetect {p lanes} (h : s.Inv) : (s.receiverDetect p lanes).Inv :=
  .ite h.setLink.linkTrain h

theorem State.Inv.execReceiverDetect {port lanes} (h : s.Inv) : Keeps (execReceiverDetect port lanes s) :=
  h.effect (·.receiverDetect)

theorem State.Inv.linkTimeout {p} (h : s.Inv) : (s.linkTimeout p).Inv :=
  .ite (.linkGo (.ite (.ite h.setBit (.ite h.setLink h)) h)) h

theorem State.Inv.execLinkStateTimeout {port} (h : s.Inv) : Keeps (execLinkStateTimeout port s) :=
  h.effect (·.linkTimeout)

theorem State.Inv.execRoleHoldoffEnd {port} (h : s.Inv) : Keeps (execRoleHoldoffEnd port s) :=
  h.effect (·.setLink)

theorem State.Inv.linkRetrain {p} (h : s.Inv) : (s.linkRetrain p).Inv := .ite h.linkTrain h

theorem State.Inv.execRetrain {port} (h : s.Inv) : Keeps (execRetrain port s) := h.effect (·.linkRetrain)

theorem State.Inv.execClrfail {port} (h : s.Inv) : Keeps (execClrfail port s) := h.effect (·.setFld)

theorem State.Inv.linkAdapted {p} (h : s.Inv) : (s.linkAdapted p).Inv := .ite h.linkGo h

theorem State.Inv.fixWidth {p} (h : s.Inv) : (s.fixWidth p).Inv := .ite h (.ite h.setLink.setFld h.setLink)

theorem State.Inv.lockAdvance {p} (h : s.Inv) : (s.lockAdvance p).Inv := by
  unfold State.lockAdvance
  refine .ite h ?_
  extract_lets x all s1 x
  have h1 : s1.Inv := .ite h.fixWidth h
  exact .ite h1.linkGo h1

theorem State.Inv.widthTimeout {p} (h : s.Inv) : (s.widthTimeout p).Inv := .ite h.fixWidth.lockAdvance h

theorem State.Inv.execLaneWidthTimeout {port} (h : s.Inv) : Keeps (execLaneWidthTimeout port s) :=
  h.effect (·.widthTimeout)

theorem State.Inv.hearSet {p n t} (h : s.Inv) : (s.hearSet p n t).Inv := h.hears

theorem State.Inv.ts1 {p n t} (h : s.Inv) : (s.ts1 p n t).Inv :=
  .ite h.hearSet.setLink.linkShow.lockAdvance h.hearSet

theorem State.Inv.execTs1Receive {port lane ts} (h : s.Inv) : Keeps (execTs1Receive port lane ts s) :=
  h.effect (·.ts1)

theorem State.Inv.capsAdvance {p} (h : s.Inv) : (s.capsAdvance p).Inv := .ite h.linkGo h

theorem State.Inv.linkPeer {p v} (h : s.Inv) : (s.linkPeer p v).Inv :=
  .ite h.setFld.setFld.setFld.setFld.setFld h.setFld

theorem State.Inv.takeCaps {p v} (h : s.Inv) : (s.takeCaps p v).Inv := by
  unfold State.takeCaps
  extract_lets s1 role s2 _ rate x w s3
  have h1 : s1.Inv := h.linkPeer
  have h2 : s2.Inv := .ite h1.setOn.raise h1.setOn.raise
  have h3 : s3.Inv := h1.setLink
  exact .ite h2.setLink.linkGo (.ite h1.linkTrain (.ite h3.setFld h3))

theorem State.Inv.ts2 {p n t} (h : s.Inv) : (s.ts2 p n t).Inv := by
  unfold State.ts2
  extract_lets s1 v good _ again s2
  have h1 : s1.Inv := h.hearSet
  have h2 : s2.Inv := h1.setLink
  exact .ite h1 (.ite h1.setLink (.capsAdvance (.ite h2.takeCaps h2)))

theorem State.Inv.execTs2Receive {port lane ts} (h : s.Inv) : Keeps (execTs2Receive port lane ts s) :=
  h.effect (·.ts2)

theorem State.Inv.alignCheck {p} (h : s.Inv) : (s.alignCheck p).Inv := by
  unfold State.alignCheck
  extract_lets x heads order ps s1
  have h1 : s1.Inv := .ite h.setOn h
  refine .ite h ?_
  split
  · exact h
  · exact .ite (.linkGo (.ite h1.setOn h1)) (.ite h1.setOn h1)

theorem State.Inv.headerIn {p n x1} (h : s.Inv) : (s.headerIn p n x1).Inv := by
  unfold State.headerIn
  extract_lets s1 valid x
  have h1 : s1.Inv := h.hears
  refine .ite h1 ?_
  split
  · extract_lets l x x s2 s3 s4 s5
    have h2 : s2.Inv := h1.setLink.linkShow
    have h3 : s3.Inv := .ite h2.incSat h2
    have h4 : s4.Inv := .ite h3.linkGo h3
    have h5 : s5.Inv := h4.alignCheck
    exact .ite h5.upJudge h5

theorem State.Inv.trainOut {p} (h : s.Inv) : (s.trainOut p).Inv := h.sendEach.setLink

theorem State.Inv.headerOut {p} (h : s.Inv) : (s.headerOut p).Inv := by
  unfold State.headerOut
  extract_lets x caps s1 x
  have h1 : s1.Inv := h.sendEach
  exact h1.setLink.capsAdvance

theorem State.Inv.skp {p n fill} (h : s.Inv) : (s.skp p n fill).Inv := by
  unfold State.skp
  extract_lets x f s1 _ s2 i _
  have h1 : s1.Inv := h.hears
  have h2 : s2.Inv := h1.setLink
  split
  · exact h2
  · exact h2.frame.setFld

theorem State.Inv.execSkpReceive {port lane fill} (h : s.Inv) : Keeps (execSkpReceive port lane fill s) :=
  h.effect (·.skp)

theorem State.Inv.codeError {p rx} (h : s.Inv) : (s.codeError p rx).Inv := by
  unfold State.codeError
  split
  rename_i s1 _ e1
  have h1 := h.hearGroup.of_eq e1
  exact h1.whenDo (·.incSat)

theorem State.Inv.execCodeError {port rx} (h : s.Inv) : Keeps (execCodeError port rx s) :=
  h.effect (·.codeError)

theorem State.Inv.execElasticBufferSlip {port lane} (h : s.Inv) : Keeps (execElasticBufferSlip port lane s) :=
  h.effect (·.hears.incSat)

/-! ### Machine/Packets.lean -/

theorem State.Inv.enqueue {q x} (h : s.Inv) : (s.enqueue q x).Inv := h.frame

theorem State.Inv.dropEvent {p} (h : s.Inv) : (s.dropEvent p).Inv := .ite h h.frame.raise

theorem State.Inv.forward {src dst age x} (h : s.Inv) : (s.forward src dst age x).Inv := by
  unfold State.forward
  extract_lets q
  exact .ite h.enqueue h.incSat.dropEvent

theorem State.Inv.forwardAll {p age dsts control good bytes} (h : s.Inv) :
    (s.forwardAll p age dsts control good bytes).Inv :=
  h.each fun h => .ite h.forward (.ite h.forward h)

theorem State.Inv.toSlots {p ports v} (h : s.Inv) : (s.toSlots p ports v).Inv := by
  unfold State.toSlots
  refine h.each fun h => ?_
  split
  · exact h
  · exact .ite h.incSat h.inputPacket

theorem State.Inv.badEnd {p e} (h : s.Inv) : (s.badEnd p e).Inv := by
  unfold State.badEnd
  split
  · exact h
  · exact h.incSat
  · exact h.codeError.incSat

theorem State.Inv.hearPacket {p w start bytes e} (h : s.Inv) : (s.hearPacket p w start bytes e).Inv :=
  h.hearSyms

theorem State.Inv.writerTake {p} (h : s.Inv) : (s.writerTake p).Inv := by
  unfold State.writerTake
  split
  · exact h
  · exact .ite h.frame.drains.toSlots h

theorem State.Inv.writerTakeAll (h : s.Inv) : s.writerTakeAll.Inv := h.each fun h => h.each (·.writerTake)

theorem State.Inv.rxDropped {p f} (h : s.Inv) : (s.rxDropped p f).Inv := h.incSat.dropEvent

theorem State.Inv.rxEnter {p ports v} (h : s.Inv) : (s.rxEnter p ports v).Inv := .ite h h.frame.writerTakeAll

theorem State.Inv.revertAt {p v} (h : s.Inv) : (s.revertAt p v).Inv := .ite h.upSwitch h

theorem State.Inv.videoIn {p v} (h : s.Inv) : (s.videoIn p v).Inv := by
  unfold State.videoIn
  refine .ite h.incSat ?_
  extract_lets s1 part good here room s2 _ s3 s4
  have h1 : s1.Inv := h.revertAt.writerTakeAll
  have h2 : s2.Inv := .ite h1.rxDropped h1
  have h3 : s3.Inv := .ite h2 h2.frame
  have h4 : s4.Inv := .ite h2.badEnd (.ite h2.incSat (.ite h2.incSat (.ite h3.rxEnter h3)))
  split
  · exact h4.forwardAll

theorem State.Inv.video {p v} (h : s.Inv) : (s.video p v).Inv := .ite h.hearPacket.videoIn h

theorem State.Inv.execVideoPacketReceive {port pkt} (h : s.Inv) : Keeps (execVideoPacketReceive port pkt s) :=
  h.effect (·.video)

theorem State.Inv.weandiSelect {p} (h : s.Inv) : (s.weandiSelect p).Inv := by
  unfold State.weandiSelect
  refine .ite h ?_
  extract_lets qs reqs ptrs _
  split
  · exact h.frame
  · split
    · exact h
    · exact h.drains.frame.txSyms

theorem State.Inv.monBegin {k} (h : s.Inv) : (s.monBegin k).Inv := by
  unfold State.monBegin
  refine .ite h ?_
  extract_lets _ s1 b _
  have h1 : s1.Inv := h.frame
  split
  · exact h1
  · exact h1.frame.setFld

theorem State.Inv.monEnd {k} (h : s.Inv) : (s.monEnd k).Inv := h.frame.setFld

theorem State.Inv.monAdvance {k m} (h : s.Inv) : (s.monAdvance k m).Inv := .ite h.frame h.monEnd

theorem State.Inv.monSend {k} (h : s.Inv) : (s.monSend k).Inv := by
  unfold State.monSend
  extract_lets s1
  have h1 : s1.Inv := h.monBegin
  split
  · exact h1
  · split
    · exact h1.monEnd
    · extract_lets m q base len
      refine .ite h1.monAdvance (.ite h1 ?_)
      split
      rename_i s2 _ e2
      have h2 := h1.readLines.of_eq e2
      exact h2.enqueue.monAdvance

theorem State.Inv.execMonitorPacketSend {feed} (h : s.Inv) : Keeps (execMonitorPacketSend feed s) :=
  h.effect (·.monSend)

theorem State.Inv.monAbandon (h : s.Inv) : s.monAbandon.Inv := h.each (·.monEnd)

theorem State.Inv.setRequester {f q} (h : s.Inv) : (s.setRequester f q).Inv := by
  unfold State.setRequester
  extract_lets _ _ s1 s2 s3
  have h1 : s1.Inv := .ite h.frame h.frame
  have h2 : s2.Inv := h1.setOn.setOn.setFld
  have h3 : s3.Inv := h2.setFld
  split
  · exact h3.setOn.setFld.setFld.setFld.setFld
  · exact h3.setOn.setFld.setFld.setFld.setFld

theorem State.Inv.reqNext {f up} (h : s.Inv) : (s.reqNext f up).1.Inv := by
  unfold State.reqNext
  extract_lets q
  split
  · exact h.setRequester.setOn
  · refine .ite_fst h.setRequester.setOn (.ite_fst h.setRequester.setOn ?_)
    split
    · exact h.setRequester.setOn
    · exact h.setRequester.setOn.setOn.setFld

theorem State.Inv.reqAnswer {f r} (h : s.Inv) : (s.reqAnswer f r).Inv := by
  unfold State.reqAnswer
  extract_lets q
  split
  · exact h.setRequester
  · exact h.incSat.raise
  · exact h.incSat

theorem State.Inv.reqTimeout {f t} (h : s.Inv) : (s.reqTimeout f t).Inv := by
  unfold State.reqTimeout
  extract_lets q
  refine .ite ?_ h
  split
  · exact h.setRequester

theorem State.Inv.reqFree {f t} (h : s.Inv) : (s.reqFree f t).Inv := .ite h.setRequester h

theorem State.Inv.reqRead {f} (h : s.Inv) : (s.reqRead f).Inv := by
  unfold State.reqRead
  extract_lets q
  split
  · exact h
  · exact .setRequester (h.each (·.setReg))

theorem State.Inv.ctlAnswer {p x1 status ws} (h : s.Inv) : (s.ctlAnswer p x1 status ws).Inv := h.enqueue

theorem State.Inv.lnkRead {p x1} (h : s.Inv) : (s.lnkRead p x1).Inv :=
  .ite (.ctlAnswer (h.each (·.raise))) h.ctlAnswer

theorem State.Inv.lnkWrite {p x1 ws} (h : s.Inv) : (s.lnkWrite p x1 ws).Inv := by
  unfold State.lnkWrite
  extract_lets a n s1 s2
  have h1 : s1.Inv := h.each (·.setReg)
  have h2 : s2.Inv := h1.setOn.setFld.setFld
  exact .ite h.ctlAnswer (.ite h.ctlAnswer h2.raise.ctlAnswer)

theorem State.Inv.cmNext (h : s.Inv) : s.cmNext.Inv := by
  unfold State.cmNext
  split
  rename_i s1 _ e1
  have h1 := h.reqNext.of_eq e1
  split
  · exact h1
  · exact .ite h1.enqueue h.setRequester

theorem State.Inv.cmSend (h : s.Inv) : s.cmSend.Inv := .ite h h.frame.cmNext

theorem State.Inv.execCmSend (h : s.Inv) : Keeps (execCmSend s) := h.effect (·.cmSend)

theorem State.Inv.execCmTimeout {tag} (h : s.Inv) : Keeps (execCmTimeout tag s) :=
  h.effect (·.reqTimeout.cmNext)

theorem State.Inv.execCmRspRead (h : s.Inv) : Keeps (execCmRspRead s) := h.effect (·.reqRead.cmNext)

theorem State.Inv.cmAnswer {x1 ws} (h : s.Inv) : (s.cmAnswer x1 ws).Inv := h.reqAnswer.cmNext

theorem State.Inv.ctlServe {p c} (h : s.Inv) : (s.ctlServe p c).Inv := by
  unfold State.ctlServe
  split
  · exact h.lnkRead
  · exact h.lnkWrite
  · exact h.cmAnswer
  · exact h.cmAnswer

theorem State.Inv.ctlTake {p} (h : s.Inv) : (s.ctlTake p).Inv := by
  unfold State.ctlTake
  split
  · exact h
  · exact .ite h.frame.drains.ctlServe h

theorem State.Inv.ctlTakeAll {p} (h : s.Inv) : (s.ctlTakeAll p).Inv := h.each (·.ctlTake)

theorem State.Inv.ctlGoOn {p} (h : s.Inv) : (s.ctlGoOn p).Inv := h.ctlTakeAll.cmNext

theorem State.Inv.controlIn {p c} (h : s.Inv) : (s.controlIn p c).Inv := by
  unfold State.controlIn
  refine .ite h.incSat ?_
  extract_lets good mine part s1 _
  have h1 : s1.Inv := .ite h.badEnd (.ite h.incSat (.ite h.incSat h))
  exact .ite (.ite h1.rxDropped (.ite h1.frame.ctlTakeAll h1)) h1.forwardAll

theorem State.Inv.control {op p c} (h : s.Inv) : (s.control op p c).Inv := .ite h.hearPacket.controlIn h

theorem State.Inv.execLnkRd {port pkt} (h : s.Inv) : Keeps (execLnkRd port pkt s) := h.effect (·.control)

theorem State.Inv.execLnkWr {port pkt} (h : s.Inv) : Keeps (execLnkWr port pkt s) := h.effect (·.control)

theorem State.Inv.execLnkRdr {port pkt} (h : s.Inv) : Keeps (execLnkRdr port pkt s) := h.effect (·.control)

theorem State.Inv.execLnkWrr {port pkt} (h : s.Inv) : Keeps (execLnkWrr port pkt s) := h.effect (·.control)

theorem State.Inv.execLnkInvalidControl {port} (h : s.Inv) : Keeps (execLnkInvalidControl port s) :=
  h.effect fun h => .ite h.lanesDeaf.incSat h.lanesDeaf

/-! ### Machine/Genlock.lean -/

theorem State.Inv.refLocks (h : s.Inv) : s.refLocks.Inv := h.frame.setFld.setOn.raise

theorem State.Inv.refPeriod {p ok} (h : s.Inv) : (s.refPeriod p ok).Inv := by
  unfold State.refPeriod
  extract_lets good poor _ s1 l _ s2
  have h1 : s1.Inv := h.frame
  have h2 : s2.Inv := .ite h1.frame.setFld h1.incSat
  exact .ite (.ite h2.setFld.setOn.setOn.raise h2) (.ite h2.refLocks h2)

theorem State.Inv.acquire {clear} (h : s.Inv) : (s.acquire clear).Inv :=
  .ite h.frame.setFld.setOn.setFld h.frame.setFld.setOn

theorem State.Inv.genlockEdge {rising p} (h : s.Inv) : (s.genlockEdge rising p).Inv :=
  .ite (.refPeriod (.frame (.ite h.frame h))) (.ite h.frame h)

theorem State.Inv.execGenlockEdge {rising refCycles} (h : s.Inv) :
    Keeps (execGenlockEdge rising refCycles s) :=
  h.effect (·.genlockEdge)

theorem State.Inv.virtualInstant (h : s.Inv) : s.virtualInstant.Inv := .ite h.frame.refPeriod h

theorem State.Inv.execGenlockVirtualInstant (h : s.Inv) : Keeps (execGenlockVirtualInstant s) :=
  h.effect (·.virtualInstant)

theorem State.Inv.refMessage {t} (h : s.Inv) : (s.refMessage t).Inv := .ite h.frame.refPeriod h

/-! ### Machine/Spine.lean -/

theorem State.Inv.spnPut {p idx f} (h : s.Inv) : (s.spnPut p idx f).Inv := h.frame

theorem State.Inv.spnUnstall {p c} (h : s.Inv) : (s.spnUnstall p c).Inv := by
  unfold State.spnUnstall
  extract_lets k
  refine h.each fun h => ?_
  split
  · exact h
  · exact .ite h.frame.spnPut h

theorem State.Inv.spnSend {p idx f} (h : s.Inv) : (s.spnSend p idx f).Inv := by
  unfold State.spnSend
  refine .ite h.frame.spnUnstall (.ite h.spnPut ?_)
  extract_lets s1 _ s2 quiet _
  have h1 : s1.Inv := h.incSat
  have h2 : s2.Inv := .ite h1.fltFrame h1
  exact .ite h2 h2.frame.raise

theorem State.Inv.spnCopy {idx f} (h : s.Inv) : (s.spnCopy idx f).Inv := h.each (·.spnSend)

theorem State.Inv.spineSelect {p} (h : s.Inv) : (s.spineSelect p).Inv := by
  unfold State.spineSelect
  refine .ite h ?_
  extract_lets ptrs mine _ _ q
  split
  · split
    · exact h
    · exact h.frame.sendSyms
  · split
    · exact h.frame
    · split
      · exact h
      · exact h.frame.sendSyms.spnUnstall

theorem State.Inv.execPacketSelect {port} (h : s.Inv) : Keeps (execPacketSelect port s) :=
  h.effect fun h => .ite h.weandiSelect.ctlGoOn h.spineSelect

theorem State.Inv.spnUnicast {idx f} (h : s.Inv) : (s.spnUnicast idx f).1.Inv := by
  unfold State.spnUnicast
  split
  · exact h
  · exact h.spnSend
  · extract_lets s1 a
    have h1 : s1.Inv := h.incSat
    refine .ite_fst ?_ h1
    split
    · dsimp only
      exact h1.spnSend
    · exact h1

theorem State.Inv.spnRoute {idx f} (h : s.Inv) : (s.spnRoute idx f).1.Inv := by
  unfold State.spnRoute
  split
  · exact h.spnUnicast
  · exact .ite_fst h h.spnSend
  · exact .ite_fst h.incSat h.spnCopy

theorem State.Inv.spnArrive {type p f g} (h : s.Inv) (hg : ∀ {t}, t.Inv → (g t).Inv) :
    (s.spnArrive type p f g).Inv :=
  .ite h (.ite h.hearPacket.incSat (.ite h.hearPacket.incSat (hg h.hearPacket)))

theorem State.Inv.execSpnInvalidFrame {port crcFailed} (h : s.Inv) :
    Keeps (execSpnInvalidFrame port crcFailed s) :=
  h.effect fun h => .ite h h.lanesDeaf.incSat

theorem State.Inv.claspTyped {type port bytes ending} (h : s.Inv) :
    (s.claspTyped type port bytes ending).Inv := by
  unfold State.claspTyped
  refine .ite h ?_
  extract_lets s1
  have h1 : s1.Inv := h.hearPacket
  split
  · exact h1.claspArrive
  · exact h1.incSat
  · exact h1.codeError.incSat

theorem State.Inv.execHb {port bytes ending} (h : s.Inv) : Keeps (execHb port bytes ending s) :=
  h.effect (·.claspTyped)

theorem State.Inv.execCmd {port bytes ending} (h : s.Inv) : Keeps (execCmd port bytes ending s) :=
  h.effect (·.claspTyped)

theorem State.Inv.execReq {port bytes ending} (h : s.Inv) : Keeps (execReq port bytes ending s) :=
  h.effect (·.claspTyped)

theorem State.Inv.execRst {port bytes ending} (h : s.Inv) : Keeps (execRst port bytes ending s) :=
  h.effect (·.claspTyped)

theorem State.Inv.timeTick (h : s.Inv) : s.timeTick.Inv := h.frame

theorem State.Inv.tsetWrite {hi} (h : s.Inv) : (s.tsetWrite hi).Inv := .ite h.setReg.frame h.setReg

theorem State.Inv.execTsetWrite {hi} (h : s.Inv) : Keeps (execTsetWrite hi s) := h.effect (·.tsetWrite)

theorem State.Inv.timeLoRead {r} (h : s.Inv) : (s.timeLoRead r).Inv := h.frame

theorem State.Inv.execTimeLoRead {requester} (h : s.Inv) : Keeps (execTimeLoRead requester s) :=
  h.effect (·.timeLoRead)

theorem State.Inv.execTimeHoldTimeout (h : s.Inv) : Keeps (execTimeHoldTimeout s) := h.effect (·.timeHold)

theorem State.Inv.timeSend {p seq t1} (h : s.Inv) : (s.timeSend p seq t1).Inv := by
  unfold State.timeSend
  extract_lets age t4 _ s1 aux w4
  have h1 : s1.Inv := h.frame
  exact h1.spnSend

theorem State.Inv.headerSend {p timeNs} (h : s.Inv) : (s.headerSend p timeNs).Inv := by
  unfold State.headerSend
  extract_lets st seq t s1 _
  have h1 : s1.Inv := h.headerOut
  exact .ite h (.ite h.trainOut (.ite h1 (.ite h1.frame h1.timeSend)))

theorem State.Inv.execBlockHeaderSend {port timeNs} (h : s.Inv) : Keeps (execBlockHeaderSend port timeNs s) :=
  h.effect (·.headerSend)

theorem State.Inv.headerReceive {p n x1} (h : s.Inv) : (s.headerReceive p n x1).Inv := by
  unfold State.headerReceive
  extract_lets on seq t s1 _
  have h1 : s1.Inv := h.headerIn
  exact .ite h1 (.ite h1.frame h1.frame)

theorem State.Inv.execBlockHeaderReceive {port lane hdr} (h : s.Inv) :
    Keeps (execBlockHeaderReceive port lane hdr s) :=
  h.effect (·.headerReceive)

theorem State.Inv.timeExchange {x y} (h : s.Inv) : (s.timeExchange x y).Inv := by
  unfold State.timeExchange
  extract_lets w s1 d o s2 s3 st _ s4 near far within beyond rate s5 _
  have h1 : s1.Inv := h.usedFree
  have h2 : s2.Inv := h1.setFld
  have h3 : s3.Inv := h2.setFld
  have h4 : s4.Inv := h3.frame
  have h5 : s5.Inv := h3.frame
  exact .ite h3.frame.setFld (.ite h4.setOn.setFld.raise (.ite h5.frame.setFld (.ite h5.frame.setFld h5)))

theorem State.Inv.timeIn {f} (h : s.Inv) : (s.timeIn f).Inv := .ite h h.timeExchange

theorem State.Inv.execTime {port frame} (h : s.Inv) : Keeps (execTime port frame s) :=
  h.effect fun h => h.spnArrive (fun h => .ite h.timeIn h)

theorem State.Inv.fsyncTake {f} (h : s.Inv) : (s.fsyncTake f).Inv := .ite h.incSat.raise h.setFld.refMessage

theorem State.Inv.execFsync {port frame} (h : s.Inv) : Keeps (execFsync port frame s) := by
  unfold Machine.execFsync
  refine h.effect fun h => ?_
  refine h.spnArrive fun h => ?_
  split
  rename_i s1 _ e1
  have h1 := h.spnRoute.of_eq e1
  exact .ite h1.fsyncTake h1

theorem State.Inv.fsyncSend {t count} (h : s.Inv) : (s.fsyncSend t count).Inv := .ite h.spnCopy.fsyncTake h

theorem State.Inv.addrCheck (h : s.Inv) : s.addrCheck.Inv := .ite h.setOn.raise h

theorem State.Inv.walkEnd {w} (h : s.Inv) : (s.walkEnd w).Inv := by
  unfold State.walkEnd
  extract_lets _ s1 s2 s3 s4 s5
  have h1 : s1.Inv := h.frame.setOn
  have h2 : s2.Inv := h1.setFld.setFld
  have h3 : s3.Inv := h2.setOn
  have h4 : s4.Inv := .ite h2 h3.raise
  have h5 : s5.Inv := .ite h4.raise h1.spnSend
  exact h5.addrCheck

theorem State.Inv.walkOn {w k} (h : s.Inv) : (s.walkOn w k).Inv := by
  unfold State.walkOn
  split
  · exact h.frame.spnSend
  · exact h.walkEnd

theorem State.Inv.walkIn {next depth past} (h : s.Inv) : (s.walkIn next depth past).Inv := by
  unfold State.walkIn
  extract_lets out s1 _ s2 s3
  have h1 : s1.Inv := h.setOn.setFld.setFld
  have h2 : s2.Inv := h1.frame.setOn
  have h3 : s3.Inv := h2.each fun h => .ite h h.setOn
  exact h3.walkOn

theorem State.Inv.execWalk {port frame} (h : s.Inv) : Keeps (execWalk port frame s) :=
  h.effect fun h => h.spnArrive (fun h => .ite h.walkIn h)

theorem State.Inv.doneIn {k result} (h : s.Inv) : (s.doneIn k result).Inv := by
  unfold State.doneIn
  split
  · exact h
  · refine .ite h ?_
    extract_lets n u s1 _ s2
    have h1 : s1.Inv := .ite h.setOn h
    have h2 : s2.Inv := .ite h1.setOn.setFld.setFld h1.setOn
    exact h2.walkOn

theorem State.Inv.execDone {port frame} (h : s.Inv) : Keeps (execDone port frame s) :=
  h.effect fun h => h.spnArrive (fun h => .ite h h.doneIn)

theorem State.Inv.execDoneTimeout {sdn} (h : s.Inv) : Keeps (execDoneTimeout sdn s) := h.effect (·.doneIn)

theorem State.Inv.walkStart (h : s.Inv) : s.walkStart.Inv := .ite h.walkIn h

theorem State.Inv.execWalkStart (h : s.Inv) : Keeps (execWalkStart s) := h.effect (·.walkStart)

theorem State.Inv.autoWalk (h : s.Inv) : s.autoWalk.Inv := .ite h.frame.walkStart h

theorem State.Inv.execAutowalkTimer (h : s.Inv) : Keeps (execAutowalkTimer s) := h.effect (·.autoWalk)

theorem State.Inv.roleApply (h : s.Inv) : s.roleApply.Inv := by
  unfold State.roleApply
  extract_lets b s1 s2 s3
  have h1 : s1.Inv := h.setOn.setFld.setFld
  have h2 : s2.Inv := h1.setFld.setFld
  have h3 : s3.Inv := .ite h2.setOn.raise h2
  exact h3.linkCheckAll.addrCheck

theorem State.Inv.raNext (h : s.Inv) : s.raNext.Inv := by
  unfold State.raNext
  split
  rename_i s1 _ e1
  have h1 := h.reqNext.of_eq e1
  split
  · exact h1
  · extract_lets f _ f _
    split
    · exact h1.frame
    · exact h1.spnSend
    · exact h1

theorem State.Inv.raSend (h : s.Inv) : s.raSend.Inv := .ite h h.frame.raNext

theorem State.Inv.raAnswer {f} (h : s.Inv) : (s.raAnswer f).Inv := h.reqAnswer.raNext

theorem State.Inv.spnReplyTo {a} (h : s.Inv) : (s.spnReplyTo a).Inv := by
  unfold State.spnReplyTo
  split
  rename_i s1 _ e1
  have h1 := h.spnUnicast.of_eq e1
  exact .ite h1.raAnswer h1

theorem State.Inv.mcStart (h : s.Inv) : s.mcStart.Inv := .ite h.frame.setOn h

theorem State.Inv.execMcStart (h : s.Inv) : Keeps (execMcStart s) := h.effect (·.mcStart)

theorem State.Inv.rollEnd {r} (h : s.Inv) : (s.rollEnd r).Inv := by
  unfold State.rollEnd
  extract_lets _ s1 tmo s2
  have h1 : s1.Inv := h.frame
  have h2 : s2.Inv := h1.setFld.setFld
  split
  · exact .ite h2.setOn.setFld.setFld.setFld.setOn.raise h1.spnSend

theorem State.Inv.rollBegin {session mine} (h : s.Inv) : (s.rollBegin session mine).Inv :=
  .ite h.rollEnd h.frame

theorem State.Inv.imgrIn {p f} (h : s.Inv) : (s.imgrIn p f).Inv := by
  unfold State.imgrIn
  split
  · exact .ite (.ite h.rollEnd h.frame) h.spnRoute
  · exact h.spnRoute

theorem State.Inv.execImgr {port frame} (h : s.Inv) : Keeps (execImgr port frame s) :=
  h.effect fun h => h.spnArrive (·.imgrIn)

theorem State.Inv.execImgrWaitTimeout (h : s.Inv) : Keeps (execImgrWaitTimeout s) := by
  unfold Machine.execImgrWaitTimeout
  refine h.effect fun h => ?_
  split
  · exact h.rollEnd
  · exact h

theorem State.Inv.mcChunk (h : s.Inv) : s.mcChunk.Inv := by
  unfold State.mcChunk
  split
  · exact h
  · extract_lets base len n sess
    refine .ite h ?_
    split
    · extract_lets s1 _ s2 s3
      have h1 : s1.Inv := by
        unfold s1
        refine .ite h ?_
        split
        rename_i s1 _ e1
        have h1 := h.readLines.of_eq e1
        exact h1.frame.spnRoute
      have h2 : s2.Inv := h1.frame
      have h3 : s3.Inv := h2.spnRoute
      exact .ite h1.frame h3.rollBegin

theorem State.Inv.execMcChunkSend (h : s.Inv) : Keeps (execMcChunkSend s) := h.effect (·.mcChunk)

theorem State.Inv.mcShow {active reason session} (h : s.Inv) : (s.mcShow active reason session).Inv :=
  h.setOn.setFld.setFld

theorem State.Inv.mcStore {f} (h : s.Inv) : (s.mcStore f).Inv := h.writeFlat.snoop.frame

theorem State.Inv.imgTake {f} (h : s.Inv) : (s.imgTake f).Inv := by
  unfold State.imgTake
  extract_lets sess active cur
  exact .ite (.ite h.mcShow.raise h.mcShow.mcStore) (.ite (.ite h.mcStore h.mcShow) (.ite h.mcShow h))

theorem State.Inv.imgeFinding {f} (h : s.Inv) : (s.imgeFinding f).1.Inv := by
  unfold State.imgeFinding
  extract_lets len
  refine .ite_fst h (.ite_fst h ?_)
  split
  rename_i s1 _ e1
  have h1 := h.readLines.of_eq e1
  exact .ite_fst h1 (.ite_fst h1 h1)

theorem State.Inv.imgeTake {f} (h : s.Inv) : (s.imgeTake f).1.Inv := by
  unfold State.imgeTake
  extract_lets s1 sess active cur
  have h1 : s1.Inv := h.snoopBoundary
  refine .ite_fst ?_ (.ite_fst h1 (.ite_fst h1 h1.mcShow))
  split
  rename_i s2 _ e2
  have h2 := h1.imgeFinding.of_eq e2
  extract_lets s3 s4
  have h3 : s3.Inv := h2.mcShow
  exact .ite h3.setFld.loadBegin (.ite h3.raise h3)

theorem State.Inv.imgDo {f} (h : s.Inv) : (s.imgDo f).Inv := by
  unfold State.imgDo
  refine .ite h.imgTake ?_
  split
  rename_i s1 _ e1
  have h1 := h.imgeTake.of_eq e1
  exact h1.rollBegin

theorem State.Inv.imgRun {n} (h : s.Inv) : (s.imgRun n).Inv := by
  induction n generalizing s with
  | zero => exact h
  | succ n ih =>
    unfold State.imgRun
    split
    · exact h
    · exact .ite (ih h.frame.imgDo) h

theorem State.Inv.imgMine {p f} (h : s.Inv) : (s.imgMine p f).Inv := h.frame.imgRun

theorem State.Inv.imgeIn {p f} (h : s.Inv) : (s.imgeIn p f).Inv := by
  unfold State.imgeIn
  split
  rename_i s1 _ e1
  have h1 := h.spnRoute.of_eq e1
  exact .ite h1.imgMine (.ite h1.rollBegin h1)

theorem State.Inv.execImge {port frame} (h : s.Inv) : Keeps (execImge port frame s) :=
  h.effect fun h => h.spnArrive (·.imgeIn)

theorem State.Inv.finShow (h : s.Inv) : s.finShow.Inv := by
  unfold State.finShow
  extract_lets s1
  have h1 : s1.Inv := h.setFld
  split
  · exact h1.setReg
  · exact h1.setOn.setFld.setFld.setFld.setFld

theorem State.Inv.fltTake {f} (h : s.Inv) : (s.fltTake f).Inv := .ite h.incSat h.frame.finShow.raise

theorem State.Inv.fltPass {idx f} (h : s.Inv) : (s.fltPass idx f).Inv := by
  unfold State.fltPass
  extract_lets w lost ws room _ s1
  have h1 : s1.Inv := .ite h.fltFrame h
  exact h1.spnSend

theorem State.Inv.execFlt {port frame} (h : s.Inv) : Keeps (execFlt port frame s) := by
  unfold Machine.execFlt
  refine h.effect fun h => ?_
  refine h.spnArrive fun h => ?_
  refine .ite ?_ (.ite h.fltTake h.fltPass)
  split
  rename_i s1 _ e1
  have h1 := h.spnRoute.of_eq e1
  exact .ite h1.fltTake h1

theorem State.Inv.finRead (h : s.Inv) : s.finRead.Inv := by
  unfold State.finRead
  split
  · exact h
  · exact .finShow (.frame (h.each (·.setReg)))

theorem State.Inv.execFinRead (h : s.Inv) : Keeps (execFinRead s) := h.effect (·.finRead)

/-! ### Machine/Clocks.lean -/

theorem State.Inv.askClock {i v} (h : s.Inv) : (s.askClock i v).Inv := h.frame

theorem State.Inv.clockSwitch {i edge} (h : s.Inv) : (s.clockSwitch i edge).Inv := by
  unfold State.clockSwitch
  extract_lets v forced _ s1 s2
  have h1 : s1.Inv := h.frame
  have h2 : s2.Inv := .ite h1.setFld h1
  exact .ite h (.ite h2.setOn.raise h2)

theorem State.Inv.execClockSwitch {sel edge} (h : s.Inv) : Keeps (execClockSwitch sel edge s) :=
  h.effect (·.clockSwitch)

theorem State.Inv.pllStart {l} (h : s.Inv) : (s.pllStart l).Inv := .ite h h.frame

theorem State.Inv.pllStop {l} (h : s.Inv) : (s.pllStop l).Inv := h.frame.setBit

theorem State.Inv.coastAll (h : s.Inv) : s.coastAll.Inv := h.each fun h => .ite h.frame.setBit h

theorem State.Inv.ctlSleeps {c} (h : s.Inv) : (s.ctlSleeps c).Inv :=
  h.finishOps.cleaned

theorem State.Inv.sourceFails (h : s.Inv) : s.sourceFails.Inv := by
  unfold State.sourceFails
  extract_lets s1 _
  have h1 : s1.Inv := h.setOn.raise.coastAll.ctlSleeps.ctlSleeps
  exact h1.frame.linkCheckAll

theorem State.Inv.xtalLost {stopped} (h : s.Inv) : (s.xtalLost stopped).Inv :=
  .ite h.frame.askClock.setOn.sourceFails h

theorem State.Inv.xtalQualified (h : s.Inv) : s.xtalQualified.Inv := by
  unfold State.xtalQualified
  extract_lets _ s1 first _ s2
  have h1 : s1.Inv := h.frame.askClock.setOn
  have h2 : s2.Inv := h1.frame
  exact .ite (h2.each (·.pllStart)) h2

theorem State.Inv.qualWindow {cycles swing} (h : s.Inv) : (s.qualWindow cycles swing).Inv :=
  .ite h (.ite h (.ite h.frame.xtalQualified h.frame))

theorem State.Inv.execXtalQualTimeout (h : s.Inv) : Keeps (execXtalQualTimeout s) :=
  h.effect fun h => .ite h h.setOn.raise

theorem State.Inv.srcfailClear (h : s.Inv) : s.srcfailClear.Inv := .ite h.setOn h

theorem State.Inv.execSrcfailClear (h : s.Inv) : Keeps (execSrcfailClear s) := h.effect (·.srcfailClear)

theorem State.Inv.scanLocked (h : s.Inv) : s.scanLocked.Inv := .ite h.frame h

theorem State.Inv.relockBegin (h : s.Inv) : s.relockBegin.Inv := h.frame.blankOn.setOn.raise

theorem State.Inv.pllLock {l} (h : s.Inv) : (s.pllLock l).Inv := by
  unfold State.pllLock
  refine .ite h ?_
  extract_lets _ s1 s2 _
  have h1 : s1.Inv := h.frame.setBit
  have h2 : s2.Inv := h1.askClock
  split
  · exact h1.askClock
  · exact h2.memFrame
  · exact h1.scanLocked
  · exact h1

theorem State.Inv.execPllScanLocked (h : s.Inv) : Keeps (execPllScanLocked s) :=
  h.effect fun h => .ite h.setBit.scanLocked.bringUpDue h

theorem State.Inv.pllUnlock {l} (h : s.Inv) : (s.pllUnlock l).Inv := by
  unfold State.pllUnlock
  refine .ite h ?_
  extract_lets _ s1
  have h1 : s1.Inv := h.frame.setBit
  exact .ite (.ite h1.relockBegin h1) h1.setOn.raise

theorem State.Inv.execPllUnlock {loop} (h : s.Inv) : Keeps (execPllUnlock loop s) := h.effect (·.pllUnlock)

theorem State.Inv.lockFails {l} (h : s.Inv) : (s.lockFails l).Inv := .ite h (.ite h.frame.sourceFails h.frame)

theorem State.Inv.gated {b on} (h : s.Inv) : (s.gated b on).Inv := h.setBit

theorem State.Inv.blockGoesOn {b} (h : s.Inv) : (s.blockGoesOn b).Inv := by
  unfold State.blockGoesOn
  split
  · exact h.adcNext
  · exact h.chkAsk
  · exact h.flashNext
  · exact h.pmbNext.pmbNext
  · exact h

theorem State.Inv.blockStarts {b} (h : s.Inv) : (s.blockStarts b).Inv := by
  unfold State.blockStarts
  extract_lets s1 _
  have h1 : s1.Inv := h.gated.blockGoesOn
  split
  · exact h1.linkCheckAll
  · exact h1.linkCheckAll
  · exact h1.linkCheckAll
  · exact h1.linkCheckAll
  · exact h1.memFrame
  · exact h1.memFrame
  · exact h1

theorem State.Inv.askStop {b} (h : s.Inv) : (s.askStop b).Inv := h.frame

theorem State.Inv.gateRequest {v} (h : s.Inv) : (s.gateRequest v).Inv := by
  unfold State.gateRequest
  extract_lets old s1
  have h1 : s1.Inv := h.setFld
  refine h1.each fun h => ?_
  extract_lets was now _ s2
  have h2 : s2.Inv := .ite h h.frame
  exact .ite (.ite h h.askStop) (.ite (.ite h2 h2.blockStarts) h)

theorem State.Inv.execGateRequest {gate} (h : s.Inv) : Keeps (execGateRequest gate s) :=
  h.effect (·.gateRequest)

theorem State.Inv.blockStops {b} (h : s.Inv) : (s.blockStops b).Inv := by
  unfold State.blockStops
  extract_lets _ s1
  have h1 : s1.Inv := h.frame.gated
  split
  · exact h1.adcHalt
  · exact h1.monAbandon
  · exact h1.linkCheckAll
  · exact h1.linkCheckAll
  · exact h1.linkCheckAll
  · exact h1.linkCheckAll
  · exact h1.pllStop
  · exact h1.setFld.pllStop
  · exact h1.setFld.pllStop
  · exact h1.ctlSleeps
  · exact h1.ctlSleeps
  · exact h1

theorem State.Inv.gateRefused {b} (h : s.Inv) : (s.gateRefused b).Inv :=
  h.frame.setOn.setFld.raise.blockGoesOn

/-! ### Machine/Cal.lean -/

theorem State.Inv.calBad {g item} (h : s.Inv) : (s.calBad g item).Inv :=
  h.setBit.incSat.setOn.setFld.setFld.raise

theorem State.Inv.calEye {g width} (h : s.Inv) : (s.calEye g width).Inv := .ite h.setBit.raise h

theorem State.Inv.calProbe (h : s.Inv) : s.calProbe.Inv := by
  unfold State.calProbe
  extract_lets rank _ k s1 s2
  have h1 : s1.Inv := h.setFld.setFld
  have h2 : s2.Inv := h1.setFld.setFld
  exact h2.setReg

theorem State.Inv.calTref {g} (h : s.Inv) : (s.calTref g).Inv := h.setFld

theorem State.Inv.applyByte {x full} (h : s.Inv) : (s.applyByte x full).Inv := by
  unfold State.applyByte
  extract_lets old put w w map fill c s1
  have h1 : s1.Inv := h.frame
  exact h1.calEye.calProbe

theorem State.Inv.applyTap {p taps} (h : s.Inv) : (s.applyTap p taps).Inv := h.setFld.setReg.calEye

theorem State.Inv.applyLane {x train} (h : s.Inv) : (s.applyLane x train).Inv := by
  unfold State.applyLane
  extract_lets i w thr s1 _ s2
  have h1 : s1.Inv := h.setFld.setFld
  have h2 : s2.Inv := .ite h1.setFld.setFld h1.frame
  exact h2.calEye

theorem State.Inv.calTried {g item n} (h : s.Inv) : (s.calTried g item n).Inv := h.frame

theorem State.Inv.calFirst {g x ok fail} (h : s.Inv) (hok : ∀ {t}, t.Inv → (ok t).Inv)
    (hfail : ∀ {t}, t.Inv → (fail t).Inv) : (s.calFirst g x ok fail).Inv :=
  .ite (hok h.calTried) (.ite (hfail h.calTried.calBad) h.calTried.calBad)

theorem State.Inv.portsTref {g} (h : s.Inv) : (s.portsTref g).Inv := .ite h h.calTref

theorem State.Inv.firstItem {g x} (h : s.Inv) : (s.firstItem g x).Inv := by
  unfold State.firstItem
  split
  · exact .ite (h.calFirst (·.applyByte) id) h
  · split
    · exact .ite (h.calFirst (·.applyLane.calTref) (·.calTried.setFld.setFld.calTref)) h
  · extract_lets _
    exact .ite (h.calFirst (·.setFld.applyTap.bringUpRead.portsTref) (·.calTried.bringUpFails.portsTref)) h

theorem State.Inv.calReads {x} (h : s.Inv) : (s.calReads x).Inv := by
  unfold State.calReads
  split
  · exact .ite (h.each (·.sendFrame)) h
  · exact h

theorem State.Inv.firstPair {g x} (h : s.Inv) : (s.firstPair g x).Inv := by
  unfold State.firstPair
  split
  · exact h
  · exact h.calReads.firstItem

theorem State.Inv.lanesAdapted {g items} (h : s.Inv) : (s.lanesAdapted g items).Inv := by
  unfold State.lanesAdapted
  refine .ite h ?_
  refine h.each fun h => ?_
  split
  · exact .ite h.linkAdapted h

theorem State.Inv.calStart {g} (h : s.Inv) : (s.calStart g).Inv := by
  unfold State.calStart
  refine .ite h (.ite h.frame ?_)
  extract_lets s1 ranks _ _ ports
  have h1 : s1.Inv := h.setBit
  clear_value s1
  split
  · exact h1.memFrame
  · exact h1.frame
  · exact h1.frame

theorem State.Inv.calDeferred (h : s.Inv) : s.calDeferred.Inv := .ite h.frame.calStart h

theorem State.Inv.execCalRun {groups} (h : s.Inv) : Keeps (execCalRun groups s) :=
  h.effect fun h => h.each (·.calStart)

theorem State.Inv.calAuto {d} (h : s.Inv) : (s.calAuto d).Inv := by
  unfold State.calAuto
  refine h.each fun h => ?_
  extract_lets failed t r dt
  exact .ite h.calStart h

theorem State.Inv.rerunItem {g x} (h : s.Inv) : (s.rerunItem g x).1.Inv := by
  unfold State.rerunItem
  refine .ite_fst ?_ h.calBad
  split
  · exact h.applyByte
  · exact h.applyLane
  · exact h.applyTap

theorem State.Inv.rerunEnd {g bad} (h : s.Inv) : (s.rerunEnd g bad).Inv :=
  .ite h.setBit.incSat.frame h.setBit.incSat.calTref

theorem State.Inv.calDone {g pairs} (h : s.Inv) : (s.calDone g pairs).Inv := by
  unfold State.calDone
  extract_lets items s1
  have h1 : s1.Inv := .lanesAdapted (h.each (·.firstPair))
  refine .ite ?_ h1
  split
  rename_i s2 _ e2
  have h2 : s2.Inv := by
    refine .of_eq ?_ e2
    refine h1.foldl_fst fun h => ?_
    split
    rename_i s2 _ e2
    exact h.rerunItem.of_eq e2
  exact h2.rerunEnd

theorem State.Inv.execCalRunDone {group items} (h : s.Inv) : Keeps (execCalRunDone group items s) :=
  h.effect (·.calDone)

theorem State.Inv.trainingEnds (h : s.Inv) : s.trainingEnds.Inv := h.calTref.each (·.calTried)

/-! ### Machine/FrameStart.lean -/

theorem State.Inv.stillFrame (h : s.Inv) : s.stillFrame.Inv := h.frame.setFld

theorem State.Inv.divider {moved} (h : s.Inv) : (s.divider moved).Inv := by
  unfold State.divider
  extract_lets nstill div ms mt m j returned _ s1 s2 s3
  have h1 : s1.Inv := h.frame
  have h2 : s2.Inv := h1.setFld.setOn
  have h3 : s3.Inv := h2.setFld
  exact .ite h3.setOn h3

theorem State.Inv.takeSet (h : s.Inv) : s.takeSet.Inv := by
  unfold State.takeSet
  extract_lets t fresh shown _ s1 s2
  have h1 : s1.Inv := h.frame
  have h2 : s2.Inv := h1.setFld
  exact h2.setFld.setFld

theorem State.Inv.allLate (h : s.Inv) : s.allLate.Inv := h.each (·.loadLate)

theorem State.Inv.allDrop (h : s.Inv) : s.allDrop.Inv := .frame (h.each (·.loadDrop))

theorem State.Inv.clkEngFrame (h : s.Inv) : s.clkEngFrame.Inv := .ite h h.frame.askClock.askClock

theorem State.Inv.timingFrame (h : s.Inv) : s.timingFrame.Inv := by
  unfold State.timingFrame
  extract_lets t old relock differs scheme s1 s2 s3 gone s4
  have h1 : s1.Inv := .ite h h.takeSet
  have h2 : s2.Inv := h1.stillFrame.divider
  have h3 : s3.Inv := .ite h2.allLate (.ite (h2.each (·.loadLate)) h2)
  have h4 : s4.Inv := h3.each (·.frame.loadDrop)
  exact .ite h4.relockBegin.setBit.acquire h4

theorem State.Inv.release4 (h : s.Inv) : s.release4.Inv := .ite h.frame.setOn.blankOff h

theorem State.Inv.restructBegin (h : s.Inv) : s.restructBegin.Inv := by
  unfold State.restructBegin
  extract_lets s1 _
  have h1 : s1.Inv := h.whenDo (·.setOn)
  exact h1.frame.allDrop.blankOn.ldrGo

theorem State.Inv.restructFrame (h : s.Inv) : s.restructFrame.Inv := by
  unfold State.restructFrame
  extract_lets relock _ s1 _
  have h1 : s1.Inv := h.frame
  split
  · exact .ite h1.restructBegin h1
  · exact .ite h1.frame h1
  · exact h1.frame.release4
  · exact h1.release4

theorem State.Inv.lightFrame (h : s.Inv) : s.lightFrame.Inv := .ite h (.ite h.frame h.frame.blankOff)

theorem State.Inv.dueFrame {first} (h : s.Inv) : (s.dueFrame first).Inv := by
  unfold State.dueFrame
  extract_lets all _ s1 _
  have h1 : s1.Inv := .ite h h.slotEvents
  exact .ite (h.frame.each fun h => .ite h h.frame) (.ite (h1.frame.each fun h => .ite h h.frame) h1)

theorem State.Inv.coverIsle {i} (h : s.Inv) : (s.coverIsle i).Inv := h.setFld.setFld.setFld.setFld

theorem State.Inv.diagFrame (h : s.Inv) : s.diagFrame.Inv := .frame (h.each (·.coverIsle))

theorem State.Inv.straitFrame (h : s.Inv) : s.straitFrame.Inv := h.each fun h => .ite h.frame.blankOff h

theorem State.Inv.adcFrame (h : s.Inv) : s.adcFrame.Inv := .ite h.adcTrigger h

theorem State.Inv.idleLeave (h : s.Inv) : s.idleLeave.Inv :=
  .ite (.pwrUnblank (.setFld (h.frame.each (·.gated)))) h

theorem State.Inv.relockPeriod (h : s.Inv) : s.relockPeriod.1.Inv := .ite_fst h.usedFree h

theorem State.Inv.framePeriod (h : s.Inv) : s.framePeriod.1.Inv :=
  .ite_fst h.relockPeriod (.ite_fst h (.ite_fst h h))

theorem State.Inv.slewFrame (h : s.Inv) : s.slewFrame.Inv := .ite h.setOn h

theorem State.Inv.slewMove (h : s.Inv) : s.slewMove.Inv := .ite h.frame h

theorem State.Inv.syncFrame (h : s.Inv) : s.syncFrame.Inv := by
  unfold State.syncFrame
  split
  rename_i s1 _ e1
  have h1 := h.frame.framePeriod.of_eq e1
  exact h1.fsyncSend.slewMove

theorem State.Inv.frameStart (h : s.Inv) : s.frameStart.Inv := by
  unfold State.frameStart
  refine .ite h ?_
  extract_lets first s1 s2 _ s3 s4 s5 s6 s7 s8 s9 s10 _ s11
  have h1 : s1.Inv := h.setFld
  have h2 : s2.Inv := h1.setOn
  have h3 : s3.Inv := h2.frame
  have h4 : s4.Inv := h3.each (·.guardFrame)
  have h5 : s5.Inv := h4.timingFrame.clkEngFrame
  have h6 : s6.Inv := h5.restructFrame.lightFrame.straitFrame.idleLeave
  have h7 : s7.Inv := h6.dueFrame
  have h8 : s8.Inv := .ite h7 h7.zoneFrame.diagFrame.headroomFrame
  have h9 : s9.Inv := h8.adcFrame.claspFrameStart.slewFrame
  have h10 : s10.Inv := h9.each (·.setPort)
  have h11 : s11.Inv := h10.frame
  exact h11.syncFrame

theorem State.Inv.execFrameStart (h : s.Inv) : Keeps (execFrameStart s) := h.effect (·.frameStart)

/-! ### Machine/Apply.lean -/

theorem State.Inv.putStep {n f raw v} (h : s.Inv) : (s.putStep n f raw v).Inv :=
  .ite h (.ite h.setFld h.setFld.setOn.raise)

theorem State.Inv.scaleSteps (h : s.Inv) : s.scaleSteps.Inv := h.each (·.putStep.putStep)

theorem State.Inv.regsChanged {old} (h : s.Inv) : (s.regsChanged old).Inv := by
  unfold State.regsChanged
  extract_lets s1 s2 mode s3 code moved s4
  have h1 : s1.Inv := h.each fun h => .ite h.slotEnabled h
  have h2 : s2.Inv := h1.each fun h => .ite h.frame h
  have h3 : s3.Inv := h2.each (·.guardModeSet)
  have h4 : s4.Inv := h3.each (·.queueFrames)
  exact h4.scaleSteps.linkCheckAll

theorem State.Inv.occShow {v} (h : s.Inv) : (s.occShow v).Inv := h.setReg

theorem State.Inv.commitEnd (h : s.Inv) : s.commitEnd.Inv := h.frame.setOn.setOn.cfgPending

theorem State.Inv.commitApply (h : s.Inv) : s.commitApply.Inv := by
  unfold State.commitApply
  extract_lets old s1 s2
  have h1 : s1.Inv := h.withRegs (Tab.wf_withShadows h.regs.1)
  have h2 : s2.Inv := h1.commitEnd.swapTables.regsChanged
  exact .ite h2.frame.occShow h2

theorem State.Inv.commitArrive (h : s.Inv) : s.commitArrive.Inv := by
  unfold State.commitArrive
  refine .ite h.commitApply ?_
  extract_lets _ s1
  have h1 : s1.Inv := h.frame.setOn.cfgPending
  exact .ite h1.setOn.raise h1

theorem State.Inv.commitGo (h : s.Inv) : s.commitGo.Inv := by
  unfold State.commitGo
  extract_lets _ s1 _
  have h1 : s1.Inv := h.frame
  exact .ite h1.frame h1.commitArrive

theorem State.Inv.commitRefuse {reason item} (h : s.Inv) : (s.commitRefuse reason item).Inv :=
  h.refuse.commitEnd

theorem State.Inv.commit (h : s.Inv) : s.commit.Inv := by
  unfold State.commit
  refine .ite h (.ite h.incSat ?_)
  extract_lets s1 _
  have h1 : s1.Inv := h.setOn
  exact .ite h1.commitRefuse (.ite h1.frame h1.commitGo)

theorem State.Inv.execCommit (h : s.Inv) : Keeps (execCommit s) := h.effect (·.commit)

theorem State.Inv.commitResume (h : s.Inv) : s.commitResume.Inv := .ite (.ite h.commitRefuse h.commitGo) h

theorem State.Inv.imageAdmitted (h : s.Inv) : s.imageAdmitted.Inv := by
  unfold State.imageAdmitted
  split
  · exact h.loadRefuse
  · extract_lets s1 _ _ s2 _
    have h1 : s1.Inv := h.setAdmit
    have h2 : s2.Inv := h1.frame
    exact .ite h1.ldrGo (.ite h2.ldrGo (.ite (.ite h2.ldrGo h2.ldrGo) (.ite h2.frame.ldrGo h2.restructBegin)))

theorem State.Inv.admissionDone (h : s.Inv) : s.admissionDone.Inv := by
  unfold State.admissionDone
  refine .ite h (.ite ?_ (.ite h.imageAdmitted.cfgPending.commitResume h))
  extract_lets s1 _
  have h1 : s1.Inv := by
    unfold s1
    split
    · exact h.commitRefuse
    · exact h.setAdmit.commitArrive
  exact h1.frame

theorem State.Inv.execAdmissionDone (h : s.Inv) : Keeps (execAdmissionDone s) := h.effect (·.admissionDone)

theorem State.Inv.abort (h : s.Inv) : s.abort.Inv := .ite h.frame.loadRefuse.commitResume h

theorem State.Inv.execAbort (h : s.Inv) : Keeps (execAbort s) := h.effect (·.abort)

theorem State.Inv.windowOpen (h : s.Inv) : s.windowOpen.Inv := by
  unfold State.windowOpen
  refine .ite h ?_
  extract_lets _ s1 s2 s3
  have h1 : s1.Inv := h.memFrame.setOn
  have h2 : s2.Inv := .ite h1.commitApply h1
  have h3 : s3.Inv := h2.calDeferred
  exact .ite h3.ldrGo h3

theorem State.Inv.execCommitWindowOpen (h : s.Inv) : Keeps (execCommitWindowOpen s) := h.effect (·.windowOpen)

theorem State.Inv.windowClose (h : s.Inv) : s.windowClose.Inv := .ite h.frame.setOn h

theorem State.Inv.execCommitWindowClose (h : s.Inv) : Keeps (execCommitWindowClose s) :=
  h.effect (·.windowClose)

theorem State.Inv.lutWrite {a w} (h : s.Inv) : (s.lutWrite a w).Inv := by
  unfold State.lutWrite
  split
  · exact h.withTabs (Tab.wf_put h.tabs.1) (Tab.wf_put h.tabs.2.1) h.tabs.2.2
  · exact .ite h.setLocket h

theorem State.Inv.lutApply {b} (h : s.Inv) : (s.lutApply b).Inv := .each (.ite h h.tableCopyDone) (·.lutWrite)

theorem State.Inv.chainApply {b} (h : s.Inv) : (s.chainApply b).Inv :=
  h.setFld.setFld.setReg.setShad.each (·.setReg)

theorem State.Inv.dramApply {d} (h : s.Inv) : (s.dramApply d).Inv := by
  unfold State.dramApply
  extract_lets s1 s2 s3 s4 s5 _
  have h1 : s1.Inv := h.each (·.setFld.setFld)
  have h2 : s2.Inv := h1.setFld.setFld
  have h3 : s3.Inv := h2.setFld.setFld
  have h4 : s4.Inv := h3.setOn.setFld
  have h5 : s5.Inv := h4.setOn.setFld
  exact .ite h5.memFrame h5

theorem State.Inv.applyDram (h : s.Inv) : s.applyDram.Inv := h.ageClear.zoneApply

theorem State.Inv.lockSections (h : s.Inv) : s.lockSections.Inv := h.lockLose.lockLose

theorem State.Inv.feedsReset (h : s.Inv) : s.feedsReset.Inv := by
  unfold State.feedsReset
  extract_lets s1 s2 _ _ _ _ s3 s4 s5
  have h1 : s1.Inv := h.allDrop
  have h2 : s2.Inv := h1.each fun h => h.whenDo (·.snoopBoundary)
  have h3 : s3.Inv := h2.frame
  have h4 : s4.Inv := h3.setFld.setReg
  have h5 : s5.Inv := h4.each (·.setFld.setFld.setFld.setFld.setFld.setFld)
  exact h5.each (·.slotEnabled)

theorem State.Inv.applyAfterWake (h : s.Inv) : s.applyAfterWake.Inv := by
  unfold State.applyAfterWake
  refine .ite ?_ h
  extract_lets _ s1 s2 s3
  have h1 : s1.Inv := h.frame
  have h2 : s2.Inv := h1.each fun h => .ite h h.pllStart
  have h3 : s3.Inv := h2.each (·.blockStarts)
  exact h3.blankOff

theorem State.Inv.writeImage (h : s.Inv) : s.writeImage.Inv := by
  unfold State.writeImage
  extract_lets p new merged l _ s1
  have h1 : s1.Inv := ⟨⟨Tab.wf_loadWords h.regs.1, Tab.wf_loadWords h.regs.2⟩, h.mem, h.tabs, h.events⟩
  exact h1.lutApply

theorem State.Inv.applyTiming {wasActive differs oldM} (h : s.Inv) :
    (s.applyTiming wasActive differs oldM).Inv := by
  unfold State.applyTiming
  extract_lets s1 _ s2 m _ s3
  have h1 : s1.Inv := h.takeSet
  have h2 : s2.Inv := h1.frame
  have h3 : s3.Inv := .ite h2.setBit.pllStart (.ite (.setBit (.ite h2.relockBegin h2.frame)) h2)
  exact h3.acquire

theorem State.Inv.applyFull (h : s.Inv) : s.applyFull.Inv := by
  unfold State.applyFull
  extract_lets was old rate oldM s1 secs s2 s3 t differs s4 s5 s6
  have h1 : s1.Inv := h.writeImage.feedsReset
  have h2 : s2.Inv := h1.chainApply.dramApply
  have h3 : s3.Inv := h2.setOn
  have h4 : s4.Inv := h3.applyTiming
  have h5 : s5.Inv := h4.regsChanged.roleApply.claspApply.lockSections
  have h6 : s6.Inv := .ite h5.applyDram h5
  exact h6.bringUpAsk.applyAfterWake

theorem State.Inv.applyPartial (h : s.Inv) : s.applyPartial.Inv := h.writeImage.regsChanged.frame

theorem State.Inv.applyImage (h : s.Inv) : s.applyImage.Inv := by
  unfold State.applyImage
  refine .ite h ?_
  extract_lets img occ src s1 s2
  have h1 : s1.Inv := .ite h.applyPartial h.applyFull
  have h2 : s2.Inv := h1.occShow.setReg.setFld
  exact h2.ldrGo.cfgPending.raise

theorem State.Inv.bootLoad (h : s.Inv) : s.bootLoad.Inv := .ite h (.ite h.loadBegin h.raise)

theorem State.Inv.execApply (h : s.Inv) : Keeps (execApply s) := h.effect (·.applyImage)

theorem State.Inv.retrainFails {bad} (h : s.Inv) : (s.retrainFails bad).Inv := by
  unfold State.retrainFails
  extract_lets trained mapped s1 s2
  have h1 : s1.Inv := h.setFld
  have h2 : s2.Inv := h1.whenDo (·.setOn)
  exact h2.whenDo (·.setFld.raise)

theorem State.Inv.memReconfigDone (h : s.Inv) : s.memReconfigDone.Inv := by
  unfold State.memReconfigDone
  split
  · exact h
  · extract_lets bad s1
    have h1 : s1.Inv := h.dramReconfigured.retrainFails.trainingEnds.writerTakeAll
    exact .bringUpDue (.ite h1.applyDram h1)

theorem State.Inv.execMemReconfigDone (h : s.Inv) : Keeps (execMemReconfigDone s) :=
  h.effect (·.memReconfigDone)

theorem State.Inv.dramTrainingDone {ranks} (h : s.Inv) : (s.dramTrainingDone ranks).Inv := by
  unfold State.dramTrainingDone
  refine .ite h ?_
  extract_lets _ s1 found
  have h1 : s1.Inv := h.memFrame
  split
  rename_i s2 _ e2
  have h2 := h1.dramTrained.of_eq e2
  extract_lets s3 d
  have h3 : s3.Inv := h2.trainingEnds
  exact .ite h3 (.bootLoad (.ite h3 h3.dramApply))

theorem State.Inv.execDramTrainingDone {r0 r1 r2 r3} (h : s.Inv) :
    Keeps (execDramTrainingDone r0 r1 r2 r3 s) :=
  h.effect (·.dramTrainingDone)

/-! ### Machine/Log.lean -/

theorem State.Inv.logControl (h : s.Inv) : s.logControl.Inv := h.setLocket

theorem State.Inv.logStore {e} (h : s.Inv) : (s.logStore e).Inv := h.setLocket.setLocket.setLocket.setLocket

theorem State.Inv.logAppend {e} (h : s.Inv) : (s.logAppend e).Inv := by
  unfold State.logAppend
  refine .ite (.ite h.frame.incSat.raise h.frame.incSat) ?_
  extract_lets w s1 s2 _ s3
  have h1 : s1.Inv := h.logStore
  have h2 : s2.Inv := h1.setOn
  have h3 : s3.Inv := .ite h2.frame h1
  exact h3.setFld.setFld.logControl

theorem State.Inv.logShow (h : s.Inv) : s.logShow.Inv := h.setOn.setFld

theorem State.Inv.logEntry {e} (h : s.Inv) : (s.logEntry e).Inv :=
  .ite h (.ite (.ite h.frame.logShow h.incSat) h.logAppend)

theorem State.Inv.logLock (h : s.Inv) : s.logLock.Inv := h.frame.logShow

theorem State.Inv.logResume (h : s.Inv) : s.logResume.Inv := by
  unfold State.logResume
  refine .ite ?_ h
  extract_lets c l _ _ s1 s2
  have h1 : s1.Inv := h.frame
  have h2 : s2.Inv := h1.setFld.setFld.setFld
  exact .logShow (h2.each (·.logAppend))

theorem State.Inv.logClear (h : s.Inv) : s.logClear.Inv := h.lockLose.frame.setFld.setFld.setFld.logControl

theorem State.Inv.execLogClear (h : s.Inv) : Keeps (execLogClear s) := h.effect (·.logClear)

/-! ### Machine/Power.lean -/

theorem State.Inv.chkPower {on} (h : s.Inv) : (s.chkPower on).Inv := .ite h.setOn.frame.chkStart h.setOn

theorem State.Inv.lockEntry (h : s.Inv) : s.lockEntry.Inv := by
  unfold State.lockEntry
  extract_lets s1 s2
  have h1 : s1.Inv := h.each (·.writeFlat)
  have h2 : s2.Inv := h1.chkPower.logLock
  exact h2.each (·.setReg)

theorem State.Inv.lockPowerOff (h : s.Inv) : s.lockPowerOff.Inv := h.each (·.lockLose)

theorem State.Inv.bankFails {n} (h : s.Inv) : (s.bankFails n).Inv := h.frame.setOn.raise.lockLose

theorem State.Inv.bankCheck {lost} (h : s.Inv) : (s.bankCheck lost).Inv := by
  unfold State.bankCheck
  extract_lets bad s1 s2
  have h1 : s1.Inv := h.each (·.bankFails)
  have h2 : s2.Inv := h1.chkPower
  exact .ite h2.lockLose.logResume (.ite h2 h2.logResume)

theorem State.Inv.lockEmpty (h : s.Inv) : s.lockEmpty.Inv := h.frame.lockLose.logResume

theorem State.Inv.lockUsable (h : s.Inv) : s.lockUsable.Inv := .ite (.ite h.lockEmpty h.logResume) h

theorem State.Inv.wakeFails {step} (h : s.Inv) : (s.wakeFails step).Inv := by
  unfold State.wakeFails
  extract_lets _ s1 s2 s3
  have h1 : s1.Inv := h.frame
  have h2 : s2.Inv := h1.setOn.setFld.setFld
  have h3 : s3.Inv := h2.setOn.raise.blankOn
  exact .ite h3 h3.lockUsable

theorem State.Inv.bankRestored {n data} (h : s.Inv) : (s.bankRestored n data).Inv := by
  unfold State.bankRestored
  extract_lets _ s1 s2 s3 s4
  have h1 : s1.Inv := h.frame
  have h2 : s2.Inv := h1.lockLose
  have h3 : s3.Inv := by
    unfold s3
    split
    · exact h2
    · exact h2.each (·.setLocket)
  have h4 : s4.Inv := .ite h3.logResume h3
  exact .ite h4.wakeFails h4

theorem State.Inv.bankRestore {dram n} (h : s.Inv) : (s.bankRestore dram n).Inv := by
  unfold State.bankRestore
  split
  · refine .ite h.bankRestored ?_
    extract_lets a
    refine .ite h ?_
    split
    rename_i s1 _ e1
    have h1 := h.readLines.of_eq e1
    exact h1.bankRestored
  · exact h.flashAsk
  · exact h.bankRestored

theorem State.Inv.banksAgain (h : s.Inv) : s.banksAgain.Inv := .ite (h.each (·.bankRestore)) h

theorem State.Inv.banksRestore {dram} (h : s.Inv) : (s.banksRestore dram).Inv := h.each (·.bankRestore)

theorem State.Inv.entryAbort {block} (h : s.Inv) : (s.entryAbort block).Inv := by
  unfold State.entryAbort
  split
  · extract_lets s1 s2 s3 _ _ s4 s5 s6
    have h1 : s1.Inv := h.setOn.setFld.setFld
    have h2 : s2.Inv := h1.incSat
    have h3 : s3.Inv := h2.raise.setFld
    have h4 : s4.Inv := h3.frame
    have h5 : s5.Inv := h4.each (·.blockGoesOn)
    have h6 : s6.Inv := h5.each (·.blockStarts)
    exact h6.chkPower.lockUsable
  · exact h

theorem State.Inv.entryStops {b} (h : s.Inv) : (s.entryStops b).Inv :=
  .ite h.blockStops.allDrop.frame h.blockStops

theorem State.Inv.enterDeep (h : s.Inv) : s.enterDeep.Inv := by
  unfold State.enterDeep
  extract_lets regs spnStat valid dram _ _ _ _ _ t1 t2 t3 t4
  have h1 : t1.Inv := ⟨⟨Tab.wf_filter h.regs.1, rfl⟩, rfl, ⟨rfl, rfl, rfl⟩, fun _ => Nat.zero_le _⟩
  have h2 : t2.Inv := h1.setReg.setFld
  have h3 : t3.Inv := h2.setFld.setFld.setFld
  have h4 : t4.Inv := h3.foldl (·.setOn)
  exact h4.setOn.setOn.setFld

theorem State.Inv.entryDone {target} (h : s.Inv) : (s.entryDone target).Inv := by
  unfold State.entryDone
  extract_lets old _ s1 s2 soon _ s3 _ s4
  have h1 : s1.Inv := h.frame
  have h2 : s2.Inv := h1.setFld.setOn
  have h3 : s3.Inv := .ite h2.chkPower.lockPowerOff h2
  have h4 : s4.Inv := h3.frame.setOn
  exact .ite h2.frame (.ite h4.enterDeep h4)

theorem State.Inv.entryRun {target l} (h : s.Inv) : (s.entryRun target l).Inv := by
  induction l generalizing s with
  | nil => exact h.entryDone
  | cons b t ih => exact .ite (ih h.lockEntry) (.ite (ih h.pllStop) (.ite (ih h)
      (.ite h.frame.entryAbort h.frame.askStop)))

theorem State.Inv.entryBegin {target forced} (h : s.Inv) : (s.entryBegin target forced).Inv := by
  unfold State.entryBegin
  extract_lets order _ s1 s2 s3
  have h1 : s1.Inv := h.frame
  have h2 : s2.Inv := h1.setOn
  have h3 : s3.Inv := .ite h2.blankOn h2
  exact .ite h3.entryAbort h3.entryRun

theorem State.Inv.pwrReq {code} (h : s.Inv) : (s.pwrReq code).Inv := .ite h.entryBegin h

theorem State.Inv.execPwrReq {code} (h : s.Inv) : Keeps (execPwrReq code s) := h.effect (·.pwrReq)

theorem State.Inv.idleTick (h : s.Inv) : s.idleTick.Inv := .ite h.setFld (.ite h.setFld.entryBegin h.setFld)

theorem State.Inv.execIdleTick (h : s.Inv) : Keeps (execIdleTick s) := h.effect (·.idleTick)

theorem State.Inv.gateQuiesce {b} (h : s.Inv) : (s.gateQuiesce b).Inv := by
  unfold State.gateQuiesce
  refine .ite h ?_
  split
  · exact .ite (.ite h.entryAbort h.entryStops.entryRun) h.blockStops
  · exact h.blockStops

theorem State.Inv.execGateQuiesce {block} (h : s.Inv) : Keeps (execGateQuiesce block s) :=
  h.effect (·.gateQuiesce)

theorem State.Inv.gateTimeout {b} (h : s.Inv) : (s.gateTimeout b).Inv :=
  .ite h (.ite h.gateRefused.entryAbort h.gateRefused)

theorem State.Inv.execGateTimeout {block} (h : s.Inv) : Keeps (execGateTimeout block s) :=
  h.effect (·.gateTimeout)

theorem State.Inv.stepAction {n} (h : s.Inv) : (s.stepAction n).Inv := by
  unfold State.stepAction
  extract_lets s1 _ s2 _ _ s3
  have h1 : s1.Inv := h.each (·.blockStarts)
  have h2 : s2.Inv := .ite h1.banksRestore h1
  have h3 : s3.Inv := h1.frame
  split
  · exact h1.pllStart
  · exact h1.frame.pllStart.pllStart
  · exact h1.each fun h => .ite h.setFld h
  · exact h2.tabsFrame.rewriteAll
  · exact h1.pllStart
  · exact h1.bringUpAll
  · exact h3.setFld.setOn.pwrUnblank
  · exact h1

theorem State.Inv.stepStart (h : s.Inv) : s.stepStart.Inv := by
  unfold State.stepStart
  split
  · exact h
  · exact h.frame.stepAction

theorem State.Inv.wakeStep {ready lost} (h : s.Inv) : (s.wakeStep ready lost).Inv := by
  unfold State.wakeStep
  refine .ite h ?_
  extract_lets s1 _
  have h1 : s1.Inv := .ite h.bankCheck h
  exact .ite h1.stepStart h1.frame.setOn

theorem State.Inv.execWakeStep {ready lost} (h : s.Inv) : Keeps (execWakeStep ready lost s) :=
  h.effect (·.wakeStep)

theorem State.Inv.wakeRetry {ready} (h : s.Inv) : (s.wakeRetry ready).Inv := by
  unfold State.wakeRetry
  refine .ite h ?_
  extract_lets s1 _
  have h1 : s1.Inv := h.banksAgain
  exact .ite h1.stepStart (.ite h1.wakeFails h1.frame)

theorem State.Inv.execWakeReadyRetry {ready} (h : s.Inv) : Keeps (execWakeReadyRetry ready s) :=
  h.effect (·.wakeRetry)

theorem State.Inv.wakeBegin {source} (h : s.Inv) : (s.wakeBegin source).Inv := by
  unfold State.wakeBegin
  extract_lets _ s1
  have h1 : s1.Inv := h.frame
  exact h1.setOn.setFld.stepStart.chkPower

theorem State.Inv.wakeDeep {source lost} (h : s.Inv) : (s.wakeDeep source lost).Inv := by
  unfold State.wakeDeep
  extract_lets _ s1 s2 s3
  have h1 : s1.Inv := h.frame
  have h2 : s2.Inv := h1.setFld.setFld
  have h3 : s3.Inv := h2.setOn.setOn
  exact h3.logLock.bankCheck.banksRestore

theorem State.Inv.wakeFire {source lost} (h : s.Inv) : (s.wakeFire source lost).Inv := by
  unfold State.wakeFire
  refine .ite h (.ite h.wakeDeep ?_)
  split
  · exact .ite h h.entryAbort
  · split
    · exact .ite h h.frame
    · exact h.wakeBegin
    · exact h
  · exact h

theorem State.Inv.execWakeSource {source lost} (h : s.Inv) : Keeps (execWakeSource source lost s) :=
  .ite (.next h) (.next h.wakeFire)

theorem State.Inv.hostWake (h : s.Inv) : s.hostWake.Inv := .ite h.frame h.wakeFire

theorem State.Inv.execPwrWake (h : s.Inv) : Keeps (execPwrWake s) := h.effect (·.hostWake)

theorem State.Inv.wakeout {v} (h : s.Inv) : (s.wakeout v).Inv := h.each (·.frame)

theorem State.Inv.execWakeout {sdn} (h : s.Inv) : Keeps (execWakeout sdn s) := h.effect (·.wakeout)

theorem State.Inv.execImg {port frame} (h : s.Inv) : Keeps (execImg port frame s) := by
  unfold Machine.execImg
  refine h.effect fun h => ?_
  refine h.spnArrive fun h => ?_
  split
  rename_i s1 _ e1
  have h1 := h.spnRoute.of_eq e1
  exact .ite (.ite h1.imgMine.wakeFire h1.imgMine) h1

theorem State.Inv.srcAbort {f} (h : s.Inv) (hf : ∀ {t}, t.Inv → (f t).Inv) : (s.srcAbort f).Inv :=
  .ite (hf h).entryAbort (hf h)

theorem State.Inv.xtalWindow {cycles swing} (h : s.Inv) : (s.xtalWindow cycles swing).Inv :=
  .ite h.xtalLost h.qualWindow

theorem State.Inv.execXtalQualWindow {cycles swing} (h : s.Inv) : Keeps (execXtalQualWindow cycles swing s) :=
  h.effect fun h => h.srcAbort (·.xtalWindow)

theorem State.Inv.execXtalLoss (h : s.Inv) : Keeps (execXtalLoss s) :=
  h.effect fun h => h.srcAbort (·.xtalLost)

theorem State.Inv.execPllLockTimeout {loop} (h : s.Inv) : Keeps (execPllLockTimeout loop s) :=
  h.effect fun h => h.srcAbort (·.lockFails)

theorem State.Inv.pllLocks {l} (h : s.Inv) : (s.pllLocks l).Inv := .ite h.pllLock.setFld h.pllLock

theorem State.Inv.throttle (h : s.Inv) : s.throttle.Inv :=
  h.each fun h => .ite h.setOn (.ite h.setOn.incSat.raise (.ite h.setOn h))

theorem State.Inv.shutDown {d} (h : s.Inv) : (s.shutDown d).Inv := by
  unfold State.shutDown
  refine .ite h ?_
  extract_lets s1 _ s2 s3 s4 _ s5
  have h1 : s1.Inv := h.setOn.raise
  have h2 : s2.Inv := h1.frame
  have h3 : s3.Inv := h2.setOn.chkPower.lockUsable
  have h4 : s4.Inv := h3.each (·.blockStops)
  have h5 : s5.Inv := h4.frame
  exact h5.pllStop.pllStop.allDrop.linkCheckAll

theorem State.Inv.diodeState {d clamped} (h : s.Inv) : (s.diodeState d clamped).Inv := by
  unfold State.diodeState
  extract_lets put failed n s1 n
  have h1 : s1.Inv := h.frame
  exact .ite (.ite h1.setOn.raise h1) (.ite (.ite h.frame.setOn h.frame) h.frame)

theorem State.Inv.diodeReading {d code clamped} (h : s.Inv) : (s.diodeReading d code clamped).Inv := by
  unfold State.diodeReading
  extract_lets code t s1 s2 s3 hot n _ s4 s5 s6
  have h1 : s1.Inv := h.setFld
  have h2 : s2.Inv := .ite h1.setFld h1
  have h3 : s3.Inv := h2.diodeState
  have h4 : s4.Inv := h3.frame
  have h5 : s5.Inv := h4.throttle
  have h6 : s6.Inv := .ite h5.shutDown h5
  exact h6.calAuto

theorem State.Inv.execDiodeReading {die code clamped} (h : s.Inv) :
    Keeps (execDiodeReading die code clamped s) :=
  h.effect (·.diodeReading)

/-! ### Machine/Faults.lean -/

theorem State.Inv.promote {i} (h : s.Inv) : (s.promote i).Inv := .ite h.fltFrame.setBit (.ite h h.fltFrame)

theorem State.Inv.windowClosed {i} (h : s.Inv) : (s.windowClosed i).Inv := h.fltFrame

theorem State.Inv.execPromoWindowExpiry {source} (h : s.Inv) : Keeps (execPromoWindowExpiry source s) :=
  h.effect (·.windowClosed)

theorem State.Inv.promoClear {i} (h : s.Inv) : (s.promoClear i).Inv := .ite h.setBit.windowClosed h

theorem State.Inv.execPromoClear {source} (h : s.Inv) : Keeps (execPromoClear source s) :=
  h.effect (·.promoClear)

theorem State.Inv.srcWrite {i w} (h : s.Inv) : (s.srcWrite i w).Inv := h.setReg.windowClosed

theorem State.Inv.execSrcWrite {source value} (h : s.Inv) : Keeps (execSrcWrite source value s) :=
  h.effect (·.srcWrite)

theorem State.Inv.fltHigh (h : s.Inv) : s.fltHigh.Inv := h.setFld

theorem State.Inv.fltInt {i c} (h : s.Inv) : (s.fltInt i c).Inv := h.fltFrame.setBit.fltHigh

theorem State.Inv.faultPin (h : s.Inv) : s.faultPin.Inv := h.setOn.setOn

theorem State.Inv.pulseEnd (h : s.Inv) : s.pulseEnd.Inv := .ite (.ite h.setOn h.setOn.setOn) h

theorem State.Inv.execFaultNPulseEnd (h : s.Inv) : Keeps (execFaultNPulseEnd s) := h.effect (·.pulseEnd)

theorem State.Inv.holdClear (h : s.Inv) : s.holdClear.Inv := .ite h.setOn h.setOn.setOn

theorem State.Inv.execHoldClear (h : s.Inv) : Keeps (execHoldClear s) := h.effect (·.holdClear)

theorem State.Inv.fltReport {i c data time} (h : s.Inv) : (s.fltReport i c data time).Inv := by
  unfold State.fltReport
  extract_lets ws own _ _
  exact .ite (.ite h.incSat h.frame.finShow) (.ite h.fltPass h.fltFrame)

theorem State.Inv.portRestart {p} (h : s.Inv) : (s.portRestart p).Inv := by
  unfold State.portRestart
  extract_lets _ s1
  have h1 : s1.Inv := h.setLink
  exact h1.setFld.linkGo

theorem State.Inv.fltReset {i data} (h : s.Inv) : (s.fltReset i data).Inv := by
  unfold State.fltReset
  extract_lets x die _ g
  exact .ite (.ite (.ite h.downWrite (.ite h.straitRetrain h)) h) (.ite (.ite h.portRestart h) (.ite
    (.ite h.linkGo h) (.ite h.resync (.ite (.ite h.pmbDrop.setLoop.loopShow h) (.ite h.adcAbort (.ite
    (.ite h.calStart h) (.ite h.chkStop (.ite h.chkStop h))))))))

theorem State.Inv.react {i c o promoted lost} (h : s.Inv) : (s.react i c o promoted lost).Inv := by
  unfold State.react
  extract_lets r bit time info _ flt s1 s2 s3 s4 _ s5
  have h1 : s1.Inv := by
    refine .ite ?_ h
    have e : flt.pend = s.flt.pend := by
      unfold flt
      split <;> rfl
    refine State.Inv.logEntry ⟨h.regs, h.mem, h.tabs, fun i => ?_⟩
    exact (congrArg (fun p => (Tab.lst p i).length) e).trans_le (h.events i)
  have h2 : s2.Inv := .ite h1.fltInt h1
  have h3 : s3.Inv := .ite h2.fltReport h2
  have h4 : s4.Inv := .ite h3.faultPin h3
  have h5 : s5.Inv := .ite h4.frame.claspFault h4
  exact .ite h5.fltReset h5

theorem State.Inv.eventTake (h : s.Inv) : s.eventTake.Inv := by
  unfold State.eventTake
  split
  · exact h
  rename_i k i _
  split
  · exact h
  rename_i o rest e
  extract_lets c up lost _ s1
  have h1 : s1.Inv := by
    refine ⟨h.regs, h.mem, h.tabs, fun j => ?_⟩
    by_cases hj : j = i
    · have hi := h.events i
      rw [State.events, e, List.length_cons] at hi
      have he : s1.events j = rest := by
        rw [hj]
        exact Tab.lst_setLst_same
      rw [he]
      exact Nat.le_of_succ_le hi
    · have he : s1.events j = s.events j := Tab.lst_setLst_other hj
      rw [he]
      exact h.events j
  exact h1.promote.setFld.react

theorem State.Inv.execEventTake (h : s.Inv) : Keeps (execEventTake s) := h.effect (·.eventTake)

theorem State.Inv.inject {i} (h : s.Inv) : (s.inject i).Inv := .ite h.raiseWith h

theorem State.Inv.execInjGo {index} (h : s.Inv) : Keeps (execInjGo index s) := h.effect (·.inject)

/-! ### Machine/Flash.lean -/

theorem State.Inv.sfdpDone {data} (h : s.Inv) : (s.sfdpDone data).Inv := by
  unfold State.sfdpDone
  extract_lets _ s1 show'
  have h1 : s1.Inv := h.frame
  exact .ite h1.frame.setOn.setFld.setOn.setOn h1.frame.setOn.setFld.setOn.setOn.raise

theorem State.Inv.flStore {data} (h : s.Inv) : (s.flStore data).Inv := h.each (·.setFld)

theorem State.Inv.flEnd (h : s.Inv) : s.flEnd.Inv := h.frame.setOn

theorem State.Inv.flcmdGo {w} (h : s.Inv) : (s.flcmdGo w).Inv :=
  .ite h.setReg (.ite h.setReg.setOn h.setReg.setOn.flashAsk)

theorem State.Inv.execFlcmdGo {value} (h : s.Inv) : Keeps (execFlcmdGo value s) := h.effect (·.flcmdGo)

theorem State.Inv.hostDone {data} (h : s.Inv) : (s.hostDone data).Inv := by
  unfold State.hostDone
  extract_lets got s1 _
  have h1 : s1.Inv := h.snoop.flStore
  exact .ite h1.frame h1.flEnd.snoopBoundary.flashNext

theorem State.Inv.locketDone {n data} (h : s.Inv) : (s.locketDone n data).Inv := by
  unfold State.locketDone
  extract_lets reach _ s1 ok s2
  have h1 : s1.Inv := h.frame
  have h2 : s2.Inv := .ite h1.snoop.snoopBoundary h1
  exact h2.bankRestored.flashNext

theorem State.Inv.flashDone {data} (h : s.Inv) : (s.flashDone data).Inv := by
  unfold State.flashDone
  split
  · exact h.frame.snoop.snoopBoundary.sfdpDone.flashNext
  · exact h.hostDone
  · exact h.locketDone
  · exact h

theorem State.Inv.execFlashTransferDone {data} (h : s.Inv) : Keeps (execFlashTransferDone data s) :=
  h.effect (·.flashDone)

theorem State.Inv.flashPoll {busy expired} (h : s.Inv) : (s.flashPoll busy expired).Inv := by
  unfold State.flashPoll
  refine .ite ?_ h
  extract_lets b s1
  have h1 : s1.Inv := h.usedFree.snoop
  exact .ite h1.flEnd.snoopBoundary.flashNext (.ite h1.setOn.raise.flEnd.snoopBoundary.flashNext h1)

theorem State.Inv.execFlashPoll {busy expired} (h : s.Inv) : Keeps (execFlashPoll busy expired s) :=
  h.effect (·.flashPoll)

/-! ### Machine/RegBus.lean -/

theorem State.Inv.storeWord {a w} (h : s.Inv) : (s.storeWord a w).Inv := by
  unfold State.storeWord
  split
  · exact h
  · exact .ite h.setReg.setShad h.setReg

theorem State.Inv.storeShadow {a w} (h : s.Inv) : (s.storeShadow a w).Inv := by
  unfold State.storeShadow
  split
  · exact h
  · exact .ite h.setShad h

theorem State.Inv.wrSys {a w} (h : s.Inv) : (s.wrSys a w).Inv :=
  .ite (.ite (.downWrite (.ite h.downWrite h)) (.ite h.downWrite h)) (.ite h.flcmdGo h.storeWord)

theorem State.Inv.wrClk {a w} (h : s.Inv) : (s.wrClk a w).Inv :=
  .ite (.ite h.storeWord.srcfailClear h.storeWord) (.ite h.gateRequest h.storeWord)

theorem State.Inv.wrPwr {a w} (h : s.Inv) : (s.wrPwr a w).Inv :=
  .ite (.ite h.pwrReq.hostWake h.pwrReq) (.ite h.wakeout (.ite h.storeWord h.storeWord))

theorem State.Inv.wrThm {a w} (h : s.Inv) : (s.wrThm a w).Inv := .ite h.storeWord.throttle h.storeWord

theorem State.Inv.wrCfg {a w} (h : s.Inv) : (s.wrCfg a w).Inv := by
  unfold State.wrCfg
  refine .ite ?_ h.storeWord
  extract_lets s1 s2
  have h1 : s1.Inv := .ite h.revert h
  have h2 : s2.Inv := .ite h1.abort h1
  exact .ite h2.load h2.storeWord

theorem State.Inv.wrLnk {a w} (h : s.Inv) : (s.wrLnk a w).Inv := by
  unfold State.wrLnk
  extract_lets s1 s2
  have h1 : s1.Inv := h.storeWord
  have h2 : s2.Inv := h1.linkCheckAll
  exact .ite (.ite h1.foSwitch h1) (.ite (.ite h1.cmSend h1) (h2.each fun h => .ite (.ite (.linkRetrain
    (.ite h.setFld h)) (.ite h.setFld h)) h))

theorem State.Inv.wrSpn {a w} (h : s.Inv) : (s.wrSpn a w).Inv := by
  unfold State.wrSpn
  refine .ite h.tsetWrite ?_
  extract_lets s1 s2
  have h1 : s1.Inv := h.storeWord
  have h2 : s2.Inv := h1.linkCheckAll
  exact .ite (.ite h2.walkStart h2) (.ite (.ite h1.raSend h1) (.ite (.ite h1.mcStart h1) h1))

theorem State.Inv.wrMem {a w} (h : s.Inv) : (s.wrMem a w).Inv :=
  .ite (.ite h h.storeWord.drainStep) (.ite h.storeWord.spareStart h.storeWord)

theorem State.Inv.wrLay {a w} (h : s.Inv) : (s.wrLay a w).Inv :=
  h.storeWord.each fun h => .ite h.hostPublish h

theorem State.Inv.wrCor {a w} (h : s.Inv) : (s.wrCor a w).Inv :=
  .ite (.ite h.storeWord.agePoisonClear h.storeWord) (.ite h.storeWord.zoneProbe h.storeWord)

theorem State.Inv.wrTim {a w} (h : s.Inv) : (s.wrTim a w).Inv := by
  unfold State.wrTim
  extract_lets old s1
  have h1 : s1.Inv := h.storeWord
  exact .ite (.ite h1.commit h1) (.ite (.ite h1.acquire h1) h1)

theorem State.Inv.wrChn {a w} (h : s.Inv) : (s.wrChn a w).Inv :=
  .ite h.storeWord.forceBlank (.ite h.storeWord.chnProbe h.storeWord)

theorem State.Inv.wrCls {a w} (h : s.Inv) : (s.wrCls a w).Inv :=
  .ite h.clsKey (.ite h.storeWord.arm h.storeWord)

theorem State.Inv.wrAdc {a w} (h : s.Inv) : (s.wrAdc a w).Inv := by
  unfold State.wrAdc
  extract_lets was s1 s2 s3
  have h1 : s1.Inv := h.storeWord
  have h2 : s2.Inv := .ite h1.adcDisable h1
  have h3 : s3.Inv := .ite h1.scalZero h1
  exact .ite (.ite h2.adcTrigger h2) (.ite (.ite h3.scalFull h3) h1)

theorem State.Inv.wrCal {a w} (h : s.Inv) : (s.wrCal a w).Inv := by
  unfold State.wrCal
  extract_lets s1
  have h1 : s1.Inv := h.storeWord
  exact .ite (h1.each (·.calStart)) (.ite h1.calProbe h1)

theorem State.Inv.wrChk {a w} (h : s.Inv) : (s.wrChk a w).Inv := by
  unfold State.wrChk
  extract_lets n busy taken start stop werr guarded mask s1 s2
  have h1 : s1.Inv := .ite h.setOn h
  have h2 : s2.Inv := h.storeWord.chkSync
  exact .ite (.ite h.chkStart h.setOn) (.ite (.ite (.ite h1.chkStop h1) (.ite h.setOn h.storeWord))
    (.ite h2.chkStart h2))

theorem State.Inv.wrFlt {a w} (h : s.Inv) : (s.wrFlt a w).Inv :=
  .ite (.ite h.storeWord.holdClear h.storeWord) (.ite h.storeWord.fltHigh (.ite (h.each (·.promoClear))
    (.ite h.srcWrite (.ite (.ite (.ite h.storeWord.inject h.storeWord) h) h.storeWord))))

theorem State.Inv.wrLog {a w} (h : s.Inv) : (s.wrLog a w).Inv := .ite h.storeWord.logClear h.storeWord

theorem State.Inv.regWrite {a r w} (h : s.Inv) : (s.regWrite a r w).1.Inv := by
  unfold State.regWrite
  refine .ite_fst h.raise ?_
  split
  · exact h.wrSys
  · exact h.wrClk
  · exact h.wrPwr
  · exact h.wrThm
  · exact h.wrCfg
  · exact h.wrLnk
  · exact h.wrSpn
  · exact h.wrMem
  · exact h.wrLay
  · exact h.wrCor
  · exact h.wrTim
  · exact h.wrChn
  · exact h.wrCls
  · exact h.wrAdc
  · exact h.wrCal
  · exact h.wrChk
  · exact h.wrFlt
  · exact h.wrLog
  · exact h.storeWord

theorem State.Inv.readClear {a r} (h : s.Inv) : (s.readClear a r).1.Inv := .ite h.setReg h

theorem State.Inv.regRead {who a r} (h : s.Inv) : (s.regRead who a r).1.Inv :=
  .ite_fst h.timeLoRead (.ite_fst h (.ite_fst h (.ite_fst h.reqRead.cmNext (.ite_fst h.reqRead.raNext
    (.ite_fst h.finRead (.ite_fst h h.readClear))))))

theorem State.Inv.beadStat {isle k} (h : s.Inv) : (s.beadStat isle k).1.Inv := by
  unfold State.beadStat
  extract_lets here mask key gated busy v
  exact h.usedFree

theorem State.Inv.isleRead {a} (h : s.Inv) : (s.isleRead a).1.Inv := by
  unfold State.isleRead
  extract_lets o isle
  exact .ite_fst h.usedFree (.ite_fst (.ite_fst h.beadStat h) h)

theorem State.Inv.addrErr {a} (h : s.Inv) : (s.addrErr a).Inv := h.raise

theorem State.Inv.busRead {who addr} (h : s.Inv) : (s.busRead who addr).1.Inv := by
  unfold State.busRead
  extract_lets a
  refine .ite_fst ?_ ?_
  · split
    · exact h.addrErr
    · exact .ite_fst h.regRead h
  · refine .ite_fst h (.ite_fst h.isleRead ?_)
    split
    · exact h.tableRead
    · exact h.addrErr

theorem State.Inv.busWrite {addr w} (h : s.Inv) : (s.busWrite addr w).1.Inv := by
  unfold State.busWrite
  extract_lets a
  refine .ite_fst ?_ ?_
  · split
    · exact h.addrErr
    · exact .ite_fst h.regWrite h.storeShadow
  · refine .ite_fst (.ite h h.setLocket) (.ite_fst h.addrErr ?_)
    split
    · exact h.tableWrite
    · exact h.addrErr

/-! ### Machine/Remote.lean -/

theorem State.Inv.busReads {who a n} (h : s.Inv) : (s.busReads who a n).1.Inv := by
  induction n generalizing s a with
  | zero => exact h
  | succ n ih =>
    show ((s.busRead who a).1.busReads who (a + 4) n).1.Inv
    exact ih h.busRead

theorem State.Inv.busWrites {a ws} (h : s.Inv) : (s.busWrites a ws).1.Inv := by
  induction ws generalizing s a with
  | nil => exact h
  | cons w t ih =>
    show ((s.busWrite a w).1.busWrites (a + 4) t).1.Inv
    exact ih h.busWrite

theorem State.Inv.lineWord {ds a} (h : s.Inv) : (s.lineWord ds a).1.Inv := by
  unfold State.lineWord
  split
  · exact h
  · exact .ite_fst h.usedFree h

theorem State.Inv.lineWords {ds a n} (h : s.Inv) : (s.lineWords ds a n).1.Inv := by
  induction n generalizing s a with
  | zero => exact h
  | succ n ih =>
    show ((s.lineWord ds a).1.lineWords ds (a + 4) n).1.Inv
    exact ih h.lineWord

theorem State.Inv.remoteDo {f} (h : s.Inv) : (s.remoteDo f).1.Inv := by
  unfold State.remoteDo
  extract_lets a n _ flat
  refine .ite_fst h (.ite_fst ?_ ?_)
  · refine .ite_fst ?_ h.writeFlat
    split
    rename_i s1 _ e1
    have h1 := h.readLines.of_eq e1
    split
    rename_i s2 _ e2
    exact h1.lineWords.of_eq e2
  · refine .ite_fst ?_ ?_
    · split
      rename_i s1 _ e1
      exact h.busReads.of_eq e1
    · split
      rename_i s1 _ e1
      exact h.busWrites.of_eq e1

theorem State.Inv.remote {f} (h : s.Inv) : (s.remote f).Inv := by
  unfold State.remote
  split
  rename_i s1 _ _ e1
  have h1 := h.remoteDo.of_eq e1
  exact h1.spnReplyTo

theorem State.Inv.selfRun {n} (h : s.Inv) : (s.selfRun n).Inv := by
  induction n generalizing s with
  | zero => exact h
  | succ n ih =>
    unfold State.selfRun
    split
    · exact h
    · exact .ite (ih h.frame.remote) h

theorem State.Inv.settle (h : s.Inv) : s.settle.Inv := h.selfRun

theorem State.Inv.remoteAsk {f} (h : s.Inv) : (s.remoteAsk f).Inv := h.frame.selfRun

theorem State.Inv.spnAccess {type p f} (h : s.Inv) : (s.spnAccess type p f).Inv := by
  unfold State.spnAccess
  refine h.spnArrive fun h => ?_
  split
  rename_i s1 _ e1
  have h1 := h.spnRoute.of_eq e1
  exact .ite h1.remoteAsk.wakeFire.settle h1

theorem State.Inv.execSpnRd {port frame} (h : s.Inv) : Keeps (execSpnRd port frame s) :=
  h.effect (·.spnAccess)

theorem State.Inv.execSpnWr {port frame} (h : s.Inv) : Keeps (execSpnWr port frame s) :=
  h.effect (·.spnAccess)

theorem State.Inv.spnAnswer {type p f} (h : s.Inv) : (s.spnAnswer type p f).Inv := by
  unfold State.spnAnswer
  refine h.spnArrive fun h => ?_
  split
  rename_i s1 _ e1
  have h1 := h.spnRoute.of_eq e1
  exact .ite h1.raAnswer.settle h1

theorem State.Inv.execSpnRdr {port frame} (h : s.Inv) : Keeps (execSpnRdr port frame s) :=
  h.effect (·.spnAnswer)

theorem State.Inv.execSpnWrr {port frame} (h : s.Inv) : Keeps (execSpnWrr port frame s) :=
  h.effect (·.spnAnswer)

theorem State.Inv.execRaSend (h : s.Inv) : Keeps (execRaSend s) := h.effect (·.raSend.settle)

theorem State.Inv.execRaTimeout {tag} (h : s.Inv) : Keeps (execRaTimeout tag s) :=
  h.effect (·.reqTimeout.raNext.settle)

theorem State.Inv.execRaRspRead (h : s.Inv) : Keeps (execRaRspRead s) := h.effect (·.reqRead.raNext.settle)

theorem State.Inv.execQuarantineExpiry {spine tag} (h : s.Inv) : Keeps (execQuarantineExpiry spine tag s) :=
  h.effect fun h => .ite h.reqFree.raNext.settle h.reqFree.cmNext

theorem State.Inv.wordWrite {addr w} (h : s.Inv) : (s.wordWrite addr w).Inv :=
  .ite h.lineWrite h.busWrite.settle

/-! ### Machine/HostPort.lean -/

theorem State.Inv.hostErr {code} (h : s.Inv) : (s.hostErr code).Inv := h.setFld.incSat.raise

theorem State.Inv.hostShow (h : s.Inv) : s.hostShow.Inv := h.setOn.setFld

theorem State.Inv.hostRefuse {n} (h : s.Inv) : (s.hostRefuse n).Inv := h.frame

theorem State.Inv.hostStore {a w} (h : s.Inv) : (s.hostStore a w).Inv := .wordWrite (.ite h.hostErr h)

theorem State.Inv.hostFetch {r} (h : s.Inv) : (s.hostFetch r).1.Inv := by
  unfold State.hostFetch
  extract_lets got flat s1 _
  have h1 : s1.Inv := h.outOfRange.setOn.setOn
  refine .ite_fst h (.ite_fst ?_ (.ite_fst h1 (.ite_fst h h.pushReq)))
  refine .ite_fst (.ite h h.hostErr) ?_
  split
  rename_i s2 _ e2
  have h2 := h.busRead.of_eq e2
  exact h2.settle

theorem State.Inv.hostAnswer {r} (h : s.Inv) : (s.hostAnswer r).Inv := .ite h.hostRefuse h.frame

theorem State.Inv.hostRun {n} (h : s.Inv) : (s.hostRun n).Inv := by
  induction n generalizing s with
  | zero => exact h
  | succ n ih =>
    unfold State.hostRun
    split
    · exact .ite (ih h.frame.hostStore) h
    · refine .ite (ih h.frame) ?_
      split
      rename_i s1 _ _ e1
      have h1 := h.hostFetch.of_eq e1
      exact .ite (ih h1.frame) h1.frame
    · split
      · exact h
      · refine .ite h.hostAnswer ?_
        split
        rename_i s1 _ _ e1
        have h1 := h.hostFetch.of_eq e1
        exact .ite (ih h1.frame) h1.frame

theorem State.Inv.hostGo (h : s.Inv) : s.hostGo.Inv := h.hostRun.hostShow

theorem State.Inv.hostTake {r d} (h : s.Inv) : (s.hostTake r d).1.Inv := h.whenDo (·.setOn)

theorem State.Inv.hostLine {d} (h : s.Inv) : (s.hostLine d).Inv := by
  unfold State.hostLine
  split
  · refine .ite ?_ h
    split
    rename_i s1 _ e1
    have h1 := h.hostTake.of_eq e1
    exact h1.frame.hostGo
  · refine .ite ?_ h
    split
    rename_i s1 _ e1
    have h1 := h.hostTake.of_eq e1
    exact h1.frame.hostGo
  · exact h

theorem State.Inv.hostAbandon (h : s.Inv) : s.hostAbandon.Inv := by
  unfold State.hostAbandon
  split
  · exact h
  · exact h.frame

theorem State.Inv.hostCut (h : s.Inv) : s.hostCut.Inv := .ite h.hostAbandon.hostErr h

theorem State.Inv.busWord {addr w} (h : s.Inv) : (s.busWord addr w).Inv := .ite h.wordWrite h.frame.hostGo

theorem State.Inv.execRegisterWrite {addr value} (h : s.Inv) : Keeps (execRegisterWrite addr value s) :=
  h.effect (·.busWord)

theorem State.Inv.execLkWrite {addr value} (h : s.Inv) : Keeps (execLkWrite addr value s) :=
  h.effect (·.busWord)

theorem State.Inv.hostCommand {f : State → State} (h : s.Inv) (hf : ∀ {t}, t.Inv → (f t).Inv) :
    Keeps (hostCommand f s) :=
  .ite (.next h) (.ite (.next h.wakeFire) (.next (hf h.hostCut).hostGo.snoopBoundary))

theorem State.Inv.hostRead {addr count cut} (h : s.Inv) : (s.hostRead addr count cut).Inv := by
  unfold State.hostRead
  extract_lets n s1 marker words _ s2 s3 _
  have h1 : s1.Inv := h.hostErr.hostRefuse
  have h2 : s2.Inv := h.frame.hostGo
  have h3 : s3.Inv := h2.hostAbandon
  exact .ite (.ite h1.hostErr h1) (.ite h3.frame.hostErr h2)

theorem State.Inv.execHostRd {addr count cut} (h : s.Inv) : Keeps (execHostRd addr count cut s) :=
  h.hostCommand (·.hostRead)

theorem State.Inv.execQrd {addr count cut} (h : s.Inv) : Keeps (execQrd addr count cut s) :=
  h.hostCommand (·.hostRead)

theorem State.Inv.hostWrite {addr count words cut} (h : s.Inv) : (s.hostWrite addr count words cut).Inv := by
  unfold State.hostWrite
  extract_lets n ws s1 run _ s2
  have h1 : s1.Inv := h.snoop
  have h2 : s2.Inv := h1.frame.hostGo
  exact .ite h.hostErr (.ite h.hostErr (.ite h2.hostErr h2))

theorem State.Inv.execHostWr {addr count words cut} (h : s.Inv) : Keeps (execHostWr addr count words cut s) :=
  h.hostCommand (·.hostWrite)

theorem State.Inv.execQwr {addr count words cut} (h : s.Inv) : Keeps (execQwr addr count words cut s) :=
  h.hostCommand (·.hostWrite)

theorem State.Inv.execRdsr (h : s.Inv) : Keeps (execRdsr s) := h.hostCommand (·.hostGo.frame)

theorem State.Inv.hostTimeout (h : s.Inv) : s.hostTimeout.Inv := by
  unfold State.hostTimeout
  split
  · exact h
  · exact h.hostAbandon.hostRefuse.hostErr.hostGo

theorem State.Inv.execHostReadTimeout (h : s.Inv) : Keeps (execHostReadTimeout s) := h.effect (·.hostTimeout)

theorem State.Inv.execHostUnknownOpcode {opcode} (h : s.Inv) : Keeps (execHostUnknownOpcode opcode s) :=
  h.hostCommand fun h => .ite h h.hostErr

/-! ### Machine/MemPorts.lean -/

theorem State.Inv.deliver {q d} (h : s.Inv) : (s.deliver q d).Inv := by
  unfold State.deliver
  extract_lets _ s1
  have h1 : s1.Inv := h.memFrame
  exact .ite (h1.setBuf.whenDo (·.fetchPoison)) (.ite h1.hostLine (.ite h1.chkLine h1))

theorem State.Inv.refuseReq {q e} (h : s.Inv) : (s.refuseReq q e).Inv := by
  unfold State.refuseReq
  extract_lets s1 zero flat f _
  have h1 : s1.Inv := h.outOfRange
  exact .ite h1 (.ite h1.memFrame h1.deliver)

theorem State.Inv.refuseHead {q n} (h : s.Inv) : (s.refuseHead q n).Inv := by
  induction n generalizing s with
  | zero => exact h
  | succ n ih =>
    unfold State.refuseHead
    split
    · exact .ite (ih h.dropHead.refuseReq) h
    · exact h

theorem State.Inv.memRequest {q r} (h : s.Inv) : (s.memRequest q r).Inv := by
  unfold State.memRequest
  split
  · exact .ite h h.pushReq.refuseHead

theorem State.Inv.execMemRequest {queue req} (h : s.Inv) : Keeps (execMemRequest queue req s) :=
  h.effect (·.memRequest)

theorem State.Inv.refuseHeads (h : s.Inv) : s.refuseHeads.Inv := h.each (·.refuseHead)

theorem State.Inv.hostResume (h : s.Inv) : s.hostResume.Inv := .hostGo (.ite h.lineFlush h)

theorem State.Inv.resume (h : s.Inv) : s.resume.Inv :=
  h.writerTakeAll.zoneOwed.imgRun.settle.chkAsk.hostResume

theorem State.Inv.memAccept {c} (h : s.Inv) : (s.memAccept c).Inv :=
  .ite h h.refuseHeads.urgentStep.memCycle.resume

theorem State.Inv.execMemAccept {ctl} (h : s.Inv) : Keeps (execMemAccept ctl s) := h.effect (·.memAccept)

theorem State.Inv.deliverAll {n} (h : s.Inv) : (s.deliverAll n).Inv := by
  induction n generalizing s with
  | zero => exact h
  | succ n ih =>
    unfold State.deliverAll
    split
    · exact h
    · exact ih h.memFrame.deliver

theorem State.Inv.memReadComplete {c noise} (h : s.Inv) : (s.memReadComplete c noise).Inv := by
  unfold State.memReadComplete
  extract_lets s1
  have h1 : s1.Inv := by
    unfold s1
    split
    · exact h
    · exact h.readDone
  exact h1.deliverAll.resume

theorem State.Inv.execMemReadComplete {ctl noise} (h : s.Inv) : Keeps (execMemReadComplete ctl noise s) :=
  h.effect (·.memReadComplete)

theorem State.Inv.execTimingRecalDone {rank} (h : s.Inv) : Keeps (execTimingRecalDone rank s) :=
  h.effect fun h => .ite h.memFrame.resume h

theorem State.Inv.execPllLock {loop} (h : s.Inv) : Keeps (execPllLock loop s) :=
  h.effect fun h => .ite h h.pllLocks.linkCheckAll.flashNext.bringUpDue.resume

/-! ### Machine/Reset.lean -/

/-- Whatever came before a power-on reset, the state after it has the invariant. -/
theorem State.inv_powerOn (s : State) : s.powerOn.Inv := by
  have h : State.Inv { State.reset with
      pending := s.pending, freeCtr := s.freeCtr, mem := { State.reset.mem with epoch := s.mem.epoch + 1 } }
        :=
    ⟨⟨rfl, rfl⟩, rfl, ⟨rfl, rfl, rfl⟩, fun _ => Nat.zero_le _⟩
  exact h.each (·.lockLose)

theorem State.Inv.staysShut (h : s.Inv) : s.staysShut.Inv := h.setOn.each (·.gated)

theorem State.Inv.resetAssert {cycles} (h : s.Inv) : (s.resetAssert cycles).Inv :=
  .ite h (.ite s.inv_powerOn.staysShut s.inv_powerOn)

theorem State.Inv.execResetAssert {cycles} (h : s.Inv) : Keeps (execResetAssert cycles s) :=
  .next h.resetAssert

theorem State.Inv.execInternalPor (_ : s.Inv) : Keeps (execInternalPor s) := .next s.inv_powerOn

theorem State.Inv.resetRelease {x} (h : s.Inv) : (s.resetRelease x).Inv := by
  unfold State.resetRelease
  refine .ite h ?_
  extract_lets _ s1 s2 s3
  have h1 : s1.Inv := h.frame
  have h2 : s2.Inv := h1.setOn.setOn
  have h3 : s3.Inv := .ite h2 h2.setFld.setFld
  exact h3.each (·.setFld.setFld)

theorem State.Inv.execResetRelease {straps} (h : s.Inv) : Keeps (execResetRelease straps s) :=
  .next h.resetRelease

/-! ### Machine/Idle.lean -/

theorem State.Inv.idleCycle (h : s.Inv) : (idleCycle s).Inv := .ite h h.timeTick.frame.writerTakeAll

/-! ### Machine/Dispatch.lean and Machine/Step.lean -/

/-- Every command keeps the invariant. -/
theorem State.Inv.exec (h : s.Inv) : ∀ c, Keeps (exec c s)
  | .straitFlitReceive _ _ _ _ => h.execStraitFlitReceive
  | .straitRetrainDone _ _ => h.execStraitRetrainDone
  | .downClear _ => h.execDownClear
  | .straitTrainingDone _ _ => h.execStraitTrainingDone
  | .beadContextSelect _ _ _ _ => h.execBeadContextSelect
  | .load _ _ => h.execLoad
  | .abort => h.execAbort
  | .revert => h.execRevert
  | .fetchDone _ => h.execFetchDone
  | .checkDone => h.execCheckDone
  | .authDone => h.execAuthDone
  | .admissionDone => h.execAdmissionDone
  | .apply => h.execApply
  | .commit => h.execCommit
  | .commitWindowOpen => h.execCommitWindowOpen
  | .commitWindowClose => h.execCommitWindowClose
  | .videoPacketReceive _ _ => h.execVideoPacketReceive
  | .publish _ => h.execPublish
  | .bankLoadStart _ => h.execBankLoadStart
  | .bankLoadComplete _ => h.execBankLoadComplete
  | .tableCopyDone => h.execTableCopyDone
  | .coefRewrite _ => h.execCoefRewrite
  | .writebackLine _ _ _ => h.execWritebackLine
  | .writebackPublish _ => h.execWritebackPublish
  | .monitorPacketSend _ => h.execMonitorPacketSend
  | .guardSumsComplete _ => h.execGuardSumsComplete
  | .agePoisonClear => h.execAgePoisonClear
  | .frameStart => h.execFrameStart
  | .rowBoundary _ => h.execRowBoundary
  | .genlockEdge _ _ => h.execGenlockEdge
  | .genlockVirtualInstant => h.execGenlockVirtualInstant
  | .pllScanLocked => h.execPllScanLocked
  | .chainLineShift _ _ => h.execChainLineShift
  | .strb _ => h.execStrb
  | .row _ _ _ => h.execRow
  | .bwr _ _ _ => h.execBwr
  | .bsel _ _ _ => h.execBsel
  | .rdbk _ _ _ => h.execRdbk
  | .glnt _ _ _ => h.execGlnt
  | .cur _ _ _ => h.execCur
  | .pwm _ _ _ => h.execPwm
  | .gdly _ _ _ => h.execGdly
  | .blnk _ _ _ => h.execBlnk
  | .sync _ _ => h.execSync
  | .win _ _ _ => h.execWin
  | .readbackReceive _ _ _ _ => h.execReadbackReceive
  | .forceBlank _ => h.execForceBlank
  | .pmbusTransactionDone _ _ => h.execPmbusTransactionDone
  | .pmbusRetry _ => h.execPmbusRetry
  | .memRequest _ _ => h.execMemRequest
  | .memAccept _ => h.execMemAccept
  | .memReadComplete _ _ => h.execMemReadComplete
  | .memWriteComplete _ => h.execMemWriteComplete
  | .refreshDue _ _ _ => h.execRefreshDue
  | .mr4Poll _ _ _ _ => h.execMr4Poll
  | .refreshWindowStart => h.execRefreshWindowStart
  | .ceWindowEnd => h.execCeWindowEnd
  | .scrubStep _ => h.execScrubStep
  | .spareStart _ => h.execSpareStart
  | .migrationLineCopy _ => h.execMigrationLineCopy
  | .timingRecal _ => h.execTimingRecal
  | .memReconfigDone => h.execMemReconfigDone
  | .dramTrainingDone _ _ _ _ => h.execDramTrainingDone
  | .hostLineBufferFlush => h.execHostLineBufferFlush
  | .receiverDetect _ _ => h.execReceiverDetect
  | .linkStateTimeout _ => h.execLinkStateTimeout
  | .roleHoldoffEnd _ => h.execRoleHoldoffEnd
  | .ts1Receive _ _ _ => h.execTs1Receive
  | .ts2Receive _ _ _ => h.execTs2Receive
  | .blockHeaderReceive _ _ _ => h.execBlockHeaderReceive
  | .skpReceive _ _ _ => h.execSkpReceive
  | .videoTimeout => h.execVideoTimeout
  | .revertHoldExpiry => h.execRevertHoldExpiry
  | .foSwitch => h.execFoSwitch
  | .retrain _ => h.execRetrain
  | .clrfail _ => h.execClrfail
  | .packetSelect _ => h.execPacketSelect
  | .lnkRd _ _ => h.execLnkRd
  | .lnkWr _ _ => h.execLnkWr
  | .lnkRdr _ _ => h.execLnkRdr
  | .lnkWrr _ _ => h.execLnkWrr
  | .cmSend => h.execCmSend
  | .cmTimeout _ => h.execCmTimeout
  | .quarantineExpiry _ _ => h.execQuarantineExpiry
  | .cmRspRead => h.execCmRspRead
  | .hb _ _ _ => h.execHb
  | .cmd _ _ _ => h.execCmd
  | .req _ _ _ => h.execReq
  | .rst _ _ _ => h.execRst
  | .spnRd _ _ => h.execSpnRd
  | .spnWr _ _ => h.execSpnWr
  | .spnRdr _ _ => h.execSpnRdr
  | .spnWrr _ _ => h.execSpnWrr
  | .img _ _ => h.execImg
  | .imge _ _ => h.execImge
  | .imgr _ _ => h.execImgr
  | .flt _ _ => h.execFlt
  | .fsync _ _ => h.execFsync
  | .time _ _ => h.execTime
  | .walk _ _ => h.execWalk
  | .done _ _ => h.execDone
  | .walkStart => h.execWalkStart
  | .autowalkTimer => h.execAutowalkTimer
  | .doneTimeout _ => h.execDoneTimeout
  | .timeHoldTimeout => h.execTimeHoldTimeout
  | .tsetWrite _ => h.execTsetWrite
  | .timeLoRead _ => h.execTimeLoRead
  | .raSend => h.execRaSend
  | .raTimeout _ => h.execRaTimeout
  | .mcStart => h.execMcStart
  | .mcChunkSend => h.execMcChunkSend
  | .imgrWaitTimeout => h.execImgrWaitTimeout
  | .finRead => h.execFinRead
  | .claspCycle _ => h.execClaspCycle
  | .clsFilterAccept _ => h.execClsFilterAccept
  | .discTimeout _ => h.execDiscTimeout
  | .clsKey _ => h.execClsKey
  | .keyTimeout => h.execKeyTimeout
  | .arm => h.execArm
  | .sdkReq _ => h.execSdkReq
  | .heartbeatSend => h.execHeartbeatSend
  | .heartbeatTimeout => h.execHeartbeatTimeout
  | .reqResend => h.execReqResend
  | .offPulseTest _ _ => h.execOffPulseTest
  | .outputReadbackCheck _ _ => h.execOutputReadbackCheck
  | .selfTest _ => h.execSelfTest
  | .clsClockCheck _ => h.execClsClockCheck
  | .lkWrite _ _ => h.execLkWrite
  | .xtalQualWindow _ _ => h.execXtalQualWindow
  | .xtalQualTimeout => h.execXtalQualTimeout
  | .xtalLoss => h.execXtalLoss
  | .srcfailClear => h.execSrcfailClear
  | .pllLock _ => h.execPllLock
  | .pllUnlock _ => h.execPllUnlock
  | .clockSwitch _ _ => h.execClockSwitch
  | .gateRequest _ => h.execGateRequest
  | .gateQuiesce _ => h.execGateQuiesce
  | .gateTimeout _ => h.execGateTimeout
  | .pwrReq _ => h.execPwrReq
  | .idleTick => h.execIdleTick
  | .pwrWake => h.execPwrWake
  | .wakeSource _ _ => h.execWakeSource
  | .wakeStep _ _ => h.execWakeStep
  | .wakeReadyRetry _ => h.execWakeReadyRetry
  | .wakeout _ => h.execWakeout
  | .diodeReading _ _ _ => h.execDiodeReading
  | .diodeService => h.execDiodeService
  | .adcStart => h.execAdcStart
  | .adcTimer => h.execAdcTimer
  | .adcPinTrigger _ => h.execAdcPinTrigger
  | .adcConversionDone _ _ => h.execAdcConversionDone
  | .scalZero => h.execScalZero
  | .scalFull => h.execScalFull
  | .scalCaptureDone _ _ => h.execScalCaptureDone
  | .calRun _ => h.execCalRun
  | .calRunDone _ _ => h.execCalRunDone
  | .chkStart _ => h.execChkStart
  | .chkStop _ => h.execChkStop
  | .eventTake => h.execEventTake
  | .promoWindowExpiry _ => h.execPromoWindowExpiry
  | .promoClear _ => h.execPromoClear
  | .srcWrite _ _ => h.execSrcWrite
  | .faultNPulseEnd => h.execFaultNPulseEnd
  | .holdClear => h.execHoldClear
  | .injGo _ => h.execInjGo
  | .logClear => h.execLogClear
  | .hostRd _ _ _ => h.execHostRd
  | .hostWr _ _ _ _ => h.execHostWr
  | .qrd _ _ _ => h.execQrd
  | .qwr _ _ _ _ => h.execQwr
  | .rdsr => h.execRdsr
  | .hostReadTimeout => h.execHostReadTimeout
  | .registerWrite _ _ => h.execRegisterWrite
  | .flcmdGo _ => h.execFlcmdGo
  | .flashTransferDone _ => h.execFlashTransferDone
  | .flashPoll _ _ => h.execFlashPoll
  | .resetAssert _ => h.execResetAssert
  | .resetRelease _ => h.execResetRelease
  | .internalPor => h.execInternalPor
  | .vddCoreLow => h.execVddCoreLow
  | .raRspRead => h.execRaRspRead
  | .blockHeaderSend _ _ => h.execBlockHeaderSend
  | .clsInChange _ _ => h.execClsInChange
  | .claspWatchdogExpiry => h.execClaspWatchdogExpiry
  | .pllLockTimeout _ => h.execPllLockTimeout
  | .laneWidthTimeout _ => h.execLaneWidthTimeout
  | .chkOnchipScanDone _ => h.execChkOnchipScanDone
  | .timingRecalDone _ => h.execTimingRecalDone
  | .codeError _ _ => h.execCodeError
  | .elasticBufferSlip _ _ => h.execElasticBufferSlip
  | .hostUnknownOpcode _ => h.execHostUnknownOpcode
  | .spnInvalidFrame _ _ => h.execSpnInvalidFrame
  | .lnkInvalidControl _ => h.execLnkInvalidControl

theorem State.Inv.step (h : s.Inv) : Keeps (step s) := by
  unfold Machine.step
  split
  · exact .next h.idleCycle
  · exact State.Inv.exec h.frame _

end

/-- Settles O60: each operation keeps the invariant, so each command does, and so does a cycle without one. -/
theorem steps_KeepTheInvariants : Obligations.Steps_KeepTheInvariants := by
  intro s t hr hm ht he hs
  obtain ⟨regs, mem, tabs, events⟩ := State.Inv.step ⟨hr, hm, ht, he⟩ t hs
  exact ⟨regs, mem, tabs, events⟩

end Sys2Proof.Machine

end

section

/-!
# The register bus

What a written word does at each address (O54).
-/

namespace Sys2Proof.Machine

variable {s t : State} {a b : Nat} {w : Word}

/-! ## Raising an event -/

/-- An event raised reaches its source alone, and shows in LOSTOCC where the source is full (R417). -/
theorem State.raise_spec (s : State) (i n : Nat) :
    Raised i (BitVec.ofNat 32 n) s (s.raise i n) ∧ OnlyFields [F.FLT_STAT_LOSTOCC] s (s.raise i n) ∧
    s.raise i n = { s with regs := (s.raise i n).regs, flt := (s.raise i n).flt } := by
  refine ⟨⟨fun h hl => State.events_raiseWith_same h hl, fun j hj => State.events_raiseWith_other hj⟩,
    onlyFields_raiseWith, ?_⟩
  unfold State.raise
  rcases State.raiseWith_cases s i (BitVec.ofNat 32 n) false with ⟨_, e⟩ | ⟨_, _, e⟩ | ⟨_, _, e⟩
  · rw [e]
  · rw [e]
  · rw [e]
    rfl

theorem State.spn_raise (s : State) (i n : Nat) : (s.raise i n).spn = s.spn := by
  rw [(s.raise_spec i n).2.2]

/-! ## The commands -/

/-- Both commands write a word through the bus. -/
theorem runs_busWord {addr : BitVec 24} {c : Instr} {P : State → Prop} (live : s.live)
    (hc : c = .registerWrite addr w ∨ c = .lkWrite addr w) (hP : P (s.busWord addr.toNat w)) : Runs c s P := by
  have acts : ¬ (s.inReset || s.pwr.deep) = true := by simp [live.1, live.2]
  rcases hc with rfl | rfl
  · exact ⟨_, if_neg acts, hP⟩
  · exact ⟨_, if_neg acts, hP⟩

theorem State.settle_idle (h : s.spn.self = []) : s.settle = s := by
  rw [State.settle, State.selfRun, h]

/-- A word that waits for the clock stays in the queue, which shows that it is busy (R363, R435). -/
theorem State.busWord_waits {addr : Nat} (hub : s.hubRuns = false) (jobs : s.host.jobs = []) :
    s.busWord addr w = ({ s with host := { s.host with jobs := [.write addr w] } } : State).hostShow := by
  have can : s.hostCan addr = false := by rw [State.hostCan, hub, Bool.false_and]
  have stays {n : Nat} {u : State} (hj : u.host.jobs = [.write addr w]) (hu : u.hostCan addr = false) :
      u.hostRun (n + 1) = u := by
    rw [State.hostRun, hj]
    exact if_neg (by rw [hu]; exact Bool.false_ne_true)
  rw [State.busWord, can, Bool.and_false, if_neg Bool.false_ne_true, jobs, State.hostGo]
  exact congrArg State.hostShow (stays rfl can)

/-- Below the DRAM window a word acts at once, and nothing follows it where no request waits for the device itself. -/
theorem State.busWord_at_once {addr : Nat} (hub : s.hubRuns = true) (jobs : s.host.jobs = []) (ha : addr < 0x800000)
    (h : (s.busWrite addr w).1 = t) (self : t.spn.self = []) : s.busWord addr w = t := by
  have can : s.hostCan addr = true := by rw [State.hostCan, hub, if_neg (Nat.not_le.2 ha), Bool.true_and]
  rw [State.busWord, can, jobs, State.wordWrite, if_neg (Nat.not_le.2 ha), h, State.settle_idle self]
  rfl

/-- An address that nothing answers raises an event and does nothing else. -/
theorem runs_raise {addr : BitVec 24} {c : Instr} {i n : Nat} (live : s.live) (hub : s.hubRuns = true)
    (jobs : s.host.jobs = []) (self : s.spn.self = []) (hc : c = .registerWrite addr w ∨ c = .lkWrite addr w)
    (ha : addr.toNat < 0x800000) (h : (s.busWrite addr.toNat w).1 = s.raise i n) :
    Runs c s fun t => Raised i (BitVec.ofNat 32 n) s t ∧ OnlyFields [F.FLT_STAT_LOSTOCC] s t ∧
      t = { s with regs := t.regs, flt := t.flt } := by
  refine runs_busWord live hc ?_
  rw [State.busWord_at_once hub jobs ha h (by rw [State.spn_raise, self])]
  exact s.raise_spec i n

/-! ## A register that does nothing more -/

theorem ne_of_actsOnWrite (ha : actsOnWrite a = false) (hb : actsOnWrite b = true) : a ≠ b := by
  rintro rfl
  rw [ha] at hb
  cases hb

section
variable (h : actsOnWrite a = false)
include h

theorem State.wrSys_plain : s.wrSys a w = s.storeWord a w := by
  rw [State.wrSys, if_neg (ne_of_actsOnWrite h rfl), if_neg (ne_of_actsOnWrite h rfl)]

theorem State.wrClk_plain : s.wrClk a w = s.storeWord a w := by
  rw [State.wrClk, if_neg (ne_of_actsOnWrite h rfl), if_neg (ne_of_actsOnWrite h rfl)]

theorem State.wrPwr_plain : s.wrPwr a w = s.storeWord a w := by
  have lb : ¬ (a = R.PWR_LBn 1 ∨ a = R.PWR_LBn 2) := not_or.2 ⟨ne_of_actsOnWrite h rfl, ne_of_actsOnWrite h rfl⟩
  rw [State.wrPwr, if_neg (ne_of_actsOnWrite h rfl), if_neg (ne_of_actsOnWrite h rfl), if_neg lb]

theorem State.wrThm_plain : s.wrThm a w = s.storeWord a w := if_neg (ne_of_actsOnWrite h rfl)

theorem State.wrCfg_plain : s.wrCfg a w = s.storeWord a w := if_neg (ne_of_actsOnWrite h rfl)

theorem State.wrSpn_plain : s.wrSpn a w = s.storeWord a w := by
  rw [State.wrSpn, if_neg (ne_of_actsOnWrite h rfl), if_neg (ne_of_actsOnWrite h rfl),
    if_neg (ne_of_actsOnWrite h rfl), if_neg (ne_of_actsOnWrite h rfl)]

theorem State.wrMem_plain : s.wrMem a w = s.storeWord a w := by
  have wb : ¬ (a = R.MEM_Mc_WB 0 ∨ a = R.MEM_Mc_WB 1) := not_or.2 ⟨ne_of_actsOnWrite h rfl, ne_of_actsOnWrite h rfl⟩
  have spare : ¬ (a = R.MEM_SPARE_CTRL ∧ F.MEM_SPARE_CTRL_START.of w = 1) := fun e => ne_of_actsOnWrite h rfl e.1
  rw [State.wrMem, if_neg wb, if_neg spare]

theorem State.wrLay_plain : s.wrLay a w = s.storeWord a w := by
  refine State.each_keeps (P := fun t => t = s.storeWord a w) rfl fun t x hx ht => ?_
  have pub : ∀ x ∈ List.range 8, actsOnWrite (R.LAY_x_PUB x) = true := by decide
  exact (if_neg fun e => ne_of_actsOnWrite h (pub x hx) e.1).trans ht

theorem State.wrCor_plain : s.wrCor a w = s.storeWord a w := by
  rw [State.wrCor, if_neg (ne_of_actsOnWrite h rfl), if_neg (ne_of_actsOnWrite h rfl)]

theorem State.wrTim_plain : s.wrTim a w = s.storeWord a w := by
  rw [State.wrTim, if_neg (ne_of_actsOnWrite h rfl), if_neg (ne_of_actsOnWrite h rfl)]

theorem State.wrChn_plain : s.wrChn a w = s.storeWord a w := by
  rw [State.wrChn, if_neg (ne_of_actsOnWrite h rfl), if_neg (ne_of_actsOnWrite h rfl)]

theorem State.wrCls_plain : s.wrCls a w = s.storeWord a w := by
  have arm : ¬ (a = R.CLS_CTRL ∧ F.CLS_CTRL_ARM.of w = 1) := fun e => ne_of_actsOnWrite h rfl e.1
  rw [State.wrCls, if_neg (ne_of_actsOnWrite h rfl), if_neg arm]

theorem State.wrAdc_plain : s.wrAdc a w = s.storeWord a w := by
  rw [State.wrAdc, if_neg (ne_of_actsOnWrite h rfl), if_neg (ne_of_actsOnWrite h rfl)]

theorem State.wrCal_plain : s.wrCal a w = s.storeWord a w := by
  rw [State.wrCal, if_neg (ne_of_actsOnWrite h rfl), if_neg (ne_of_actsOnWrite h rfl)]

theorem State.wrLog_plain : s.wrLog a w = s.storeWord a w := if_neg fun e => ne_of_actsOnWrite h rfl e.1

/-- The ranges that the FLT block decodes hold registers that act on a write. -/
theorem flt_ranges (word : a % 4 = 0) : ¬ (R.FLT_PENDj 0 ≤ a ∧ a ≤ R.FLT_PENDj 5) ∧
    ¬ (R.FLT_PROMOj 0 ≤ a ∧ a ≤ R.FLT_PROMOj 5) ∧ ¬ (R.FLT_SRCi 0 ≤ a ∧ a ≤ R.FLT_SRCi 191) := by
  have pend : ∀ j ∈ List.range 6, actsOnWrite (R.FLT_PENDj j) = true ∧ actsOnWrite (R.FLT_PROMOj j) = true := by decide
  have ne (j : Nat) (hj : j < 6) : a ≠ R.FLT_PENDj j ∧ a ≠ R.FLT_PROMOj j :=
    ⟨ne_of_actsOnWrite h (pend j (List.mem_range.2 hj)).1, ne_of_actsOnWrite h (pend j (List.mem_range.2 hj)).2⟩
  unfold R.FLT_PENDj R.FLT_PROMOj at *
  refine ⟨fun e => ?_, fun e => ?_, fun e => ?_⟩
  · exact (ne ((a - 0x110100) / 4) (by omega)).1 (by omega)
  · exact (ne ((a - 0x110140) / 4) (by omega)).2 (by omega)
  · have src : actsOnWrite a = true := by
      rw [actsOnWrite, decide_eq_true e.1, decide_eq_true e.2, Bool.and_self, Bool.or_true]
    exact absurd src (by rw [h]; exact Bool.false_ne_true)

theorem State.wrFlt_plain (word : a % 4 = 0) : s.wrFlt a w = s.storeWord a w := by
  obtain ⟨pend, promo, src⟩ := flt_ranges h word
  have inj : ¬ (a = R.FLT_INJ ∨ a = R.FLT_INJ_DATA) := not_or.2 ⟨ne_of_actsOnWrite h rfl, ne_of_actsOnWrite h rfl⟩
  rw [State.wrFlt, if_neg (ne_of_actsOnWrite h rfl), if_neg pend, if_neg promo, if_neg src, if_neg inj]

/-- A register that does nothing more lies in a block whose writes all act as the other lemmas say. -/
theorem block_of_plain : a / 0x10000 ≠ 5 ∧ a / 0x10000 ≠ 16 := by
  refine ⟨fun e => ?_, fun e => ?_⟩
  all_goals
    have acts : actsOnWrite a = true := by
      rw [actsOnWrite, e]
      rfl
    exact absurd acts (by rw [h]; exact Bool.false_ne_true)

theorem State.regWrite_plain {r : RegRow} (word : a % 4 = 0) (unlocked : lockedRow r = false ∨ s.armed = false) :
    s.regWrite a r w = (s.storeWord a w, false) := by
  have opened : ¬ (lockedRow r = true ∧ s.armed = true) := by
    rintro ⟨hl, ha⟩
    rcases unlocked with e | e
    · rw [hl] at e
      cases e
    · rw [ha] at e
      cases e
  rw [State.regWrite, if_neg opened]
  obtain ⟨lnk, chk⟩ := block_of_plain h
  refine congrArg (·, false) ?_
  split
  · exact wrSys_plain h
  · exact wrClk_plain h
  · exact wrPwr_plain h
  · exact wrThm_plain h
  · exact wrCfg_plain h
  · exact absurd ‹_› lnk
  · exact wrSpn_plain h
  · exact wrMem_plain h
  · exact wrLay_plain h
  · exact wrCor_plain h
  · exact wrTim_plain h
  · exact wrChn_plain h
  · exact wrCls_plain h
  · exact wrAdc_plain h
  · exact wrCal_plain h
  · exact absurd ‹_› chk
  · exact wrFlt_plain h word
  · exact wrLog_plain h
  · rfl

end

/-! ## What a stored word changes -/

theorem State.storeWord_row {r : RegRow} (hr : regRow? a = some r) :
    (s.storeWord a w).reg a = writeFields storedNow false r.fields (s.reg a) w ∧
    (∀ b, b ≠ a → (s.storeWord a w).reg b = s.reg b) ∧
    (r.fields.any (·.shadow) = true →
      (s.storeWord a w).shadReg a = writeFields (·.shadow) false r.fields (s.shadReg a) w) ∧
    s.storeWord a w = { s with regs := (s.storeWord a w).regs, shad := (s.storeWord a w).shad } := by
  unfold State.storeWord
  rw [hr]
  dsimp only
  split
  · exact ⟨State.reg_setReg_same, fun b hb => State.reg_setReg_other hb, fun _ => State.shadReg_setShad_same, rfl⟩
  · exact ⟨State.reg_setReg_same, fun b hb => State.reg_setReg_other hb, fun h => absurd h ‹_›, rfl⟩

theorem State.storeShadow_row {r : RegRow} (hr : regRow? a = some r) :
    (s.storeShadow a w).shadReg a = (if r.fields.any (·.shadow) then
      writeFields (·.shadow) false r.fields (s.shadReg a) w else s.shadReg a) ∧
    (∀ b, b ≠ a → (s.storeShadow a w).shadReg b = s.shadReg b) ∧
    s.storeShadow a w = { s with shad := (s.storeShadow a w).shad } := by
  unfold State.storeShadow
  rw [hr]
  dsimp only
  split
  · exact ⟨State.shadReg_setShad_same, fun b hb => State.shadReg_setShad_other hb, rfl⟩
  · exact ⟨rfl, fun _ _ => rfl, rfl⟩

theorem State.tableWait_frame (t : Nat) :
    (s.tableWait t).tabs.front = s.tabs.front ∧ s.tableWait t = { s with tabs := (s.tableWait t).tabs } ∧
    (s.tabs.copying.contains t = false → s.tableWait t = s) := by
  unfold State.tableWait
  split
  · rename_i h
    exact ⟨rfl, rfl, fun e => absurd h (by rw [e]; exact Bool.false_ne_true)⟩
  · exact ⟨rfl, rfl, fun _ => rfl⟩

theorem State.tableWrite_spec (tb : Nat) (mask : Word) :
    let t := s.tableWrite a tb mask w
    Tab.word t.tabs.back a = w &&& mask ∧ Tab.on t.tabs.dirty tb = true ∧
    (∀ b, b ≠ a → Tab.word t.tabs.back b = Tab.word (s.tableWait tb).tabs.back b) ∧
    (s.tabs.copying.contains tb = false → ∀ b, b ≠ a → Tab.word t.tabs.back b = Tab.word s.tabs.back b) ∧
    t.tabs.front = s.tabs.front ∧ t = { s with tabs := t.tabs } := by
  obtain ⟨front, frame, idle⟩ := State.tableWait_frame (s := s) tb
  have other (b) (hb : b ≠ a) :
      Tab.word (s.tableWrite a tb mask w).tabs.back b = Tab.word (s.tableWait tb).tabs.back b := Tab.get_put_other hb
  have dirty : Tab.on (s.tableWrite a tb mask w).tabs.dirty tb = true := by
    unfold State.tableWrite
    dsimp only
    exact Tab.on_setOn_same
  refine ⟨Tab.get_put_same, dirty, other, fun h b hb => ?_, front, ?_⟩
  · rw [other b hb, idle h]
  · unfold State.tableWrite
    rw [frame]

/-! ## Which word of the bus an address reaches -/

section
variable {addr : Nat} (ha : a = addr / 4 * 4)
include ha

theorem State.busWrite_unmapped (low : a < 0x140000) (h : regRow? (activeAddr a) = none) :
    (s.busWrite addr w).1 = s.raise 5 a := by
  rw [State.busWrite, ← ha, if_pos low, h]
  rfl

theorem State.busWrite_active {r : RegRow} (low : a < 0x140000) (act : activeAddr a = a) (h : regRow? a = some r) :
    s.busWrite addr w = s.regWrite a r w := by
  have row : regRow? (activeAddr a) = some r := by rw [act, h]
  rw [State.busWrite, ← ha, if_pos low, row]
  exact if_pos act

theorem State.busWrite_shadow {r : RegRow} (low : a < 0x140000) (act : activeAddr a ≠ a)
    (h : regRow? (activeAddr a) = some r) : (s.busWrite addr w).1 = s.storeShadow (activeAddr a) w := by
  rw [State.busWrite, ← ha, if_pos low, h]
  exact congrArg Prod.fst (if_neg act)

theorem State.busWrite_locket (low : 0x300000 ≤ a) (high : a < 0x400000) :
    (s.busWrite addr w).1 = if a < 0x330000 then s else s.setLocket a w := by
  rw [State.busWrite, ← ha, if_neg (by omega), if_pos ⟨low, high⟩]

theorem State.busWrite_isle (h : isleAddr a = true) : (s.busWrite addr w).1 = s.raise 5 a := by
  have range := h
  rw [isleAddr, Bool.and_eq_true, decide_eq_true_eq, decide_eq_true_eq] at range
  rw [State.busWrite, ← ha, if_neg (by omega), if_neg (by omega), if_pos h]
  rfl

omit ha in
theorem isleAddr_lt (h : isleAddr a = true) : a < 0x800000 := by
  rw [isleAddr, Bool.and_eq_true, decide_eq_true_eq, decide_eq_true_eq] at h
  exact h.2

omit ha in
theorem not_isle_of_lt (high : a < 0x400000) : ¬ isleAddr a = true := by
  rw [isleAddr, decide_eq_false (by omega), Bool.false_and]
  exact Bool.false_ne_true

theorem State.busWrite_table {tb : Nat} {mask : Word} (low : 0x140000 ≤ a) (high : a < 0x300000)
    (h : tableWord a = some (tb, mask)) : (s.busWrite addr w).1 = s.tableWrite a tb mask w := by
  rw [State.busWrite, ← ha, if_neg (by omega), if_neg (by omega), if_neg (not_isle_of_lt (by omega)), h]

theorem State.busWrite_noTable (low : 0x140000 ≤ a) (high : a < 0x300000) (h : tableWord a = none) :
    (s.busWrite addr w).1 = s.raise 5 a := by
  rw [State.busWrite, ← ha, if_neg (by omega), if_neg (by omega), if_neg (not_isle_of_lt (by omega)), h]
  rfl
end

/-! ## The line buffer of the DRAM window (R269) -/

section
variable {α : Type} {f : Nat → α} {l : List α} {k n j : Nat}

theorem length_foldl_set : ((List.range n).foldl (fun b i => b.set (k + i) (f i)) l).length = l.length :=
  foldl_keeps (P := fun b : List α => b.length = l.length) rfl fun h => List.length_set.trans h

/-- A list after the elements from `k` on have been set. -/
theorem getElem?_foldl_set (h : k + n ≤ l.length) : ((List.range n).foldl (fun b i => b.set (k + i) (f i)) l)[j]? =
    if k ≤ j ∧ j < k + n then some (f (j - k)) else l[j]? := by
  induction n with
  | zero => simp
  | succ n ih =>
    rw [List.range_succ, List.foldl_append, List.foldl_cons, List.foldl_nil, List.getElem?_set, length_foldl_set,
      ih (by omega)]
    by_cases hj : k + n = j
    · have last : j - k = n := by omega
      rw [if_pos hj, if_pos (by omega), if_pos (by omega), last]
    · by_cases hr : k ≤ j ∧ j < k + n
      · rw [if_neg hj, if_pos hr, if_pos (by omega)]
      · rw [if_neg hj, if_neg hr, if_neg (by omega)]
end

/-- The bytes of a line once a word has been gathered into it. -/
theorem line_withWord {l : List (Option Byte)} {k : Nat} (len : l.length = 64) (hk : k + 4 ≤ 64) (w : Word) :
    (List.range 4).foldl (fun b i => b.set (k + i) (some (BitVec.ofNat 8 (w.toNat / 256 ^ i)))) l =
    (List.range 64).map fun i => if k ≤ i ∧ i < k + 4
      then some (BitVec.ofNat 8 (w.toNat / 256 ^ (i - k))) else l.getD i none := by
  refine List.ext_getElem? fun j => ?_
  rw [getElem?_foldl_set (f := fun i => some (BitVec.ofNat 8 (w.toNat / 256 ^ i))) (by omega), List.getElem?_map]
  by_cases hj : j < 64
  · rw [List.getElem?_range hj, Option.map_some, List.getD_eq_getElem _ _ (by omega),
      List.getElem?_eq_getElem (by omega)]
    split <;> rfl
  · rw [if_neg (by omega), List.getElem?_eq_none (by omega), List.getElem?_eq_none (by simpa using hj)]
    rfl

/-- The bytes that the line buffer holds of a line. -/
def MemState.held (m : MemState) (base : Nat) : List (Option Byte) :=
  if m.lineBase = some base then m.lineBuf else List.replicate 64 none

/-- The line buffer once it has taken a word. -/
def MemState.gather (m : MemState) (flat : Nat) (w : Word) : List (Option Byte) :=
  (List.range 64).map fun i => if flat % 64 ≤ i ∧ i < flat % 64 + 4
    then some (BitVec.ofNat 8 (w.toNat / 256 ^ (i - flat % 64))) else (m.held (flat / 64 * 64)).getD i none

/-- The state with given contents of the line buffer. -/
def State.withLine (s : State) (base : Nat) (buf : List (Option Byte)) : State :=
  { s with mem := { s.mem with lineBase := some base, lineBuf := buf } }

section
variable {base : Nat}
    (free : s.mem.lineBase = none ∨
      (s.mem.lineBase = some base ∧ s.mem.lineDue = false ∧ s.mem.lineBuf.length = 64))
include free

theorem MemState.length_held : (s.mem.held base).length = 64 := by
  unfold MemState.held
  rcases free with h | ⟨h, _, len⟩
  · rw [h, if_neg nofun, List.length_replicate]
  · rw [if_pos h, len]

/-- A free line buffer begins a line; one that holds the line goes on. -/
theorem State.lineBegin_eq :
    (if s.mem.lineBase == some base && !s.mem.lineDue then s else s.lineFlush.withLine base (List.replicate 64 none)) =
    s.withLine base (s.mem.held base) := by
  unfold MemState.held
  rcases free with h | ⟨h, due, _⟩
  · have flush : s.lineFlush = s := by rw [State.lineFlush, h]
    rw [flush, h]
    rfl
  · rw [h, due, beq_self_eq_true, if_pos rfl]
    show s = _
    rw [State.withLine, ← h]

end

/-- What a word does to a line that has begun. -/
def State.takeWord (s : State) (flat : Nat) (w : Word) : State :=
  let s := s.whenDo (decide (s.flatTop ≤ flat)) (·.setOn F.MEM_HOST_STAT_ADDRERR true)
  let buf := (List.range 4).foldl (fun b i => b.set (flat % 64 + i) (some (BitVec.ofNat 8 (w.toNat / 256 ^ i))))
    s.mem.lineBuf
  let s := { s with mem := { s.mem with lineBuf := buf } }
  if wholeLine buf then s.lineFlush else s

theorem State.lineWrite_steps (flat : Nat) : s.lineWrite flat w =
    State.takeWord (if s.mem.lineBase == some (flat / 64 * 64) && !s.mem.lineDue then s
      else s.lineFlush.withLine (flat / 64 * 64) (List.replicate 64 none)) flat w := rfl

theorem State.takeWord_withLine (base flat : Nat) (l : List (Option Byte)) :
    let buf := (List.range 4).foldl (fun b i => b.set (flat % 64 + i) (some (BitVec.ofNat 8 (w.toNat / 256 ^ i)))) l
    let u := s.withLine base buf
    let v := if s.flatTop ≤ flat then u.setOn F.MEM_HOST_STAT_ADDRERR true else u
    (s.withLine base l).takeWord flat w = if wholeLine buf = true then v.lineFlush else v := by
  intro buf u v
  have top : (s.withLine base l).flatTop = s.flatTop := rfl
  unfold State.takeWord
  rw [top]
  by_cases above : s.flatTop ≤ flat
  · have hv : v = u.setOn F.MEM_HOST_STAT_ADDRERR true := if_pos above
    rw [decide_eq_true above, hv]
    rfl
  · have hv : v = u := if_neg above
    rw [decide_eq_false above, hv]
    rfl

section
variable {flat : Nat}
    (free : s.mem.lineBase = none ∨
      (s.mem.lineBase = some (flat / 64 * 64) ∧ s.mem.lineDue = false ∧ s.mem.lineBuf.length = 64))
include free

/-- A free line buffer, or one that holds the line, takes a word of it at once. -/
theorem State.lineTakes_of_free : s.lineTakes flat = true := by
  rcases free with h | ⟨h, due, _⟩
  · rw [State.lineTakes, h]
    rfl
  · rw [State.lineTakes, h, due, beq_self_eq_true]
    rfl

/-- A word joins the line, which is flushed where that makes it whole; ADDRERR tells of one above the flat space. -/
theorem State.lineWrite_spec (word : flat % 4 = 0) :
    let u := s.withLine (flat / 64 * 64) (s.mem.gather flat w)
    let v := if s.flatTop ≤ flat then u.setOn F.MEM_HOST_STAT_ADDRERR true else u
    s.lineWrite flat w = if wholeLine (s.mem.gather flat w) = true then v.lineFlush else v := by
  have gather : (List.range 4).foldl (fun b i => b.set (flat % 64 + i) (some (BitVec.ofNat 8 (w.toNat / 256 ^ i))))
      (s.mem.held (flat / 64 * 64)) = s.mem.gather flat w := line_withWord (MemState.length_held free) (by omega) w
  rw [State.lineWrite_steps, State.lineBegin_eq free, State.takeWord_withLine, gather]
end

theorem windowFlat_mod (page : Nat) (ha : a % 4 = 0) (high : 0x800000 ≤ a) : windowFlat page a % 4 = 0 := by
  unfold windowFlat
  omega

theorem windowFlat_line {page addr : Nat} (high : 0x800000 ≤ addr) :
    windowFlat page addr / 64 * 64 = windowFlat page (addr / 4 * 4) / 64 * 64 := by
  unfold windowFlat
  omega

/-- A word of the DRAM window acts at once where the line buffer can take it. -/
theorem State.busWord_window {addr : Nat} (hub : s.hubRuns = true) (jobs : s.host.jobs = []) (high : 0x800000 ≤ addr)
    (takes : s.lineTakes (windowFlat (s.fld F.MEM_PAGE_PAGE) addr) = true) :
    s.busWord addr w = s.lineWrite (windowFlat (s.fld F.MEM_PAGE_PAGE) (addr / 4 * 4)) w := by
  have can : s.hostCan addr = true := by rw [State.hostCan, hub, if_pos high, takes, Bool.and_self]
  rw [State.busWord, can, jobs, State.wordWrite, if_pos high]
  rfl

/-! ## The statement -/

/-- While the clock stands a word waits (R363). -/
theorem busWord_waits_shown {addr : Nat} (hub : s.hubRuns = false) (jobs : s.host.jobs = []) :
    let t := s.busWord addr w
    t.host = { s.host with jobs := [.write addr w] } ∧ t.on F.SYS_HOSTSTAT_BUSY = true ∧
    t = { s with regs := t.regs, host := t.host } := by
  rw [State.busWord_waits hub jobs]
  refine ⟨rfl, ?_, rfl⟩
  rw [State.hostShow, State.on, State.fld_setFld_apart (by decide) (by decide)]
  exact State.on_setOn_same (by decide) true

/-- Settles O54: each address goes to the part of the bus that the lemmas on `busWrite` and `lineWrite` name. -/
theorem registerBus_WritesByAddress : Obligations.RegisterBus_WritesByAddress := by
  refine ⟨fun s addr w live hub jobs _ => ?_, fun s addr w live hub jobs self => ?_⟩
  · have waits := busWord_waits_shown (w := w) (addr := addr.toNat) hub jobs
    exact ⟨runs_busWord live (.inl rfl) waits, runs_busWord live (.inr rfl) waits⟩
  intro a
  have ha : a = addr.toNat / 4 * 4 := rfl
  have word : a % 4 = 0 := by omega
  clear_value a
  have store {t : State} {P : State → Prop} (range : addr.toNat < 0x800000) (h : (s.busWrite addr.toNat w).1 = t)
      (self : t.spn.self = []) (hP : P t) : Runs (.registerWrite addr w) s P := by
    refine runs_busWord live (.inl rfl) ?_
    rw [State.busWord_at_once hub jobs range h self]
    exact hP
  refine ⟨fun low unmapped => ?_, fun r low act row lk armed => ?_, fun r low act row => ?_, fun r plain => ?_,
    fun isle => ?_, fun low high none => ?_, fun tb mask low high table => ?_, fun high => ?_, fun low high => ?_,
    fun low high => ?_⟩
  · have e := State.busWrite_unmapped (s := s) (w := w) ha low unmapped
    obtain ⟨t, ht, raised, _⟩ := runs_raise live hub jobs self (.inr rfl) (by omega) e
    exact ⟨runs_raise live hub jobs self (.inl rfl) (by omega) e, t, ht, raised⟩
  · have e : (s.busWrite addr.toNat w).1 = s.raise 131 a := by
      rw [State.busWrite_active ha low act row, State.regWrite, if_pos ⟨lk, armed⟩]
    have runs := runs_raise live hub jobs self (.inr rfl) (by omega) e
    have ⟨t, ht, _⟩ := runs
    exact ⟨runs, t, ht, ht⟩
  · obtain ⟨same, other, frame⟩ := State.storeShadow_row (s := s) (w := w) row
    exact store (by omega) (State.busWrite_shadow ha low act row) (by rw [frame, self]) ⟨same, other, frame⟩
  · obtain ⟨low, act, row, quiet, unlocked⟩ := plain
    obtain ⟨same, other, shad, frame⟩ := State.storeWord_row (s := s) (w := w) row
    have e : (s.busWrite addr.toNat w).1 = s.storeWord a w := by
      rw [State.busWrite_active ha low act row, State.regWrite_plain quiet word unlocked]
    exact store (by omega) e (by rw [frame, self]) ⟨same, other, shad, frame⟩
  · have range : a < 0x800000 := isleAddr_lt isle
    exact runs_raise live hub jobs self (.inl rfl) (by omega) (State.busWrite_isle ha isle)
  · exact runs_raise live hub jobs self (.inl rfl) (by omega) (State.busWrite_noTable ha low high none)
  · obtain ⟨written, dirty, waited, other, front, frame⟩ := State.tableWrite_spec (s := s) (a := a) (w := w) tb mask
    exact store (by omega) (State.busWrite_table ha low high table) (by rw [frame, self])
      ⟨written, dirty, waited, other, front, frame⟩
  · intro flat base old buf u v free
    have high' : 0x800000 ≤ addr.toNat := by omega
    have takes : s.lineTakes (windowFlat (s.fld F.MEM_PAGE_PAGE) addr.toNat) = true := by
      refine State.lineTakes_of_free ?_
      rw [windowFlat_line high', ← ha]
      exact free
    refine runs_busWord live (.inl rfl) ?_
    rw [State.busWord_window hub jobs high' takes, ← ha]
    exact State.lineWrite_spec free (windowFlat_mod _ word high)
  · have e : (s.busWrite addr.toNat w).1 = s := by
      rw [State.busWrite_locket ha low (by omega), if_pos high]
    exact store (by omega) e self rfl
  · have e : (s.busWrite addr.toNat w).1 = s.setLocket a w := by
      rw [State.busWrite_locket ha (by omega) high, if_neg (by omega)]
    exact store (by omega) e self ⟨Tab.get_put_same, fun b hb => Tab.get_put_other hb, rfl⟩

end Sys2Proof.Machine

end

section

/-!
# What commands of the architecture's blocks have in common

A command that acts, registers and events in passing, and the choice of R33.
-/

namespace Sys2Proof.Machine

variable {s t u : State} {f g : Fld}

/-! ## A command that acts -/

/-- Where commands act, a command does what its operation does. -/
theorem runs_effect {c : Instr} {op : State → State} {P : State → Prop} (live : s.live) (hc : exec c s = effect op s)
    (h : op s = t) (hP : P t) : Runs c s P := by
  have acts : ¬ (s.inReset || s.pwr.deep) = true := by simp [live.1, live.2]
  exact ⟨t, hc.trans ((if_neg acts).trans (congrArg _ h)), hP⟩

/-- A command whose operation leaves the state as it is. -/
theorem runs_unchanged {c : Instr} {op : State → State} (live : s.live) (hc : exec c s = effect op s)
    (h : op s = s) : Runs c s fun t => t = s :=
  runs_effect live hc h rfl

theorem State.whenDo_true {op : State → State} : s.whenDo true op = op s := if_pos rfl

theorem State.whenDo_false {op : State → State} : s.whenDo false op = s := if_neg Bool.false_ne_true

/-! ## Counters and flags -/

/-- The bits of a field of an array of registers, whichever register it is. -/
theorem Fld.ok_mk {a m l : Nat} (h : (decide (l ≤ m) && decide (m < 32)) = true) : (⟨a, m, l⟩ : Fld).ok := by
  simpa using h

theorem Fld.apart_mk {a b m l m' l' : Nat} (h : (decide (m < l') || decide (m' < l)) = true) :
    (⟨a, m, l⟩ : Fld).apart ⟨b, m', l'⟩ := .inr (by simpa using h)

/-- A counter reads one more, up to its largest value (R8). -/
theorem State.fld_incSat_same (h : f.ok) : (s.incSat f).fld f = min f.max (s.fld f + 1) :=
  (counters_SaturateAtTheirMaximum s f 1 h).2.2.1

theorem State.on_congr (h : t.fld f = s.fld f) : t.on f = s.on f := by rw [State.on, h, State.on]

/-- What a raised event leaves of a field other than the count of lost occurrences. -/
theorem State.fld_raise {i n : Nat} (hg : g.ok) (ha : F.FLT_STAT_LOSTOCC.apart g) : (s.raise i n).fld g = s.fld g :=
  onlyFields_raiseWith g hg (by simpa using ha)

/-- An event of another state with the same occurrences pending and the same enable. -/
theorem Raised.of_same {i : Nat} {d : Word} (h : Raised i d u t)
    (en : u.fld (F.FLT_SRCi_EN i) = s.fld (F.FLT_SRCi_EN i)) (pend : ∀ j, u.events j = s.events j) : Raised i d s t := by
  obtain ⟨same, other⟩ := h
  rw [State.on_congr en, pend i] at same
  exact ⟨same, fun j hj => (other j hj).trans (pend j)⟩

/-- What is counted raises its event, and changes nothing else. -/
theorem State.counted_spec {i n : Nat} (s : State) (h : f.ok) (ha : F.FLT_STAT_LOSTOCC.apart f)
    (he : f.apart (F.FLT_SRCi_EN i)) :
    ((s.incSat f).raise i n).fld f = min f.max (s.fld f + 1) ∧
    Raised i (BitVec.ofNat 32 n) s ((s.incSat f).raise i n) ∧
    OnlyFields [f, F.FLT_STAT_LOSTOCC] s ((s.incSat f).raise i n) ∧
    (s.incSat f).raise i n =
      { s with regs := ((s.incSat f).raise i n).regs, flt := ((s.incSat f).raise i n).flt } := by
  obtain ⟨raised, lost, frame⟩ := (s.incSat f).raise_spec i n
  refine ⟨?_, raised.of_same (State.fld_setFld_apart h he) fun _ => rfl, ?_, frame⟩
  · rw [State.fld_raise h ha]
    exact State.fld_incSat_same h
  · exact onlyFields_trans (onlyFields_mono (by simp) (onlyFields_incSat h)) (onlyFields_mono (by simp) lost)

/-! ## The choice of R33 -/

theorem minN?_eq_min? (l : List Nat) : minN? l = l.min? := by
  induction l with
  | nil => rfl
  | cons a l ih =>
    rw [minN?, ih, List.min?_cons]
    cases l.min? <;> simp [min_def]

theorem minN?_eq_some {l : List Nat} {i : Nat} (hi : i ∈ l) (least : ∀ j ∈ l, i ≤ j) : minN? l = some i := by
  rw [minN?_eq_min?, List.min?_eq_some_iff]
  exact ⟨hi, least⟩

theorem rrPick_nil {ptr : Nat} : rrPick [] ptr = none := rfl

/-- The winner of a class is the requester that comes before every other one (R33). -/
theorem rrPick_eq_some {l : List Nat} {ptr i : Nat} (hi : i ∈ l) (first : ∀ j ∈ l, First ptr i j) :
    rrPick l ptr = some i := by
  have above {j : Nat} : j ∈ l.filter (fun i => decide (ptr ≤ i)) ↔ j ∈ l ∧ ptr ≤ j := by simp
  unfold rrPick
  by_cases hp : ptr ≤ i
  · rw [minN?_eq_some (above.2 ⟨hi, hp⟩) fun j hj => ?_]
    have := first j (above.1 hj).1
    have := (above.1 hj).2
    omega
  · have none : l.filter (fun i => decide (ptr ≤ i)) = [] := by
      rw [List.filter_eq_nil_iff]
      intro j hj
      have := first j hj
      rw [decide_eq_true_eq]
      omega
    rw [none]
    exact minN?_eq_some hi fun j hj => by
      have := first j hj
      omega

/-- The classes before the first one that requests are passed over. -/
theorem arbitrate_eq_some {base k i : Nat} {ptrs : Tab Nat} {reqs : List (List Nat)} (lt : k < reqs.length)
    (before : ∀ j, (hj : j < k) → reqs[j] = []) (pick : rrPick reqs[k] (Tab.num ptrs (base + k)) = some i) :
    arbitrate base ptrs reqs = some (base + k, i) := by
  induction reqs generalizing base k with
  | nil => exact absurd lt (Nat.not_lt_zero k)
  | cons l reqs ih =>
    unfold arbitrate
    cases k with
    | zero =>
      rw [List.getElem_cons_zero, Nat.add_zero] at pick
      rw [pick]
      rfl
    | succ k =>
      have empty : l = [] := before 0 (Nat.succ_pos k)
      rw [empty, rrPick_nil, Nat.add_comm k 1, ← Nat.add_assoc]
      refine ih (Nat.lt_of_succ_lt_succ lt) (fun j hj => before (j + 1) (Nat.succ_lt_succ hj)) ?_
      rw [Nat.add_assoc, Nat.add_comm 1 k]
      exact pick

theorem arbitrate_eq_none {base : Nat} {ptrs : Tab Nat} {reqs : List (List Nat)} (h : ∀ l ∈ reqs, l = []) :
    arbitrate base ptrs reqs = none := by
  induction reqs generalizing base with
  | nil => rfl
  | cons l reqs ih =>
    rw [arbitrate, h l (.head _), rrPick_nil]
    exact ih fun l hl => h l (.tail _ hl)

end Sys2Proof.Machine

end

section

/-!
# The straits

Flits and retrains (O1), attempts and DOWN (O2).
-/

namespace Sys2Proof.Machine

variable {s t : State} {die dir : Nat} {flit : BitVec 256} {c : BitVec 16}

/-! ## Fields of the straits -/

theorem straitState_ok : (straitState die).ok := by
  unfold straitState
  split <;> decide

theorem straitReplay_ok : (straitReplay die).ok := by
  unfold straitReplay
  split <;> decide

theorem straitReplay_max : (straitReplay die).max = 255 := by
  unfold straitReplay
  split <;> decide

theorem straitState_addr : (straitState die).addr = R.SYS_STRAIT := by
  unfold straitState
  split <;> rfl

theorem straitState_lostocc : F.FLT_STAT_LOSTOCC.apart (straitState die) := by
  unfold straitState
  split <;> decide

theorem straitState_three : 3 ≤ (straitState die).max := by
  unfold straitState
  split <;> decide

/-! ## The loads that a strait holds up -/

theorem Tab.on_foldl_setOn {f : Nat → Nat} {l : List Nat} {t : Tab Bool} {j : Nat} :
    Tab.on (l.foldl (fun t k => Tab.setOn t (f k) true) t) j = (Tab.on t j || decide (∃ k ∈ l, f k = j)) := by
  induction l generalizing t with
  | nil => simp
  | cons k l ih =>
    rw [List.foldl_cons, ih]
    by_cases h : f k = j
    · subst h
      simp
    · rw [Tab.on_setOn_other (Ne.symm h)]
      simp [h]

/-- The loads in progress skip the ports of the die (R28). -/
theorem State.straitDrops_own {k : Nat} (hk : k < 4) (load : (Tab.opt s.pix.loads k).isSome = true) :
    Tab.on (s.straitDrops die).tim.skipped (4 * die + k) = true := by
  refine (Tab.on_foldl_setOn (f := (4 * die + ·))).trans ?_
  rw [decide_eq_true ⟨k, List.mem_filter.2 ⟨List.mem_range.2 hk, load⟩, rfl⟩, Bool.or_true]

/-- The loads on the ports of the other die go on (R28). -/
theorem State.straitDrops_other {k : Nat} (hd : die < 2) (hk : k < 4) :
    Tab.on (s.straitDrops die).tim.skipped (4 * (1 - die) + k) = Tab.on s.tim.skipped (4 * (1 - die) + k) := by
  have none : ¬ ∃ m ∈ (List.range 4).filter (fun k => (Tab.opt s.pix.loads k).isSome), 4 * die + m = 4 * (1 - die) + k := by
    rintro ⟨m, hm, e⟩
    have := List.mem_range.1 (List.mem_filter.1 hm).1
    omega
  refine (Tab.on_foldl_setOn (f := (4 * die + ·))).trans ?_
  rw [decide_eq_false none, Bool.or_false]

/-! ## A retrain begins -/

/-- A retrain that begins (R28): STATE, the event, and what of the state it leaves. -/
theorem State.straitRetrain_spec (die : Nat) : (s.straitRetrain die).fld (straitState die) = 3 ∧
    Raised die (BitVec.ofNat 32 (die + 1)) s (s.straitRetrain die) ∧
    (s.straitRetrain die).tim = (s.straitDrops die).tim ∧
    OnlyFields [straitState die, F.FLT_STAT_LOSTOCC] s (s.straitRetrain die) ∧
    s.straitRetrain die = { s with
      regs := (s.straitRetrain die).regs, strait := (s.straitRetrain die).strait, flt := (s.straitRetrain die).flt,
      tim := { s.tim with skipped := (s.straitRetrain die).tim.skipped } } := by
  obtain ⟨u, hu, frame⟩ : ∃ u : State, s.straitRetrain die = (u.setFld (straitState die) 3).raise die (die + 1) ∧
      u = { s with strait := u.strait, tim := { s.tim with skipped := u.tim.skipped } } ∧
      u.tim = (s.straitDrops die).tim := ⟨_, rfl, rfl, rfl⟩
  obtain ⟨frame, tim⟩ := frame
  obtain ⟨raised, lost, events⟩ := (u.setFld (straitState die) 3).raise_spec die (die + 1)
  have regs : u.regs = s.regs := by rw [frame]
  have flt : u.flt = s.flt := by rw [frame]
  rw [hu]
  refine ⟨?_, ?_, ?_, ?_, ?_⟩
  · rw [State.fld_raise straitState_ok straitState_lostocc]
    exact State.fld_setFld_fits straitState_ok straitState_three
  · refine raised.of_same ?_ fun j => ?_
    · refine (State.fld_setFld_apart straitState_ok (.inl ?_)).trans (State.fld_congr regs)
      rw [straitState_addr]
      show 0x20 ≠ 0x110400 + 0x4 * die
      omega
    · rw [State.events, State.setFld_flt, flt, State.events]
  · rw [events]
    exact tim
  · refine onlyFields_trans (onlyFields_of_regs _ regs) ?_
    exact onlyFields_trans (onlyFields_mono (by simp) (onlyFields_setFld straitState_ok)) (onlyFields_mono (by simp) lost)
  · rw [events]
    generalize State.regs _ = r
    generalize State.flt _ = f
    show ({ u.setFld (straitState die) 3 with regs := r, flt := f } : State) = _
    rw [frame]
    rfl

/-! ## Flits (R28) -/

/-- The times in a row that the flit at hand of a direction has failed. -/
def State.withBad (s : State) (key n : Nat) : State :=
  { s with strait := { s.strait with bad := Tab.setNum s.strait.bad key n } }

theorem State.bad_withBad {key n : Nat} : Tab.num (s.withBad key n).strait.bad key = n := Tab.num_setNum_same

theorem State.straitFlit_off (h : s.fld (straitState die) ≠ 2) : s.straitFlit die dir flit c = s := if_neg h

section
variable (up : s.fld (straitState die) = 2)
include up

theorem State.straitFlit_good (ok : crc16 (flitBytes flit) = c.toNat) :
    s.straitFlit die dir flit c = s.withBad (2 * die + dir) 0 := by
  rw [State.straitFlit, if_pos up]
  dsimp only
  rw [if_pos ok]
  rfl

theorem State.straitFlit_failed (bad : crc16 (flitBytes flit) ≠ c.toNat) :
    s.straitFlit die dir flit c =
      let u := s.withBad (2 * die + dir) (Tab.num s.strait.bad (2 * die + dir) + 1)
      if 3 ≤ Tab.num s.strait.bad (2 * die + dir) then u.straitRetrain die else u.incSat (straitReplay die) := by
  rw [State.straitFlit, if_pos up]
  dsimp only
  rw [if_neg bad, if_neg (Nat.succ_ne_zero _)]
  simp only [Nat.add_le_add_iff_right, show 4 = 3 + 1 from rfl]
  rfl

end

/-- Settles O1: each clause is one branch of `State.straitFlit`, the last of them a retrain that begins. -/
theorem strait_FlitsReplayAndRetrain : Obligations.Strait_FlitsReplayAndRetrain := by
  intro s die dir flit c live
  refine ⟨fun off => runs_unchanged live rfl (State.straitFlit_off off), fun up ok => ?_, fun up bad few => ?_,
    fun up bad many => ?_⟩
  · exact runs_effect live rfl (State.straitFlit_good up ok) ⟨State.bad_withBad, rfl⟩
  · refine runs_effect live rfl ((State.straitFlit_failed up bad).trans (if_neg (Nat.not_le.2 few))) ?_
    refine ⟨State.bad_withBad, ?_, onlyFields_incSat straitReplay_ok, rfl⟩
    rw [State.fld_incSat_same straitReplay_ok, straitReplay_max]
    rfl
  · refine runs_effect live rfl ((State.straitFlit_failed up bad).trans (if_pos many)) ?_
    obtain ⟨state, raised, tim, fields, frame⟩ :=
      (s.withBad (2 * die + b2n dir) (Tab.num s.strait.bad (2 * die + b2n dir) + 1)).straitRetrain_spec die
    refine ⟨state, raised, fun k hk load => ?_, fun k hk => ?_, fields, frame⟩
    · rw [tim]
      exact State.straitDrops_own hk load
    · rw [tim]
      exact State.straitDrops_other die.isLt hk

/-! ## An attempt that fails beside a DOWN flag -/

/-- A state in which the strait of E0 retrains with its DOWN flag set, that of E1 is up, PLL_SCAN has locked, and the
bring-up of the chains waits (R464). -/
def retrainsWhileDown : State :=
  { State.reset with
    inReset := false
    regs := [(R.SYS_STRAIT, (straitDown 0).put ((straitState 1).put ((straitState 0).put 0 3) 2) 1),
      (R.CLK_STAT, F.CLK_STAT_LOCK.put 0 8)]
    chn := { State.reset.chn with bringDue := true } }

/-- Refutes O2: a DOWN flag that is set counts for the bring-up of the chains as a strait left out (R464), whatever STATE
reads. In `retrainsWhileDown` an attempt that fails as the first in a row therefore starts that bring-up, where the
statement leaves the chains as they were. -/
theorem not_strait_AttemptsAndDown : ¬ Obligations.Strait_AttemptsAndDown := by
  intro h
  obtain ⟨retrain, -⟩ := h retrainsWhileDown ⟨rfl, rfl⟩
  obtain ⟨-, fails, -⟩ := retrain 0 (by decide +kernel) rfl
  obtain ⟨t, run, -, frame⟩ := fails (by decide)
  have waits : t.chn.bringDue = true := by
    rw [frame]
    rfl
  have starts : ∀ t, exec (.straitRetrainDone 0 false) retrainsWhileDown = .next t → t.chn.bringDue = false := by
    rintro _ ⟨⟩
    decide +kernel
  rw [starts t run] at waits
  cases waits

end Sys2Proof.Machine

end

section

/-!
# Requests of the frame memory

A request enters its queue, waits, or is refused above the flat space (O22).
-/

namespace Sys2Proof.Machine

variable {s t : State} {q n : Nat} {e : MemEntry} {r : MemReq} {d : Delivered}

/-! ## Which requests a queue takes (R253) -/

theorem queueKinds_reads : (queueKinds q).1 = true ↔ q ≤ 8 ∨ 21 ≤ q := by
  unfold queueKinds
  split_ifs <;> simp <;> omega

theorem queueKinds_writes : (queueKinds q).2 = true ↔ q ≠ 21 ∧ q ≠ 27 ∧ 9 ≤ q := by
  unfold queueKinds
  split_ifs <;> simp <;> omega

/-- Whether a queue carries requests of this kind. -/
def carries (q : Nat) (r : MemReq) : Prop :=
  if r.write then q ≠ 21 ∧ q ≠ 27 ∧ 9 ≤ q else q ≤ 8 ∨ 21 ≤ q

theorem carries_iff : carries q r ↔ (if r.write then (queueKinds q).2 else (queueKinds q).1) = true := by
  unfold carries
  split
  · exact queueKinds_writes.symm
  · exact queueKinds_reads.symm

/-- Whether the requester of a queue may place a request now (R86, R363). -/
def State.mayAsk (s : State) (q : Nat) : Prop := (8 ≤ q ∨ s.fetchTaken q + 64 ≤ 16384) ∧ s.hubRuns = true

/-- The entry that a request makes in its queue: a write carries its bytes at their places in the line. -/
def entryOf (r : MemReq) : MemEntry :=
  ⟨r.write, r.flat, if r.write then lineSlice r.flat r.bytes (r.flat / 64 * 64) else [], 0⟩

theorem carries_of_write (h : r.write = true) (writes : q ≠ 21 ∧ q ≠ 27 ∧ 9 ≤ q) : carries q r := by
  rw [carries, if_pos h]
  exact writes

theorem carries_of_read (h : r.write = false) (reads : q ≤ 8 ∨ 21 ≤ q) : carries q r := by
  rw [carries, if_neg (by rw [h]; exact Bool.false_ne_true)]
  exact reads

/-- A write carries its bytes at their places in the line. -/
theorem entryOf_bytes {i : Nat} (h : r.write = true) (hi : i < 64) : (entryOf r).bytes.getD i none =
    if r.flat ≤ r.flat / 64 * 64 + i then r.bytes[r.flat / 64 * 64 + i - r.flat]? else none := by
  simp [entryOf, h, lineSlice, hi]

theorem State.memRequest_eq (s : State) (q : Nat) (r : MemReq) : s.memRequest q r =
    if !s.hubRuns ∨ !(if r.write then (queueKinds q).2 else (queueKinds q).1) ∨ (q < 8 ∧ 16384 < s.fetchTaken q + 64) then s
    else (s.pushReq q (entryOf r)).refuseHead q 16 := rfl

/-- A request that its queue does not carry, or whose requester cannot ask now, does nothing. -/
theorem State.memRequest_barred (h : ¬ carries q r ∨ ¬ s.mayAsk q) : s.memRequest q r = s := by
  rw [carries_iff, State.mayAsk] at h
  rw [State.memRequest_eq, if_pos]
  simp only [Bool.not_eq_true, Bool.not_eq_true'] at h ⊢
  by_cases hub : s.hubRuns = true
  · rcases h with h | h
    · exact .inr (.inl h)
    · have room : ¬ (8 ≤ q ∨ s.fetchTaken q + 64 ≤ 16384) := fun room => h ⟨room, hub⟩
      exact .inr (.inr (by omega))
  · exact .inl (by simpa using hub)

theorem State.memRequest_placed (h : carries q r) (h' : s.mayAsk q) :
    s.memRequest q r = (s.pushReq q (entryOf r)).refuseHead q 16 := by
  rw [carries_iff] at h
  obtain ⟨room, hub⟩ := h'
  rw [State.memRequest_eq, h, hub, if_neg]
  simp only [Bool.not_true, Bool.false_eq_true, false_or]
  omega

/-! ## Queues and their heads -/

theorem State.pushReq_full (h : 16 ≤ (Tab.lst s.mem.queues q).length ∨ Tab.lst s.mem.behind q ≠ []) : s.pushReq q e = s := by
  refine if_neg ?_
  rw [State.queueRoom, Bool.and_eq_true, decide_eq_true_eq, List.isEmpty_iff]
  rintro ⟨room, front⟩
  exact h.elim (Nat.not_le.2 room) (absurd front)

/-- An entry that finds room goes to the end of its queue, and nothing else differs. -/
theorem State.pushReq_room (h : (Tab.lst s.mem.queues q).length < 16) (h' : Tab.lst s.mem.behind q = []) :
    Tab.lst (s.pushReq q e).mem.queues q = Tab.lst s.mem.queues q ++ [e] ∧
    (∀ k, k ≠ q → Tab.lst (s.pushReq q e).mem.queues k = Tab.lst s.mem.queues k) ∧
    s.pushReq q e = { s with mem := { s.mem with queues := (s.pushReq q e).mem.queues } } := by
  rw [State.pushReq, if_pos (by simp [State.queueRoom, h, h'])]
  exact ⟨Tab.lst_setLst_same, fun k hk => Tab.lst_setLst_other hk, rfl⟩

/-- A head below the top of the flat space stays. -/
theorem State.refuseHead_below (h : ∀ e ∈ (Tab.lst s.mem.queues q).head?, e.flat < s.flatTop) : s.refuseHead q n = s := by
  cases n with
  | zero => rfl
  | succ n =>
    unfold State.refuseHead
    cases hq : Tab.lst s.mem.queues q with
    | nil => rfl
    | cons e l =>
      rw [hq] at h
      exact if_neg (Nat.not_le.2 (h e rfl))

theorem State.refuseHead_nil (h : Tab.lst s.mem.queues q = []) : s.refuseHead q n = s :=
  State.refuseHead_below (by simp [h])

/-- A head at or above the top leaves its queue and is refused (R246). -/
theorem State.refuseHead_above {l : List MemEntry} (h : Tab.lst s.mem.queues q = e :: l) (above : s.flatTop ≤ e.flat) :
    s.refuseHead q (n + 1) = ((s.dropHead q).refuseReq q e).refuseHead q n := by
  rw [State.refuseHead, h]
  exact if_pos above

theorem State.dropHead_frame : s.dropHead q =
    { s with mem := { s.mem with queues := (s.dropHead q).mem.queues, behind := (s.dropHead q).mem.behind } } := rfl

theorem State.queues_dropHead_other {k : Nat} (h : k ≠ q) :
    Tab.lst (s.dropHead q).mem.queues k = Tab.lst s.mem.queues k := Tab.lst_setLst_other h

/-- The only entry of a queue before which nothing is stalled leaves it empty. -/
theorem State.queues_dropHead_last (h : Tab.lst s.mem.queues q = [e]) (h' : Tab.lst s.mem.behind q = []) :
    Tab.lst (s.dropHead q).mem.queues q = [] := by
  refine Tab.lst_setLst_same.trans ?_
  rw [h, h']
  rfl

/-! ## A refused request (R246) -/

/-- A refusal counts in OOR and raises its event. -/
theorem State.outOfRange_spec (s : State) (q : Nat) :
    (s.outOfRange q).fld F.MEM_STAT_OOR = min F.MEM_STAT_OOR.max (s.fld F.MEM_STAT_OOR + 1) ∧
    Raised 61 (BitVec.ofNat 32 q) s (s.outOfRange q) ∧
    OnlyFields [F.MEM_STAT_OOR, F.FLT_STAT_LOSTOCC] s (s.outOfRange q) ∧
    s.outOfRange q = { s with regs := (s.outOfRange q).regs, flt := (s.outOfRange q).flt } :=
  s.counted_spec (by decide) (by decide) (by decide)

/-- A poisoned read of a fetcher shows in its own counter, with its event (R88). -/
theorem State.fetchPoison_spec (s : State) (q : Nat) : (s.fetchPoison q).mem = s.mem ∧
    (s.fetchPoison q).fld F.MEM_STAT_OOR = s.fld F.MEM_STAT_OOR := by
  refine ⟨(State.mem_raise _ _).trans (State.incSat_mem _ _), (State.fld_raise (by decide) (by decide)).trans ?_⟩
  exact State.fld_setFld_apart (Fld.ok_mk rfl) (.inl (by dsimp only [R.MEM_STAT, R.LAY_x_STAT]; omega))

/-- A line for a fetcher goes into its line buffer, and counts where it is poisoned. -/
theorem State.deliver_fetcher (h : q ≤ 8) : ∃ u : State,
    s.deliver q d = u.whenDo (d.poisoned && decide (q < 8)) (·.fetchPoison q) ∧
    u.mem = { s.mem with got := Tab.setOpt s.mem.got q (some d) } ∧ u.regs = s.regs := by
  rw [State.deliver, if_pos h]
  exact ⟨_, rfl, rfl, rfl⟩

/-- A line that reaches a requester other than the host port and the check units stands in `got`, and moves nothing else
in memory. -/
theorem State.deliver_spec (host : q ≠ 25) (chk : q ≠ 27) :
    (s.deliver q d).mem = { s.mem with got := Tab.setOpt s.mem.got q (some d) } ∧
    (s.deliver q d).fld F.MEM_STAT_OOR = s.fld F.MEM_STAT_OOR := by
  by_cases fetcher : q ≤ 8
  · obtain ⟨u, deliver, mem, regs⟩ := State.deliver_fetcher (s := s) (d := d) fetcher
    rw [deliver, ← mem, ← State.fld_congr regs]
    cases d.poisoned && decide (q < 8)
    · rw [State.whenDo_false]
      exact ⟨rfl, rfl⟩
    · rw [State.whenDo_true]
      exact u.fetchPoison_spec q
  · rw [State.deliver, if_neg fetcher, if_neg host, if_neg chk]
    exact ⟨rfl, State.fld_congr rfl⟩

/-- A refused write changes no memory; a refused read, with none under way, reaches its requester poisoned. -/
theorem State.refuseReq_write (h : e.write = true) : s.refuseReq q e = s.outOfRange q := by
  unfold State.refuseReq
  extract_lets t
  exact if_pos h

theorem State.refuseReq_read (h : e.write = false) (none : ∀ c : Fin 3, ∀ f ∈ Tab.lst s.mem.inflight c, f.queue ≠ q) :
    s.refuseReq q e = (s.outOfRange q).deliver q ⟨e.flat / 64 * 64, List.replicate 64 0, true⟩ := by
  have idle : ¬ ((List.range 3).any fun c => (Tab.lst (s.outOfRange q).mem.inflight c).any fun f => f.queue == q) = true := by
    rw [State.mem_outOfRange, List.any_eq_true]
    rintro ⟨c, hc, h⟩
    obtain ⟨f, hf, hq⟩ := List.any_eq_true.1 h
    exact none ⟨c, List.mem_range.1 hc⟩ f hf (by simpa using hq)
  unfold State.refuseReq
  extract_lets t
  rw [if_neg (by rw [h]; exact Bool.false_ne_true), if_neg idle]

section
variable (asks : carries q r) (may : s.mayAsk q) (front : Tab.lst s.mem.behind q = []) (empty : Tab.lst s.mem.queues q = [])
  (above : s.flatTop ≤ r.flat)
include asks may front empty above

/-- A request above the top enters its empty queue and leaves it at once, refused. -/
theorem State.memRequest_above : ∃ u : State,
    u = { s with mem := { s.mem with queues := u.mem.queues, behind := u.mem.behind } } ∧
    (∀ k, Tab.lst u.mem.queues k = Tab.lst s.mem.queues k) ∧
    s.memRequest q r = (u.refuseReq q (entryOf r)).refuseHead q 15 := by
  obtain ⟨head, other, frame⟩ := State.pushReq_room (e := entryOf r) (by rw [empty]; exact Nat.succ_pos 15) front
  rw [empty, List.nil_append] at head
  refine ⟨(s.pushReq q (entryOf r)).dropHead q, ?_, fun k => ?_, ?_⟩
  · rw [State.dropHead_frame, frame]
  · by_cases hk : k = q
    · rw [hk, State.queues_dropHead_last head (by rw [frame]; exact front), empty]
    · rw [State.queues_dropHead_other hk, other k hk]
  · rw [State.memRequest_placed asks may]
    refine State.refuseHead_above head ?_
    rw [frame]
    exact above

end

/-- Settles O22: a request that may be placed is appended and stays, or, above the top, leaves at once (R246). -/
theorem memory_RequestsQueueOrAreRefused : Obligations.Memory_RequestsQueueOrAreRefused := by
  intro s q r live reads writes old fits front
  have run {t : State} {P : State → Prop} (h : s.memRequest q r = t) (hP : P t) : Runs (.memRequest q r) s P :=
    runs_effect (op := (·.memRequest q r)) live rfl h hP
  refine ⟨fun h => run (State.memRequest_barred h) rfl, fun asks may head full => ?_,
    fun asks may head first room idle => ?_, fun asks hw may idle empty above => ?_,
    fun asks hr may idle empty above host chk none => ?_⟩
  · refine run ?_ rfl
    rw [State.memRequest_placed asks may, State.pushReq_full full]
    exact State.refuseHead_below head
  · obtain ⟨queue, other, frame⟩ := State.pushReq_room (e := entryOf r) room idle
    refine run ((State.memRequest_placed asks may).trans (State.refuseHead_below ?_))
      ⟨entryOf r, queue, rfl, rfl, rfl, fun hw i hi => entryOf_bytes hw hi, other, frame⟩
    have top : (s.pushReq q (entryOf r)).flatTop = s.flatTop := by
      rw [frame]
      rfl
    rw [queue, top]
    cases h : Tab.lst s.mem.queues q with
    | nil => simpa [entryOf] using first h
    | cons e l => simpa [old, h] using head
  · obtain ⟨u, frame, queues, placed⟩ := State.memRequest_above (carries_of_write hw asks) may idle empty above
    obtain ⟨count, raised, fields, out⟩ := u.outOfRange_spec q
    have mem : (u.outOfRange q).mem = u.mem := State.mem_outOfRange
    have regs : u.regs = s.regs := by rw [frame]
    have flt : u.flt = s.flt := by rw [frame]
    rw [State.refuseReq_write hw, State.refuseHead_nil (by rw [mem, queues]; exact empty)] at placed
    refine run placed ⟨?_, ?_, ?_, ?_, ?_⟩
    · rw [count, State.fld_congr regs]
    · exact raised.of_same (State.fld_congr regs) fun j => by rw [State.events, flt, State.events]
    · exact onlyFields_trans (onlyFields_of_regs _ regs) fields
    · rw [mem]
      exact queues
    · rw [out, frame]
  · obtain ⟨u, frame, queues, placed⟩ := State.memRequest_above (carries_of_read hr asks) may idle empty above
    have regs : u.regs = s.regs := by rw [frame]
    have mem : (u.outOfRange q).mem = u.mem := State.mem_outOfRange
    rw [State.refuseReq_read hr (by rw [frame]; exact none)] at placed
    obtain ⟨got, oor⟩ := State.deliver_spec (s := u.outOfRange q) (q := q)
      (d := ⟨(entryOf r).flat / 64 * 64, List.replicate 64 0, true⟩) (by omega) (by omega)
    rw [mem] at got
    rw [State.refuseHead_nil (by rw [got]; exact (queues q).trans empty)] at placed
    refine run placed ⟨?_, ?_, ?_, ?_⟩
    · rw [oor, (u.outOfRange_spec q).1, State.fld_congr regs]
    · rw [got, Tab.opt_setOpt_same]
      rfl
    · rw [got]
      exact queues
    · rw [got, frame]

end Sys2Proof.Machine

end

section

/-!
# Accesses in passing

What an engine's accesses to memory and the check units that snoop a stream leave of the state. The lemmas about
`MemOnly` follow the model's operations in order, as those about `State.Inv` do.
-/

namespace Sys2Proof.Machine

variable {s t u : State} {f : Fld}

/-! ## Accesses to memory -/

/-- Only registers, the fault collector, the memory controllers and the free values differ. -/
structure MemOnly (s t : State) : Prop where
  rest : { t with regs := s.regs, flt := s.flt, mem := s.mem, freeCtr := s.freeCtr } = s

namespace MemOnly

theorem refl (s : State) : MemOnly s s := ⟨rfl⟩

theorem eq (h : MemOnly s t) : t = { s with regs := t.regs, flt := t.flt, mem := t.mem, freeCtr := t.freeCtr } := by
  conv => rhs; rw [← h.rest]

theorem frame {r fl m n} (h : MemOnly s t) : MemOnly s { t with regs := r, flt := fl, mem := m, freeCtr := n } := ⟨h.rest⟩

theorem memFrame {m} (h : MemOnly s t) : MemOnly s { t with mem := m } := ⟨h.rest⟩

theorem ite {c : Prop} {_ : Decidable c} (ht : MemOnly s t) (hu : MemOnly s u) : MemOnly s (if c then t else u) :=
  ite_keeps ht hu

theorem ite_fst {α : Type} {c : Prop} {_ : Decidable c} {p q : State × α} (hp : MemOnly s p.1) (hq : MemOnly s q.1) :
    MemOnly s (if c then p else q).1 := by
  split
  · exact hp
  · exact hq

/-- The state that an operation answers beside a value. -/
theorem of_eq {α : Type} {p : State × α} {a : α} (h : MemOnly s p.1) (e : p = (t, a)) : MemOnly s t := by
  rw [e] at h
  exact h

theorem each {α : Type} {l : List α} {f : State → α → State} (h : MemOnly s t)
    (hf : ∀ {u a}, MemOnly s u → MemOnly s (f u a)) : MemOnly s (t.each l f) :=
  State.each_keeps h fun _ _ _ => hf

theorem whenDo {b : Bool} {f : State → State} (h : MemOnly s t) (hf : ∀ {u}, MemOnly s u → MemOnly s (f u)) :
    MemOnly s (t.whenDo b f) :=
  State.whenDo_keeps h fun _ => hf

theorem setFld {v} (h : MemOnly s t) : MemOnly s (t.setFld f v) := ⟨h.rest⟩

theorem setOn {b} (h : MemOnly s t) : MemOnly s (t.setOn f b) := ⟨h.rest⟩

theorem incSat (h : MemOnly s t) : MemOnly s (t.incSat f) := ⟨h.rest⟩

theorem raise {i n} (h : MemOnly s t) : MemOnly s (t.raise i n) := by
  rw [(t.raise_spec i n).2.2]
  exact ⟨h.rest⟩

theorem outOfRange {q} (h : MemOnly s t) : MemOnly s (t.outOfRange q) := h.incSat.raise

theorem migStart {rank} (h : MemOnly s t) : MemOnly s (t.migStart rank) := h.setFld.setFld.setFld.raise

theorem memFinding {rank} (h : MemOnly s t) : MemOnly s (t.memFinding rank) := by
  unfold State.memFinding
  refine .ite ?_ h
  split
  · exact .ite h.migStart h.setFld.raise
  · exact .ite h h.raise
  · exact h.setFld.raise
  · exact h

theorem countCE {rank} (h : MemOnly s t) : MemOnly s (t.countCE rank) :=
  .ite (.memFinding (.raise (.memFrame (.memFrame h.incSat)))) (.memFrame h.incSat)

theorem countUE {line} (h : MemOnly s t) : MemOnly s (t.countUE line) :=
  .memFinding (.raise (.setOn (.setFld (.incSat h))))

theorem writeBack {line data p} (h : MemOnly s t) : MemOnly s (t.writeBack line data p) := h.memFrame

theorem handleRead {line c o} (h : MemOnly s t) : MemOnly s (t.handleRead line c o).1 := by
  unfold State.handleRead
  split
  · exact h
  · exact .countCE (.ite h h.writeBack)
  · exact h.incSat
  · exact .countUE (.ite h.frame h.frame)

theorem queueWrite {q e} (h : MemOnly s t) : MemOnly s (t.queueWrite q e) := .ite (.ite h.memFrame h) h.memFrame

theorem reserve {q line} (h : MemOnly s t) : MemOnly s (t.reserve q line) := .ite h.memFrame h

theorem activate {q line} (h : MemOnly s t) : MemOnly s (t.activate q line) :=
  .ite (.raise (.setFld (.incSat (.setFld (.setFld (.setFld (.setFld h.memFrame))))))) h.memFrame

theorem touchLine {q line w} (h : MemOnly s t) : MemOnly s (t.touchLine q line w) := by
  unfold State.touchLine
  extract_lets l key out s1 s2
  have h1 : MemOnly s s1 := by
    unfold s1
    clear_value out
    split
    · exact h.whenDo (·.activate)
    · exact h
  exact (h1.whenDo (·.activate)).memFrame

theorem putLine {line data p e} (h : MemOnly s t) : MemOnly s (t.putLine line data p e) := by
  unfold State.putLine
  dsimp only
  split
  · exact h.memFrame
  · split
    · exact h
    · exact h.memFrame

theorem dramRead {q line} (h : MemOnly s t) : MemOnly s (t.dramRead q line).1 := h.touchLine.handleRead

theorem dramWrite {q line bytes r w} (h : MemOnly s t) : MemOnly s (t.dramWrite q line bytes r w) :=
  .ite h.touchLine.putLine h.touchLine.handleRead.putLine

theorem awaitThrottle {q line} (h : MemOnly s t) : MemOnly s (t.awaitThrottle q line) := .reserve (.ite h.memFrame h)

theorem lineRead {q flat} (h : MemOnly s t) : MemOnly s (t.lineRead q flat).1 := by
  unfold State.lineRead
  refine .ite_fst h.outOfRange ?_
  extract_lets line posted
  refine .ite_fst h ?_
  split
  rename_i _ _ _ e
  exact h.awaitThrottle.dramRead.of_eq e

theorem readEach {q l} (h : MemOnly s t) : MemOnly s (t.readEach q l).1 := by
  induction l generalizing t with
  | nil => exact h
  | cons x l ih =>
    show MemOnly s ((t.lineRead q x).1.readEach q l).1
    exact ih h.lineRead

theorem readLines {q a n} (h : MemOnly s t) : MemOnly s (t.readLines q a n).1 := h.readEach

theorem lineStore {q flat bytes} (h : MemOnly s t) : MemOnly s (t.lineStore q flat bytes) :=
  .ite h.queueWrite (.ite h.outOfRange (.ite h.memFrame h.awaitThrottle.memFrame.dramWrite))

theorem writeFlat {q a bytes} (h : MemOnly s t) : MemOnly s (t.writeFlat q a bytes) := h.each (·.lineStore)

end MemOnly

/-! ## Check units on a stream -/

/-- Only the check units differ, their registers above all others but LOSTOCC, and the fault collector. -/
structure ChkOnly (s t : State) : Prop where
  rest : { t with regs := s.regs, flt := s.flt, chk := s.chk } = s
  reg : ∀ a, a < 0x100000 → t.reg a = s.reg a

namespace ChkOnly

theorem refl (s : State) : ChkOnly s s := ⟨rfl, fun _ _ => rfl⟩

theorem eq (h : ChkOnly s t) : t = { s with regs := t.regs, flt := t.flt, chk := t.chk } := by
  conv => rhs; rw [← h.rest]

theorem fld (h : ChkOnly s t) (hf : f.addr < 0x100000) : t.fld f = s.fld f := by
  rw [State.fld, h.reg _ hf, State.fld]

theorem frame {c} (h : ChkOnly s t) : ChkOnly s { t with chk := c } := ⟨h.rest, h.reg⟩

theorem ite {c : Prop} {_ : Decidable c} (ht : ChkOnly s t) (hu : ChkOnly s u) : ChkOnly s (if c then t else u) :=
  ite_keeps ht hu

theorem each {α : Type} {l : List α} {f : State → α → State} (h : ChkOnly s t)
    (hf : ∀ {u a}, ChkOnly s u → ChkOnly s (f u a)) : ChkOnly s (t.each l f) :=
  State.each_keeps h fun _ _ _ => hf

theorem setReg {a w} (h : ChkOnly s t) (ha : 0x100000 ≤ a) : ChkOnly s (t.setReg a w) :=
  ⟨h.rest, fun b hb => (State.reg_setReg_other (by omega)).trans (h.reg b hb)⟩

theorem setFld {v} (h : ChkOnly s t) (ha : 0x100000 ≤ f.addr) : ChkOnly s (t.setFld f v) := h.setReg ha

theorem raise {i n} (h : ChkOnly s t) : ChkOnly s (t.raise i n) := by
  unfold State.raise
  rcases State.raiseWith_cases t i (BitVec.ofNat 32 n) false with ⟨_, e⟩ | ⟨_, _, e⟩ | ⟨_, _, e⟩
  · rw [e]
    exact h
  · rw [e]
    exact ⟨h.rest, h.reg⟩
  · rw [e]
    exact .setFld ⟨h.rest, h.reg⟩ (by decide)

variable {n : Nat}

theorem chkSync (h : ChkOnly s t) : ChkOnly s (t.chkSync n) := h.setReg (Nat.le_add_right_of_le (by decide))

theorem chkDone (h : ChkOnly s t) : ChkOnly s (t.chkDone n) := by
  have stat : 0x100000 ≤ R.CHKn_STAT n := Nat.le_add_right_of_le (by decide)
  exact State.whenDo_keeps (P := ChkOnly s) (.raise (.setFld (.setFld h stat) stat)) fun u hu => .raise (.setFld hu stat)

theorem chkInit (h : ChkOnly s t) : ChkOnly s (t.chkInit n) := (h.setReg (Nat.le_add_right_of_le (by decide))).chkSync

theorem chkIdle (h : ChkOnly s t) : ChkOnly s (t.chkIdle n) := h.frame.setFld (Nat.le_add_right_of_le (by decide))

theorem chkFeed {bytes} (h : ChkOnly s t) : ChkOnly s (t.chkFeed n bytes) := by
  have val {w} : ChkOnly s ((t.setReg (R.CHKn_VAL n) w).chkSync n) :=
    (h.setReg (Nat.le_add_right_of_le (by decide))).chkSync
  have len {w v} : ChkOnly s (((t.setReg (R.CHKn_VAL n) w).chkSync n).setFld (F.CHKn_LEN_LEN n) v) :=
    val.setFld (Nat.le_add_right_of_le (by decide))
  exact .ite val (.ite len.chkIdle.chkDone len)

theorem snoop {stream bytes} (h : ChkOnly s t) : ChkOnly s (t.snoop stream bytes) := h.each fun h => .ite h.chkFeed h

theorem snoopBoundary {stream} (h : ChkOnly s t) : ChkOnly s (t.snoopBoundary stream) :=
  h.each fun h => .ite (.ite h.frame (.ite (h.setReg (Nat.le_add_right_of_le (by decide))).chkDone.chkInit h)) h

end ChkOnly

/-- A boundary of a stream leaves the pixel path, memory and the registers below those of the check units. -/
theorem State.snoopBoundary_spec {stream : Nat} (s : State) : (s.snoopBoundary stream).pix = s.pix ∧
    (s.snoopBoundary stream).mem = s.mem ∧
    ∀ {f : Fld}, f.addr < 0x100000 → (s.snoopBoundary stream).fld f = s.fld f := by
  have snooped := (ChkOnly.refl s).snoopBoundary (stream := stream)
  refine ⟨?_, ?_, fun hf => snooped.fld hf⟩
  · rw [snooped.eq]
  · rw [snooped.eq]

end Sys2Proof.Machine

end

section

/-!
# Writeback and the monitor stream

Captured lines, the end of a capture and the packets of the monitor stream (O12).
-/

namespace Sys2Proof.Machine

variable {s t u : State} {k y : Nat} {room : Bool} {c : Capture} {l : Load} {x : Nat × Ctx}

/-- The capture of a feed is another one, or none. -/
def State.withCapture (s : State) (k : Nat) (c : Option Capture) : State :=
  { s with pix := { s.pix with capture := Tab.setOpt s.pix.capture k c } }

/-- The rows of a capture once a line has been taken. -/
def Capture.rowsWith (c : Capture) (l : Load) (i y : Nat) : Tab (List Px) := Tab.setLst c.rows y (l.line i (y % 128))

/-- The rows that a captured line of some rows averages. -/
def Capture.block (c : Capture) (rows : Tab (List Px)) (y : Nat) : List (List Px) :=
  (List.range c.dec).map fun i => Tab.lst rows (y / c.dec * c.dec + i)

/-! ## WRITEBACK_LINE -/

theorem State.writebackLine_idle (h : Tab.opt s.pix.capture k = none) : s.writebackLine k y room = s := by
  unfold State.writebackLine
  rw [h]

section
variable (hc : Tab.opt s.pix.capture k = some c) (hl : Tab.opt s.pix.loads k = some l)
  (hx : findCtx (feedCtxs (Secs.ctxs s.conf.secs) (y / 128) k) 4 none = some x) (formed : y % 128 < Tab.num l.done x.1)
  (fresh : Tab.on c.written y = false)
include hc hl hx formed fresh

/-- A line that has been formed and not accounted for is dropped or taken. -/
theorem State.writebackLine_eq : s.writebackLine k y room =
    if !s.writebackRoom k (y / 512) room
        (if (c.block (c.rowsWith l x.1 y) y).all (fun b => !b.isEmpty) then 64 / c.dec else 0) then
      ((s.withCapture k (some { c with written := Tab.setOn c.written y true, dropped := true })).incSat
        (F.LAY_Fk_WBSTAT_DROP k)).raise 80 k
    else
      let t := s.withCapture k (some { c with written := Tab.setOn c.written y true, rows := c.rowsWith l x.1 y })
      if (c.block (c.rowsWith l x.1 y) y).all (fun b => !b.isEmpty) then
        (t.writeFlat (17 + k) (captureBase c.base c.dec c.buf + 4096 / c.dec * (y / c.dec))
          (captureLine c.dec c.enc (c.block (c.rowsWith l x.1 y) y))).snoop (8 + k)
            (captureLine c.dec c.enc (c.block (c.rowsWith l x.1 y) y))
      else t := by
  have due : ¬ (Tab.num l.done x.1 ≤ y % 128 ∨ Tab.on c.written y = true) := by
    rintro (h | h)
    · omega
    · exact absurd (fresh.symm.trans h) Bool.false_ne_true
  unfold State.writebackLine
  rw [hc, hl]
  dsimp only
  rw [hx]
  dsimp only
  rw [if_neg due]
  rfl

end

theorem State.withCapture_opt {o : Option Capture} : Tab.opt (s.withCapture k o).pix.capture k = o := Tab.opt_setOpt_same

/-- A captured line that is stored: the capture and memory are as after the write, whatever a check unit snoops. -/
theorem State.storedLine_spec {q a stream : Nat} {bytes : List Byte} :
    ((s.writeFlat q a bytes).snoop stream bytes).pix = s.pix ∧
    ((s.writeFlat q a bytes).snoop stream bytes).mem = (s.writeFlat q a bytes).mem := by
  have stored := ((MemOnly.refl s).writeFlat (q := q) (a := a) (bytes := bytes)).eq
  have snooped := ((ChkOnly.refl (s.writeFlat q a bytes)).snoop (stream := stream) (bytes := bytes)).eq
  constructor
  · rw [snooped, stored]
  · rw [snooped]

/-! ## WRITEBACK_PUBLISH (R109, R111) -/

theorem State.writebackPublish_idle (h : Tab.opt s.pix.capture k = none) : s.writebackPublish k = s := by
  unfold State.writebackPublish
  rw [h]

section
variable (hc : Tab.opt s.pix.capture k = some c)
include hc

theorem State.writebackPublish_unfinished (h : (List.range 1024).all (Tab.on c.written) = false) :
    s.writebackPublish k = s := by
  unfold State.writebackPublish
  rw [hc]
  dsimp only
  rw [h]
  rfl

/-- LAST names the buffer of a frame, which is due on the monitor stream. -/
def State.showLatest (s : State) (k b : Nat) : State :=
  { s.setFld (F.LAY_Fk_WBSTAT_LAST k) b with pix := { s.pix with
      monDue := Tab.setOn s.pix.monDue k true, monSeq := Tab.setNum s.pix.monSeq k (Tab.num s.pix.monSeq k + 1) } }

/-- A capture that runs once stops. -/
def State.stopCapture (s : State) (k : Nat) : State :=
  ({ s with pix := { s.pix with held := Tab.setOn s.pix.held k true } }.setOn (F.LAY_Fk_WBCTRL_EN k) false).setShadFld
    (F.LAY_Fk_WBCTRL_EN k) 0

theorem State.writebackPublish_ends (h : (List.range 1024).all (Tab.on c.written) = true) :
    s.writebackPublish k =
      (if c.dropped then (s.withCapture k none).incSat (F.LAY_Fk_WBSTAT_INCOMPLETE k)
        else
          let t := (s.withCapture k none).showLatest k c.buf
          if t.on (F.LAY_Fk_WBCTRL_ONESHOT k) then t.stopCapture k else t).snoopBoundary (8 + k) := by
  unfold State.writebackPublish
  rw [hc]
  dsimp only
  rw [h]
  rfl

end

theorem State.showLatest_spec {b : Nat} (hb : b < 4) : (s.showLatest k b).fld (F.LAY_Fk_WBSTAT_LAST k) = b ∧
    (s.showLatest k b).on (F.LAY_Fk_WBCTRL_ONESHOT k) = s.on (F.LAY_Fk_WBCTRL_ONESHOT k) ∧
    Tab.on (s.showLatest k b).pix.monDue k = true ∧ (s.showLatest k b).pix.capture = s.pix.capture ∧
    (s.showLatest k b).mem = s.mem := by
  have other : R.LAY_Fk_WBSTAT k ≠ R.LAY_Fk_WBCTRL k := by
    dsimp only [R.LAY_Fk_WBCTRL, R.LAY_Fk_WBSTAT]
    omega
  have regs : (s.showLatest k b).regs = (s.setFld (F.LAY_Fk_WBSTAT_LAST k) b).regs := rfl
  have due : (s.showLatest k b).pix.monDue = Tab.setOn s.pix.monDue k true := rfl
  refine ⟨?_, State.on_congr ?_, ?_, rfl, rfl⟩
  · rw [State.fld_congr regs]
    exact State.fld_setFld_fits (Fld.ok_mk rfl) (Nat.le_of_lt_succ hb)
  · rw [State.fld_congr regs]
    exact State.fld_setFld_apart (Fld.ok_mk rfl) (.inl other)
  · rw [due, Tab.on_setOn_same]

theorem State.stopCapture_spec : (s.stopCapture k).on (F.LAY_Fk_WBCTRL_EN k) = false ∧
    (s.stopCapture k).fld (F.LAY_Fk_WBSTAT_LAST k) = s.fld (F.LAY_Fk_WBSTAT_LAST k) ∧
    (s.stopCapture k).pix.monDue = s.pix.monDue ∧ (s.stopCapture k).pix.capture = s.pix.capture ∧
    (s.stopCapture k).mem = s.mem := by
  have other : R.LAY_Fk_WBCTRL k ≠ R.LAY_Fk_WBSTAT k := by
    dsimp only [R.LAY_Fk_WBCTRL, R.LAY_Fk_WBSTAT]
    omega
  unfold State.stopCapture
  rw [State.setShadFld_pix, State.setOn_pix, State.setShadFld_mem, State.setOn_mem]
  refine ⟨?_, ?_, rfl, rfl, rfl⟩
  · rw [State.on_congr (State.fld_congr (State.setShadFld_regs _ _ _))]
    exact State.on_setOn_same (Fld.ok_mk rfl) false
  · rw [State.fld_congr (State.setShadFld_regs _ _ _), State.setOn, State.fld_setFld_apart (Fld.ok_mk rfl) (.inl other)]
    exact State.fld_congr rfl

/-! ## MONITOR_PACKET_SEND (R110, R286) -/

variable {m : Monitor} {p q : Nat}

theorem State.monBegin_busy (h : (Tab.opt s.pix.monitor k).isSome = true) : s.monBegin k = s := if_pos (.inl h)

theorem State.monSend_idle (h : Tab.opt s.pix.monitor k = none) (due : Tab.on s.pix.monDue k = false) :
    s.monSend k = s := by
  have idle : s.monBegin k = s := if_pos (.inr (.inl (by rw [due]; rfl)))
  unfold State.monSend
  rw [idle]
  dsimp only
  rw [h]

theorem State.monEnd_spec (s : State) (k : Nat) : Tab.opt (s.monEnd k).pix.monitor k = none ∧
    (s.monEnd k).fld (F.LAY_Fk_WBSTAT_SENDING k) = 3 ∧ (s.monEnd k).lnk = s.lnk ∧ (s.monEnd k).mem = s.mem := by
  have monitor : (s.monEnd k).pix.monitor = Tab.setOpt s.pix.monitor k none := rfl
  rw [monitor, Tab.opt_setOpt_same]
  exact ⟨rfl, State.fld_setFld_fits (Fld.ok_mk rfl) (Nat.le_refl 3), rfl, rfl⟩

/-- Where the frame being sent stands after a line. -/
theorem State.monAdvance_spec {m' : Option Monitor}
    (hm : m' = if m.line + 1 < 1024 / m.dec then some { m with line := m.line + 1 } else none) :
    Tab.opt (s.monAdvance k m).pix.monitor k = m' ∧
    (m' = none → (s.monAdvance k m).fld (F.LAY_Fk_WBSTAT_SENDING k) = 3) ∧
    (s.monAdvance k m).lnk = s.lnk ∧ (s.monAdvance k m).mem = s.mem := by
  subst hm
  unfold State.monAdvance
  split
  · have next {o} : ({ s with pix := { s.pix with monitor := Tab.setOpt s.pix.monitor k o } } : State).pix.monitor =
        Tab.setOpt s.pix.monitor k o := rfl
    rw [next, Tab.opt_setOpt_same]
    exact ⟨rfl, nofun, rfl, rfl⟩
  · obtain ⟨ended, sending, lnk, mem⟩ := s.monEnd_spec k
    exact ⟨ended, fun _ => sending, lnk, mem⟩

section
variable (hm : Tab.opt s.pix.monitor k = some m)
include hm

theorem State.monSend_noPort (hp : s.monPort k = none) : s.monSend k = s.monEnd k := by
  unfold State.monSend
  rw [State.monBegin_busy (Option.isSome_of_eq_some hm)]
  dsimp only
  rw [hm]
  dsimp only
  rw [hp]

/-- On a port the line is lost, held back or sent. -/
theorem State.monSend_port (hp : s.monPort k = some p) (hq : q = if p = 0 then 41 else 42) : s.monSend k =
    if !s.linkActive p then s.monAdvance k { m with port := p }
    else if 16384 < s.queueFill q + m.size ∨ !s.engineReady 21 (m.lineBase m.line) (4 * (1024 / m.dec)) then s
    else ((s.readLines 21 (m.lineBase m.line) (4 * (1024 / m.dec))).1.enqueue q
      (({ m with port := p } : Monitor).packet (spanBytes (s.readLines 21 (m.lineBase m.line) (4 * (1024 / m.dec))).2
        (m.lineBase m.line) (4 * (1024 / m.dec))))).monAdvance k { m with port := p } := by
  subst hq
  unfold State.monSend
  rw [State.monBegin_busy (Option.isSome_of_eq_some hm)]
  dsimp only
  rw [hm]
  dsimp only
  rw [hp]
  rfl

end

/-! ## The statement -/

section
variable {k : Fin 4} {P : State → Prop} (live : s.live)
include live

theorem runs_writebackLine {y : Fin 1024} (h : s.writebackLine k y room = t) (hP : P t) :
    Runs (.writebackLine k y room) s P :=
  runs_effect (op := (·.writebackLine k y room)) live rfl h hP

theorem runs_writebackPublish (h : s.writebackPublish k = t) (hP : P t) : Runs (.writebackPublish k) s P :=
  runs_effect (op := (·.writebackPublish k)) live rfl h hP

theorem runs_monSend (h : s.monSend k = t) (hP : P t) : Runs (.monitorPacketSend k) s P :=
  runs_effect (op := (·.monSend k)) live rfl h hP

end

section
variable {k : Fin 4}

theorem wbstat_apart : ∀ k : Fin 4, F.FLT_STAT_LOSTOCC.apart (F.LAY_Fk_WBSTAT_DROP k) ∧
    (F.LAY_Fk_WBSTAT_DROP k).apart (F.FLT_SRCi_EN 80) := by decide

theorem feedRegs_below : ∀ k : Fin 4, R.LAY_Fk_WBSTAT k < 0x100000 ∧ R.LAY_Fk_WBCTRL k < 0x100000 := by decide

/-- A line that finds no room is counted, and spoils the capture. -/
theorem State.dropLine_spec (c : Capture) : ∃ t, ((s.withCapture k (some c)).incSat (F.LAY_Fk_WBSTAT_DROP k)).raise 80 k = t ∧
    t.fld (F.LAY_Fk_WBSTAT_DROP k) = min 255 (s.fld (F.LAY_Fk_WBSTAT_DROP k) + 1) ∧
    Raised 80 (BitVec.ofNat 32 k) s t ∧ Tab.opt t.pix.capture k = some c ∧
    OnlyFields [F.LAY_Fk_WBSTAT_DROP k, F.FLT_STAT_LOSTOCC] s t ∧
    t = { s with regs := t.regs, flt := t.flt, pix := { s.pix with capture := t.pix.capture } } := by
  have regs : (s.withCapture k (some c)).regs = s.regs := rfl
  have max : (F.LAY_Fk_WBSTAT_DROP k).max = 255 := rfl
  obtain ⟨count, raised, fields, frame⟩ := (s.withCapture k (some c)).counted_spec (f := F.LAY_Fk_WBSTAT_DROP k) (i := 80)
    (n := k) (Fld.ok_mk rfl) (wbstat_apart k).1 (wbstat_apart k).2
  generalize ((s.withCapture k (some c)).incSat (F.LAY_Fk_WBSTAT_DROP k)).raise 80 k = t at *
  have pix : t.pix = (s.withCapture k (some c)).pix := by rw [frame]
  refine ⟨t, rfl, ?_, raised.of_same (State.fld_congr regs) fun _ => rfl, ?_,
    onlyFields_trans (onlyFields_of_regs _ regs) fields, ?_⟩
  · rw [count, max, State.fld_congr regs]
  · rw [pix]
    exact State.withCapture_opt
  · rw [pix]
    exact frame

/-- A capture with a dropped line ends. -/
theorem State.spoiltCapture_spec : ∃ t,
    ((s.withCapture k none).incSat (F.LAY_Fk_WBSTAT_INCOMPLETE k)).snoopBoundary (8 + k) = t ∧
    Tab.opt t.pix.capture k = none ∧
    t.fld (F.LAY_Fk_WBSTAT_INCOMPLETE k) = min 255 (s.fld (F.LAY_Fk_WBSTAT_INCOMPLETE k) + 1) ∧
    t.fld (F.LAY_Fk_WBSTAT_LAST k) = s.fld (F.LAY_Fk_WBSTAT_LAST k) ∧ t.mem = s.mem := by
  have regs : (s.withCapture k none).regs = s.regs := rfl
  have max : (F.LAY_Fk_WBSTAT_INCOMPLETE k).max = 255 := rfl
  obtain ⟨pix, mem, fields⟩ :=
    ((s.withCapture k none).incSat (F.LAY_Fk_WBSTAT_INCOMPLETE k)).snoopBoundary_spec (stream := 8 + k)
  refine ⟨_, rfl, ?_, ?_, ?_, ?_⟩
  · rw [pix, State.incSat_pix]
    exact State.withCapture_opt
  · rw [fields (feedRegs_below k).1, State.fld_incSat_same (Fld.ok_mk rfl), max, State.fld_congr regs]
  · rw [fields (feedRegs_below k).1, ← State.fld_congr regs]
    exact onlyFields_incSat (Fld.ok_mk rfl) _ (Fld.ok_mk rfl) (List.forall_mem_singleton.2 (Fld.apart_mk rfl))
  · rw [mem, State.incSat_mem]
    rfl

/-- A whole capture ends: its frame is published. -/
theorem State.wholeCapture_spec {b : Nat} (hb : b < 4) : ∃ t,
    (let t := (s.withCapture k none).showLatest k b
      if t.on (F.LAY_Fk_WBCTRL_ONESHOT k) then t.stopCapture k else t).snoopBoundary (8 + k) = t ∧
    Tab.opt t.pix.capture k = none ∧ t.fld (F.LAY_Fk_WBSTAT_LAST k) = b ∧ Tab.on t.pix.monDue k = true ∧
    t.mem = s.mem ∧ (s.on (F.LAY_Fk_WBCTRL_ONESHOT k) = true → t.on (F.LAY_Fk_WBCTRL_EN k) = false) := by
  obtain ⟨last, one, due, capture, mem⟩ := (s.withCapture k none).showLatest_spec (k := k) hb
  rw [State.on_congr (State.fld_congr (show (s.withCapture k none).regs = s.regs from rfl))] at one
  have ended : Tab.opt (s.withCapture k none).pix.capture k = none := State.withCapture_opt
  refine ⟨_, rfl, ?_⟩
  dsimp only
  split
  · obtain ⟨en, last', due', capture', mem'⟩ := ((s.withCapture k none).showLatest k b).stopCapture_spec (k := k)
    obtain ⟨pixB, memB, fields⟩ :=
      (((s.withCapture k none).showLatest k b).stopCapture k).snoopBoundary_spec (stream := 8 + k)
    rw [pixB, memB, fields (feedRegs_below k).1, State.on_congr (fields (feedRegs_below k).2), capture', due', mem', last',
      capture]
    exact ⟨ended, last, due, mem, fun _ => en⟩
  · rename_i more
    obtain ⟨pixB, memB, fields⟩ := ((s.withCapture k none).showLatest k b).snoopBoundary_spec (stream := 8 + k)
    rw [pixB, memB, fields (feedRegs_below k).1, capture]
    exact ⟨ended, last, due, mem, fun h => absurd (one.trans h) more⟩

end

/-- The line of a monitor packet is read, and its packet enters the queue of its port. -/
theorem State.monSend_sent {m' : Option Monitor} {ds : List Delivered}
    (hm' : m' = if m.line + 1 < 1024 / m.dec then some { m with port := p, line := m.line + 1 } else none)
    (hu : (u, ds) = s.readLines 21 (m.lineBase m.line) (4 * (1024 / m.dec))) (x : TxPkt) :
    let t := (u.enqueue q x).monAdvance k { m with port := p }
    Tab.opt t.pix.monitor k = m' ∧ (m' = none → t.fld (F.LAY_Fk_WBSTAT_SENDING k) = 3) ∧ t.mem = u.mem ∧
    Tab.lst t.lnk.queues q = Tab.lst s.lnk.queues q ++ [x] ∧
    ∀ r, r ≠ q → Tab.lst t.lnk.queues r = Tab.lst s.lnk.queues r := by
  have kept : u.lnk = s.lnk := by
    have reads : u = (s.readLines 21 (m.lineBase m.line) (4 * (1024 / m.dec))).1 := congrArg Prod.fst hu
    rw [reads, (MemOnly.refl s).readLines.eq]
  have queues : (u.enqueue q x).lnk.queues = Tab.setLst s.lnk.queues q (Tab.lst s.lnk.queues q ++ [x]) := by
    rw [← kept]
    rfl
  obtain ⟨next, last, lnk, mem⟩ := State.monAdvance_spec (s := u.enqueue q x) (k := k) (m := { m with port := p }) hm'
  dsimp only
  rw [lnk, queues]
  exact ⟨next, last, mem, Tab.lst_setLst_same, fun r hr => Tab.lst_setLst_other hr⟩

/-- Settles O12: each command is one of its cases, and what an access to memory or a check unit changes in passing lies
apart from the capture, the frame being sent and the registers of the feed. -/
theorem writeback_LinesAndPublication : Obligations.Writeback_LinesAndPublication := by
  intro s k live
  refine ⟨fun idle => ⟨fun y room => runs_writebackLine live (State.writebackLine_idle idle) rfl,
    runs_writebackPublish live (State.writebackPublish_idle idle) rfl⟩, ?_, fun c hc => ⟨fun h => ?_, fun h => ⟨?_, ?_⟩⟩,
    fun m hm => ⟨fun hp => ?_, fun p q m' hp hq hm' => ?_⟩,
    fun idle due => runs_monSend live (State.monSend_idle idle due) rfl⟩
  · intro c l y x rows block room hc hl hx formed fresh hrows hblock
    obtain rfl : rows = c.rowsWith l x.1 y := hrows
    obtain rfl : block = c.block (c.rowsWith l x.1 y) y := hblock
    have written : Tab.on (Tab.setOn c.written y true) y = true := Tab.on_setOn_same
    have line := State.writebackLine_eq (room := room) hc hl hx formed fresh
    refine ⟨fun noRoom => runs_writebackLine live (line.trans (if_pos (by rw [noRoom]; rfl))) ?_,
      fun hasRoom => runs_writebackLine live (line.trans (if_neg (by rw [hasRoom]; decide))) ?_⟩
    · obtain ⟨t, e, count, raised, capture, fields, frame⟩ := s.dropLine_spec (k := k)
        { c with written := Tab.setOn c.written y true, dropped := true }
      rw [e]
      exact ⟨count, raised, ⟨_, capture, rfl, written, rfl⟩, fields, frame⟩
    · dsimp only
      split
      · rename_i whole
        obtain ⟨pix, mem⟩ := State.storedLine_spec
          (s := s.withCapture k (some { c with written := Tab.setOn c.written y true, rows := c.rowsWith l x.1 y }))
          (q := 17 + k) (a := captureBase c.base c.dec c.buf + 4096 / c.dec * (y / c.dec)) (stream := 8 + k)
          (bytes := captureLine c.dec c.enc (c.block (c.rowsWith l x.1 y) y))
        rw [pix, mem]
        exact ⟨⟨_, State.withCapture_opt, rfl, written⟩, fun h => absurd (whole.symm.trans h) (by decide),
          fun _ u hu => by rw [hu]; rfl⟩
      · rename_i part
        exact ⟨⟨_, State.withCapture_opt, rfl, written⟩, fun _ => rfl, fun h => absurd h part⟩
  · exact runs_writebackPublish live (State.writebackPublish_unfinished hc h) rfl
  · intro dropped
    refine runs_writebackPublish live ((State.writebackPublish_ends hc h).trans (by rw [if_pos dropped])) ?_
    obtain ⟨t, e, ended⟩ := s.spoiltCapture_spec (k := k)
    rw [e]
    exact ended
  · intro whole fits
    refine runs_writebackPublish live ((State.writebackPublish_ends hc h).trans (by rw [if_neg (by rw [whole]; decide)])) ?_
    obtain ⟨t, e, ended⟩ := s.wholeCapture_spec (k := k) fits
    rw [e]
    exact ended
  · refine runs_monSend live (State.monSend_noPort hm hp) ?_
    obtain ⟨ended, sending, lnk, -⟩ := s.monEnd_spec k
    exact ⟨ended, sending, lnk⟩
  · have sends := State.monSend_port hm hp hq
    refine ⟨fun lost => ?_, fun active held => ?_, fun active fits ready u ds hu => ?_⟩
    · refine runs_monSend live (sends.trans (if_pos (by rw [lost]; rfl))) ?_
      obtain ⟨next, -, lnk, mem⟩ := s.monAdvance_spec (k := k) (m := { m with port := p }) hm'
      exact ⟨next, lnk, mem⟩
    · refine runs_monSend live (sends.trans ((if_neg (by rw [active]; decide)).trans (if_pos (held.imp_right ?_)))) rfl
      intro h
      rw [h]
      rfl
    · have go : ¬ (16384 < s.queueFill q + m.size ∨
          (!s.engineReady 21 (m.lineBase m.line) (4 * (1024 / m.dec))) = true) := by
        rw [ready]
        rintro (h | h)
        · omega
        · cases h
      refine runs_monSend live (sends.trans ((if_neg (by rw [active]; decide)).trans (if_neg go))) ?_
      rw [← hu]
      exact State.monSend_sent hm' hu _

end Sys2Proof.Machine

end

section

/-!
# Beads

Which context a bead runs for a line, and what it leaves (O8).
-/

namespace Sys2Proof.Machine

variable {s t : State} {l : Load} {fc : List (Nat × Ctx)} {x : Ctx} {i k n q isle strand bead ready room : Nat}

theorem State.pix_raise {d : Nat} : (s.raise i d).pix = s.pix := by rw [(s.raise_spec i d).2.2]

/-! ## The loads that run, while rows are fetched

A context fetches its rows in its own load; the loads of the feeds are as before until the line is formed. -/

/-- The loads in progress are the same. -/
structure SameLoads (s t : State) : Prop where
  eq : t.pix.loads = s.pix.loads

namespace SameLoads

theorem refl (s : State) : SameLoads s s := ⟨rfl⟩

theorem incSat {f : Fld} (h : SameLoads s t) : SameLoads s (t.incSat f) := ⟨h.eq⟩

theorem raise {d : Nat} (h : SameLoads s t) : SameLoads s (t.raise i d) := by
  rw [(t.raise_spec i d).2.2]
  exact ⟨h.eq⟩

theorem setBuf {b : List Delivered} (h : SameLoads s t) : SameLoads s (t.setBuf q b) := ⟨h.eq⟩

theorem lineRead {a : Nat} (h : SameLoads s t) : SameLoads s (t.lineRead q a).1 := by
  rw [((MemOnly.refl t).lineRead).eq]
  exact ⟨h.eq⟩

/-- The state that an operation answers beside a value. -/
theorem of_eq {α : Type} {u : State} {p : State × α} {a : α} (h : SameLoads s p.1) (e : p = (u, a)) : SameLoads s u := by
  rw [e] at h
  exact h

theorem takeLine {a : Nat} (h : SameLoads s t) : SameLoads s (t.takeLine q a).1 := by
  unfold State.takeLine
  split
  · exact h.setBuf
  · split
    rename_i e
    exact State.whenDo_keeps (P := SameLoads s) (h.lineRead.of_eq e) fun u hu => hu.incSat.raise

theorem takeLines {as : List Nat} (h : SameLoads s t) : SameLoads s (t.takeLines q as).1 := by
  induction as generalizing t with
  | nil => exact h
  | cons a as ih =>
    show SameLoads s ((t.takeLine q a).1.takeLines q as).1
    exact ih h.takeLine

theorem fetchNext {src : LaySource} (h : SameLoads s t) : SameLoads s (t.fetchNext l fc n isle src).1 := by
  unfold State.fetchNext
  dsimp only
  split
  · exact h
  · exact h.takeLines

theorem fetchTo {m : Nat} (h : SameLoads s t) : SameLoads s (t.fetchTo l fc n isle m).1 := by
  unfold State.fetchTo
  split
  · exact h
  · exact foldl_keeps (P := fun p : State × Load => SameLoads s p.1) h fun h => h.fetchNext

theorem facetBlocks {r : Tab Word} {y : Nat} (h : SameLoads s t) : SameLoads s (t.facetBlocks r k y).1 := by
  have taken := h.takeLines (q := 8) (as := facetLines r k y)
  unfold State.facetBlocks
  generalize t.takeLines 8 (facetLines r k y) = p at taken
  obtain ⟨u, ds⟩ := p
  exact State.each_keeps (P := SameLoads s) taken fun _ _ _ h => h.incSat.raise

theorem runCtx (h : SameLoads s t) : SameLoads s (t.runCtx l fc i x).1 := by
  have rows : SameLoads s ((l.fetched fc i x).foldl (fun a n => a.1.fetchTo a.2 fc n.1 x.isle n.2) (t, l)).1 :=
    foldl_keeps (P := fun p : State × Load => SameLoads s p.1) h fun h => h.fetchTo
  unfold State.runCtx
  split
  rename_i e
  have fetched := rows.of_eq e
  dsimp only
  split
  · dsimp only
    exact fetched.facetBlocks
  · exact fetched

end SameLoads

/-! ## The contexts of a bead -/

/-- The contexts of a bead whose input lines are there, with their record numbers. -/
def State.beadHere (s : State) (isle strand bead : Nat) : List (Nat × Ctx) :=
  (List.zip (List.range (Secs.ctxs s.conf.secs).length) (Secs.ctxs s.conf.secs)).filter fun x =>
    x.2.isle == isle && x.2.strand == strand && x.2.bead == bead && s.beadsRun (isle / 4) &&
    (match Tab.opt s.pix.loads x.2.feed with
     | none => false
     | some l => l.ctxReady (feedCtxs (Secs.ctxs s.conf.secs) isle x.2.feed) x.1 x.2)

/-- What a context takes out of the line buffers. -/
def State.beadNeeds (s : State) (isle : Nat) (x : Nat × Ctx) : List (Nat × List Nat) :=
  match Tab.opt s.pix.loads x.2.feed with
  | none => []
  | some l => l.needs (feedCtxs (Secs.ctxs s.conf.secs) isle x.2.feed) x.1 x.2

/-- Whether a line buffer holds what a context takes, or it comes in time. -/
def State.beadHas (s : State) (ready : Nat) (x : Nat × Ctx) (e : Nat × List Nat) : Bool :=
  s.hasRows (ready / 2 ^ x.2.ctx % 2 == 1) e

/-- The contexts of a bead that can form a line now. -/
def State.beadGo (s : State) (isle strand bead ready room : Nat) : List (Nat × Ctx) :=
  (s.beadHere isle strand bead).filter fun x => room / 2 ^ x.2.ctx % 2 == 1 &&
    ((s.beadNeeds isle x).isEmpty || (s.fetchRuns (isle / 4) && (s.beadNeeds isle x).all (s.beadHas ready x)))

/-- The feeds and line buffers that have run empty. -/
def State.beadDry (s : State) (isle strand bead ready : Nat) : List (Nat × Nat) :=
  ((s.beadHere isle strand bead).filter fun _ => s.fetchRuns (isle / 4)).flatMap fun x =>
    ((s.beadNeeds isle x).filter fun e => !s.beadHas ready x e).map fun e => (x.2.feed, e.1)

/-- The contexts of a class that request the bead. -/
def beadReqs (go : List (Nat × Ctx)) (c : Nat) : List Nat := (go.filter fun x => x.2.cls == c).map fun x => x.2.ctx

/-- A bead shows the context that it runs, and the pointer of its class moves past it. -/
def State.beadShow (s : State) (bead c ctx : Nat) : State :=
  { s with pix := { s.pix with
      beadPtr := Tab.setNum s.pix.beadPtr c (ctx + 1), beadCur := Tab.setNum s.pix.beadCur bead ctx,
      beadGated := Tab.setOn s.pix.beadGated bead false, beadRan := Tab.setOn s.pix.beadRan bead true } }

/-- A bead without a line to form is clock-gated. -/
def State.beadGate (s : State) (bead : Nat) : State :=
  { s with pix := { s.pix with beadGated := Tab.setOn s.pix.beadGated bead true } }

/-- The line buffers that have run empty are counted. -/
def State.countDry (s : State) (dry : List (Nat × Nat)) : State := s.each dry fun s x => s.countEmpty x.1 x.2

/-- A context forms its next line in its feed's load. -/
def State.beadLine (s : State) (cs : List Ctx) (isle : Nat) (x : Nat × Ctx) (l : Load) : State :=
  let (s, l) := s.runCtx l (feedCtxs cs isle x.2.feed) x.1 x.2
  { s with pix := { s.pix with loads := Tab.setOpt s.pix.loads x.2.feed (some l) } }

/-- The context that a bead was given to forms its next line. -/
def State.beadRun (s : State) (cs : List Ctx) (isle : Nat) (x : Option (Nat × Ctx)) : State :=
  match x with
  | none => s
  | some x => match Tab.opt s.pix.loads x.2.feed with
    | none => s
    | some l => s.beadLine cs isle x l

/-- What becomes of the bead `key` with the class and context that it is given to, if any. -/
def State.beadStep (s : State) (cs : List Ctx) (isle key base : Nat) (go : List (Nat × Ctx)) (o : Option (Nat × Nat)) : State :=
  match o with
  | none => s.beadGate key
  | some (c, w) => (s.beadShow key c w).beadRun cs isle (go.find? fun x => x.2.cls == c - base && x.2.ctx == w)

/-- A bead's step: what has run empty is counted, and the bead is given to a context. -/
theorem State.beadSelect_eq : s.beadSelect isle strand bead ready room =
    (s.countDry (s.beadDry isle strand bead ready)).beadStep (Secs.ctxs s.conf.secs) isle (32 * isle + 8 * strand + bead)
      (4 * (32 * isle + 8 * strand + bead)) (s.beadGo isle strand bead ready room)
      (arbitrate (4 * (32 * isle + 8 * strand + bead)) (s.countDry (s.beadDry isle strand bead ready)).pix.beadPtr
        ((List.range 4).map (beadReqs (s.beadGo isle strand bead ready room)))) := by
  unfold State.beadSelect
  extract_lets cs die needs here has go dry t base reqs key
  have ht : s.countDry (s.beadDry isle strand bead ready) = t := rfl
  have hgo : s.beadGo isle strand bead ready room = go := rfl
  have hreqs : beadReqs go = reqs := rfl
  rw [ht, hgo, hreqs]
  clear_value t reqs go
  rfl

/-! ## Which contexts request a bead -/

theorem mem_zip_range {α : Type} {l : List α} {i : Nat} {x : α} :
    (i, x) ∈ List.zip (List.range l.length) l ↔ l[i]? = some x := by
  rw [List.mem_iff_getElem?]
  constructor
  · rintro ⟨n, h⟩
    obtain ⟨hn, hx⟩ := List.getElem?_zip_eq_some.1 h
    obtain ⟨lt, rfl⟩ := List.getElem?_eq_some_iff.1 hn
    simpa using hx
  · intro h
    have lt : i < l.length := (List.getElem?_eq_some_iff.1 h).1
    exact ⟨i, List.getElem?_zip_eq_some.2 ⟨by simp [lt], h⟩⟩

/-- The contexts of a bead whose lines are there. -/
theorem State.mem_beadHere : (i, x) ∈ s.beadHere isle strand bead ↔
    s.beadsRun (isle / 4) = true ∧ ∃ l, s.beadReady isle strand bead i x l := by
  unfold State.beadHere State.beadReady
  rw [List.mem_filter, mem_zip_range]
  cases Tab.opt s.pix.loads x.feed with
  | none => simp
  | some l =>
    simp
    tauto

theorem State.beadNeeds_of_ready (h : s.beadReady isle strand bead i x l) :
    s.beadNeeds isle (i, x) = l.needs (feedCtxs (Secs.ctxs s.conf.secs) isle x.feed) i x := by
  obtain ⟨-, -, -, -, load, -⟩ := h
  unfold State.beadNeeds
  rw [load]

/-- The context and class numbers of a record lie in their ranges. -/
theorem Secs.ctxs_bounds {c : Secs} (h : (Secs.ctxs c)[i]? = some x) : x.ctx < 8 ∧ x.cls < 4 := by
  obtain ⟨v, -, rfl⟩ := List.mem_map.1 (List.mem_of_getElem? h)
  exact ⟨Nat.mod_lt _ (by decide), Nat.mod_lt _ (by decide)⟩

/-- Every context of the bead is named by a full operand. -/
theorem full_bit {c : Nat} (h : c < 8) : 0xFF / 2 ^ c % 2 = 1 := by
  interval_cases c <;> rfl

/-- With no context that can form a line the bead is gated. -/
theorem State.beadSelect_idle (h : s.beadGo isle strand bead ready room = []) :
    s.beadSelect isle strand bead ready room =
      (s.countDry (s.beadDry isle strand bead ready)).beadGate (32 * isle + 8 * strand + bead) := by
  rw [State.beadSelect_eq, h, arbitrate_eq_none]
  · rfl
  · intro reqs hr
    obtain ⟨c, -, rfl⟩ := List.mem_map.1 hr
    rfl

theorem State.beadGo_noRoom : s.beadGo isle strand bead ready 0 = [] := by
  refine List.filter_eq_nil_iff.2 fun y _ => ?_
  simp

theorem State.beadHere_nil (h : s.beadsRun (isle / 4) = false ∨ ∀ j y m, ¬ s.beadReady isle strand bead j y m) :
    s.beadHere isle strand bead = [] := by
  refine List.eq_nil_iff_forall_not_mem.2 fun y hy => ?_
  obtain ⟨run, m, hm⟩ := State.mem_beadHere.1 hy
  rcases h with h | h
  · exact absurd (h.symm.trans run) (by decide)
  · exact h _ _ _ hm

theorem State.beadGo_nil (h : s.beadHere isle strand bead = []) : s.beadGo isle strand bead ready room = [] := by
  rw [State.beadGo, h]
  rfl

theorem State.beadDry_nil (h : s.beadHere isle strand bead = []) : s.beadDry isle strand bead ready = [] := by
  rw [State.beadDry, h]
  rfl

section
variable (rows : ∀ j y m, s.beadReady isle strand bead j y m →
  ∀ e ∈ m.needs (feedCtxs (Secs.ctxs s.conf.secs) isle y.feed) j y, s.hasRows true e = true)
include rows

/-- While all rows come in time no line buffer runs empty. -/
theorem State.beadDry_full : s.beadDry isle strand bead 0xFF = [] := by
  refine List.flatMap_eq_nil_iff.2 fun y hy => ?_
  obtain ⟨-, m, hm⟩ := State.mem_beadHere.1 (List.mem_filter.1 hy).1
  rw [State.beadNeeds_of_ready hm, List.map_eq_nil_iff, List.filter_eq_nil_iff]
  intro e he
  rw [State.beadHas, full_bit (Secs.ctxs_bounds hm.1).1]
  simp [rows _ _ _ hm e he]

/-- While all rows come in time every context whose lines are there can form a line. -/
theorem State.beadGo_full (fetch : s.fetchRuns (isle / 4) = true) :
    s.beadGo isle strand bead 0xFF 0xFF = s.beadHere isle strand bead := by
  refine List.filter_eq_self.2 fun y hy => ?_
  obtain ⟨-, m, hm⟩ := State.mem_beadHere.1 hy
  have all : (s.beadNeeds isle y).all (s.beadHas 0xFF y) = true := by
    rw [State.beadNeeds_of_ready hm, List.all_eq_true]
    intro e he
    rw [State.beadHas, full_bit (Secs.ctxs_bounds hm.1).1]
    exact rows _ _ _ hm e he
  rw [full_bit (Secs.ctxs_bounds hm.1).1, all, fetch]
  simp

end

/-- While no rows come in time, a context that takes rows which no line buffer holds forms no line. -/
theorem State.beadGo_late (late : ∀ j y m, s.beadReady isle strand bead j y m →
    ∃ e ∈ m.needs (feedCtxs (Secs.ctxs s.conf.secs) isle y.feed) j y, s.hasRows false e = false) :
    s.beadGo isle strand bead 0 room = [] := by
  refine List.filter_eq_nil_iff.2 fun y hy => ?_
  obtain ⟨-, m, hm⟩ := State.mem_beadHere.1 hy
  obtain ⟨e, he, no⟩ := late _ _ _ hm
  have some : (s.beadNeeds isle y).isEmpty = false := by
    rw [State.beadNeeds_of_ready hm, List.isEmpty_eq_false_iff]
    exact List.ne_nil_of_mem he
  have notAll : (s.beadNeeds isle y).all (s.beadHas 0 y) = false := by
    rw [State.beadNeeds_of_ready hm, List.all_eq_false]
    refine ⟨e, he, ?_⟩
    rw [State.beadHas, Nat.zero_div]
    simpa using no
  rw [some, notAll]
  simp

/-! ## Line buffers that have run empty (R89, R132) -/

/-- Whether a line buffer is marked as having run empty in the load of a feed. -/
def State.ranEmpty (s : State) (k n : Nat) : Bool := (Tab.opt s.pix.loads k).any fun l => Tab.on l.empty n

theorem State.countEmpty_none (h : Tab.opt s.pix.loads k = none) : s.countEmpty k n = s := by
  unfold State.countEmpty
  rw [h]

theorem State.countEmpty_loads (h : Tab.opt s.pix.loads k = some l) : (s.countEmpty k n).pix.loads =
    if Tab.on l.empty n then s.pix.loads
    else Tab.setOpt s.pix.loads k (some { l with empty := Tab.setOn l.empty n true }) := by
  unfold State.countEmpty
  rw [h]
  dsimp only
  split
  · rfl
  · split
    · rw [State.pix_raise, State.incSat_pix]
    · rw [State.pix_raise, State.incSat_pix]

/-- A line buffer that runs empty leaves the lines of every load. -/
theorem State.countEmpty_lines (j : Nat) :
    (Tab.opt (s.countEmpty k n).pix.loads j).map Load.lines = (Tab.opt s.pix.loads j).map Load.lines := by
  cases h : Tab.opt s.pix.loads k with
  | none => rw [State.countEmpty_none h]
  | some l =>
    rw [State.countEmpty_loads h]
    split
    · rfl
    · by_cases hj : j = k
      · subst hj
        rw [Tab.opt_setOpt_same, h]
        rfl
      · rw [Tab.opt_setOpt_other hj]

theorem State.ranEmpty_countEmpty {j m : Nat} (h : s.ranEmpty j m = true ∨ (j = k ∧ m = n ∧ (Tab.opt s.pix.loads k).isSome)) :
    (s.countEmpty k n).ranEmpty j m = true := by
  cases load : Tab.opt s.pix.loads k with
  | none =>
    rw [State.countEmpty_none load]
    simpa [load] using h
  | some l =>
    rw [State.ranEmpty, State.countEmpty_loads load]
    by_cases hj : j = k
    · subst hj
      rw [State.ranEmpty, load] at h
      by_cases marked : Tab.on l.empty n = true
      · rw [if_pos marked, load]
        rcases h with h | ⟨-, rfl, -⟩
        · exact h
        · exact marked
      · rw [if_neg marked, Tab.opt_setOpt_same]
        show Tab.on (Tab.setOn l.empty n true) m = true
        by_cases hm : m = n
        · rw [hm, Tab.on_setOn_same]
        · rw [Tab.on_setOn_other hm]
          rcases h with h | ⟨-, e, -⟩
          · exact h
          · exact absurd e hm
    · have old : s.ranEmpty j m = true := h.resolve_right fun e => hj e.1
      split
      · exact old
      · rw [Tab.opt_setOpt_other hj]
        exact old

theorem State.countDry_lines {dry : List (Nat × Nat)} (j : Nat) :
    (Tab.opt (s.countDry dry).pix.loads j).map Load.lines = (Tab.opt s.pix.loads j).map Load.lines :=
  State.each_keeps (P := fun t => (Tab.opt t.pix.loads j).map Load.lines = (Tab.opt s.pix.loads j).map Load.lines) rfl
    fun _ _ _ h => (State.countEmpty_lines j).trans h

/-- Each line buffer that has run empty is marked for its load. -/
theorem State.ranEmpty_countDry {dry : List (Nat × Nat)} (h : (k, n) ∈ dry) (load : (Tab.opt s.pix.loads k).isSome) :
    (s.countDry dry).ranEmpty k n = true := by
  induction dry generalizing s with
  | nil => cases h
  | cons e dry ih =>
    show ((s.countEmpty e.1 e.2).countDry dry).ranEmpty k n = true
    rcases List.mem_cons.1 h with rfl | h
    · exact State.each_keeps (P := fun t => t.ranEmpty k n = true)
        (State.ranEmpty_countEmpty (.inr ⟨rfl, rfl, load⟩)) fun _ _ _ h => State.ranEmpty_countEmpty (.inl h)
    · refine ih h ?_
      rw [← Option.isSome_map (f := Load.lines), State.countEmpty_lines, Option.isSome_map]
      exact load

/-- What a context lacks has run empty. -/
theorem State.mem_beadDry {m : Load} {e : Nat × List Nat} (run : s.beadsRun (isle / 4) = true)
    (fetch : s.fetchRuns (isle / 4) = true) (h : s.beadReady isle strand bead i x m)
    (he : e ∈ m.needs (feedCtxs (Secs.ctxs s.conf.secs) isle x.feed) i x) (no : s.hasRows false e = false) :
    (x.feed, e.1) ∈ s.beadDry isle strand bead 0 := by
  refine List.mem_flatMap.2 ⟨(i, x), List.mem_filter.2 ⟨State.mem_beadHere.2 ⟨run, m, h⟩, fetch⟩, ?_⟩
  refine List.mem_map.2 ⟨e, List.mem_filter.2 ⟨?_, ?_⟩, rfl⟩
  · rw [State.beadNeeds_of_ready h]
    exact he
  · rw [State.beadHas, Nat.zero_div]
    simpa using no

/-! ## The choice of a context (R20, R33) -/

section
variable (run : s.beadsRun (isle / 4) = true) (h : s.beadReady isle strand bead i x l)
  (first : ∀ j y m, s.beadReady isle strand bead j y m → j ≠ i → x.cls < y.cls ∨ (x.cls = y.cls ∧ x.ctx ≠ y.ctx ∧
    First (Tab.num s.pix.beadPtr (4 * (32 * isle + 8 * strand + bead) + x.cls)) x.ctx y.ctx))
include run h first

/-- The bead goes to the context of the lowest class that the round robin reaches first. -/
theorem State.arbitrate_beadHere :
    arbitrate (4 * (32 * isle + 8 * strand + bead)) s.pix.beadPtr
      ((List.range 4).map (beadReqs (s.beadHere isle strand bead))) =
        some (4 * (32 * isle + 8 * strand + bead) + x.cls, x.ctx) := by
  obtain ⟨-, cls⟩ := Secs.ctxs_bounds h.1
  have reqs {c r : Nat} (hr : r ∈ beadReqs (s.beadHere isle strand bead) c) :
      ∃ j y m, s.beadReady isle strand bead j y m ∧ y.cls = c ∧ y.ctx = r := by
    obtain ⟨⟨j, y⟩, hy, rfl⟩ := List.mem_map.1 hr
    obtain ⟨hy, hc⟩ := List.mem_filter.1 hy
    obtain ⟨-, m, hm⟩ := State.mem_beadHere.1 hy
    exact ⟨j, y, m, hm, by simpa using hc, rfl⟩
  have same {y : Ctx} {m : Load} (hm : s.beadReady isle strand bead i y m) : y = x :=
    Option.some.inj (hm.1.symm.trans h.1)
  refine arbitrate_eq_some (by simpa using cls) (fun c hc => ?_) ?_
  · rw [List.getElem_map, List.getElem_range]
    refine List.eq_nil_iff_forall_not_mem.2 fun r hr => ?_
    obtain ⟨j, y, m, hm, rfl, -⟩ := reqs hr
    by_cases hj : j = i
    · subst hj
      rw [same hm] at hc
      omega
    · have := first j y m hm hj
      omega
  · rw [List.getElem_map, List.getElem_range]
    refine rrPick_eq_some ?_ fun r hr => ?_
    · exact List.mem_map.2 ⟨(i, x), List.mem_filter.2 ⟨State.mem_beadHere.2 ⟨run, l, h⟩, by simp⟩, rfl⟩
    · obtain ⟨j, y, m, hm, hc, rfl⟩ := reqs hr
      by_cases hj : j = i
      · subst hj
        rw [same hm]
        omega
      · rcases first j y m hm hj with h | ⟨-, -, h⟩
        · omega
        · exact h

/-- No other context of the bead has its class and number. -/
theorem State.find_beadHere :
    (s.beadHere isle strand bead).find? (fun y => y.2.cls == 4 * (32 * isle + 8 * strand + bead) + x.cls -
      4 * (32 * isle + 8 * strand + bead) && y.2.ctx == x.ctx) = some (i, x) := by
  have here : (i, x) ∈ s.beadHere isle strand bead := State.mem_beadHere.2 ⟨run, l, h⟩
  rw [Nat.add_sub_cancel_left]
  cases found : (s.beadHere isle strand bead).find? fun y => y.2.cls == x.cls && y.2.ctx == x.ctx with
  | none => exact absurd (List.find?_eq_none.1 found _ here) (by simp)
  | some z =>
    obtain ⟨j, y⟩ := z
    have named := List.find?_some found
    obtain ⟨-, m, hm⟩ := State.mem_beadHere.1 (List.mem_of_find?_eq_some found)
    simp only [Bool.and_eq_true, beq_iff_eq] at named
    by_cases hj : j = i
    · subst hj
      rw [Option.some.inj (hm.1.symm.trans h.1)]
    · have := first j y m hm hj
      omega

end

/-- The bead runs that context for a line. -/
theorem State.beadSelect_runs (run : s.beadsRun (isle / 4) = true) (fetch : s.fetchRuns (isle / 4) = true)
    (rows : ∀ j y m, s.beadReady isle strand bead j y m →
      ∀ e ∈ m.needs (feedCtxs (Secs.ctxs s.conf.secs) isle y.feed) j y, s.hasRows true e = true)
    (h : s.beadReady isle strand bead i x l)
    (first : ∀ j y m, s.beadReady isle strand bead j y m → j ≠ i → x.cls < y.cls ∨ (x.cls = y.cls ∧ x.ctx ≠ y.ctx ∧
      First (Tab.num s.pix.beadPtr (4 * (32 * isle + 8 * strand + bead) + x.cls)) x.ctx y.ctx)) :
    s.beadSelect isle strand bead 0xFF 0xFF =
      (s.beadShow (32 * isle + 8 * strand + bead) (4 * (32 * isle + 8 * strand + bead) + x.cls) x.ctx).beadLine
        (Secs.ctxs s.conf.secs) isle (i, x) l := by
  have load : Tab.opt (s.beadShow (32 * isle + 8 * strand + bead) (4 * (32 * isle + 8 * strand + bead) + x.cls)
    x.ctx).pix.loads x.feed = some l := h.2.2.2.2.1
  have same : s.countDry [] = s := rfl
  rw [State.beadSelect_eq, State.beadDry_full rows, State.beadGo_full rows fetch, same,
    State.arbitrate_beadHere run h first, State.beadStep, State.find_beadHere run h first, State.beadRun, load]

/-- What a line that a context forms leaves. -/
theorem State.beadLine_spec {cs : List Ctx} {u t : State} (e : s.beadLine cs isle (i, x) l = t)
    (hu : u = (s.runCtx l (feedCtxs cs isle x.feed) i x).1) :
    Tab.opt t.pix.loads x.feed = some (s.runCtx l (feedCtxs cs isle x.feed) i x).2 ∧
    (∀ k, k ≠ x.feed → Tab.opt t.pix.loads k = Tab.opt s.pix.loads k) ∧
    t = { u with pix := { u.pix with loads := t.pix.loads } } := by
  have same := ((SameLoads.refl s).runCtx (l := l) (fc := feedCtxs cs isle x.feed) (i := i) (x := x)).eq
  rw [← hu] at same
  have loads : t.pix.loads = Tab.setOpt u.pix.loads x.feed (some (s.runCtx l (feedCtxs cs isle x.feed) i x).2) := by
    rw [← e, hu]
    rfl
  rw [loads, same]
  refine ⟨Tab.opt_setOpt_same, fun k hk => Tab.opt_setOpt_other hk, ?_⟩
  rw [← e, hu, ← same, hu]
  rfl

theorem State.beadGate_gated {key : Nat} : Tab.on (s.beadGate key).pix.beadGated key = true := by
  have gated : (s.beadGate key).pix.beadGated = Tab.setOn s.pix.beadGated key true := rfl
  rw [gated, Tab.on_setOn_same]

theorem State.loads_beadGate {key : Nat} : (s.beadGate key).pix.loads = s.pix.loads := rfl

theorem State.beadShow_spec {key c w : Nat} : Tab.num (s.beadShow key c w).pix.beadCur key = w ∧
    Tab.on (s.beadShow key c w).pix.beadGated key = false ∧ Tab.on (s.beadShow key c w).pix.beadRan key = true ∧
    Tab.num (s.beadShow key c w).pix.beadPtr c = w + 1 := by
  have shown : (s.beadShow key c w).pix = { s.pix with
      beadPtr := Tab.setNum s.pix.beadPtr c (w + 1), beadCur := Tab.setNum s.pix.beadCur key w,
      beadGated := Tab.setOn s.pix.beadGated key false, beadRan := Tab.setOn s.pix.beadRan key true } := rfl
  rw [shown]
  simp

theorem runs_beadSelect {isle : Fin 8} {strand : Fin 4} {bead : Fin 8} {o : BeadInputs} {P : State → Prop} (live : s.live)
    (h : s.beadSelect isle strand bead o.ready.toNat o.room.toNat = t) (hP : P t) :
    Runs (.beadContextSelect isle strand bead o) s P :=
  runs_effect (op := (·.beadSelect isle strand bead o.ready.toNat o.room.toNat)) live rfl h hP

/-- Settles O8: the contexts that request the bead are those whose lines are there, or none; the choice among them is that
of R33, and the context that wins changes its own load and what fetching its rows moves. -/
theorem pixels_BeadRunsOneContext : Obligations.Pixels_BeadRunsOneContext := by
  intro s isle strand bead live
  refine ⟨fun rows => ⟨fun run fetch i x l h first => ?_, ?_⟩, fun idle => ?_, fun late => ?_⟩
  · refine runs_beadSelect live (State.beadSelect_runs run fetch rows h first) ?_
    obtain ⟨cur, gated, ran, ptr⟩ := s.beadShow_spec (key := 32 * isle + 8 * strand + bead)
      (c := 4 * (32 * isle + 8 * strand + bead) + x.cls) (w := x.ctx)
    obtain ⟨own, other, frame⟩ := State.beadLine_spec (cs := Secs.ctxs s.conf.secs) (isle := isle) (i := i) (x := x) (l := l)
      (s := s.beadShow (32 * isle + 8 * strand + bead) (4 * (32 * isle + 8 * strand + bead) + x.cls) x.ctx) rfl rfl
    exact ⟨_, rfl, cur, gated, ran, ptr, own, other, fun v hv => by rw [hv]; exact frame⟩
  · have idle := State.beadSelect_idle (s := s) (isle := isle) (strand := strand) (bead := bead) (ready := 0xFF) (room := 0)
      State.beadGo_noRoom
    rw [State.beadDry_full rows] at idle
    refine runs_beadSelect live idle ?_
    exact ⟨State.beadGate_gated, rfl⟩
  · have here := State.beadHere_nil idle
    refine runs_beadSelect live (State.beadSelect_idle (State.beadGo_nil here)) ?_
    rw [State.beadDry_nil here]
    exact ⟨State.beadGate_gated, rfl⟩
  · have idle := State.beadSelect_idle (ready := 0) (room := 0xFF) (State.beadGo_late late)
    refine runs_beadSelect live idle ?_
    rw [State.loads_beadGate]
    refine ⟨State.beadGate_gated, fun k => State.countDry_lines k, fun run fetch j y m hm e he no => ?_⟩
    refine State.ranEmpty_countDry (State.mem_beadDry run fetch hm he no) ?_
    rw [hm.2.2.2.2.1]
    rfl

end Sys2Proof.Machine

end

section

/-!
# Reactions of the fault collector

What each reaction of a class changes (R419 to R422, R425 to R427), apart from RESET.
-/

namespace Sys2Proof.Machine

variable {s t u : State} {f g : Fld} {W : List Fld} {J : List Nat} {i j n : Nat} {b : Bool}

/-! ## Bits -/

theorem bit_eq_testBit (x n : Nat) : (x / 2 ^ n % 2 == 1) = x.testBit n := by
  rw [Nat.testBit_eq_decide_div_mod_eq]
  rfl

/-- A bit that is set reads 1. -/
theorem State.bit_setBit (h : f.ok) (hi : i < f.msb + 1 - f.lsb) :
    ((s.setBit f i true).fld f / 2 ^ i % 2 == 1) = true := by
  have set : (s.fld f - s.fld f / 2 ^ i % 2 * 2 ^ i + b2n true * 2 ^ i).testBit i = true := by
    rw [show b2n true * 2 ^ i = 2 ^ i from Nat.one_mul _, Nat.add_comm, Nat.testBit_two_pow_add_eq]
    cases old : (s.fld f).testBit i
    · have zero : s.fld f / 2 ^ i % 2 = 0 := by
        rw [Nat.testBit_eq_decide_div_mod_eq] at old
        have := of_decide_eq_false old
        omega
      rw [zero, Nat.zero_mul, Nat.sub_zero, old]
      rfl
    · have one : s.fld f / 2 ^ i % 2 = 1 := by
        rw [Nat.testBit_eq_decide_div_mod_eq] at old
        exact of_decide_eq_true old
      have split : 2 ^ i + (s.fld f - 2 ^ i) = s.fld f := Nat.add_sub_cancel' (Nat.ge_two_pow_of_testBit old)
      rw [one, Nat.one_mul, ← Nat.testBit_two_pow_add_eq, split, old]
  rw [bit_eq_testBit, State.setBit, State.fld_setFld_same h, Nat.testBit_mod_two_pow, decide_eq_true hi, set]
  rfl

/-! ## What an event leaves -/

theorem State.log_raise : (s.raise i n).log = s.log := by rw [(s.raise_spec i n).2.2]

theorem State.locket_raise : (s.raise i n).locket = s.locket := by rw [(s.raise_spec i n).2.2]

/-! ## Whole registers -/

/-- A register as one field. -/
def whole (a : Nat) : Fld := ⟨a, 31, 0⟩

theorem whole_ok {a : Nat} : (whole a).ok := Fld.ok_mk rfl

theorem Fld.addr_ne_of_apart_whole {a : Nat} (h : g.ok) (ha : (whole a).apart g) : g.addr ≠ a := by
  obtain ⟨h1, h2⟩ := h
  rcases ha with ha | ha
  · exact Ne.symm ha
  · have : (31 < g.lsb ∨ g.msb < 0) := ha
    omega

theorem onlyFields_setReg {a : Nat} {w : Word} : OnlyFields [whole a] s (s.setReg a w) := fun g hg ha => by
  rw [State.fld, State.reg_setReg_other (Fld.addr_ne_of_apart_whole hg (ha _ (.head _))), State.fld]

/-- A register whose one field is as before is as before. -/
theorem State.reg_of_whole {a : Nat} (h : t.fld (whole a) = s.fld (whole a)) : t.reg a = s.reg a := by
  have value {u : State} : u.fld (whole a) = (u.reg a).toNat := by
    have lt := (u.reg a).isLt
    simp only [State.fld, Fld.of, bits, whole]
    omega
  exact BitVec.eq_of_toNat_eq (by rw [← value, h, value])

/-! ## What reactions change -/

/-- A state with another one's registers, collector and log. -/
def State.withLogged (t s : State) : State := { t with regs := s.regs, flt := s.flt, log := s.log, locket := s.locket }

/-- Outside registers, the collector and the log with LB0 nothing differs; of the registers only some fields, of the
occurrences and their marks only those of some sources. -/
structure Reacted (W : List Fld) (J : List Nat) (s t : State) : Prop where
  rest : t.withLogged s = s
  fields : OnlyFields W s t
  ptr : t.flt.ptr = s.flt.ptr
  count : t.flt.count = s.flt.count
  unsent : t.flt.unsent = s.flt.unsent
  events : ∀ j, j ∉ J → t.events j = s.events j
  lost : ∀ j, j ∉ J → Tab.on t.flt.lost j = Tab.on s.flt.lost j

namespace Reacted

theorem refl (s : State) : Reacted W J s s := ⟨rfl, onlyFields_refl W s, rfl, rfl, rfl, fun _ _ => rfl, fun _ _ => rfl⟩

theorem trans (h : Reacted W J s t) (h' : Reacted W J t u) : Reacted W J s u where
  rest := (congrArg (·.withLogged s) h'.rest).trans h.rest
  fields := onlyFields_trans h.fields h'.fields
  ptr := h'.ptr.trans h.ptr
  count := h'.count.trans h.count
  unsent := h'.unsent.trans h.unsent
  events j hj := (h'.events j hj).trans (h.events j hj)
  lost j hj := (h'.lost j hj).trans (h.lost j hj)

theorem mono {W' : List Fld} {J' : List Nat} (h : Reacted W J s t) (hW : ∀ f ∈ W, f ∈ W') (hJ : ∀ j ∈ J, j ∈ J') :
    Reacted W' J' s t :=
  ⟨h.rest, onlyFields_mono hW h.fields, h.ptr, h.count, h.unsent, fun j hj => h.events j fun h => hj (hJ j h),
    fun j hj => h.lost j fun h => hj (hJ j h)⟩

theorem eq (h : Reacted W J s t) : t = { s with regs := t.regs, flt := t.flt, log := t.log, locket := t.locket } := by
  conv => rhs; rw [← h.rest]
  rfl

theorem frame {log locket} (h : Reacted W J s t) : Reacted W J s { t with log, locket } :=
  ⟨h.rest, h.fields, h.ptr, h.count, h.unsent, h.events, h.lost⟩

theorem setLocket {a : Nat} {w : Word} (h : Reacted W J s t) : Reacted W J s (t.setLocket a w) := h.frame

theorem setFld {v : Nat} (h : Reacted W J s t) (hf : f.ok) (hW : f ∈ W) : Reacted W J s (t.setFld f v) :=
  ⟨h.rest, onlyFields_trans h.fields (onlyFields_mono (List.forall_mem_singleton.2 hW) (onlyFields_setFld hf)), h.ptr,
    h.count, h.unsent, h.events, h.lost⟩

theorem setReg {a : Nat} {w : Word} (h : Reacted W J s t) (hW : whole a ∈ W) : Reacted W J s (t.setReg a w) :=
  ⟨h.rest, onlyFields_trans h.fields (onlyFields_mono (List.forall_mem_singleton.2 hW) onlyFields_setReg), h.ptr,
    h.count, h.unsent, h.events, h.lost⟩

/-- A field of a register that may change as a whole. -/
theorem setIn {v : Nat} (h : Reacted W J s t) (hW : whole f.addr ∈ W) : Reacted W J s (t.setFld f v) := h.setReg hW

theorem incIn (h : Reacted W J s t) (hW : whole f.addr ∈ W) : Reacted W J s (t.incSat f) := h.setReg hW

theorem ite {c : Prop} {_ : Decidable c} (ht : Reacted W J s t) (hu : Reacted W J s u) :
    Reacted W J s (if c then t else u) :=
  ite_keeps ht hu

theorem raise (h : Reacted W J s t) (hW : F.FLT_STAT_LOSTOCC ∈ W) (hJ : i ∈ J) : Reacted W J s (t.raise i n) := by
  refine h.trans ?_
  have fields : OnlyFields W t (t.raise i n) := onlyFields_mono (List.forall_mem_singleton.2 hW) (t.raise_spec i n).2.1
  have events (j) (hj : j ∉ J) : (t.raise i n).events j = t.events j :=
    State.events_raiseWith_other fun e => hj (by rw [e]; exact hJ)
  unfold State.raise at *
  rcases State.raiseWith_cases t i (BitVec.ofNat 32 n) false with ⟨_, e⟩ | ⟨_, _, e⟩ | ⟨_, _, e⟩
  · rw [e]
    exact refl t
  · rw [e] at fields events ⊢
    exact ⟨rfl, fields, rfl, rfl, rfl, events, fun _ _ => rfl⟩
  · rw [e] at fields events ⊢
    refine ⟨rfl, fields, rfl, rfl, rfl, events, fun j hj => ?_⟩
    rw [State.incSat_flt]
    show Tab.on (Tab.setOn t.flt.lost i true) j = Tab.on t.flt.lost j
    exact Tab.on_setOn_other fun e : j = i => hj (e ▸ hJ)

end Reacted

/-! ## LOG (R425 to R427) -/

/-- The registers of the log, and the count of lost occurrences, which EV_LOG_FULL may move. -/
abbrev logFields : List Fld := [whole R.LOG_STAT, whole R.LOG_SEQ, F.FLT_STAT_LOSTOCC]

section
variable {e : LogEntry}

theorem Reacted.logAppend (h : Reacted logFields [162] s t) : Reacted logFields [162] s (t.logAppend e) := by
  unfold State.logAppend
  split
  · extract_lets first log s1
    have counted : Reacted logFields [162] s s1 := .incIn h.frame (by decide)
    exact .ite (counted.raise (by decide) (by decide)) counted
  · extract_lets w s1 s2 log s3
    have stored : Reacted logFields [162] s s1 := h.setLocket.setLocket.setLocket.setLocket
    have full : Reacted logFields [162] s s2 := stored.setIn (by decide)
    have wrapped : Reacted logFields [162] s s3 := .ite full.frame stored
    exact .setLocket (.setIn (.setIn wrapped (by decide)) (by decide))

/-- What an entry of the log changes. -/
theorem State.logEntry_reacted : Reacted logFields [162] s (s.logEntry e) := by
  have start := Reacted.refl (W := logFields) (J := [162]) s
  unfold State.logEntry
  refine .ite start (.ite (.ite ?_ (start.incIn (by decide))) start.logAppend)
  exact .setIn (.setIn start.frame (by decide)) (by decide)

end

/-- Two states whose log, LB0 and log registers are the same. -/
structure LogSame (s t : State) : Prop where
  locket : t.locket = s.locket
  log : t.log = s.log
  lockLog : t.pwr.lockLog = s.pwr.lockLog
  reg : ∀ a, 0x120000 ≤ a → a < 0x130000 → t.reg a = s.reg a

namespace LogSame

variable {v : Nat} {w : Word} {a : Nat} {e : LogEntry}

theorem fld (h : LogSame s t) (hf : 0x120000 ≤ f.addr ∧ f.addr < 0x130000) : t.fld f = s.fld f := by
  rw [State.fld, h.reg _ hf.1 hf.2, State.fld]

theorem on (h : LogSame s t) (hf : 0x120000 ≤ f.addr ∧ f.addr < 0x130000) : t.on f = s.on f := by
  rw [State.on, h.fld hf, State.on]

theorem setReg (h : LogSame s t) : LogSame (s.setReg a w) (t.setReg a w) := by
  refine ⟨h.locket, h.log, h.lockLog, fun b hb hb' => ?_⟩
  by_cases e : b = a
  · rw [e, State.reg_setReg_same, State.reg_setReg_same]
  · rw [State.reg_setReg_other e, State.reg_setReg_other e, h.reg b hb hb']

theorem setFld (h : LogSame s t) (hf : 0x120000 ≤ f.addr ∧ f.addr < 0x130000) :
    LogSame (s.setFld f v) (t.setFld f v) := by
  rw [State.setFld, State.setFld, h.reg _ hf.1 hf.2]
  exact h.setReg

theorem incSat (h : LogSame s t) (hf : 0x120000 ≤ f.addr ∧ f.addr < 0x130000) : LogSame (s.incSat f) (t.incSat f) := by
  rw [State.incSat, State.addSat, State.incSat, State.addSat, h.fld hf]
  exact h.setFld hf

theorem withLog {l : LogState} (h : LogSame s t) : LogSame { s with log := l } { t with log := l } :=
  ⟨h.locket, rfl, h.lockLog, h.reg⟩

theorem setLocket (h : LogSame s t) : LogSame (s.setLocket a w) (t.setLocket a w) := by
  refine ⟨?_, h.log, h.lockLog, h.reg⟩
  rw [State.setLocket, State.setLocket, h.locket]

theorem raised (s : State) (i n : Nat) : LogSame s (s.raise i n) := by
  refine ⟨?_, ?_, ?_, fun a ha ha' => State.reg_of_whole ((s.raise_spec i n).2.1 _ whole_ok fun g hg => .inl ?_)⟩
  · rw [(s.raise_spec i n).2.2]
  · rw [(s.raise_spec i n).2.2]
  · rw [(s.raise_spec i n).2.2]
  · rw [List.mem_singleton.1 hg]
    show R.FLT_STAT ≠ a
    dsimp only [R.FLT_STAT]
    omega

theorem symm (h : LogSame s t) : LogSame t s :=
  ⟨h.locket.symm, h.log.symm, h.lockLog.symm, fun a ha ha' => (h.reg a ha ha').symm⟩

theorem trans (h : LogSame s t) (h' : LogSame t u) : LogSame s u :=
  ⟨h'.locket.trans h.locket, h'.log.trans h.log, h'.lockLog.trans h.lockLog,
    fun a ha ha' => (h'.reg a ha ha').trans (h.reg a ha ha')⟩

theorem raise (h : LogSame s t) : LogSame (s.raise i n) (t.raise i n) :=
  ((raised s i n).symm.trans h).trans (raised t i n)

theorem logControl (h : LogSame s t) : LogSame s.logControl t.logControl := by
  rw [State.logControl, State.logControl, h.fld (by decide), h.fld (by decide), h.fld (by decide)]
  exact h.setLocket

theorem logStore (h : LogSame s t) : LogSame (s.logStore e) (t.logStore e) := by
  rw [State.logStore, State.logStore, h.fld (by decide), h.fld (by decide)]
  exact h.setLocket.setLocket.setLocket.setLocket

theorem logShow (h : LogSame s t) : LogSame s.logShow t.logShow := by
  rw [State.logShow, State.logShow, h.lockLog, h.log]
  exact (h.setFld (by decide)).setFld (by decide)

end LogSame

/-- The log fills at its last place: the next entry that is discarded is the first since then. -/
def State.logWrap (s : State) (w : Nat) : State :=
  if w = 1023 ∧ !s.on F.LOG_STAT_WRAPPED then
    { s.setOn F.LOG_STAT_WRAPPED true with log := { s.log with fullRaised := false } }
  else s

/-- The pointer and the number of the next entry. -/
def State.logStep (s : State) (w : Nat) : State :=
  ((s.setFld F.LOG_STAT_WPTR ((w + 1) % 1024)).setFld F.LOG_SEQ_SEQ ((s.fld F.LOG_SEQ_SEQ + 1) % 65536)).logControl

/-- An entry that a full log discards. -/
def State.logDiscard (s : State) : State :=
  { s with log := { s.log with fullRaised := true } }.incSat F.LOG_STAT_DROP

theorem State.logAppend_eq (s : State) (e : LogEntry) : s.logAppend e =
    if s.on F.LOG_STAT_WRAPPED && s.on F.LOG_CTRL_STOP then
      (if !s.log.fullRaised then s.logDiscard.raise 162 0 else s.logDiscard)
    else ((s.logStore e).logWrap (s.fld F.LOG_STAT_WPTR)).logStep (s.fld F.LOG_STAT_WPTR) := rfl

namespace LogSame

variable {e : LogEntry} {w : Nat}

theorem logWrap (h : LogSame s t) : LogSame (s.logWrap w) (t.logWrap w) := by
  unfold State.logWrap
  rw [h.on (by decide), h.log]
  split
  · exact (h.setFld (by decide)).withLog
  · exact h

theorem logStep (h : LogSame s t) : LogSame (s.logStep w) (t.logStep w) := by
  rw [State.logStep, State.logStep, h.fld (by decide)]
  exact ((h.setFld (by decide)).setFld (by decide)).logControl

theorem logDiscard (h : LogSame s t) : LogSame s.logDiscard t.logDiscard := by
  rw [State.logDiscard, State.logDiscard, h.log]
  exact h.withLog.incSat (by decide)

theorem logAppend (h : LogSame s t) : LogSame (s.logAppend e) (t.logAppend e) := by
  rw [State.logAppend_eq, State.logAppend_eq, h.on (by decide), h.on (by decide), h.fld (by decide), h.log]
  split
  · split
    · exact h.logDiscard.raise
    · exact h.logDiscard
  · exact h.logStore.logWrap.logStep

/-- What an entry does to the log depends on the log alone. -/
theorem logEntry (h : LogSame s t) : LogSame (s.logEntry e) (t.logEntry e) := by
  rw [State.logEntry, State.logEntry, h.on (by decide), h.lockLog, h.log]
  split
  · exact h
  · split
    · split
      · exact h.withLog.logShow
      · exact h.incSat (by decide)
    · exact h.logAppend

theorem logTakes (h : LogSame s t) : t.logTakes = s.logTakes := by
  rw [State.logTakes, h.on (by decide), h.on (by decide), h.on (by decide), h.lockLog, h.log, State.logTakes]

end LogSame

/-- The mark of lost occurrences of a source goes, where an entry is made that carries it (R417). -/
def State.dropMark (s : State) (i : Nat) : State :=
  { s with flt := if s.logTakes then { s.flt with lost := Tab.setOn s.flt.lost i false } else s.flt }

theorem State.dropMark_spec (s : State) (i : Nat) : Reacted W [i] s (s.dropMark i) ∧
    (∀ j, (s.dropMark i).events j = s.events j) ∧
    Tab.on (s.dropMark i).flt.lost i = (Tab.on s.flt.lost i && !s.logTakes) ∧ LogSame s (s.dropMark i) := by
  unfold State.dropMark
  cases s.logTakes
  · exact ⟨.refl s, fun _ => rfl, (Bool.and_true _).symm, ⟨rfl, rfl, rfl, fun _ _ _ => rfl⟩⟩
  · refine ⟨⟨rfl, onlyFields_of_regs _ rfl, rfl, rfl, rfl, fun _ _ => rfl, fun j hj => ?_⟩, fun _ => rfl, ?_,
      ⟨rfl, rfl, rfl, fun _ _ _ => rfl⟩⟩
    · show Tab.on (Tab.setOn s.flt.lost i false) j = Tab.on s.flt.lost j
      exact Tab.on_setOn_other fun e : j = i => hj (e ▸ List.mem_singleton_self i)
    · rw [Bool.not_true, Bool.and_false]
      show Tab.on (Tab.setOn s.flt.lost i false) i = false
      exact Tab.on_setOn_same

/-- A LOG reaction: the entry, and the mark of lost occurrences that goes with it (R417, R419). -/
def State.reactLog (s : State) (i : Nat) (e : LogEntry) : State := (s.dropMark i).logEntry e

theorem State.reactLog_spec (s : State) (e : LogEntry) (hi : i ≠ 162) : Reacted logFields [162, i] s (s.reactLog i e) ∧
    (s.reactLog i e).events i = s.events i ∧
    Tab.on (s.reactLog i e).flt.lost i = (Tab.on s.flt.lost i && !s.logTakes) ∧
    LogSame (s.logEntry e) (s.reactLog i e) := by
  obtain ⟨mark, events, lost, same⟩ := s.dropMark_spec (W := logFields) i
  have entry := (s.dropMark i).logEntry_reacted (e := e)
  have other : i ∉ [162] := by simpa using hi
  refine ⟨(mark.mono (fun _ h => h) (by simp)).trans (entry.mono (fun _ h => h) (by simp)), ?_, ?_, same.logEntry⟩
  · rw [State.reactLog, entry.events i other, events]
  · rw [State.reactLog, entry.lost i other, lost]

/-! ## INT, FAULT_N and Clasp (R420, R421) -/

/-- A source's FLT_PEND bit and the class that it shows (R420). -/
theorem State.fltInt_spec (s : State) (i c : Nat) :
    Reacted [F.FLT_PENDj_VAL (i / 32), F.FLT_STAT_HIGH] [] s (s.fltInt i c) ∧ (s.fltInt i c).log = s.log ∧
    (s.fltInt i c).locket = s.locket ∧ (s.fltInt i c).flt.lost = s.flt.lost ∧ (s.fltInt i c).fltPending i = true := by
  obtain ⟨u, v, e, start, log, locket, lost⟩ : ∃ (u : State) (v : Nat),
      s.fltInt i c = (u.setBit (F.FLT_PENDj_VAL (i / 32)) (i % 32) true).setFld F.FLT_STAT_HIGH v ∧
      Reacted [F.FLT_PENDj_VAL (i / 32), F.FLT_STAT_HIGH] [] s u ∧ u.log = s.log ∧ u.locket = s.locket ∧
      u.flt.lost = s.flt.lost :=
    ⟨_, _, rfl, ⟨rfl, onlyFields_of_regs _ rfl, rfl, rfl, rfl, fun _ _ => rfl, fun _ _ => rfl⟩, rfl, rfl, rfl⟩
  have other : F.FLT_STAT_HIGH.apart (F.FLT_PENDj_VAL (i / 32)) := by
    refine .inl ?_
    dsimp only [R.FLT_STAT, R.FLT_PENDj]
    omega
  have bit := State.bit_setBit (s := u) (f := F.FLT_PENDj_VAL (i / 32)) (i := i % 32) (Fld.ok_mk rfl)
    (Nat.mod_lt i (by decide : 0 < 32))
  rw [e, State.fltPending, State.fld_setFld_apart (by decide) other, bit]
  rw [State.setFld_log, State.setFld_locket, State.setFld_flt, State.setBit, State.setFld_log, State.setFld_locket,
    State.setFld_flt]
  exact ⟨(start.setFld (Fld.ok_mk rfl) (by simp)).setFld (by decide) (by simp), log, locket, lost, rfl⟩

/-- The FAULT_N pin and its pulse (R421). -/
theorem State.faultPin_spec (s : State) : Reacted [F.FLT_STAT_PIN, F.FLT_STAT_PULSE] [] s s.faultPin ∧
    s.faultPin.log = s.log ∧ s.faultPin.locket = s.locket ∧ s.faultPin.flt = s.flt ∧
    s.faultPin.on F.FLT_STAT_PIN = true ∧ s.faultPin.on F.FLT_STAT_PULSE = true := by
  have pin : Reacted [F.FLT_STAT_PIN, F.FLT_STAT_PULSE] [] s (s.setOn F.FLT_STAT_PIN true) :=
    (Reacted.refl s).setFld (by decide) (by decide)
  unfold State.faultPin
  rw [State.on_setOn_same (by decide), State.on_setOn_apart (by decide) (by decide), State.on_setOn_same (by decide)]
  rw [State.setOn_log, State.setOn_log, State.setOn_locket, State.setOn_locket, State.setOn_flt, State.setOn_flt]
  exact ⟨pin.setFld (by decide) (by decide), rfl, rfl, rfl, rfl, rfl⟩

theorem State.claspFault_internal (s : State) : ∃ n, s.claspFault 10 =
    (s.setFld F.CLS_FAULT_CAUSE (s.fld F.CLS_FAULT_CAUSE ||| 2 ^ 10)).raise 128 n :=
  ⟨_, if_neg fun h => absurd h.2 (by decide)⟩

theorem State.claspFault_spec (s : State) : Reacted [F.CLS_FAULT_CAUSE, F.FLT_STAT_LOSTOCC] [128] s (s.claspFault 10) ∧
    (s.claspFault 10).log = s.log ∧ (s.claspFault 10).locket = s.locket ∧
    bits 10 10 ((s.claspFault 10).fld F.CLS_FAULT_CAUSE) = 1 := by
  obtain ⟨n, e⟩ := s.claspFault_internal
  have cause : Reacted [F.CLS_FAULT_CAUSE, F.FLT_STAT_LOSTOCC] [128] s
      (s.setFld F.CLS_FAULT_CAUSE (s.fld F.CLS_FAULT_CAUSE ||| 2 ^ 10)) :=
    (Reacted.refl s).setFld (by decide) (by decide)
  have set : ((s.fld F.CLS_FAULT_CAUSE ||| 2 ^ 10) % 2 ^ 11).testBit 10 = true := by
    rw [Nat.testBit_mod_two_pow, Nat.testBit_or, Nat.testBit_two_pow_self, Bool.or_true]
    rfl
  rw [Nat.testBit_eq_decide_div_mod_eq, decide_eq_true_eq] at set
  rw [e, State.log_raise, State.locket_raise, State.setFld_log, State.setFld_locket]
  refine ⟨cause.raise (by decide) (by decide), rfl, rfl, ?_⟩
  rw [State.fld_raise (by decide) (by decide), State.fld_setFld_same (by decide)]
  exact set

/-! ## MGR (R422) -/

/-- Nothing differs but the registers that show the inbox, the Spine and the count of reports that were not sent. -/
structure Reported (s t : State) : Prop where
  rest : { t with regs := s.regs, flt := s.flt, spn := s.spn } = s
  flt : { t.flt with unsent := s.flt.unsent } = s.flt
  fields : OnlyFields [whole R.SPN_FIN_STAT, whole R.SPN_FIN0] s t

namespace Reported

theorem refl (s : State) : Reported s s := ⟨rfl, rfl, onlyFields_refl _ s⟩

theorem setIn {v : Nat} (h : Reported s t) (hf : f.addr = R.SPN_FIN_STAT ∨ f.addr = R.SPN_FIN0) :
    Reported s (t.setFld f v) := by
  refine ⟨h.rest, h.flt, onlyFields_trans h.fields (onlyFields_mono ?_ (onlyFields_setReg (a := f.addr)))⟩
  rcases hf with hf | hf <;> simp [hf]

theorem setReg {w : Word} (h : Reported s t) : Reported s (t.setReg R.SPN_FIN0 w) :=
  ⟨h.rest, h.flt, onlyFields_trans h.fields (onlyFields_mono (by simp) onlyFields_setReg)⟩

theorem spnFrame {p : SpineState} (h : Reported s t) : Reported s { t with spn := p } := ⟨h.rest, h.flt, h.fields⟩

theorem setUnsent (h : Reported s t) : Reported s { t with flt := { t.flt with unsent := n } } :=
  ⟨h.rest, h.flt, h.fields⟩

theorem finShow (h : Reported s t) : Reported s t.finShow := by
  unfold State.finShow
  extract_lets s1
  have h1 : Reported s s1 := h.setIn (.inl rfl)
  split
  · exact h1.setReg
  · exact .setIn (.setIn (.setIn (.setIn (.setIn h1 (.inr rfl)) (.inr rfl)) (.inr rfl)) (.inr rfl)) (.inr rfl)

theorem spnUnstall {p c : Nat} (h : Reported s t) : Reported s (t.spnUnstall p c) := by
  refine State.each_keeps (P := Reported s) h fun u _ _ hu => ?_
  dsimp only
  split
  · exact hu
  · exact ite_keeps hu.spnFrame hu

end Reported

/-! ### A report is sent -/

/-- A report with the count of those that were not sent. -/
def fltFrame (x : SpnFrame) (unsent : Nat) : SpnFrame :=
  let ws := BitVec.ofNat 32 (Nat.min 255 (x.word 0 / 2 ^ 24 + unsent) * 2 ^ 24 + x.word 0 % 2 ^ 24) :: x.words.drop 1
  ⟨x.hdr, ws, spnCrc x.hdr ws⟩

/-- A local frame waits behind the others of its class. -/
def State.spnStall (s : State) (p : Nat) (x : SpnFrame) : State :=
  { s with spn := { s.spn with
      stalled := Tab.setLst s.spn.stalled (4 * p + x.cls) (Tab.lst s.spn.stalled (4 * p + x.cls) ++ [x]) } }

theorem State.fltPass_own (s : State) (x : SpnFrame) : s.fltPass 0 x =
    ({ s with flt := { s.flt with unsent := 0 } }.spnStall 0 (fltFrame x s.flt.unsent)).spnUnstall 0
      (fltFrame x s.flt.unsent).cls := rfl

theorem Reported.fltPass {x : SpnFrame} (h : Reported s t) : Reported s (t.fltPass 0 x) := by
  rw [State.fltPass_own]
  exact h.setUnsent.spnFrame.spnUnstall

/-- Waiting frames enter their buffer as the Spine alone says. -/
theorem State.spnUnstall_congr {p c : Nat} (h : t.spn = s.spn) : (t.spnUnstall p c).spn = (s.spnUnstall p c).spn := by
  have each {α : Type} {f : State → α → State} (hf : ∀ s t a, t.spn = s.spn → (f t a).spn = (f s a).spn) (l : List α) :
      ∀ {s t : State}, t.spn = s.spn → (t.each l f).spn = (s.each l f).spn := by
    induction l with
    | nil => exact id
    | cons a l ih => exact fun h => ih (hf _ _ a h)
  unfold State.spnUnstall
  rw [h]
  refine each (fun s t _ h => ?_) _ h
  dsimp only
  rw [h]
  split
  · exact h
  · have fits (x : SpnFrame) : t.spnFits p x = s.spnFits p x := by
      rw [State.spnFits, State.spnFill, h, State.spnFits, State.spnFill]
    rw [fits]
    split
    · rfl
    · exact h

/-- What is sent depends on the Spine and on the count alone. -/
theorem State.fltPass_congr {x : SpnFrame} (h : t.spn = s.spn) (hu : t.flt.unsent = s.flt.unsent) :
    (t.fltPass 0 x).spn = (s.fltPass 0 x).spn := by
  rw [State.fltPass_own, State.fltPass_own, hu]
  refine State.spnUnstall_congr ?_
  unfold State.spnStall
  dsimp only
  rw [h]

theorem State.unsent_fltPass {x : SpnFrame} : (s.fltPass 0 x).flt.unsent = 0 := by
  rw [State.fltPass_own]
  refine State.each_keeps (P := fun t => t.flt.unsent = 0) rfl fun u _ _ hu => ?_
  dsimp only
  split
  · exact hu
  · split
    · exact hu
    · exact hu

/-! ### The three ways of a report -/

/-- The words of a report. -/
def reportWords (i c : Nat) (data : Word) (time : Nat) : List Word :=
  [BitVec.ofNat 32 (4 * i + c), data, BitVec.ofNat 32 time, BitVec.ofNat 32 (time / 2 ^ 32)]

section
variable {c time : Nat} {data : Word}

theorem State.fltReport_manager (h : s.manager = true) (room : s.spn.inbox.length < 64) : s.fltReport i c data time =
    ({ s with spn := { s.spn with
        inbox := s.spn.inbox ++ [⟨0, 0, i, c, (reportWords i c data time).drop 1⟩] } } : State).finShow := by
  unfold State.fltReport
  extract_lets ws
  rw [if_pos h, if_neg (Nat.not_le.2 room)]
  rfl

theorem State.fltReport_sent (h : s.manager = false) (active : (s.on F.SPN_STAT_ADDR_VALID && s.spnActive 0) = true) :
    s.fltReport i c data time = s.fltPass 0 (spnMake 11 0 0 3 0 s.spnAddr 0 0 0 (reportWords i c data time)) := by
  unfold State.fltReport
  extract_lets ws
  rw [if_neg (by rw [h]; decide), if_pos active]
  rfl

theorem State.fltReport_unsent (h : s.manager = false) (shut : (s.on F.SPN_STAT_ADDR_VALID && s.spnActive 0) = false) :
    s.fltReport i c data time = { s with flt := { s.flt with unsent := s.flt.unsent + 1 } } := by
  unfold State.fltReport
  extract_lets ws
  rw [if_neg (by rw [h]; decide), if_neg (by rw [shut]; decide)]

theorem State.fltReport_reported : Reported s (s.fltReport i c data time) := by
  have start := Reported.refl s
  unfold State.fltReport
  extract_lets ws own
  exact ite_keeps (ite_keeps (start.setIn (.inl rfl)) start.spnFrame.finShow) (ite_keeps start.fltPass start.setUnsent)

theorem State.spn_finShow : s.finShow.spn = s.spn := by
  unfold State.finShow
  extract_lets u
  have spn : u.spn = s.spn := rfl
  rw [← spn]
  split
  · rfl
  · rw [State.setFld_spn, State.setFld_spn, State.setFld_spn, State.setFld_spn, State.setOn_spn]

end

end Sys2Proof.Machine

end

section

/-!
# The RESET reaction

What a reaction on a block does (R423), and what of the collector's other reactions it leaves.
-/

namespace Sys2Proof.Machine

variable {s t u : State} {f g : Fld} {W : List Fld} {i n p die : Nat}

/-! ## What a RESET reaction leaves -/

/-- Of the registers only some fields differ, and the log, the inbox, the demand to Clasp and the collector but for its
pending occurrences and their marks are the same. -/
structure Beside (W : List Fld) (s t : State) : Prop where
  fields : OnlyFields W s t
  locket : t.locket = s.locket
  log : t.log = s.log
  inbox : t.spn.inbox = s.spn.inbox
  ptr : t.flt.ptr = s.flt.ptr
  count : t.flt.count = s.flt.count
  unsent : t.flt.unsent = s.flt.unsent
  intDem : t.clasp.intDem = s.clasp.intDem

namespace Beside

theorem refl (s : State) : Beside W s s := ⟨onlyFields_refl W s, rfl, rfl, rfl, rfl, rfl, rfl, rfl⟩

theorem frame {freeCtr chk mem strait pix tim chn pmb lnk adc cal} (h : Beside W s t) : Beside W s
    { t with freeCtr, chk, mem, strait, pix, tim, chn, pmb, lnk, adc, cal } :=
  ⟨h.fields, h.locket, h.log, h.inbox, h.ptr, h.count, h.unsent, h.intDem⟩

theorem spnFrame {x : SpineState} (h : Beside W s t) (hx : x.inbox = t.spn.inbox) : Beside W s { t with spn := x } :=
  ⟨h.fields, h.locket, h.log, hx.trans h.inbox, h.ptr, h.count, h.unsent, h.intDem⟩

theorem setFld {v : Nat} (h : Beside W s t) (hf : f.ok) (hW : f ∈ W) : Beside W s (t.setFld f v) :=
  ⟨onlyFields_trans h.fields (onlyFields_mono (List.forall_mem_singleton.2 hW) (onlyFields_setFld hf)), h.locket, h.log,
    h.inbox, h.ptr, h.count, h.unsent, h.intDem⟩

theorem setOn {b : Bool} (h : Beside W s t) (hf : f.ok) (hW : f ∈ W) : Beside W s (t.setOn f b) := h.setFld hf hW

theorem incSat (h : Beside W s t) (hf : f.ok) (hW : f ∈ W) : Beside W s (t.incSat f) := h.setFld hf hW

theorem raise (h : Beside W s t) (hW : F.FLT_STAT_LOSTOCC ∈ W) : Beside W s (t.raise i n) := by
  have fields := onlyFields_trans h.fields (onlyFields_mono (List.forall_mem_singleton.2 hW) (t.raise_spec i n).2.1)
  have flt := (Reacted.refl (W := [F.FLT_STAT_LOSTOCC]) (J := [i]) t).raise (i := i) (n := n) (by simp) (by simp)
  refine ⟨fields, ?_, ?_, ?_, flt.ptr.trans h.ptr, flt.count.trans h.count, flt.unsent.trans h.unsent, ?_⟩
  · rw [State.locket_raise, h.locket]
  · rw [State.log_raise, h.log]
  · rw [State.spn_raise, h.inbox]
  · rw [(t.raise_spec i n).2.2]
    exact h.intDem

theorem ite {c : Prop} {_ : Decidable c} (ht : Beside W s t) (hu : Beside W s u) : Beside W s (if c then t else u) :=
  ite_keeps ht hu

theorem each {α : Type} {l : List α} {op : State → α → State} (h : Beside W s t)
    (hop : ∀ {u a}, Beside W s u → Beside W s (op u a)) : Beside W s (t.each l op) :=
  State.each_keeps h fun _ _ _ => hop

theorem whenDo {b : Bool} {op : State → State} (h : Beside W s t) (hop : ∀ {u}, Beside W s u → Beside W s (op u)) :
    Beside W s (t.whenDo b op) :=
  State.whenDo_keeps h fun _ => hop

theorem trans (h : Beside W s t) (h' : Beside W t u) : Beside W s u where
  fields := onlyFields_trans h.fields h'.fields
  locket := h'.locket.trans h.locket
  log := h'.log.trans h.log
  inbox := h'.inbox.trans h.inbox
  ptr := h'.ptr.trans h.ptr
  count := h'.count.trans h.count
  unsent := h'.unsent.trans h.unsent
  intDem := h'.intDem.trans h.intDem

theorem mono {W' : List Fld} (h : Beside W s t) (hW : ∀ f ∈ W, f ∈ W') : Beside W' s t :=
  ⟨onlyFields_mono hW h.fields, h.locket, h.log, h.inbox, h.ptr, h.count, h.unsent, h.intDem⟩

end Beside

/-! ## Straits and chain ports -/

theorem State.straitRetrain_beside : Beside [straitState die, F.FLT_STAT_LOSTOCC] s (s.straitRetrain die) := by
  unfold State.straitRetrain
  extract_lets _ u
  have hu : Beside [straitState die, F.FLT_STAT_LOSTOCC] s u := (Beside.refl s).frame
  exact .raise (.setFld hu.frame straitState_ok (by simp)) (by simp)

theorem straitDown_ok : (straitDown die).ok := by
  unfold straitDown
  split <;> decide

theorem State.downWrite_beside : Beside [straitState die, straitDown die] s (s.downWrite die) := by
  have start := Beside.refl (W := [straitState die, straitDown die]) s
  unfold State.downWrite State.downClear
  refine .whenDo (.ite start (.ite (start.setOn straitDown_ok (by simp)) ?_)) fun h => h.frame
  extract_lets _ u
  have hu : Beside [straitState die, straitDown die] s u := start.frame
  exact .setFld (.setOn hu straitDown_ok (by simp)) straitState_ok (by simp)

theorem State.resync_beside : Beside [F.CHN_Cnn_ERR_RESYNC p, F.FLT_STAT_LOSTOCC] s (s.resync p) := by
  have start := Beside.refl (W := [F.CHN_Cnn_ERR_RESYNC p, F.FLT_STAT_LOSTOCC]) s
  unfold State.resync State.queueFrames
  exact .ite start (.raise (.incSat (.ite start start.frame) (Fld.ok_mk rfl) (by simp)) (by simp))

/-- A resync counts for the port. -/
theorem State.resync_counts (h : s.nic p ≠ 0) (hp : p < 64) : (s.resync p).fld (F.CHN_Cnn_ERR_RESYNC p) =
    min (F.CHN_Cnn_ERR_RESYNC p).max (s.fld (F.CHN_Cnn_ERR_RESYNC p) + 1) := by
  have regs : (s.queueFrames p s.resyncFrames).regs = s.regs := by
    unfold State.queueFrames
    dsimp only
    split
    · rfl
    · rfl
  have other : F.FLT_STAT_LOSTOCC.apart (F.CHN_Cnn_ERR_RESYNC p) := by
    refine .inl ?_
    dsimp only [R.FLT_STAT, R.CHN_Cnn_ERR]
    omega
  rw [State.resync, if_neg h, State.fld_raise (Fld.ok_mk rfl) other, State.fld_incSat_same (Fld.ok_mk rfl),
    State.fld_congr regs]

/-! ## Ports of the links -/

/-- The fields that a port which leaves ACTIVE may move. -/
def downFields (p : Nat) : List Fld :=
  [F.LNK_Px_STAT_DOWNS p, F.LNK_Px_STAT_USABLE p, F.SPN_Pp_STAT_DOWNS (p - 3), F.LNK_STAT_FAILOVER, F.LNK_STAT_NOSTBY,
    F.LNK_STAT_UPSEL, F.LNK_STAT_SWITCHES, F.LNK_Px_STAT_LOCKED p, F.LNK_Px_STAT_POLINV p, F.SPN_TSTAT_STATE,
    F.FLT_STAT_LOSTOCC]

section
variable {dst cycle : Nat}

theorem Beside.txAgain (h : Beside W s t) : Beside W s (t.txAgain n) := by
  unfold State.txAgain
  split
  · exact h
  · exact .each h fun h => h.frame

theorem Beside.upSwitch (h : Beside (downFields p) s t) : Beside (downFields p) s (t.upSwitch dst cycle) := by
  unfold State.upSwitch
  extract_lets old s1 queues tx _ s2 s3
  have h1 : Beside (downFields p) s s1 := .ite h (.each h fun h => h.frame)
  have h2 : Beside (downFields p) s s2 := h1.frame
  have h3 : Beside (downFields p) s s3 := .each h2 fun h => h.txAgain
  exact .incSat (.setFld h3 (by decide) (by simp [downFields])) (by decide) (by simp [downFields])

theorem Beside.upTrigger (h : Beside (downFields p) s t) : Beside (downFields p) s t.upTrigger := by
  have lost : F.FLT_STAT_LOSTOCC ∈ downFields p := by simp [downFields]
  unfold State.upTrigger
  split
  · exact h
  next q _ =>
    extract_lets other s1
    have h1 : Beside (downFields p) s s1 := .raise (.setOn h (by decide) (by simp [downFields])) lost
    exact .ite (.ite (.raise (.setOn h.upSwitch (by decide) (by simp [downFields])) lost)
      (.ite h1 (h1.setFld (by decide) (by simp [downFields])))) h

theorem Beside.timeHold (h : Beside (downFields p) s t) : Beside (downFields p) s t.timeHold := by
  unfold State.timeHold
  extract_lets _ s1
  have h1 : Beside (downFields p) s s1 := h.spnFrame rfl
  exact .ite h (.raise (.setFld h1 (by decide) (by simp [downFields])) (by simp [downFields]))

theorem Beside.linkDown (h : Beside (downFields p) s t) : Beside (downFields p) s (t.linkDown p) := by
  have lost : F.FLT_STAT_LOSTOCC ∈ downFields p := by simp [downFields]
  unfold State.linkDown
  extract_lets _ s1 s2 _ s3 q s4
  have h1 : Beside (downFields p) s s1 := h.frame
  have h2 : Beside (downFields p) s s2 :=
    .setOn (.raise (.incSat h1 (Fld.ok_mk rfl) (by simp [downFields])) lost) (Fld.ok_mk rfl) (by simp [downFields])
  have h3 : Beside (downFields p) s s3 := .ite h2.frame h2
  have h4 : Beside (downFields p) s s4 := .raise (.incSat h1 (Fld.ok_mk rfl) (by simp [downFields, q])) lost
  exact .ite (.ite h3.upTrigger h3) (.ite h4.timeHold h4)

end

theorem Beside.linkShow (h : Beside (downFields p) s t) : Beside (downFields p) s (t.linkShow p) := by
  unfold State.linkShow
  exact .ite (.setFld (.setFld h (Fld.ok_mk rfl) (by simp [downFields])) (Fld.ok_mk rfl) (by simp [downFields])) h

theorem linkStateF_ok : (linkStateF p).ok := by
  unfold linkStateF
  split
  · exact Fld.ok_mk rfl
  · exact Fld.ok_mk rfl

/-- A port that enters DETECT reads it, and moves of its own nothing else but what a port that leaves ACTIVE may. -/
theorem State.linkGo_beside : Beside (downFields p) (s.setFld (linkStateF p) 0) (s.linkGo p 0) := by
  unfold State.linkGo
  extract_lets old x s1 s2 _ fresh
  have h1 : Beside (downFields p) s1 s1 := .refl s1
  have h2 : Beside (downFields p) s1 s2 := .ite h1.linkDown h1
  have h3 : Beside (downFields p) s1 (s2.setLink p { fresh with detected := 0, attempt := false }) := h2.frame
  exact .linkShow (.each h3 fun h => h.frame)

/-- STATE and FAILMASK of a port are none of the fields that it moves when it leaves ACTIVE. -/
theorem downFields_apart : ∀ p : Fin 8, ∀ f ∈ downFields p,
    f.apart (linkStateF p) ∧ f.apart (F.LNK_Px_STAT_FAILMASK p) := by decide

theorem State.linkState_linkGo (hp : p < 8) : (s.linkGo p 0).linkState p = 0 := by
  rw [State.linkState, State.linkGo_beside.fields _ linkStateF_ok fun f hf => (downFields_apart ⟨p, hp⟩ f hf).1]
  exact State.fld_setFld_fits linkStateF_ok (Nat.zero_le _)

theorem State.failmask_linkGo (hp : p < 3) :
    (s.linkGo p 0).fld (F.LNK_Px_STAT_FAILMASK p) = s.fld (F.LNK_Px_STAT_FAILMASK p) := by
  rw [State.linkGo_beside.fields _ (Fld.ok_mk rfl) fun f hf => (downFields_apart ⟨p, by omega⟩ f hf).2, linkStateF,
    if_pos hp]
  exact State.fld_setFld_apart (Fld.ok_mk rfl) (Fld.apart_mk rfl)

/-- A port that is started again reads DETECT with no lane marked as failed. -/
theorem State.portRestart_spec (hp : p < 3) : (s.portRestart p).linkState p = 0 ∧
    (s.portRestart p).fld (F.LNK_Px_STAT_FAILMASK p) = 0 :=
  ⟨State.linkState_linkGo (by omega), (State.failmask_linkGo hp).trans
    (State.fld_setFld_fits (Fld.ok_mk rfl) (Nat.zero_le _))⟩

/-! ## Loops, conversions, reruns and check units -/

/-- A loop is stopped and its waiting transactions are dropped. -/
def State.loopRestart (s : State) (n : Nat) : State :=
  ((s.pmbDrop n fun _ => true).setLoop n { stoppedLoop with regBits := (s.loop n).regBits }).loopShow n

theorem State.loopRestart_loop : (s.loopRestart n).loop n = { stoppedLoop with regBits := (s.loop n).regBits } := by
  unfold State.loopRestart State.loopShow
  rw [State.loop, State.setFld_pmb, State.setFld_pmb]
  exact Tab.get_put_same

theorem State.loopRestart_beside : Beside [F.PMB_LDn_TRIM_TRIM n, F.PMB_LDn_TRIM_IPRED n] s (s.loopRestart n) := by
  have dropped : Beside [F.PMB_LDn_TRIM_TRIM n, F.PMB_LDn_TRIM_IPRED n] s (s.pmbDrop n fun _ => true) :=
    .each (.refl s) fun h => h.frame
  exact .setFld (.setFld dropped.frame (Fld.ok_mk rfl) (by simp)) (Fld.ok_mk rfl) (by simp)

theorem Beside.adcSync (h : Beside [F.ADC_STAT_BUSY, F.ADC_STAT_PENDING, F.ADC_STAT_SLOT] s t) :
    Beside [F.ADC_STAT_BUSY, F.ADC_STAT_PENDING, F.ADC_STAT_SLOT] s t.adcSync :=
  .setFld (.setOn (.setOn h (by decide) (by simp)) (by decide) (by simp)) (by decide) (by simp)

theorem State.adc_adcSync : s.adcSync.adc = s.adc := by
  rw [State.adcSync, State.setFld_adc, State.setOn_adc, State.setOn_adc]

/-- The sequencer that is to end: nothing pends, and it ends with a conversion that is in progress (R398). -/
def AdcState.aborted (x : AdcState) : AdcState :=
  if !x.running then { x with pending := false }
  else if x.owner.isNone then { x with pending := false, running := false, ending := false, halting := false }
  else { x with pending := false, ending := true }

theorem State.adcAbort_eq : s.adcAbort = ({ s with adc := s.adc.aborted } : State).adcSync := by
  unfold State.adcAbort State.adcOver AdcState.aborted
  dsimp only [Bool.false_and]
  cases s.adc.running
  · rfl
  · cases s.adc.owner.isNone
    · rfl
    · rfl

theorem State.adcAbort_beside : Beside [F.ADC_STAT_BUSY, F.ADC_STAT_PENDING, F.ADC_STAT_SLOT] s s.adcAbort := by
  rw [State.adcAbort_eq]
  exact .adcSync (.frame (.refl s))

/-- The conversions end as the one in progress allows (R398). -/
theorem State.adcAbort_spec : s.adcAbort.adc.pending = false ∧ (s.adc.owner = none → s.adcAbort.adc.running = false) ∧
    (s.adc.owner ≠ none → s.adc.running = true → s.adcAbort.adc.ending = true) := by
  rw [State.adcAbort_eq, State.adc_adcSync]
  dsimp only
  unfold AdcState.aborted
  cases s.adc.running
  · exact ⟨rfl, fun _ => rfl, nofun⟩
  · cases s.adc.owner
    · exact ⟨rfl, fun _ => rfl, nofun⟩
    · exact ⟨rfl, nofun, fun _ _ => rfl⟩

/-- A rerun that starts shows it, and moves nothing but the block's own state. -/
theorem State.calStart_cases : s.calStart n = s ∨ (∃ cal, s.calStart n = { s with cal }) ∨
    ∃ mem cal, s.calStart n = { s.setBit F.CAL_STAT_BUSY n true with mem, cal } := by
  unfold State.calStart
  split
  · exact .inl rfl
  · split
    · exact .inr (.inl ⟨_, rfl⟩)
    · refine .inr (.inr ?_)
      dsimp only
      split
      · exact ⟨_, _, rfl⟩
      · exact ⟨_, _, rfl⟩
      · exact ⟨_, _, rfl⟩

theorem State.calStart_beside : Beside [F.CAL_STAT_BUSY] s (s.calStart n) := by
  have start := Beside.refl (W := [F.CAL_STAT_BUSY]) s
  rcases s.calStart_cases (n := n) with e | ⟨_, e⟩ | ⟨_, _, e⟩
  · rw [e]
    exact start
  · rw [e]
    exact start.frame
  · rw [e]
    have busy : Beside [F.CAL_STAT_BUSY] s (s.setBit F.CAL_STAT_BUSY n true) := start.setFld (by decide) (by simp)
    exact busy.frame

/-- A rerun that may start runs. -/
theorem State.calBusy_calStart (hg : n < 4) (due : Tab.num s.cal.wait n ≤ s.lnk.cycle)
    (zero : n = 0 → s.memAsleep = false ∧ s.on F.THM_STAT_SHUT = false) : (s.calStart n).calBusy n = true := by
  by_cases busy : s.calBusy n = true
  · rw [State.calStart, if_pos (.inl busy), busy]
  have go : ¬ (s.calBusy n = true ∨ s.lnk.cycle + 1 ≤ Tab.num s.cal.wait n) := by
    rintro (h | h)
    · exact busy h
    · omega
  have awake : ¬ (n = 0 ∧ (s.memAsleep = true ∨ s.on F.THM_STAT_SHUT = true)) := by
    rintro ⟨h0, h | h⟩
    · rw [(zero h0).1] at h
      cases h
    · rw [(zero h0).2] at h
      cases h
  have regs : (s.calStart n).regs = (s.setBit F.CAL_STAT_BUSY n true).regs := by
    rw [State.calStart, if_neg go, if_neg awake]
    dsimp only
    split
    · rfl
    · rfl
    · rfl
  rw [State.calBusy, State.fld_congr regs]
  exact State.bit_setBit (by decide) hg

theorem State.chkIdle_beside : Beside [F.CHKn_STAT_WERR 7, F.CHKn_STAT_BUSY n] s (s.chkIdle n) := by
  unfold State.chkIdle
  extract_lets _ c
  have start : Beside [F.CHKn_STAT_WERR 7, F.CHKn_STAT_BUSY n] s { s with chk := c } := (Beside.refl s).frame
  exact .setOn start (Fld.ok_mk rfl) (by simp)

theorem State.chkStop_beside : Beside [F.CHKn_STAT_WERR 7, F.CHKn_STAT_BUSY n] s (s.chkStop n) := by
  have start := Beside.refl (W := [F.CHKn_STAT_WERR 7, F.CHKn_STAT_BUSY n]) s
  unfold State.chkStop
  exact .ite (start.setOn (by decide) (by simp)) (.ite start (.ite start.frame State.chkIdle_beside))

/-- A unit that is stopped is no longer busy, unless a read of it is in flight (R412). -/
theorem State.chkStop_ends (free : n = 7 → s.on (F.CHKn_STAT_PWR 7) = false)
    (none : s.on (F.CHKn_CTRL_FEED n) = true ∨ s.chk.owner ≠ some n) :
    (s.chkStop n).on (F.CHKn_STAT_BUSY n) = false := by
  have acts : ¬ (n = 7 ∧ s.on (F.CHKn_STAT_PWR 7) = true) := fun h => by
    rw [free h.1] at h
    exact Bool.false_ne_true h.2
  have ends : ¬ ((!s.on (F.CHKn_CTRL_FEED n)) = true ∧ s.chk.owner = some n) := by
    rintro ⟨hf, ho⟩
    rcases none with h | h
    · rw [h] at hf
      cases hf
    · exact h ho
  rw [State.chkStop, if_neg acts]
  cases busy : s.on (F.CHKn_STAT_BUSY n)
  · exact busy
  · rw [if_neg (by decide), if_neg ends, State.chkIdle]
    exact State.on_setOn_same (f := F.CHKn_STAT_BUSY n) (Fld.ok_mk rfl) _

/-! ## The reaction as a whole -/

/-- A field that is none of the collector's, of the log's or of Clasp's faults. -/
abbrev Fld.away (f : Fld) : Prop := f.addr < R.CLS_FAULT ∨ R.CLS_FAULT < f.addr ∧ f.addr < 0x110000 ∨ 0x130000 ≤ f.addr

/-- Outside blocks only such fields differ, the count of lost occurrences apart. -/
def ResetLeaves (s t : State) : Prop := ∃ W, Beside W s t ∧ ∀ f ∈ W, f = F.FLT_STAT_LOSTOCC ∨ f.away

theorem Beside.leaves (h : Beside W s t) (hW : ∀ f ∈ W, f = F.FLT_STAT_LOSTOCC ∨ f.away) : ResetLeaves s t := ⟨W, h, hW⟩

theorem straitDown_addr : (straitDown die).addr = R.SYS_STRAIT := by
  unfold straitDown
  split <;> rfl

theorem State.downWrite_leaves : ResetLeaves s (s.downWrite die) :=
  State.downWrite_beside.leaves (by simp [Fld.away, straitState_addr, straitDown_addr, R.SYS_STRAIT, R.CLS_FAULT])

theorem State.straitRetrain_leaves : ResetLeaves s (s.straitRetrain die) :=
  State.straitRetrain_beside.leaves (by simp [Fld.away, straitState_addr, R.SYS_STRAIT, R.CLS_FAULT])

theorem portFields_away : ∀ p : Fin 8,
    ∀ f ∈ linkStateF p :: F.LNK_Px_STAT_FAILMASK p :: downFields p, f = F.FLT_STAT_LOSTOCC ∨ f.away := by
  decide

theorem State.linkGo_leaves (hp : p < 8) : ResetLeaves s (s.linkGo p 0) :=
  (((Beside.refl s).setFld linkStateF_ok (.head _)).trans
    (State.linkGo_beside.mono fun _ h => .tail _ (.tail _ h))).leaves (portFields_away ⟨p, hp⟩)

theorem State.portRestart_leaves (hp : p < 8) : ResetLeaves s (s.portRestart p) := by
  unfold State.portRestart
  extract_lets _ u
  have hu : Beside (linkStateF p :: F.LNK_Px_STAT_FAILMASK p :: downFields p) s u := (Beside.refl s).frame
  have marked := hu.setFld (v := 0) (f := F.LNK_Px_STAT_FAILMASK p) (Fld.ok_mk rfl) (by simp)
  exact ((marked.setFld linkStateF_ok (.head _)).trans
    (State.linkGo_beside.mono fun _ h => .tail _ (.tail _ h))).leaves (portFields_away ⟨p, hp⟩)

theorem State.chkStop_leaves (hn : n < 8) : ResetLeaves s (s.chkStop n) :=
  State.chkStop_beside.leaves (List.forall_mem_cons.2 ⟨.inr (by decide), List.forall_mem_singleton.2 (.inr (by
    simp only [Fld.away, R.CHKn_STAT, R.CLS_FAULT]
    omega))⟩)

theorem State.resync_leaves (hp : p < 64) : ResetLeaves s (s.resync p) :=
  State.resync_beside.leaves (List.forall_mem_cons.2 ⟨.inr (by
    simp only [Fld.away, R.CHN_Cnn_ERR, R.CLS_FAULT]
    omega), List.forall_mem_singleton.2 (.inl rfl)⟩)

theorem State.loopRestart_leaves : ResetLeaves s (s.loopRestart n) := by
  have trim : (F.PMB_LDn_TRIM_TRIM n).away := by
    simp only [Fld.away, R.PMB_LDn_TRIM, R.CLS_FAULT]
    omega
  exact State.loopRestart_beside.leaves (List.forall_mem_cons.2 ⟨.inr trim, List.forall_mem_singleton.2 (.inr trim)⟩)

theorem State.fltReset_leaves {data : Nat} : ResetLeaves s (s.fltReset i data) := by
  have same : ResetLeaves s s := (Beside.refl (W := []) s).leaves (by simp)
  unfold State.fltReset
  dsimp only
  split
  · exact ite_keeps (ite_keeps State.downWrite_leaves (ite_keeps State.straitRetrain_leaves same)) same
  split
  · split
    · exact State.portRestart_leaves (by omega)
    · exact same
  split
  · split
    · exact State.linkGo_leaves (by omega)
    · exact same
  split
  · exact State.resync_leaves (Nat.mod_lt _ (by decide))
  split
  · exact ite_keeps State.loopRestart_leaves same
  split
  · exact State.adcAbort_beside.leaves (by decide)
  split
  · exact ite_keeps (State.calStart_beside.leaves (by decide)) same
  split
  · exact State.chkStop_leaves (Nat.mod_lt _ (by decide))
  split
  · exact State.chkStop_leaves (Nat.mod_lt _ (by decide))
  · exact same

/-- What a RESET reaction to a source does to the block that the data word names, from one state to another (R423). -/
def ResetActs (s t : State) (i data : Nat) : Prop :=
  let x := data % 256
  let g := if i = 143 then data / 2 ^ 24 % 4 else x
  let n := if i = 161 then data % 8 else (i - 145) % 8
  (∀ die, i < 4 → x = die + 1 → die < 2 → s.on (straitDown die) = false → s.fld (straitState die) = 2 →
    t.fld (straitState die) = 3) ∧
  (26 ≤ i → i ≤ 30 → x < 3 → t.linkState x = 0 ∧ t.fld (F.LNK_Px_STAT_FAILMASK x) = 0) ∧
  (i = 36 ∨ (42 ≤ i ∧ i ≤ 46) → x < 5 → t.linkState (3 + x) = 0) ∧
  (110 ≤ i → i ≤ 117 → s.nic (data % 64) ≠ 0 → t.fld (F.CHN_Cnn_ERR_RESYNC (data % 64)) =
    min (F.CHN_Cnn_ERR_RESYNC (data % 64)).max (s.fld (F.CHN_Cnn_ERR_RESYNC (data % 64)) + 1)) ∧
  (122 ≤ i → i ≤ 125 → x < 16 → (s.loop x).running = true →
    t.loop x = { stoppedLoop with regBits := (s.loop x).regBits }) ∧
  (132 ≤ i → i ≤ 142 → t.adc.pending = false ∧ (s.adc.owner = none → t.adc.running = false) ∧
    (s.adc.owner ≠ none → s.adc.running = true → t.adc.ending = true)) ∧
  (143 ≤ i → i ≤ 144 → g < 4 → (g = 0 → s.memAsleep = false ∧ s.on F.THM_STAT_SHUT = false) →
    Tab.num s.cal.wait g ≤ s.lnk.cycle → t.calBusy g = true) ∧
  (145 ≤ i → i ≤ 161 → (n = 7 → s.on (F.CHKn_STAT_PWR 7) = false) →
    (s.on (F.CHKn_CTRL_FEED n) = true ∨ s.chk.owner ≠ some n) → t.on (F.CHKn_STAT_BUSY n) = false)

/-- A field that no reaction before RESET moves. -/
abbrev Fld.quiet (f : Fld) : Prop :=
  f.addr < R.SPN_FIN_STAT ∨ R.SPN_FIN0 < f.addr ∧ f.addr < R.CLS_FAULT ∨ R.CLS_FAULT < f.addr ∧ f.addr < 0x110000

/-- What RESET acts on is not what the other reactions change. -/
theorem ResetActs.of_same {data : Nat} (h : ResetActs u t i data)
    (frame : u = { s with
      regs := u.regs, flt := u.flt, log := u.log, locket := u.locket, spn := u.spn, clasp := u.clasp })
    (fld : ∀ f : Fld, f.ok → f.quiet → u.fld f = s.fld f) : ResetActs s t i data := by
  have on (f : Fld) (hf : f.ok) (hq : f.quiet) : s.on f = u.on f := (State.on_congr (fld f hf hq)).symm
  have chk (k : Nat) (hk : k < 8) : (F.CHKn_CTRL_FEED k).quiet := by
    dsimp only [Fld.quiet, R.CHKn_CTRL, R.CLS_FAULT]
    omega
  unfold ResetActs at h ⊢
  extract_lets x g n
  extract_lets at h
  obtain ⟨strait, port, spine, resync, loop, adc, cal, unit⟩ := h
  refine ⟨?_, port, spine, ?_, ?_, ?_, ?_, ?_⟩
  · intro die h1 h2 h3 up two
    refine strait die h1 h2 h3 ?_ ?_
    · rw [← on _ straitDown_ok (.inl (by rw [straitDown_addr]; decide)), up]
    · rw [fld _ straitState_ok (.inl (by rw [straitState_addr]; decide)), two]
  · have port := Nat.mod_lt data (by decide : 0 < 64)
    rw [State.nic, ← fld (F.CHN_Cnn_CFG_NIC (data % 64)) (Fld.ok_mk rfl) ?_,
      ← fld (F.CHN_Cnn_ERR_RESYNC (data % 64)) (Fld.ok_mk rfl) ?_]
    · exact resync
    all_goals
      dsimp only [Fld.quiet, R.CHN_Cnn_CFG, R.CHN_Cnn_ERR, R.CLS_FAULT, R.SPN_FIN0]
      omega
  · have same : u.loop x = s.loop x := by rw [frame, State.loop, State.loop]
    rw [same] at loop
    exact loop
  · have same : u.adc = s.adc := by rw [frame]
    rw [same] at adc
    exact adc
  · have asleep : u.memAsleep = s.memAsleep := by rw [frame, State.memAsleep, State.memAsleep]
    have wait : u.cal = s.cal := by rw [frame]
    have cycle : u.lnk = s.lnk := by rw [frame]
    rw [asleep, wait, cycle, ← on _ (by decide) (by decide)] at cal
    exact cal
  · have owner : u.chk = s.chk := by rw [frame]
    have hn : n < 8 := by
      dsimp only [n]
      split
      · exact Nat.mod_lt _ (by decide)
      · exact Nat.mod_lt _ (by decide)
    rw [owner, ← on _ (by decide) (by decide), ← on (F.CHKn_CTRL_FEED n) (Fld.ok_mk rfl) (chk n hn)] at unit
    exact unit

/-- What a RESET reaction does to the block that the data word names (R423). -/
theorem State.fltReset_acts {data : Nat} : ResetActs s (s.fltReset i data) i data := by
  unfold ResetActs
  extract_lets x g n
  obtain ⟨t, ht⟩ : ∃ t, t = s.fltReset i data := ⟨_, rfl⟩
  rw [← ht]
  unfold State.fltReset at ht
  dsimp only at ht
  refine ⟨fun k hk hx hd up two => ?_, fun h1 h2 hx => ?_, fun h hx => ?_, fun h1 h2 hn => ?_, fun h1 h2 hx run => ?_,
    fun h1 h2 => ?_, fun h1 h2 hg zero due => ?_, fun h1 h2 free none => ?_⟩
  · have e : data % 256 - 1 = k := by omega
    rw [if_pos hk, if_pos (by omega), e, if_neg (by rw [up]; decide), if_pos two] at ht
    rw [ht]
    exact (State.straitRetrain_spec k).1
  · rw [if_neg (by omega), if_pos ⟨h1, h2⟩, if_pos hx] at ht
    rw [ht]
    exact State.portRestart_spec hx
  · rw [if_neg (by omega), if_neg (by omega), if_pos h, if_pos hx] at ht
    rw [ht]
    exact State.linkState_linkGo (by omega)
  · rw [if_neg (by omega), if_neg (by omega), if_neg (by omega), if_pos ⟨h1, h2⟩] at ht
    rw [ht]
    exact State.resync_counts hn (Nat.mod_lt _ (by decide))
  · rw [if_neg (by omega), if_neg (by omega), if_neg (by omega), if_neg (by omega), if_pos ⟨h1, h2⟩,
      if_pos ⟨hx, run⟩] at ht
    rw [ht]
    exact State.loopRestart_loop
  · rw [if_neg (by omega), if_neg (by omega), if_neg (by omega), if_neg (by omega), if_neg (by omega),
      if_pos ⟨h1, h2⟩] at ht
    rw [ht]
    exact State.adcAbort_spec
  · rw [if_neg (by omega), if_neg (by omega), if_neg (by omega), if_neg (by omega), if_neg (by omega),
      if_neg (by omega), if_pos ⟨h1, h2⟩, if_pos hg] at ht
    rw [ht]
    exact State.calBusy_calStart hg due zero
  · have stops : t = s.chkStop n := by
      rw [if_neg (by omega), if_neg (by omega), if_neg (by omega), if_neg (by omega), if_neg (by omega),
        if_neg (by omega), if_neg (by omega)] at ht
      rw [ht]
      by_cases h : i = 161
      · rw [if_neg (by omega), if_pos h]
        exact congrArg s.chkStop (if_pos h).symm
      · rw [if_pos (by omega)]
        exact congrArg s.chkStop (if_neg h).symm
    rw [stops]
    exact State.chkStop_ends free none

end Sys2Proof.Machine

end

section

/-!
# Taking an occurrence

The source that the collector picks, what taking its occurrence does before the reactions, the reactions one after
another, and EVENT_TAKE (O50).
-/

namespace Sys2Proof.Machine

variable {s t u : State} {f g : Fld} {i j c : Nat} {o : Occ} {rest : List Occ}

/-! ## The choice -/

theorem State.nextClass_le : s.nextClass i ≤ 3 := by
  unfold State.nextClass
  split
  · exact Nat.le_refl 3
  · exact State.fld_le_max

/-- The sources of one class with something pending. -/
theorem State.mem_due {k : Nat} : j ∈ ((below 192 fun i => !(Tab.lst s.flt.pend i).isEmpty).filter
    fun i => s.nextClass i == 3 - k) ↔ (j < 192 ∧ s.events j ≠ []) ∧ s.nextClass j = 3 - k := by
  simp only [below, State.events, List.mem_filter, List.mem_range, Bool.not_eq_true', List.isEmpty_eq_false_iff,
    beq_iff_eq]

theorem State.fltPick_eq_some (hi : i < 192) (pending : s.events i ≠ [])
    (top : ∀ j, j < 192 → s.events j ≠ [] → s.nextClass j ≤ s.nextClass i)
    (first : ∀ j, j < 192 → s.events j ≠ [] → s.nextClass j = s.nextClass i →
      First (Tab.num s.flt.ptr (3 - s.nextClass i)) i j) :
    s.fltPick = some (3 - s.nextClass i, i) := by
  have three := s.nextClass_le (i := i)
  unfold State.fltPick
  dsimp only
  rw [← Nat.zero_add (3 - s.nextClass i)]
  refine arbitrate_eq_some (by simp; omega) (fun k hk => ?_) ?_
  · rw [List.getElem_map, List.getElem_range, List.eq_nil_iff_forall_not_mem]
    intro j hj
    obtain ⟨⟨hj, p⟩, hc⟩ := State.mem_due.1 hj
    have := top j hj p
    omega
  · rw [List.getElem_map, List.getElem_range, Nat.zero_add]
    refine rrPick_eq_some (State.mem_due.2 ⟨⟨hi, pending⟩, by omega⟩) fun j hj => ?_
    obtain ⟨⟨hj, p⟩, hc⟩ := State.mem_due.1 hj
    exact first j hj p (by omega)

theorem State.fltPick_eq_none (h : ∀ i, i < 192 → s.events i = []) : s.fltPick = none := by
  unfold State.fltPick
  refine arbitrate_eq_none fun l hl => ?_
  obtain ⟨k, -, rfl⟩ := List.mem_map.1 hl
  rw [List.eq_nil_iff_forall_not_mem]
  intro j hj
  obtain ⟨⟨hj, p⟩, -⟩ := State.mem_due.1 hj
  exact p (h j hj)

theorem State.eventTake_idle (h : s.hubRuns = false ∨ ∀ i, i < 192 → s.events i = []) : s.eventTake = s := by
  have none : (if s.hubRuns then s.fltPick else none) = none := by
    rcases h with h | h
    · rw [h]
      rfl
    · rw [State.fltPick_eq_none h, ite_self]
  rw [State.eventTake, none]

/-! ## The occurrence leaves the count -/

/-- An occurrence of a source leaves the count, and the pointer of its class moves past the source. -/
def State.popEvent (s : State) (k i : Nat) (rest : List Occ) : State :=
  { s with flt := { s.flt with pend := Tab.setLst s.flt.pend i rest, ptr := Tab.setNum s.flt.ptr k (i + 1) } }

/-- The state in which the reactions to an occurrence begin. -/
def State.takeEvent (s : State) (k i : Nat) (rest : List Occ) : State :=
  ((s.popEvent k i rest).promote i).setFld F.FLT_STAT_LASTIDX i

theorem State.eventTake_eq (runs : s.hubRuns = true) (pend : s.events i = o :: rest) (hi : i < 192)
    (top : ∀ j, j < 192 → s.events j ≠ [] → s.nextClass j ≤ s.nextClass i)
    (first : ∀ j, j < 192 → s.events j ≠ [] → s.nextClass j = s.nextClass i →
      First (Tab.num s.flt.ptr (3 - s.nextClass i)) i j) :
    s.eventTake = (s.takeEvent (3 - s.nextClass i) i rest).react i (s.nextClass i) o (s.promoted i || s.promotes i)
      (Tab.on s.flt.lost i) := by
  have pick : (if s.hubRuns then s.fltPick else none) = some (3 - s.nextClass i, i) := by
    rw [if_pos runs]
    exact State.fltPick_eq_some hi (by rw [pend]; exact List.cons_ne_nil _ _) top first
  rw [State.events] at pend
  rw [State.eventTake, pick]
  dsimp only
  rw [pend]
  rfl

/-- Promotion and the window (R418): PROMO and the count. -/
theorem State.promote_spec (s : State) (i : Nat) : OnlyFields [F.FLT_PROMOj_VAL (i / 32)] s (s.promote i) ∧
    (s.promote i).promoted i = (s.promoted i || s.promotes i) ∧
    (s.promoted i = false → s.fld (F.FLT_SRCi_N i) ≠ 0 → s.promotes i = false →
      Tab.num (s.promote i).flt.count i = Tab.num s.flt.count i + 1) ∧
    s.promote i = { s with regs := (s.promote i).regs, flt := { s.flt with count := (s.promote i).flt.count } } := by
  unfold State.promote
  cases up : s.promotes i
  · rw [if_neg Bool.false_ne_true, Bool.or_false]
    split
    next none =>
      refine ⟨onlyFields_refl _ s, rfl, fun hp hn _ => ?_, rfl⟩
      rcases none with h | h
      · rw [hp] at h
        cases h
      · exact absurd h hn
    · refine ⟨onlyFields_of_regs _ rfl, rfl, fun _ _ _ => ?_, rfl⟩
      dsimp only
      exact Tab.num_setNum_same
  · rw [if_pos rfl, Bool.or_true]
    refine ⟨onlyFields_setFld (Fld.ok_mk rfl), ?_, nofun, rfl⟩
    exact State.bit_setBit (Fld.ok_mk rfl) (Nat.mod_lt i (by decide : 0 < 32))

theorem State.takeEvent_spec {k : Nat} (hi : i < 192) : let t := s.takeEvent k i rest
    OnlyFields [F.FLT_PROMOj_VAL (i / 32), F.FLT_STAT_LASTIDX] s t ∧ t.fld F.FLT_STAT_LASTIDX = i ∧
    t.promoted i = (s.promoted i || s.promotes i) ∧
    (s.promoted i = false → s.fld (F.FLT_SRCi_N i) ≠ 0 → s.promotes i = false →
      Tab.num t.flt.count i = Tab.num s.flt.count i + 1) ∧
    t = { s with
      regs := t.regs
      flt := { s.flt with
        pend := Tab.setLst s.flt.pend i rest
        ptr := Tab.setNum s.flt.ptr k (i + 1)
        count := t.flt.count } } := by
  obtain ⟨fields, promo, count, frame⟩ := (s.popEvent k i rest).promote_spec i
  have other : F.FLT_STAT_LASTIDX.apart (F.FLT_PROMOj_VAL (i / 32)) := by
    refine .inl ?_
    dsimp only [R.FLT_STAT, R.FLT_PROMOj]
    omega
  refine ⟨?_, ?_, ?_, ?_, ?_⟩
  · exact onlyFields_trans (onlyFields_mono (by simp) fields)
      (onlyFields_mono (by simp) (onlyFields_setFld (f := F.FLT_STAT_LASTIDX) (by decide)))
  · refine State.fld_setFld_fits (by decide) ?_
    show i ≤ 255
    omega
  · rw [State.promoted, State.takeEvent, State.fld_setFld_apart (by decide) other]
    exact promo
  · rw [State.takeEvent, State.setFld_flt]
    exact count
  · rw [State.takeEvent, State.setFld_flt]
    conv => lhs; rw [frame]
    rfl

/-! ## The reactions, one after another -/

/-- Clasp sees a demand from inside the device. -/
def State.withDemand (s : State) : State := { s with clasp := { s.clasp with intDem := true } }

/-- The entry that the log makes for an occurrence (R425). -/
def State.entryOf (s : State) (i c : Nat) (o : Occ) (promoted lost : Bool) : LogEntry :=
  ⟨BitVec.ofNat 64 s.time64, o.data,
    BitVec.ofNat 32 (b2n o.inj * 2 ^ 15 + b2n promoted * 2 ^ 14 + b2n lost * 2 ^ 13 + c * 2 ^ 8 + i)⟩

/-- Whether a class has a reaction: 0 LOG, 1 INT, 2 MGR, 3 FAULT_N, 4 CLASP, 5 RESET (R419). -/
def reacts (r n : Nat) : Bool := r / 2 ^ n % 2 == 1

theorem reacts_iff {r n : Nat} : reacts r n = true ↔ r / 2 ^ n % 2 = 1 := beq_iff_eq

/-- A class without some reactions. -/
theorem reacts_of_land {r m n : Nat} (h : Nat.land r m = 0) (hm : m.testBit n = true) : reacts r n = false := by
  have both : (r &&& m).testBit n = false := by
    rw [show r &&& m = 0 from h, Nat.zero_testBit]
  rw [Nat.testBit_and, hm, Bool.and_true] at both
  rw [reacts, bit_eq_testBit, both]

/-- The states that the reactions of a class lead through, from the one where they begin to the one where they end. -/
structure Reactions (i c r time : Nat) (o : Occ) (e : LogEntry) (s s1 s2 s3 s4 d s5 t : State) : Prop where
  log : s1 = s.whenDo (reacts r 0 && i != 162) (·.reactLog i e)
  int : s2 = s1.whenDo (reacts r 1) (·.fltInt i c)
  mgr : s3 = s2.whenDo (reacts r 2 && i != 59) (·.fltReport i c o.data time)
  pin : s4 = s3.whenDo (reacts r 3) State.faultPin
  demand : d = s4.whenDo (reacts r 4) State.withDemand
  clasp : s5 = d.whenDo (reacts r 4) (·.claspFault 10)
  reset : t = s5.whenDo (reacts r 5) (·.fltReset i o.data.toNat)

theorem State.whenDo_twice {b : Bool} {op op' : State → State} :
    (s.whenDo b op).whenDo b op' = s.whenDo b fun s => op' (op s) := by
  cases b
  · rfl
  · rfl

/-- What holds of a state with its operation done, where it is to be done, and without it. -/
theorem State.whenDo_of {P : State → Prop} {b : Bool} {op : State → State} (h0 : P s) (h : b = true → P (op s)) :
    P (s.whenDo b op) := by
  cases b
  · exact h0
  · exact h rfl

theorem State.react_reactions (s : State) (i c : Nat) (o : Occ) (promoted lost : Bool) :
    ∃ s1 s2 s3 s4 d s5, Reactions i c (s.fld (F.FLT_REACTc_REACT c)) s.time64 o (s.entryOf i c o promoted lost)
      s s1 s2 s3 s4 d s5 (s.react i c o promoted lost) := by
  refine ⟨_, _, _, _, _, _, rfl, rfl, rfl, rfl, rfl, rfl, ?_⟩
  rw [State.whenDo_twice]
  rfl

/-! ## What the reactions after an entry leave -/

/-- Of the registers only some fields differ, and LB0, the log, the inbox and the collector but for pending occurrences
and their marks are the same. -/
structure Kept (W : List Fld) (s t : State) : Prop where
  fields : OnlyFields W s t
  locket : t.locket = s.locket
  log : t.log = s.log
  inbox : t.spn.inbox = s.spn.inbox
  ptr : t.flt.ptr = s.flt.ptr
  count : t.flt.count = s.flt.count
  unsent : t.flt.unsent = s.flt.unsent

section
variable {W W' : List Fld} {J : List Nat}

theorem Kept.trans (h : Kept W s t) (h' : Kept W' t u) : Kept (W ++ W') s u where
  fields := onlyFields_trans (onlyFields_mono (by simp +contextual) h.fields)
    (onlyFields_mono (by simp +contextual) h'.fields)
  locket := h'.locket.trans h.locket
  log := h'.log.trans h.log
  inbox := h'.inbox.trans h.inbox
  ptr := h'.ptr.trans h.ptr
  count := h'.count.trans h.count
  unsent := h'.unsent.trans h.unsent

theorem Beside.kept (h : Beside W s t) : Kept W s t :=
  ⟨h.fields, h.locket, h.log, h.inbox, h.ptr, h.count, h.unsent⟩

theorem Reacted.spn (h : Reacted W J s t) : t.spn = s.spn := by
  rw [h.eq]

theorem Reacted.kept (h : Reacted W J s t) (log : t.log = s.log) (locket : t.locket = s.locket) : Kept W s t :=
  ⟨h.fields, locket, log, congrArg SpineState.inbox h.spn, h.ptr, h.count, h.unsent⟩

end

theorem Reported.eq (h : Reported s t) : t = { s with regs := t.regs, flt := t.flt, spn := t.spn } := by
  conv => rhs; rw [← h.rest]

theorem Reported.flt_eq (h : Reported s t) : t.flt = { s.flt with unsent := t.flt.unsent } := by
  conv => rhs; rw [← h.flt]

/-- A state with another one's registers, collector, log, Spine and Clasp. -/
def State.withReacted (t s : State) : State :=
  { t with regs := s.regs, flt := s.flt, log := s.log, locket := s.locket, spn := s.spn, clasp := s.clasp }

/-- Nothing differs that only RESET may change. -/
structure Framed (s t : State) : Prop where
  rest : t.withReacted s = s

namespace Framed

theorem trans (h : Framed s t) (h' : Framed t u) : Framed s u :=
  ⟨(congrArg (·.withReacted s) h'.rest).trans h.rest⟩

theorem eq (h : Framed s t) : t = { s with
    regs := t.regs, flt := t.flt, log := t.log, locket := t.locket, spn := t.spn, clasp := t.clasp } := by
  conv => rhs; rw [← h.rest]
  rfl

end Framed

theorem Reacted.framed {W : List Fld} {J : List Nat} (h : Reacted W J s t) : Framed s t :=
  ⟨congrArg (·.withReacted s) h.rest⟩

theorem Reported.framed (h : Reported s t) : Framed s t := ⟨congrArg (·.withReacted s) h.rest⟩

theorem Reported.flt_kept (h : Reported s t) : t.flt.pend = s.flt.pend ∧ t.flt.lost = s.flt.lost := by
  rw [h.flt_eq]
  exact ⟨rfl, rfl⟩

/-- A field that RESET does not move. -/
theorem Fld.apart_of_away (hf : f = F.FLT_STAT_LOSTOCC ∨ f.away) (hg : ¬ g.away) (lost : F.FLT_STAT_LOSTOCC.apart g) :
    f.apart g := by
  rcases hf with rfl | hf
  · exact lost
  · exact .inl fun e => hg (by rwa [Fld.away, ← e])

theorem Fld.low_of_quiet (h : f.quiet) : f.addr < 0x110000 := by
  dsimp only [Fld.quiet, R.SPN_FIN_STAT, R.SPN_FIN0, R.CLS_FAULT] at h
  omega

theorem ResetLeaves.fld (h : ResetLeaves s t) (hg : g.ok) (near : ¬ g.away) (lost : F.FLT_STAT_LOSTOCC.apart g) :
    t.fld g = s.fld g := by
  obtain ⟨W, h, hW⟩ := h
  exact h.fields g hg fun f hf => Fld.apart_of_away (hW f hf) near lost

namespace Reactions

variable {r time : Nat} {e : LogEntry} {s1 s2 s3 s4 d s5 : State}

section
variable (h : Reactions i c r time o e s s1 s2 s3 s4 d s5 t)
include h

theorem logged : Reacted logFields [162, i] s s1 := by
  rw [h.log]
  exact State.whenDo_of (.refl s) fun b => (s.reactLog_spec e (by simpa using (Bool.and_eq_true_iff.1 b).2)).1

theorem int_reacted : Reacted [F.FLT_PENDj_VAL (i / 32), F.FLT_STAT_HIGH] [] s1 s2 ∧ s2.flt.lost = s1.flt.lost := by
  rw [h.int]
  obtain ⟨reacted, -, -, lost, -⟩ := s1.fltInt_spec i c
  exact State.whenDo_of (P := fun u => Reacted [F.FLT_PENDj_VAL (i / 32), F.FLT_STAT_HIGH] [] s1 u ∧
    u.flt.lost = s1.flt.lost) ⟨.refl s1, rfl⟩ fun _ => ⟨reacted, lost⟩

theorem pin_reacted : Reacted [F.FLT_STAT_PIN, F.FLT_STAT_PULSE] [] s3 s4 := by
  rw [h.pin]
  exact State.whenDo_of (.refl s3) fun _ => s3.faultPin_spec.1

theorem clasp_reacted : Reacted [F.CLS_FAULT_CAUSE, F.FLT_STAT_LOSTOCC] [128] d s5 := by
  rw [h.clasp]
  exact State.whenDo_of (.refl d) fun _ => d.claspFault_spec.1

theorem int_kept : Kept [F.FLT_PENDj_VAL (i / 32), F.FLT_STAT_HIGH] s1 s2 := by
  rw [h.int]
  obtain ⟨reacted, log, locket, -⟩ := s1.fltInt_spec i c
  exact State.whenDo_of ((Beside.refl s1).kept) fun _ => reacted.kept log locket

theorem reported : Reported s2 s3 := by
  rw [h.mgr]
  exact State.whenDo_of (.refl s2) fun _ => State.fltReport_reported

theorem pin_kept : Kept [F.FLT_STAT_PIN, F.FLT_STAT_PULSE] s3 s4 := by
  rw [h.pin]
  obtain ⟨reacted, log, locket, -⟩ := s3.faultPin_spec
  exact State.whenDo_of ((Beside.refl s3).kept) fun _ => reacted.kept log locket

theorem demand_kept : Kept [] s4 d := by
  rw [h.demand]
  exact State.whenDo_of ((Beside.refl s4).kept) fun _ => ⟨onlyFields_of_regs _ rfl, rfl, rfl, rfl, rfl, rfl, rfl⟩

theorem clasp_kept : Kept [F.CLS_FAULT_CAUSE, F.FLT_STAT_LOSTOCC] d s5 := by
  rw [h.clasp]
  obtain ⟨reacted, log, locket, -⟩ := d.claspFault_spec
  exact State.whenDo_of ((Beside.refl d).kept) fun _ => reacted.kept log locket

theorem leaves : ResetLeaves s5 t := by
  rw [h.reset]
  exact State.whenDo_of ((Beside.refl (W := []) s5).leaves (by simp)) fun _ => State.fltReset_leaves

/-! ### Every reaction -/

theorem kept : Kept ([F.FLT_STAT_PIN, F.FLT_STAT_PULSE] ++ [] ++ [F.CLS_FAULT_CAUSE, F.FLT_STAT_LOSTOCC]) s3 s5 :=
  (h.pin_kept.trans h.demand_kept).trans h.clasp_kept

theorem ptr : t.flt.ptr = s.flt.ptr := by
  obtain ⟨W, reset, -⟩ := h.leaves
  have mgr : s3.flt.ptr = s2.flt.ptr := by rw [h.reported.flt_eq]
  rw [reset.ptr, h.kept.ptr, mgr, h.int_kept.ptr, h.logged.ptr]

theorem count : t.flt.count = s.flt.count := by
  obtain ⟨W, reset, -⟩ := h.leaves
  have mgr : s3.flt.count = s2.flt.count := by rw [h.reported.flt_eq]
  rw [reset.count, h.kept.count, mgr, h.int_kept.count, h.logged.count]

/-- What MGR, FAULT_N, CLASP and RESET leave of the collector's and the log's fields. -/
theorem fld_int (hg : g.ok) (near : ¬ g.away)
    (ha : ∀ f ∈ [whole R.SPN_FIN_STAT, whole R.SPN_FIN0, F.FLT_STAT_PIN, F.FLT_STAT_PULSE, F.CLS_FAULT_CAUSE,
      F.FLT_STAT_LOSTOCC], f.apart g) : t.fld g = s2.fld g := by
  rw [h.leaves.fld hg near (ha _ (by simp)), h.kept.fields g hg fun f hf => ha f (by revert f; decide),
    h.reported.fields g hg fun f hf => ha f (by revert f; decide)]

/-- What all reactions leave of the collector's fields. -/
theorem fld_kept (hi : i < 192) (hg : g.ok) (near : ¬ g.away) (pend : g.addr < 0x110100 ∨ 0x110118 ≤ g.addr)
    (ha : ∀ f ∈ [whole R.LOG_STAT, whole R.LOG_SEQ, F.FLT_STAT_HIGH, whole R.SPN_FIN_STAT, whole R.SPN_FIN0,
      F.FLT_STAT_PIN, F.FLT_STAT_PULSE, F.CLS_FAULT_CAUSE, F.FLT_STAT_LOSTOCC], f.apart g) : t.fld g = s.fld g := by
  have bits : (F.FLT_PENDj_VAL (i / 32)).apart g := by
    refine .inl ?_
    dsimp only [R.FLT_PENDj]
    omega
  rw [h.fld_int hg near fun f hf => ha f (by revert f; decide),
    h.int_kept.fields g hg (List.forall_mem_cons.2 ⟨bits, List.forall_mem_singleton.2 (ha _ (by simp))⟩),
    h.logged.fields g hg fun f hf => ha f (by revert f; decide)]

/-! ### LOG and INT -/

theorem after_log (hi : i < 192) : t.locket = s1.locket ∧ t.log = s1.log ∧ t.reg R.LOG_STAT = s1.reg R.LOG_STAT ∧
    t.reg R.LOG_SEQ = s1.reg R.LOG_SEQ := by
  obtain ⟨W, reset, -⟩ := h.leaves
  have locket : s3.locket = s2.locket := by rw [h.reported.eq]
  have log : s3.log = s2.log := by rw [h.reported.eq]
  have pend {a : Nat} (ha : 0x120000 ≤ a) : (F.FLT_PENDj_VAL (i / 32)).apart (whole a) := by
    refine .inl ?_
    dsimp only [whole, R.FLT_PENDj]
    omega
  refine ⟨?_, ?_, State.reg_of_whole ?_, State.reg_of_whole ?_⟩
  · rw [reset.locket, h.kept.locket, locket, h.int_kept.locket]
  · rw [reset.log, h.kept.log, log, h.int_kept.log]
  · rw [h.fld_int whole_ok (by decide) (by decide)]
    exact h.int_kept.fields _ whole_ok (List.forall_mem_cons.2 ⟨pend (by decide), by decide⟩)
  · rw [h.fld_int whole_ok (by decide) (by decide)]
    exact h.int_kept.fields _ whole_ok (List.forall_mem_cons.2 ⟨pend (by decide), by decide⟩)

theorem log_made (hi : i < 192) (hl : (reacts r 0 && i != 162) = true) :
    t.locket = (s.logEntry e).locket ∧ t.log = (s.logEntry e).log ∧
    t.reg R.LOG_STAT = (s.logEntry e).reg R.LOG_STAT ∧ t.reg R.LOG_SEQ = (s.logEntry e).reg R.LOG_SEQ := by
  obtain ⟨locket, log, stat, seq⟩ := h.after_log hi
  have e1 : s1 = s.reactLog i e := by rw [h.log, hl, State.whenDo_true]
  obtain ⟨-, -, -, same⟩ := s.reactLog_spec e (i := i) (by simpa using (Bool.and_eq_true_iff.1 hl).2)
  rw [locket, log, stat, seq, e1]
  exact ⟨same.locket, same.log, same.reg _ (by decide) (by decide), same.reg _ (by decide) (by decide)⟩

theorem log_none (hi : i < 192) (hl : (reacts r 0 && i != 162) = false) : t.locket = s.locket ∧ t.log = s.log := by
  obtain ⟨locket, log, -⟩ := h.after_log hi
  have e1 : s1 = s := by rw [h.log, hl, State.whenDo_false]
  rw [locket, log, e1]
  exact ⟨rfl, rfl⟩

theorem fltPending (hi : i < 192) : t.fltPending i = (s.fltPending i || reacts r 1) := by
  have ok : (F.FLT_PENDj_VAL (i / 32)).ok := Fld.ok_mk rfl
  have apart {f : Fld} (hf : f.addr < 0x110100 ∨ 0x110118 ≤ f.addr) : f.apart (F.FLT_PENDj_VAL (i / 32)) := by
    refine .inl ?_
    dsimp only [R.FLT_PENDj]
    omega
  have near : ¬ (F.FLT_PENDj_VAL (i / 32)).away := by
    dsimp only [Fld.away, R.FLT_PENDj, R.CLS_FAULT]
    omega
  have after : t.fltPending i = s2.fltPending i := by
    rw [State.fltPending, State.fltPending, h.fld_int ok near fun f hf => apart (by revert f; decide)]
  have before : s1.fltPending i = s.fltPending i := by
    rw [State.fltPending, State.fltPending, h.logged.fields _ ok fun f hf => apart (by revert f; decide)]
  rw [after, ← before, h.int]
  cases reacts r 1
  · rw [State.whenDo_false, Bool.or_false]
  · rw [State.whenDo_true, Bool.or_true]
    exact (s1.fltInt_spec i c).2.2.2.2

/-! ### FAULT_N and CLASP -/

theorem faultN (hb : reacts r 3 = true) : t.on F.FLT_STAT_PIN = true ∧ t.on F.FLT_STAT_PULSE = true := by
  have e4 : s4 = s3.faultPin := by rw [h.pin, hb, State.whenDo_true]
  obtain ⟨-, -, -, -, pin, pulse⟩ := s3.faultPin_spec
  have after {f : Fld} (hf : f.ok) (near : ¬ f.away)
      (ha : ∀ g ∈ [F.CLS_FAULT_CAUSE, F.FLT_STAT_LOSTOCC], g.apart f) : t.on f = s4.on f := by
    rw [State.on, h.leaves.fld hf near (ha _ (by simp)), h.clasp_kept.fields f hf ha, h.demand_kept.fields f hf nofun,
      State.on]
  rw [after (by decide) (by decide) (by decide), after (by decide) (by decide) (by decide), e4]
  exact ⟨pin, pulse⟩

theorem claspFault (hb : reacts r 4 = true) : t.clasp.intDem = true ∧ bits 10 10 (t.fld F.CLS_FAULT_CAUSE) = 1 := by
  obtain ⟨W, reset, -⟩ := h.leaves
  have e5 : s5 = d.claspFault 10 := by rw [h.clasp, hb, State.whenDo_true]
  obtain ⟨reacted, -, -, cause⟩ := d.claspFault_spec
  have demand : d.clasp.intDem = true := by
    rw [h.demand, hb, State.whenDo_true]
    rfl
  rw [reset.intDem, h.leaves.fld (by decide) (by decide) (by decide), e5]
  refine ⟨?_, cause⟩
  rw [reacted.eq]
  exact demand

/-! ### MGR -/

/-- What LOG and INT leave of the fields that a report depends on. -/
theorem fld_before (hg : g.ok) (ha : g.addr < 0x110000) : s2.fld g = s.fld g := by
  have pend : (F.FLT_PENDj_VAL (i / 32)).apart g := by
    refine .inl ?_
    dsimp only [R.FLT_PENDj]
    omega
  have far {f : Fld} (hf : 0x110000 ≤ f.addr) : f.apart g := .inl (by omega)
  rw [h.int_kept.fields g hg (List.forall_mem_cons.2 ⟨pend, List.forall_mem_singleton.2 (far (by decide))⟩),
    h.logged.fields g hg fun f hf => far (by revert f; decide)]

/-- Before a report only registers, the collector and the log differ. -/
theorem frame_before : s2 = { s with regs := s2.regs, flt := s2.flt, log := s2.log, locket := s2.locket } := by
  have e := h.int_reacted.1.eq
  conv at e => rhs; rw [h.logged.eq]
  exact e

theorem report_manager (hb : (reacts r 2 && i != 59) = true) (mgr : s.manager = true) (room : s.spn.inbox.length < 64) :
    t.spn.inbox = s.spn.inbox ++ [⟨0, 0, i, c, (reportWords i c o.data time).drop 1⟩] := by
  obtain ⟨W, reset, -⟩ := h.leaves
  have spn : s2.spn = s.spn := by rw [h.frame_before]
  have mgr2 : s2.manager = true := by
    rw [h.frame_before]
    exact mgr
  rw [reset.inbox, h.kept.inbox, h.mgr, hb, State.whenDo_true, State.fltReport_manager mgr2 (by rw [spn]; exact room),
    State.spn_finShow, spn]

theorem manager_before (mgr : s.manager = false) : s2.manager = false := by
  rw [h.frame_before]
  exact mgr

theorem open_before :
    (s2.on F.SPN_STAT_ADDR_VALID && s2.spnActive 0) = (s.on F.SPN_STAT_ADDR_VALID && s.spnActive 0) := by
  rw [State.on, State.spnActive, h.fld_before (by decide) (by decide), h.fld_before (by decide) (by decide),
    State.on, State.spnActive]

theorem report_unsent (hb : (reacts r 2 && i != 59) = true) (mgr : s.manager = false)
    (shut : (s.on F.SPN_STAT_ADDR_VALID && s.spnActive 0) = false) : t.flt.unsent = s.flt.unsent + 1 := by
  obtain ⟨W, reset, -⟩ := h.leaves
  rw [reset.unsent, h.kept.unsent, h.mgr, hb, State.whenDo_true,
    State.fltReport_unsent (h.manager_before mgr) (h.open_before.trans shut)]
  dsimp only
  rw [h.int_kept.unsent, h.logged.unsent]

theorem report_sent (hb : (reacts r 2 && i != 59) = true) (mgr : s.manager = false)
    (active : (s.on F.SPN_STAT_ADDR_VALID && s.spnActive 0) = true) :
    s4.spn = (s.fltPass 0 (spnMake 11 0 0 3 0 s.spnAddr 0 0 0 (reportWords i c o.data time))).spn ∧
      s4.flt.unsent = 0 := by
  have spn : s2.spn = s.spn := by rw [h.frame_before]
  have addr : s2.spnAddr = s.spnAddr := h.fld_before (by decide) (by decide)
  have sent : s3 = s2.fltPass 0 (spnMake 11 0 0 3 0 s.spnAddr 0 0 0 (reportWords i c o.data time)) := by
    rw [h.mgr, hb, State.whenDo_true, State.fltReport_sent (h.manager_before mgr) (h.open_before.trans active), addr]
  rw [h.pin_reacted.spn, h.pin_kept.unsent, sent]
  exact ⟨State.fltPass_congr spn (h.int_kept.unsent.trans h.logged.unsent), State.unsent_fltPass⟩

/-! ### RESET -/

/-- Before RESET. -/
theorem framed : Framed s s5 := by
  have demand : Framed s4 d := by
    rw [h.demand]
    exact State.whenDo_of ⟨rfl⟩ fun _ => ⟨rfl⟩
  exact h.logged.framed.trans (h.int_reacted.1.framed.trans (h.reported.framed.trans (h.pin_reacted.framed.trans
    (demand.trans h.clasp_reacted.framed))))

theorem fld_quiet (hg : g.ok) (quiet : g.quiet) : s5.fld g = s.fld g := by
  have far {f : Fld} (hf : 0x110000 ≤ f.addr ∨ f.addr = R.SPN_FIN_STAT ∨ f.addr = R.SPN_FIN0 ∨ f.addr = R.CLS_FAULT) :
      f.apart g := by
    refine .inl ?_
    dsimp only [Fld.quiet, R.SPN_FIN_STAT, R.SPN_FIN0, R.CLS_FAULT] at hf quiet
    omega
  rw [h.kept.fields g hg fun f hf => far (by revert f; decide),
    h.reported.fields g hg fun f hf => far (by revert f; decide), h.fld_before hg (Fld.low_of_quiet quiet)]

theorem reset_acts (hb : reacts r 5 = true) : ResetActs s t i o.data.toNat := by
  have acts : ResetActs s5 t i o.data.toNat := by
    rw [h.reset, hb, State.whenDo_true]
    exact State.fltReset_acts
  exact acts.of_same h.framed.eq fun f => h.fld_quiet

/-! ### With neither CLASP nor RESET -/

section
variable (h4 : reacts r 4 = false) (h5 : reacts r 5 = false)
include h4 h5

theorem calm : t = s5 ∧ s5 = s4 := by
  rw [h.reset, h5, State.whenDo_false, h.clasp, h4, State.whenDo_false, h.demand, h4, State.whenDo_false]
  exact ⟨rfl, rfl⟩

/-- Of what pends, and of the marks, only a LOG reaction changes anything. -/
theorem calm_flt : (∀ j, t.events j = s1.events j) ∧ t.flt.lost = s1.flt.lost := by
  obtain ⟨e, e'⟩ := h.calm h4 h5
  obtain ⟨pend, lost⟩ := h.reported.flt_kept
  have flt : s4.flt = s3.flt := by
    rw [h.pin]
    exact State.whenDo_of (P := fun u => u.flt = s3.flt) rfl fun _ => s3.faultPin_spec.2.2.2.1
  refine ⟨fun j => ?_, ?_⟩
  · rw [e, e', State.events, flt, pend]
    exact h.int_reacted.1.events j nofun
  · rw [e, e', flt, lost, h.int_reacted.2]

theorem calm_events (hj : j ≠ 162 ∨ j = i) : t.events j = s.events j := by
  rw [(h.calm_flt h4 h5).1 j, h.log]
  refine State.whenDo_of (P := fun u => u.events j = s.events j) rfl fun b => ?_
  obtain ⟨reacted, same, -⟩ := s.reactLog_spec e (i := i) (by simpa using (Bool.and_eq_true_iff.1 b).2)
  by_cases e : j = i
  · rw [e, same]
  · exact reacted.events j (by simp [hj.resolve_right e, e])

theorem calm_lost (hj : j ≠ 162) :
    Tab.on t.flt.lost j = (Tab.on s.flt.lost j && !(decide (j = i ∧ r % 2 = 1) && s.logTakes)) := by
  have bit : reacts r 0 = true ↔ r % 2 = 1 := by rw [reacts_iff, Nat.pow_zero, Nat.div_one]
  rw [(h.calm_flt h4 h5).2]
  by_cases own : j = i ∧ r % 2 = 1
  · obtain ⟨rfl, hr⟩ := own
    have made : (reacts r 0 && j != 162) = true := by simp [bit.2 hr, hj]
    obtain ⟨-, -, lost, -⟩ := s.reactLog_spec e hj
    rw [h.log, made, State.whenDo_true, lost, decide_eq_true ⟨rfl, hr⟩, Bool.true_and]
  · rw [decide_eq_false own, Bool.false_and, Bool.not_false, Bool.and_true]
    by_cases hi : j = i
    · have none : reacts r 0 = false := Bool.eq_false_iff.2 fun b => own ⟨hi, bit.1 b⟩
      rw [h.log, none, Bool.false_and, State.whenDo_false]
    · exact h.logged.lost j (by simp [hj, hi])

theorem calm_frame : t = { s with regs := t.regs, flt := t.flt, log := t.log, locket := t.locket, spn := t.spn } := by
  obtain ⟨e, e'⟩ := h.calm h4 h5
  have clasp : t.clasp = s.clasp := by rw [e, e', h.pin_reacted.eq, h.reported.eq, h.frame_before]
  rw [e] at clasp ⊢
  conv => lhs; rw [h.framed.eq, clasp]

end

/-! ### With INT and FAULT_N alone -/

section
variable (h0 : reacts r 0 = false) (h2 : reacts r 2 = false) (h4 : reacts r 4 = false) (h5 : reacts r 5 = false)
include h0 h2 h4 h5

theorem quiet_steps : s1 = s ∧ s3 = s2 ∧ t = s4 := by
  obtain ⟨e, e'⟩ := h.calm h4 h5
  refine ⟨?_, ?_, e.trans e'⟩
  · rw [h.log, h0, Bool.false_and, State.whenDo_false]
  · rw [h.mgr, h2, Bool.false_and, State.whenDo_false]

theorem quiet_reacted : Reacted [F.FLT_PENDj_VAL (i / 32), F.FLT_STAT_HIGH, F.FLT_STAT_PIN, F.FLT_STAT_PULSE] [] s t ∧
    t.flt.lost = s.flt.lost ∧ t.log = s.log ∧ t.locket = s.locket := by
  obtain ⟨rfl, rfl, rfl⟩ := h.quiet_steps h0 h2 h4 h5
  refine ⟨(h.int_reacted.1.mono (by simp) (by simp)).trans (h.pin_reacted.mono (by simp) (by simp)),
    (h.calm_flt h4 h5).2, ?_, ?_⟩
  · rw [h.pin_kept.log, h.int_kept.log]
  · rw [h.pin_kept.locket, h.int_kept.locket]

end

end

end Reactions

/-! ## EVENT_TAKE -/

theorem runs_eventTake {P : State → Prop} (live : s.live) (e : s.eventTake = t) (hP : P t) : Runs .eventTake s P :=
  runs_effect (op := State.eventTake) live rfl e hP

/-- A state that differs from another one by an occurrence of a source that has been taken. -/
structure Taken (k i : Nat) (rest : List Occ) (s u : State) : Prop where
  fields : OnlyFields [F.FLT_PROMOj_VAL (i / 32), F.FLT_STAT_LASTIDX] s u
  last : u.fld F.FLT_STAT_LASTIDX = i
  promo : u.promoted i = (s.promoted i || s.promotes i)
  count : s.promoted i = false → s.fld (F.FLT_SRCi_N i) ≠ 0 → s.promotes i = false →
    Tab.num u.flt.count i = Tab.num s.flt.count i + 1
  frame : u = { s with
    regs := u.regs
    flt := { s.flt with
      pend := Tab.setLst s.flt.pend i rest
      ptr := Tab.setNum s.flt.ptr k (i + 1)
      count := u.flt.count } }

namespace Taken

variable {k : Nat} (h : Taken k i rest s u)
include h

theorem framed : Framed s u := by
  refine ⟨?_⟩
  rw [h.frame]
  rfl

/-- A field outside the registers of FLT_STAT and FLT_PROMO. -/
theorem fld_other (hg : g.ok) (stat : R.FLT_STAT ≠ g.addr) (promo : g.addr < 0x110140 ∨ 0x110400 ≤ g.addr)
    (hi : i < 192) : u.fld g = s.fld g := by
  refine h.fields g hg (List.forall_mem_cons.2 ⟨.inl ?_, List.forall_mem_singleton.2 (.inl stat)⟩)
  dsimp only [R.FLT_PROMOj]
  omega

theorem logSame (hi : i < 192) : LogSame s u := by
  refine ⟨?_, ?_, ?_, fun a ha ha' => State.reg_of_whole (h.fld_other whole_ok ?_ (.inr ?_) hi)⟩
  · rw [h.frame]
  · rw [h.frame]
  · rw [h.frame]
  · dsimp only [whole, R.FLT_STAT]
    omega
  · dsimp only [whole]
    omega

theorem fltPending (hi : i < 192) : u.fltPending i = s.fltPending i := by
  rw [State.fltPending, h.fld_other (Fld.ok_mk rfl) ?_ (.inl ?_) hi, State.fltPending]
  · dsimp only [R.FLT_STAT, R.FLT_PENDj]
    omega
  · dsimp only [R.FLT_PENDj]
    omega

theorem spn : u.spn = s.spn := by rw [h.frame]

theorem flt : u.flt.unsent = s.flt.unsent ∧ u.flt.lost = s.flt.lost ∧ Tab.num u.flt.ptr k = i + 1 ∧
    u.events i = rest ∧ ∀ j, j ≠ i → u.events j = s.events j := by
  have e : u.flt = { s.flt with
      pend := Tab.setLst s.flt.pend i rest
      ptr := Tab.setNum s.flt.ptr k (i + 1)
      count := u.flt.count } := by rw [h.frame]
  have events (j : Nat) : u.events j = Tab.lst (Tab.setLst s.flt.pend i rest) j := by rw [State.events, e]
  refine ⟨by rw [e], by rw [e], ?_, ?_, fun j hj => ?_⟩
  · rw [e]
    dsimp only
    exact Tab.num_setNum_same
  · rw [events, Tab.lst_setLst_same]
  · rw [events, Tab.lst_setLst_other hj, State.events]

theorem manager : u.manager = s.manager := by rw [h.frame, State.manager, State.manager]

theorem fld_low (hg : g.ok) (ha : g.addr < 0x110000) (hi : i < 192) : u.fld g = s.fld g := by
  refine h.fld_other hg ?_ (.inl (by omega)) hi
  dsimp only [R.FLT_STAT]
  omega

theorem shows_open (hi : i < 192) :
    (u.on F.SPN_STAT_ADDR_VALID && u.spnActive 0) = (s.on F.SPN_STAT_ADDR_VALID && s.spnActive 0) := by
  rw [State.on, State.spnActive, h.fld_low (by decide) (by decide) hi, h.fld_low (by decide) (by decide) hi, State.on,
    State.spnActive]

end Taken

/-- The states that EVENT_TAKE leads through, where it takes an occurrence. -/
theorem State.eventTake_reactions (hi : i < 192) (runs : s.hubRuns = true) (pend : s.events i = o :: rest)
    (top : ∀ j, j < 192 → s.events j ≠ [] → s.nextClass j ≤ s.nextClass i)
    (first : ∀ j, j < 192 → s.events j ≠ [] → s.nextClass j = s.nextClass i →
      First (Tab.num s.flt.ptr (3 - s.nextClass i)) i j) :
    ∃ u s1 s2 s3 s4 d s5, Taken (3 - s.nextClass i) i rest s u ∧
      Reactions i (s.nextClass i) (s.fld (F.FLT_REACTc_REACT (s.nextClass i))) s.time64 o
        (s.entryOf i (s.nextClass i) o (s.promoted i || s.promotes i) (Tab.on s.flt.lost i))
        u s1 s2 s3 s4 d s5 s.eventTake := by
  obtain ⟨fields, last, promo, count, frame⟩ := s.takeEvent_spec (k := 3 - s.nextClass i) (rest := rest) hi
  have taken : Taken (3 - s.nextClass i) i rest s (s.takeEvent (3 - s.nextClass i) i rest) :=
    ⟨fields, last, promo, count, frame⟩
  obtain ⟨s1, s2, s3, s4, d, s5, h⟩ := (s.takeEvent (3 - s.nextClass i) i rest).react_reactions i (s.nextClass i) o
    (s.promoted i || s.promotes i) (Tab.on s.flt.lost i)
  rw [← State.eventTake_eq runs pend hi top first] at h
  refine ⟨s.takeEvent (3 - s.nextClass i) i rest, s1, s2, s3, s4, d, s5, taken, ?_⟩
  generalize s.takeEvent (3 - s.nextClass i) i rest = u at taken h
  have three := s.nextClass_le (i := i)
  have time : u.time64 = s.time64 := by rw [State.time64, State.now, taken.spn, State.time64, State.now]
  have react : u.fld (F.FLT_REACTc_REACT (s.nextClass i)) = s.fld (F.FLT_REACTc_REACT (s.nextClass i)) := by
    refine taken.fld_other (Fld.ok_mk rfl) ?_ (.inl ?_) hi
    · dsimp only [R.FLT_STAT, R.FLT_REACTc]
      omega
    · dsimp only [R.FLT_REACTc]
      omega
  rw [react, time, State.entryOf, time] at h
  exact h

theorem promo_apart (hi : i < 192) (hf : f.addr < 0x110140 ∨ 0x110158 ≤ f.addr) :
    f.apart (F.FLT_PROMOj_VAL (i / 32)) := by
  refine .inl ?_
  dsimp only [R.FLT_PROMOj]
  omega

/-- No reaction moves PROMO. -/
theorem Reactions.promoted {r time : Nat} {e : LogEntry} {s1 s2 s3 s4 d s5 : State}
    (h : Reactions i c r time o e s s1 s2 s3 s4 d s5 t) (hi : i < 192) : t.promoted i = s.promoted i := by
  rw [State.promoted, State.promoted,
    h.fld_kept hi (Fld.ok_mk rfl) ?_ (.inr ?_) fun f hf => promo_apart hi (by revert f; decide)]
  · dsimp only [Fld.away, R.FLT_PROMOj, R.CLS_FAULT]
    omega
  · dsimp only [R.FLT_PROMOj]
    omega

/-- Settles O50: the collector takes the occurrence that R33 picks (`State.eventTake_reactions`), and each clause about
a reaction is a fact about the states that the reactions lead through (`Reactions`). -/
theorem eventTake_ReactsByClass : Obligations.EventTake_ReactsByClass := by
  intro s live
  refine ⟨fun idle => runs_eventTake live (State.eventTake_idle idle) rfl, fun i o rest runs pend top first => ?_⟩
  obtain ⟨u, s1, s2, s3, s4, d, s5, taken, h⟩ := State.eventTake_reactions i.isLt runs pend top first
  extract_lets r logs e rep word x g n
  change Reactions i (s.nextClass i) r s.time64 o e u s1 s2 s3 s4 d s5 s.eventTake at h
  have hi := i.isLt
  obtain ⟨unsent, lost, ptr, own, others⟩ := taken.flt
  have bit (n : Nat) : reacts r n = true ↔ r / 2 ^ n % 2 = 1 := reacts_iff
  have logs_iff : (reacts r 0 && i.val != 162) = true ↔ logs := by
    simp [logs, bit]
  have mgr_of (h2 : r / 4 % 2 = 1) (h59 : i.val ≠ 59) : (reacts r 2 && i.val != 59) = true := by
    simp [(bit 2).2 h2, h59]
  refine ⟨runs_eventTake live rfl ⟨?_, ?_, ?_, fun p n0 up => ?_, ?_, fun b => ?_, fun hl => ?_, fun hl => ?_, ?_, ?_,
    ?_, ?_⟩, fun land => ?_, fun land => ?_⟩
  · rw [h.ptr, ptr]
  · rw [h.fld_kept hi (by decide) (by decide) (by decide) (by decide), taken.last]
  · rw [h.promoted hi, taken.promo]
  · rw [h.count]
    exact taken.count p n0 up
  · rw [h.fltPending hi, taken.fltPending hi]
    rfl
  · exact h.faultN ((bit 3).2 b)
  · obtain ⟨locket, log, stat, seq⟩ := h.log_made hi (logs_iff.2 hl)
    have same := (taken.logSame hi).logEntry (e := e)
    rw [locket, log, stat, seq]
    exact ⟨same.locket, same.log, same.reg _ (by decide) (by decide), same.reg _ (by decide) (by decide)⟩
  · obtain ⟨locket, log⟩ := h.log_none hi (Bool.eq_false_iff.2 fun b => hl (logs_iff.1 b))
    rw [locket, log]
    exact ⟨(taken.logSame hi).locket, (taken.logSame hi).log⟩
  · intro h2 h59 mgr room
    rw [h.report_manager (mgr_of h2 h59) (taken.manager.trans mgr) (by rw [taken.spn]; exact room), taken.spn]
    rfl
  · intro h2 h59 mgr shut
    rw [h.report_unsent (mgr_of h2 h59) (taken.manager.trans mgr) ((taken.shows_open hi).trans shut), unsent]
  · exact fun b => h.claspFault ((bit 4).2 b)
  · exact fun b => (h.reset_acts ((bit 5).2 b)).of_same taken.framed.eq fun f hf quiet =>
      taken.fld_low hf (Fld.low_of_quiet quiet) hi
  · have no4 : reacts r 4 = false := reacts_of_land land (by decide)
    have no5 : reacts r 5 = false := reacts_of_land land (by decide)
    refine runs_eventTake live rfl ⟨?_, fun j hj h162 => ?_, fun j h162 => ?_, fun h2 h59 mgr active => ?_, ?_⟩
    · rw [h.calm_events no4 no5 (.inr rfl), own]
    · rw [h.calm_events no4 no5 (.inl h162), others j hj]
    · rw [h.calm_lost no4 no5 h162, lost, (taken.logSame hi).logTakes]
    · obtain ⟨spn, sent⟩ := h.report_sent (mgr_of h2 h59) (taken.manager.trans mgr) ((taken.shows_open hi).trans active)
      have addr : u.spnAddr = s.spnAddr := taken.fld_low (by decide) (by decide) hi
      obtain ⟨e5, e4⟩ := h.calm no4 no5
      rw [e5, e4, spn, addr]
      exact ⟨State.fltPass_congr taken.spn unsent, sent⟩
    · conv => lhs; rw [h.calm_frame no4 no5, taken.frame]
  · obtain ⟨reacted, marks, log, locket⟩ := h.quiet_reacted (reacts_of_land land (by decide))
      (reacts_of_land land (by decide)) (reacts_of_land land (by decide)) (reacts_of_land land (by decide))
    refine runs_eventTake live rfl ⟨fun j hj => ?_, ?_, ?_, ?_⟩
    · rw [reacted.events j nofun, others j hj]
    · rw [marks, lost]
    · exact onlyFields_trans (onlyFields_mono (by simp) taken.fields) (onlyFields_mono (by simp) reacted.fields)
    · conv => lhs; rw [reacted.eq, log, locket, taken.frame]

end Sys2Proof.Machine

end

section

/-!
# What commits and images copy into registers

The words that a snapshot, a REVERT and an image give registers, address by address (R56, R70, R105, R118).
-/

namespace Sys2Proof.Machine

variable {s t : State} {regs regs' snap : Tab Word} {r : RegRow} {f : FieldRow} {fs : List FieldRow} {a i : Nat}
  {w v : Word}

/-! ## Shadowed fields of a word -/

/-- A field of a row lies within a word. -/
abbrev FieldRow.ok (f : FieldRow) : Prop := f.lsb ≤ f.msb ∧ f.msb < 32

/-- Each field of the register table lies within its word. -/
theorem fieldRow_ok (hr : regRow? a = some r) (hf : f ∈ r.fields) : f.ok := by
  have rows : ∀ b < 20, ∀ r ∈ blockRows b, ∀ f ∈ r.fields, f.ok := by decide +kernel
  have row : r ∈ blockRows (a / 0x10000) := List.mem_of_find?_eq_some hr
  by_cases hb : a / 0x10000 < 20
  · exact rows _ hb r row f hf
  · obtain ⟨n, above⟩ := Nat.exists_eq_add_of_le' (Nat.le_of_not_lt hb)
    rw [above] at row
    cases row

/-- A bit of a word with its shadowed fields replaced is the other word's where a shadowed field covers it. -/
theorem testBit_copyShadow (ok : ∀ f ∈ fs, f.ok) : (copyShadow fs w v).toNat.testBit i =
    if ∃ f ∈ fs, f.shadow = true ∧ f.lsb ≤ i ∧ i ≤ f.msb then v.toNat.testBit i else w.toNat.testBit i := by
  induction fs generalizing w with
  | nil => simp [copyShadow]
  | cons f fs ih =>
    have step : copyShadow (f :: fs) w v =
        copyShadow fs (if f.shadow then putBits w f.msb f.lsb (bits f.msb f.lsb v.toNat) else w) v := rfl
    rw [step, ih fun g hg => ok g (.tail _ hg)]
    have okf : (⟨0, f.msb, f.lsb⟩ : Fld).ok := ok f (.head _)
    by_cases later : ∃ g ∈ fs, g.shadow = true ∧ g.lsb ≤ i ∧ i ≤ g.msb
    · rw [if_pos later, if_pos (by simpa using .inr later)]
    · rw [if_neg later]
      cases sh : f.shadow
      · rw [if_neg Bool.false_ne_true, if_neg (by simpa [sh] using later)]
      · rw [if_pos rfl, putBits, Fld.testBit_put okf, testBit_bits]
        by_cases own : f.lsb ≤ i ∧ i ≤ f.msb
        · have inside : i - f.lsb < f.msb + 1 - f.lsb := by omega
          rw [if_pos own, if_pos ⟨f, .head _, sh, own⟩, decide_eq_true inside, Bool.true_and,
            Nat.add_sub_cancel' own.1]
        · rw [if_neg own, if_neg (by simpa [sh, own] using later)]

/-- A shadowed field takes the other word's value. -/
theorem bits_copyShadow (ok : ∀ f ∈ fs, f.ok) (hf : f ∈ fs) (sh : f.shadow = true) :
    bits f.msb f.lsb (copyShadow fs w v).toNat = bits f.msb f.lsb v.toNat := by
  refine Nat.eq_of_testBit_eq fun i => ?_
  rw [testBit_bits, testBit_bits]
  by_cases inside : i < f.msb + 1 - f.lsb
  · rw [testBit_copyShadow ok, if_pos ⟨f, hf, sh, by omega, by omega⟩]
  · rw [decide_eq_false inside, Bool.false_and, Bool.false_and]

/-- A word takes its own shadowed fields. -/
theorem copyShadow_self (ok : ∀ f ∈ fs, f.ok) : copyShadow fs w w = w :=
  BitVec.eq_of_toNat_eq (Nat.eq_of_testBit_eq fun i => by rw [testBit_copyShadow ok, ite_self])

/-- A word without shadowed fields takes nothing. -/
theorem copyShadow_plain (ok : ∀ f ∈ fs, f.ok) (plain : fs.any (·.shadow) = false) : copyShadow fs w v = w := by
  refine BitVec.eq_of_toNat_eq (Nat.eq_of_testBit_eq fun i => ?_)
  rw [testBit_copyShadow ok, if_neg]
  rintro ⟨f, hf, sh, -⟩
  exact List.any_eq_false.1 plain f hf sh

/-! ## Registers with a snapshot copied in -/

theorem Tab.get_of_not_mem {α : Type} {d : Nat → α} {t : Tab α} (h : a ∉ t.map Prod.fst) : Tab.get d t a = d a := by
  induction t with
  | nil => rfl
  | cons x t ih =>
    rw [List.map_cons, List.mem_cons, not_or] at h
    rw [Tab.get, if_neg (Ne.symm h.1), ih h.2]

theorem not_mem_keysOf (h : a ∉ keysOf regs snap) : a ∉ regs.map Prod.fst ∧ a ∉ snap.map Prod.fst := by
  rw [keysOf, List.mem_append, not_or] at h
  refine ⟨h.1, fun hs => h.2 (List.mem_filter.2 ⟨hs, ?_⟩)⟩
  simpa using h.1

/-- A word that neither table lists is the reset word in both. -/
theorem get_of_not_mem_keysOf (h : a ∉ keysOf regs snap) :
    Tab.get resetWord regs a = resetWord a ∧ Tab.get resetWord snap a = resetWord a :=
  ⟨Tab.get_of_not_mem (not_mem_keysOf h).1, Tab.get_of_not_mem (not_mem_keysOf h).2⟩

/-- What a snapshot puts into the register at one address. -/
def putShadow (regs snap t : Tab Word) (a : Nat) : Tab Word :=
  match regRow? a with
  | none => t
  | some row => Tab.put resetWord t a (copyShadow row.fields (Tab.get resetWord regs a) (Tab.get resetWord snap a))

theorem get_putShadow_other {t : Tab Word} {b : Nat} (h : a ≠ b) :
    Tab.get resetWord (putShadow regs snap t b) a = Tab.get resetWord t a := by
  unfold putShadow
  split
  · rfl
  · exact Tab.get_put_other h

theorem get_putShadow_same {t : Tab Word} (hr : regRow? a = some r) : Tab.get resetWord (putShadow regs snap t a) a =
    copyShadow r.fields (Tab.get resetWord regs a) (Tab.get resetWord snap a) := by
  rw [putShadow, hr]
  exact Tab.get_put_same

theorem get_putShadow_none {t : Tab Word} (hr : regRow? a = none) : putShadow regs snap t a = t := by
  rw [putShadow, hr]

theorem get_foldl_putShadow {l : List Nat} {t : Tab Word} (hr : regRow? a = some r) :
    Tab.get resetWord (l.foldl (putShadow regs snap) t) a =
      if a ∈ l then copyShadow r.fields (Tab.get resetWord regs a) (Tab.get resetWord snap a)
      else Tab.get resetWord t a := by
  induction l generalizing t with
  | nil => rfl
  | cons b l ih =>
    rw [List.foldl_cons, ih]
    by_cases later : a ∈ l
    · rw [if_pos later, if_pos (.tail _ later)]
    · rw [if_neg later]
      by_cases own : a = b
      · subst own
        rw [if_pos (.head _), get_putShadow_same hr]
      · rw [if_neg (by simp [own, later]), get_putShadow_other own]

/-- A register with a snapshot's shadowed fields. -/
theorem get_withShadows (hr : regRow? a = some r) : Tab.get resetWord (withShadows regs snap) a =
    copyShadow r.fields (Tab.get resetWord regs a) (Tab.get resetWord snap a) := by
  refine (get_foldl_putShadow hr).trans ?_
  split
  · rfl
  next none =>
    obtain ⟨old, new⟩ := get_of_not_mem_keysOf none
    rw [old, new, copyShadow_self fun f hf => fieldRow_ok hr hf]

/-- Each shadowed field has the snapshot's value. -/
theorem bits_withShadows (hr : regRow? a = some r) (hf : f ∈ r.fields) (sh : f.shadow = true) :
    bits f.msb f.lsb (Tab.get resetWord (withShadows regs snap) a).toNat =
      bits f.msb f.lsb (Tab.get resetWord snap a).toNat := by
  rw [get_withShadows hr, bits_copyShadow (fun f hf => fieldRow_ok hr hf) hf sh]

/-- Whether the register at an address has a shadowed field (R442). -/
def shadowed (a : Nat) : Bool := (regRow? a).any fun r => r.fields.any (·.shadow)

theorem shadowed_of_field (hr : regRow? a = some r) (hf : f ∈ r.fields) (sh : f.shadow = true) : shadowed a = true := by
  rw [shadowed, hr]
  exact List.any_eq_true.2 ⟨f, hf, sh⟩

/-- A register without shadowed fields is as before. -/
theorem get_withShadows_plain (h : shadowed a = false) :
    Tab.get resetWord (withShadows regs snap) a = Tab.get resetWord regs a := by
  cases hr : regRow? a with
  | some r =>
    rw [shadowed, hr] at h
    rw [get_withShadows hr, copyShadow_plain (fun f hf => fieldRow_ok hr hf) h]
  | none =>
    refine foldl_keeps (P := fun t => Tab.get resetWord t a = Tab.get resetWord regs a) rfl fun {t b} ht => ?_
    by_cases own : a = b
    · subst own
      exact (congrArg (Tab.get resetWord · a) (get_putShadow_none hr)).trans ht
    · exact (get_putShadow_other own).trans ht

/-! ## Admitted fields (R70) -/

/-- A snapshot changes an admitted field where one of some register differs, listed or not. -/
theorem changesAdmitted_iff : changesAdmitted regs snap = true ↔ ∃ a r f, regRow? a = some r ∧ f ∈ r.fields ∧
    (f.shadow && f.adm) = true ∧
    bits f.msb f.lsb (Tab.get resetWord regs a).toNat ≠ bits f.msb f.lsb (Tab.get resetWord snap a).toNat := by
  unfold changesAdmitted
  rw [List.any_eq_true]
  constructor
  · rintro ⟨a, -, h⟩
    cases hr : regRow? a with
    | none =>
      rw [hr] at h
      cases h
    | some r =>
      rw [hr] at h
      obtain ⟨f, hf, h⟩ := List.any_eq_true.1 h
      rw [Bool.and_eq_true, bne_iff_ne] at h
      exact ⟨a, r, f, hr, hf, h.1, h.2⟩
  · rintro ⟨a, r, f, hr, hf, adm, ne⟩
    refine ⟨a, ?_, ?_⟩
    · by_contra none
      obtain ⟨old, new⟩ := get_of_not_mem_keysOf none
      exact ne (by rw [old, new])
    · rw [hr]
      exact List.any_eq_true.2 ⟨f, hf, Bool.and_eq_true_iff.2 ⟨adm, bne_iff_ne.2 ne⟩⟩

/-- Only registers with shadowed fields matter. -/
theorem changesAdmitted_congr (h : ∀ a, shadowed a = true → Tab.get resetWord regs' a = Tab.get resetWord regs a) :
    changesAdmitted regs' snap = changesAdmitted regs snap := by
  rw [Bool.eq_iff_iff, changesAdmitted_iff, changesAdmitted_iff]
  have same {a r f} (hr : regRow? a = some r) (hf : f ∈ r.fields) (adm : (f.shadow && f.adm) = true) :
      Tab.get resetWord regs' a = Tab.get resetWord regs a :=
    h a (shadowed_of_field hr hf (Bool.and_eq_true_iff.1 adm).1)
  constructor
  · rintro ⟨a, r, f, hr, hf, adm, ne⟩
    exact ⟨a, r, f, hr, hf, adm, same hr hf adm ▸ ne⟩
  · rintro ⟨a, r, f, hr, hf, adm, ne⟩
    exact ⟨a, r, f, hr, hf, adm, (same hr hf adm).symm ▸ ne⟩

end Sys2Proof.Machine

end

section

/-!
# Changes aside of the loader

What the loader, its commits and the registers that they copy keep, whatever the blocks do that a commit, an image or a
read of the staging area sets to work. The lemmas about `Aside` follow the model's operations in order, as those about
`State.Inv` do.
-/

namespace Sys2Proof.Machine

variable {s t : State} {f : Fld} {a i n p : Nat}

/-! ## The registers that stay -/

/-- The registers of commits and of the loader, those with shadowed fields, and the event sources. -/
def loaderReg (a : Nat) : Bool :=
  shadowed a || a / 0x10000 == 4 || (decide (0x110400 ≤ a) && decide (a < 0x110800)) || a == R.TIM_COMMIT

/-- The events of the loader. -/
abbrev loaderEvents : List Nat := [7, 19, 20, 21]

theorem not_loaderEvent (h : 21 < i) : i ∉ loaderEvents := by
  simp only [List.mem_cons, List.not_mem_nil, or_false]
  omega

/-- The registers of the loader, of its events and of COMMIT are among these. -/
theorem loaderReg_own
    (h : (a / 0x10000 == 4 || (decide (0x110400 ≤ a) && decide (a < 0x110800)) || a == R.TIM_COMMIT) = true) :
    loaderReg a = true := by
  rw [loaderReg, Bool.or_assoc, Bool.or_assoc, ← Bool.or_assoc (a / 0x10000 == 4), h, Bool.or_true]

/-- A block without shadowed fields, other than the loader's and the fault collector's. -/
abbrev plainBlocks : List Nat := [2, 3, 6, 7, 12, 13, 14, 15, 16]

theorem loaderReg_plain (h : a / 0x10000 ∈ plainBlocks) : loaderReg a = false := by
  have rows : ∀ b ∈ plainBlocks, ∀ r ∈ blockRows b, r.fields.any (·.shadow) = false := by decide +kernel
  have plain : shadowed a = false := by
    cases hr : regRow? a with
    | none => rw [shadowed, hr, Option.any_none]
    | some r => rw [shadowed, hr, Option.any_some, rows _ h r (List.mem_of_find?_eq_some hr)]
  have other : a / 0x10000 ≠ 4 ∧ a / 0x10000 ≠ 17 ∧ a / 0x10000 ≠ 10 := by
    generalize a / 0x10000 = b at h
    revert b
    decide
  have commit : a ≠ R.TIM_COMMIT := by
    rintro rfl
    exact other.2.2 rfl
  have source : ¬ (0x110400 ≤ a ∧ a < 0x110800) := by omega
  rw [loaderReg, plain, beq_eq_false_iff_ne.2 other.1, beq_eq_false_iff_ne.2 commit, ← Bool.decide_and,
    decide_eq_false source]
  rfl

/-- Status registers that hardware sets in the blocks with shadowed fields, and that of the fault collector. -/
def statusRegs : List Nat :=
  [R.FLT_STAT, R.CLK_STAT, R.CLK_GSTAT, R.LNK_STAT, R.COR_ZM_STAT, R.COR_ZM_PROBE_T, R.COR_ZM_PROBE_G0, R.COR_ZM_PROBE_G1,
    R.TIM_STAT, R.TIM_FRAME, R.TIM_GSTAT, R.TIM_GPER, R.TIM_SSTAT, R.TIM_FZSTAT, R.TIM_DERIVED, R.CHN_STAT, R.CHN_DCLK] ++
  (List.range 4).flatMap (fun k =>
    [R.COR_Fk_GSTAT k, R.COR_Fk_GATT k, R.LAY_Fk_WBSTAT k, R.LAY_x_HSTEP k, R.LAY_x_VSTEP k, R.LAY_x_STAT k]) ++
  (List.range 8).flatMap (fun p => [R.LNK_Px_STAT p, R.LAY_Wm_STAT p]) ++ (List.range 64).map R.CHN_Cnn_CFG

theorem loaderReg_status : ∀ a ∈ statusRegs, loaderReg a = false := by decide +kernel

/-- A register that stays aside of the loader. -/
abbrev asideReg (a : Nat) : Prop := a / 0x10000 ∈ plainBlocks ∨ a ∈ statusRegs

theorem loaderReg_aside (h : asideReg a) : loaderReg a = false := h.elim loaderReg_plain (loaderReg_status a)

/-- A field of such a register, and not the commit window. -/
abbrev Fld.aside (f : Fld) : Prop := asideReg f.addr ∧ f.ok ∧ f.apart F.TIM_STAT_WINDOW

/-- A field of a plain block. -/
theorem Fld.aside_plain (h : f.addr / 0x10000 ∈ plainBlocks) (ok : f.ok) : f.aside := by
  refine ⟨.inl h, ok, .inl fun e => ?_⟩
  rw [e] at h
  revert h
  decide

/-- A field of a status register other than that of the commit window. -/
theorem Fld.aside_status {m l : Nat} (h : a ∈ statusRegs ∧ a ≠ R.TIM_STAT)
    (ok : (⟨0, m, l⟩ : Fld).ok) : (⟨a, m, l⟩ : Fld).aside :=
  ⟨.inr h.1, ok, .inl h.2⟩

/-! ## Nothing of the loader differs -/

/-- The loader, the shadows, the tables, the configuration, the registers that commits and images write or read, the
commit window and the loader's events are the same. -/
structure Aside (s t : State) : Prop where
  ldr : t.ldr = s.ldr
  shad : t.shad = s.shad
  tabs : t.tabs = s.tabs
  conf : t.conf = s.conf
  reg : ∀ a, loaderReg a = true → t.reg a = s.reg a
  window : t.fld F.TIM_STAT_WINDOW = s.fld F.TIM_STAT_WINDOW
  events : ∀ i ∈ loaderEvents, t.events i = s.events i

namespace Aside

theorem refl (s : State) : Aside s s := ⟨rfl, rfl, rfl, rfl, fun _ _ => rfl, rfl, fun _ _ => rfl⟩

/-- A change of the parts that do not belong to the loader. -/
theorem frame {pending inReset freeCtr log host flash chk mem locket strait pix cor tim chn diag pmb clasp lnk spn clk pwr
    therm adc cal} (h : Aside s t) : Aside s
    { t with pending, inReset, freeCtr, log, host, flash, chk, mem, locket, strait, pix, cor, tim, chn, diag, pmb, clasp,
             lnk, spn, clk, pwr, therm, adc, cal } :=
  ⟨h.ldr, h.shad, h.tabs, h.conf, h.reg, h.window, h.events⟩

theorem ite {c : Prop} {_ : Decidable c} (ht : Aside s t) (hu : Aside s u) : Aside s (if c then t else u) :=
  ite_keeps ht hu

theorem ite_fst {α : Type} {c : Prop} {_ : Decidable c} {p q : State × α} (hp : Aside s p.1) (hq : Aside s q.1) :
    Aside s (if c then p else q).1 := by
  split
  · exact hp
  · exact hq

/-- The state that an operation answers beside a value. -/
theorem of_eq {α : Type} {p : State × α} {a : α} (h : Aside s p.1) (e : p = (t, a)) : Aside s t := by
  rw [e] at h
  exact h

theorem each {α : Type} {l : List α} {op : State → α → State} (h : Aside s t)
    (hop : ∀ {u a}, Aside s u → Aside s (op u a)) : Aside s (t.each l op) :=
  State.each_keeps h fun _ _ _ => hop

/-- A run over indices of which something is known. -/
theorem eachOf {α : Type} {l : List α} {op : State → α → State} (h : Aside s t)
    (hop : ∀ {u a}, a ∈ l → Aside s u → Aside s (op u a)) : Aside s (t.each l op) :=
  State.each_keeps h fun _ _ ha => hop ha

theorem eachBelow {n : Nat} {op : State → Nat → State} (h : Aside s t)
    (hop : ∀ {u a}, a < n → Aside s u → Aside s (op u a)) : Aside s (t.each (List.range n) op) :=
  h.eachOf fun ha => hop (List.mem_range.1 ha)

theorem whenDo {b : Bool} {op : State → State} (h : Aside s t) (hop : ∀ {u}, Aside s u → Aside s (op u)) :
    Aside s (t.whenDo b op) :=
  State.whenDo_keeps h fun _ => hop

theorem setFld {v : Nat} (h : Aside s t) (hf : f.aside) : Aside s (t.setFld f v) := by
  obtain ⟨reg, ok, apart⟩ := hf
  have other := loaderReg_aside reg
  refine ⟨h.ldr, h.shad, h.tabs, h.conf, fun a ha => (State.reg_setReg_other fun e => ?_).trans (h.reg a ha),
    (State.fld_setFld_apart ok apart).trans h.window, h.events⟩
  rw [e, other] at ha
  cases ha

theorem setOn {b : Bool} (h : Aside s t) (hf : f.aside) : Aside s (t.setOn f b) := h.setFld hf

theorem setBit {b : Bool} (h : Aside s t) (hf : f.aside) : Aside s (t.setBit f i b) := h.setFld hf

theorem addSat (h : Aside s t) (hf : f.aside) : Aside s (t.addSat f n) := h.setFld hf

theorem incSat (h : Aside s t) (hf : f.aside) : Aside s (t.incSat f) := h.setFld hf

theorem setReg {w : Word} (h : Aside s t) (hf : (whole a).aside) : Aside s (t.setReg a w) := by
  obtain ⟨reg, ok, apart⟩ := hf
  have other : loaderReg a = false := loaderReg_aside reg
  refine ⟨h.ldr, h.shad, h.tabs, h.conf, fun b hb => (State.reg_setReg_other fun e => ?_).trans (h.reg b hb),
    (onlyFields_setReg _ (by decide) (List.forall_mem_singleton.2 apart)).trans h.window, h.events⟩
  rw [e, other] at hb
  cases hb

/-- An event that is none of the loader's. -/
theorem raise (h : Aside s t) (hi : i ∉ loaderEvents) : Aside s (t.raise i n) := by
  have events (j) (hj : j ∈ loaderEvents) : (t.raise i n).events j = s.events j :=
    (State.events_raiseWith_other fun e : j = i => hi (e ▸ hj)).trans (h.events j hj)
  have source : (∀ a, loaderReg a = true → (t.raise i n).reg a = s.reg a) ∧
      (t.raise i n).fld F.TIM_STAT_WINDOW = s.fld F.TIM_STAT_WINDOW := by
    refine ⟨fun a ha => Eq.trans (State.reg_of_whole ?_) (h.reg a ha),
      (State.fld_raise (by decide) (by decide)).trans h.window⟩
    refine State.fld_raise whole_ok (.inl fun e => ?_)
    rw [show a = R.FLT_STAT from e.symm, loaderReg_status R.FLT_STAT (by decide)] at ha
    cases ha
  have frame := (t.raise_spec i n).2.2
  generalize t.raise i n = v at *
  exact ⟨by rw [frame]; exact h.ldr, by rw [frame]; exact h.shad, by rw [frame]; exact h.tabs,
    by rw [frame]; exact h.conf, source.1, source.2, events⟩

/-! ### Check units -/

/-- A field of a check unit. -/
theorem chkFld {m l : Nat} (hn : n < 8) (h : (0x100000 ≤ a ∧ a < 0x100040) ∧ (⟨0, m, l⟩ : Fld).ok) :
    (⟨a + 0x40 * n, m, l⟩ : Fld).aside := by
  obtain ⟨ha, ok⟩ := h
  have block : (a + 0x40 * n) / 0x10000 = 16 := by omega
  exact Fld.aside_plain (by rw [block]; decide) ok

section
variable (hn : n < 8)
include hn

theorem chkSync (h : Aside s t) : Aside s (t.chkSync n) := h.setReg (chkFld hn (by decide))

theorem chkDone (h : Aside s t) : Aside s (t.chkDone n) := by
  have done {i r : Nat} (hi : i ∉ loaderEvents) :
      Aside s (((t.setOn (F.CHKn_STAT_DONE n) true).incSat (F.CHKn_STAT_DONES n)).raise i r) :=
    ((h.setOn (chkFld hn (by decide))).incSat (chkFld hn (by decide))).raise hi
  exact (done (not_loaderEvent (by omega))).whenDo fun h =>
    (h.setOn (chkFld hn (by decide))).raise (not_loaderEvent (by omega))

theorem chkInit (h : Aside s t) : Aside s (t.chkInit n) := (h.setReg (chkFld hn (by decide))).chkSync hn

theorem chkIdle (h : Aside s t) : Aside s (t.chkIdle n) := h.frame.setOn (chkFld hn (by decide))

theorem chkFeed {bytes : List Byte} (h : Aside s t) : Aside s (t.chkFeed n bytes) := by
  unfold State.chkFeed
  extract_lets len b s1 s2
  have h1 : Aside s s1 := (h.setReg (chkFld hn (by decide))).chkSync hn
  have h2 : Aside s s2 := h1.setFld (chkFld hn (by decide))
  exact .ite ((h.setReg (chkFld hn (by decide))).chkSync hn) (.ite ((h2.chkIdle hn).chkDone hn) h2)

end

theorem snoop {stream : Nat} {bytes : List Byte} (h : Aside s t) : Aside s (t.snoop stream bytes) :=
  h.eachBelow fun hn h => .ite (h.chkFeed hn) h

theorem snoopBoundary {stream : Nat} (h : Aside s t) : Aside s (t.snoopBoundary stream) :=
  h.eachBelow fun hn h => .ite (.ite h.frame (.ite (((h.setReg (chkFld hn (by decide))).chkDone hn).chkInit hn) h)) h

/-! ### The frame memory -/

section
variable {q line rank flat : Nat}

theorem outOfRange (h : Aside s t) : Aside s (t.outOfRange q) := (h.incSat (by decide)).raise (by decide)

theorem migStart (h : Aside s t) : Aside s (t.migStart rank) :=
  (((h.setFld (by decide)).setFld (by decide)).setFld (by decide)).raise (by decide)

theorem memFinding (h : Aside s t) : Aside s (t.memFinding rank) := by
  unfold State.memFinding
  refine .ite ?_ h
  split
  · exact .ite h.migStart ((h.setFld (by decide)).raise (by decide))
  · exact .ite h (h.raise (by decide))
  · exact (h.setFld (by decide)).raise (by decide)
  · exact h

/-- A field of a rank. -/
theorem rankFld {m l : Nat} (hr : rank < 0x800) (h : (0x70000 ≤ a ∧ a < 0x70100) ∧ (⟨0, m, l⟩ : Fld).ok) :
    (⟨a + 0x10 * rank, m, l⟩ : Fld).aside := by
  obtain ⟨ha, ok⟩ := h
  refine Fld.aside_plain ?_ ok
  dsimp only
  have block : (a + 0x10 * rank) / 0x10000 = 7 := by omega
  rw [block]
  decide

theorem countCE (h : Aside s t) (hr : rank < 0x800) : Aside s (t.countCE rank) := by
  unfold State.countCE
  extract_lets s1 n _ s2 _
  have h1 : Aside s s1 := h.incSat (rankFld hr (by decide))
  have h2 : Aside s s2 := h1.frame
  exact .ite (.memFinding (.raise h2.frame (not_loaderEvent (by omega)))) h2

theorem countUE (h : Aside s t) (hr : line / 2 ^ 25 < 0x800) : Aside s (t.countUE line) := by
  have counted {i r a : Nat} (hi : i ∉ loaderEvents) :
      Aside s ((((t.incSat (F.MEM_RKj_ERR_UE (line / 2 ^ 25))).setFld (F.MEM_RKj_LAST_ADDR (line / 2 ^ 25)) a).setOn
        (F.MEM_RKj_LAST_VALID (line / 2 ^ 25)) true).raise i r) :=
    (((h.incSat (rankFld hr (by decide))).setFld (rankFld hr (by decide))).setOn (rankFld hr (by decide))).raise hi
  exact (counted (not_loaderEvent (by omega))).memFinding

theorem handleRead {c : LineClass × List Byte} {o : Bool} (h : Aside s t) (hr : line / 2 ^ 25 < 0x800) :
    Aside s (t.handleRead line c o).1 := by
  unfold State.handleRead
  split
  · exact h
  · exact .countCE (.ite h h.frame) hr
  · exact h.incSat (rankFld hr (by decide))
  · exact .countUE (.ite h.frame h.frame) hr

theorem activate (h : Aside s t) : Aside s (t.activate q line) := by
  unfold State.activate
  extract_lets b row c _
  split
  · extract_lets s1 limit _ _ s2 s3 s4 s5
    have h1 : Aside s s1 := h.frame
    have h2 : Aside s s2 := h1.frame
    have h3 : Aside s s3 := (((h2.setFld (by decide)).setFld (by decide)).setFld (by decide)).setFld (by decide)
    have h4 : Aside s s4 := h3.incSat (by decide)
    have h5 : Aside s s5 := h4.setFld (by decide)
    exact .ite (h5.raise (by decide)) h1

theorem touchLine {w : Bool} (h : Aside s t) : Aside s (t.touchLine q line w) := by
  unfold State.touchLine
  extract_lets l key out s1 s2
  have h1 : Aside s s1 := by
    unfold s1
    clear_value out
    split
    · exact h.whenDo (·.activate)
    · exact h
  exact (h1.whenDo (·.activate)).frame

theorem putLine {data : List Byte} {poisoned : Bool} {e : ReadNoise} (h : Aside s t) :
    Aside s (t.putLine line data poisoned e) := by
  unfold State.putLine
  dsimp only
  split
  · exact h.frame
  · split
    · exact h
    · exact h.frame

theorem reserve (h : Aside s t) : Aside s (t.reserve q line) := .ite h.frame h

theorem awaitThrottle (h : Aside s t) : Aside s (t.awaitThrottle q line) := .reserve (.ite h.frame h)

theorem dramRead (h : Aside s t) (hr : line / 2 ^ 25 < 0x800) : Aside s (t.dramRead q line).1 := h.touchLine.handleRead hr

theorem dramWrite {bytes : List (Option Byte)} {r w : ReadNoise} (h : Aside s t) (hr : line / 2 ^ 25 < 0x800) :
    Aside s (t.dramWrite q line bytes r w) :=
  .ite h.touchLine.putLine (h.touchLine.handleRead hr).putLine

/-- Every line of the flat space lies in one of a few ranks. -/
theorem lineOf_rank (h : flat < t.flatTop) : t.lineOf flat / 2 ^ 25 < 0x800 := by
  have positions : t.positions ≤ 4 := by
    unfold State.positions
    split
    · exact Nat.zero_le 4
    · exact (List.length_filter_le _ _).trans_eq List.length_range
  have density : 2 ^ t.fld F.MEM_CFG_DENS ≤ 2 ^ 3 := Nat.pow_le_pow_right (by decide) State.fld_le_max
  have cap : t.rankCap ≤ 2 ^ 32 := by
    unfold State.rankCap
    omega
  have top : t.flatTop ≤ 4 * 2 ^ 32 := Nat.mul_le_mul positions cap
  have offset : (t.flatPos flat).2 ≤ flat := by
    unfold State.flatPos
    dsimp only
    split
    · omega
    · split
      · omega
      · exact Nat.sub_le _ _
  have rank (p o : Nat) : t.lineRank (t.posRank p) o < 8 := by
    unfold State.lineRank
    split
    · exact (State.fld_le_max (f := F.MEM_STAT_SPARE)).trans_lt (by decide)
    · exact Nat.mod_lt _ (by decide)
  have line : t.lineOf flat = t.lineRank (t.posRank (t.flatPos flat).1) ((t.flatPos flat).2 / 64) * 2 ^ 25 +
      (t.flatPos flat).2 / 64 := rfl
  have := rank (t.flatPos flat).1 ((t.flatPos flat).2 / 64)
  rw [line]
  omega

theorem lineRead (h : Aside s t) : Aside s (t.lineRead q flat).1 := by
  unfold State.lineRead
  split
  · exact h.outOfRange
  next below =>
    extract_lets line posted
    refine .ite_fst h ?_
    split
    next e => exact (h.awaitThrottle.dramRead (lineOf_rank (Nat.lt_of_not_le below))).of_eq e

theorem readEach {l : List Nat} (h : Aside s t) : Aside s (t.readEach q l).1 := by
  induction l generalizing t with
  | nil => exact h
  | cons x l ih =>
    show Aside s ((t.lineRead q x).1.readEach q l).1
    exact ih h.lineRead

theorem readLines {a n : Nat} (h : Aside s t) : Aside s (t.readLines q a n).1 := h.readEach

theorem lineStore {bytes : List (Option Byte)} (h : Aside s t) : Aside s (t.lineStore q flat bytes) := by
  refine .ite (.ite (.ite h.frame h) h.frame) ?_
  by_cases above : t.flatTop ≤ flat
  · rw [if_pos above]
    exact h.outOfRange
  · rw [if_neg above]
    exact .ite h.frame (h.awaitThrottle.frame.dramWrite (lineOf_rank (Nat.lt_of_not_le above)))

theorem writeFlat {bytes : List Byte} (h : Aside s t) : Aside s (t.writeFlat q flat bytes) := h.each (·.lineStore)

end

end Aside

end Sys2Proof.Machine

end

section

/-!
# Blocks that a commit or an image sets to work

What the chain ports, the pixel path, the links, the zone model, the clocks and Clasp leave of the loader.
-/

namespace Sys2Proof.Machine

namespace Aside

variable {s t : State} {k n p a : Nat}

/-! ## Chain ports -/

theorem sendFrame {w payload : Nat} {complete : Bool} (h : Aside s t) : Aside s (t.sendFrame p w payload complete) :=
  .ite h h.frame

theorem queueFrames {l : List Frame} (h : Aside s t) : Aside s (t.queueFrames p l) := .ite h h.frame

theorem blankSync (h : Aside s t) : Aside s t.blankSync :=
  .ite ((h.setOn (by decide)).setOn (by decide)) (((h.setOn (by decide)).setOn (by decide)).frame.setFld (by decide))

theorem holdLoops (h : Aside s t) : Aside s t.holdLoops := h.each (·.frame)

theorem blankOn {bit : Nat} (h : Aside s t) : Aside s (t.blankOn bit) := by
  unfold State.blankOn
  extract_lets v s1
  have h1 : Aside s s1 := h.setFld (by decide)
  exact .ite h (.holdLoops (.blankSync (h1.each (·.sendFrame))))

theorem blankOff {bit : Nat} (h : Aside s t) : Aside s (t.blankOff bit) := by
  unfold State.blankOff
  extract_lets v s1
  have h1 : Aside s s1 := h.setFld (by decide)
  exact .ite h (.blankSync (h1.each fun h => .ite h.sendFrame h))

theorem bringUp (h : Aside s t) : Aside s (t.bringUp p) := by
  refine .ite h ?_
  extract_lets t fs s1 x _ s2
  have h1 : Aside s s1 := h.each (·.sendFrame)
  have h2 : Aside s s2 := h1.frame
  exact h2.frame

theorem bringUpAll (h : Aside s t) : Aside s t.bringUpAll := h.frame.blankOn.each (·.bringUp)

theorem bringUpDue (h : Aside s t) : Aside s t.bringUpDue := .ite h.frame.bringUpAll h

theorem bringUpAsk {startUp : Bool} (h : Aside s t) : Aside s (t.bringUpAsk startUp) :=
  .ite h.frame.blankOn.bringUpDue h.bringUpAll

theorem curAll {urgent : Bool} (h : Aside s t) : Aside s (t.curAll urgent) := h.each (·.queueFrames)

/-! ## The pixel path and the flash guard -/

theorem allDrop (h : Aside s t) : Aside s t.allDrop := .frame (h.each fun h => h.frame.each (·.frame))

theorem slotFld : ∀ m < 8, (F.LAY_Wm_STAT_NONE m).aside := by decide

theorem slotEnabled {m : Nat} (h : Aside s t) (hm : m < 8) : Aside s (t.slotEnabled m) := h.frame.setOn (slotFld m hm)

/-- The registers of the flash guard, of the attenuation and of the writeback of a feed. -/
theorem feedReg : ∀ k < 4, (R.COR_Fk_GSTAT k ∈ statusRegs ∧ R.COR_Fk_GSTAT k ≠ R.TIM_STAT) ∧
    (R.COR_Fk_GATT k ∈ statusRegs ∧ R.COR_Fk_GATT k ≠ R.TIM_STAT) ∧
    (R.LAY_Fk_WBSTAT k ∈ statusRegs ∧ R.LAY_Fk_WBSTAT k ≠ R.TIM_STAT) := by
  decide

theorem guardModeSet {old : Nat} (h : Aside s t) (hk : k < 4) : Aside s (t.guardModeSet k old) := by
  have state : (F.COR_Fk_GSTAT_STATE k).aside := Fld.aside_status (feedReg k hk).1 (by decide)
  have rise : (F.COR_Fk_GSTAT_NR k).aside := Fld.aside_status (feedReg k hk).1 (by decide)
  have fall : (F.COR_Fk_GSTAT_NL k).aside := Fld.aside_status (feedReg k hk).1 (by decide)
  exact .ite (.ite (((h.frame.setFld fall).setFld rise).setFld state).frame h) (.ite (h.setFld state).frame h)

/-- The registers of the scaler of a layer. -/
theorem layerReg : ∀ n < 4, (R.LAY_x_HSTEP n ∈ statusRegs ∧ R.LAY_x_HSTEP n ≠ R.TIM_STAT) ∧
    (R.LAY_x_VSTEP n ∈ statusRegs ∧ R.LAY_x_VSTEP n ≠ R.TIM_STAT) ∧
    (R.LAY_x_STAT n ∈ statusRegs ∧ R.LAY_x_STAT n ≠ R.TIM_STAT) := by
  decide

theorem putStep {f : Fld} {raw v : Nat} (h : Aside s t) (hn : n < 4) (hf : f.aside) : Aside s (t.putStep n f raw v) :=
  .ite h (.ite (h.setFld hf) (((h.setFld hf).setOn (Fld.aside_status (layerReg n hn).2.2 (by decide))).raise (by decide)))

theorem scaleSteps (h : Aside s t) : Aside s t.scaleSteps :=
  h.eachBelow fun hn h => (h.putStep hn (Fld.aside_status (layerReg _ hn).1 (by decide))).putStep hn
    (Fld.aside_status (layerReg _ hn).2.1 (by decide))

/-! ## Links -/

/-- A field of the status of a Weandi port. -/
theorem weandiFld {m l : Nat} (hp : p < 8) (ok : (⟨0, m, l⟩ : Fld).ok) : (⟨R.LNK_Px_STAT p, m, l⟩ : Fld).aside := by
  have regs : ∀ p < 8, R.LNK_Px_STAT p ∈ statusRegs ∧ R.LNK_Px_STAT p ≠ R.TIM_STAT := by decide
  exact Fld.aside_status (regs p hp) ok

/-- A field of the status of a Spine port. -/
theorem spineFld {m l : Nat} (hp : p < 8) (ok : (⟨0, m, l⟩ : Fld).ok) : (⟨R.SPN_Pp_STAT p, m, l⟩ : Fld).aside := by
  have block : R.SPN_Pp_STAT p / 0x10000 = 6 := by
    dsimp only [R.SPN_Pp_STAT]
    omega
  exact Fld.aside_plain (by rw [block]; decide) ok

theorem upSwitch {dst cycle : Nat} (h : Aside s t) : Aside s (t.upSwitch dst cycle) := by
  unfold State.upSwitch
  extract_lets old s1 queues tx _ s2 s3
  have h1 : Aside s s1 := .ite h (h.each (·.frame))
  have h2 : Aside s s2 := h1.frame
  have h3 : Aside s s3 := by
    refine h2.each fun {u p} h => ?_
    unfold State.txAgain
    split
    · exact h
    · exact h.each (·.frame)
  exact (h3.setFld (by decide)).incSat (by decide)

theorem upTrigger (h : Aside s t) : Aside s t.upTrigger := by
  unfold State.upTrigger
  split
  · exact h
  · refine .ite ?_ h
    extract_lets other s1
    have h1 : Aside s s1 := (h.setOn (by decide)).raise (by decide)
    exact .ite ((h.upSwitch.setOn (by decide)).raise (by decide)) (.ite h1 (h1.setFld (by decide)))

section
variable (hp : p < 8)
include hp

theorem linkDown (h : Aside s t) : Aside s (t.linkDown p) := by
  unfold State.linkDown
  extract_lets _ s1 s2 _ s3 q s4
  have h1 : Aside s s1 := h.frame
  have h2 : Aside s s2 :=
    ((h1.incSat (weandiFld hp (by decide))).raise (not_loaderEvent (by omega))).setOn (weandiFld hp (by decide))
  have h3 : Aside s s3 := .ite h2.frame h2
  have h4 : Aside s s4 := (h1.incSat (spineFld (by omega) (by decide))).raise (not_loaderEvent (by omega))
  exact .ite (.ite h3.upTrigger h3) (.ite (.ite h4 ((h4.frame.setFld (by decide)).raise (by decide))) h4)

theorem upJudge (h : Aside s t) : Aside s (t.upJudge p) := by
  refine .ite h ?_
  extract_lets x was is s1 _ s2
  have h1 : Aside s s1 := h.setOn (weandiFld hp (by decide))
  have h2 : Aside s s2 := .ite h1.frame h1
  exact .ite h (.ite (.ite (h1.setFld (by decide)) h1) (.ite h2.upTrigger h2))

theorem linkUp (h : Aside s t) : Aside s (t.linkUp p) := by
  unfold State.linkUp
  extract_lets slow s1 s2 q s3 spn s4
  have h1 : Aside s s1 := (h.raise (not_loaderEvent (by omega))).setOn (weandiFld hp (by decide))
  have h2 : Aside s s2 := .ite (h1.raise (by decide)) h1
  have h3 : Aside s s3 := h.raise (not_loaderEvent (by omega))
  have h4 : Aside s s4 := h3.frame
  exact .ite (h2.upJudge hp) (.ite h3 (.ite (h4.raise (by decide)) h4))

theorem linkShow (h : Aside s t) : Aside s (t.linkShow p) :=
  .ite ((h.setFld (weandiFld hp (by decide))).setFld (weandiFld hp (by decide))) h

theorem linkState_aside : (linkStateF p).aside := by
  unfold linkStateF
  split
  · exact weandiFld hp (by decide)
  · exact spineFld (by omega) (by decide)

theorem linkGo {st : Nat} (h : Aside s t) : Aside s (t.linkGo p st) := by
  unfold State.linkGo
  extract_lets old x s1 s2 _ fresh
  have h1 : Aside s s1 := h.setFld (linkState_aside hp)
  have h2 : Aside s s2 := .ite (h1.linkDown hp) h1
  have deaf {u : State} (h : Aside s u) : Aside s (u.lanesDeaf p) := h.each (·.frame)
  clear_value s2
  split
  · exact (deaf h2.frame).linkShow hp
  · exact (deaf h2.frame).frame.linkShow hp
  · exact h2.frame
  · exact h2.frame
  · exact h2.frame.linkUp hp
  · exact h2

theorem linkCheck (h : Aside s t) : Aside s (t.linkCheck p) := by
  unfold State.linkCheck
  extract_lets s1 _ s2
  have h1 : Aside s s1 := .ite h (h.linkGo hp)
  have h2 : Aside s s2 := h1.frame
  exact .ite h1 (.ite (h2.setFld (weandiFld hp (by decide))) h2)

end

theorem linkCheckAll (h : Aside s t) : Aside s t.linkCheckAll := h.eachBelow fun hp h => h.linkCheck hp

/-! ## New values of the active registers -/

theorem regsChanged {old : Tab Word} (h : Aside s t) : Aside s (t.regsChanged old) := by
  unfold State.regsChanged
  extract_lets s1 s2 mode s3 code moved s4
  have h1 : Aside s s1 := h.eachBelow fun hm h => .ite (h.slotEnabled hm) h
  have h2 : Aside s s2 := h1.each fun h => .ite h.frame h
  have h3 : Aside s s3 := h2.eachOf fun hk h => h.guardModeSet (List.mem_range.1 (List.mem_filter.1 hk).1)
  have h4 : Aside s s4 := h3.each (·.queueFrames)
  exact h4.scaleSteps.linkCheckAll

/-! ## Calibration -/

theorem calDeferred (h : Aside s t) : Aside s t.calDeferred := by
  refine .ite ?_ h
  exact .ite h.frame (.ite h.frame (.frame (.setBit h.frame (by decide))))

end Aside

end Sys2Proof.Machine

end

section

/-!
# Operations of the loader

Loader states, refusals and the start of a load (R52, R53, R56 to R58, R447).
-/

namespace Sys2Proof.Machine

variable {s t u : State} {f : Fld} {a i n : Nat} {W W' : List Fld}

/-! ## Fields that differ -/

theorem State.fld_of_reg (h : t.reg f.addr = s.reg f.addr) : t.fld f = s.fld f := by rw [State.fld, h, State.fld]

theorem State.on_of_reg (h : t.reg f.addr = s.reg f.addr) : t.on f = s.on f := State.on_congr (State.fld_of_reg h)

/-- A field apart from those that differ is as before. -/
theorem OnlyFields.on (h : OnlyFields W s t) (hf : f.ok) (apart : ∀ g ∈ W, g.apart f) : t.on f = s.on f :=
  State.on_congr (h f hf apart)

/-- A register with none of the fields that differ is as before. -/
theorem OnlyFields.reg (h : OnlyFields W s t) (ha : ∀ f ∈ W, f.addr ≠ a) : t.reg a = s.reg a :=
  State.reg_of_whole (h _ whole_ok fun f hf => .inl (ha f hf))

theorem onlyFields_app (h : OnlyFields W s t) (h' : OnlyFields W' t u) : OnlyFields (W ++ W') s u :=
  onlyFields_trans (onlyFields_mono (fun _ => List.mem_append_left _) h)
    (onlyFields_mono (fun _ => List.mem_append_right _) h')

theorem State.reg_congr (h : t.regs = s.regs) : t.reg a = s.reg a := by rw [State.reg, h, State.reg]

theorem State.events_of_flt (h : t.flt = s.flt) : t.events i = s.events i := by rw [State.events, h, State.events]

/-! ## Nothing but the loader differs -/

/-- Nothing differs but the active registers, the events, the loader and the flash. -/
def LoaderOnly (s t : State) : Prop := ∃ r e l x, t = { s with regs := r, flt := e, ldr := l, flash := x }

namespace LoaderOnly

theorem refl (s : State) : LoaderOnly s s := ⟨s.regs, s.flt, s.ldr, s.flash, rfl⟩

theorem trans (h : LoaderOnly s t) (h' : LoaderOnly t u) : LoaderOnly s u := by
  obtain ⟨_, _, _, _, rfl⟩ := h
  obtain ⟨_, _, _, _, rfl⟩ := h'
  exact ⟨_, _, _, _, rfl⟩

theorem setFld {v : Nat} (h : LoaderOnly s t) : LoaderOnly s (t.setFld f v) := by
  obtain ⟨_, _, _, _, rfl⟩ := h
  exact ⟨_, _, _, _, rfl⟩

theorem setOn {b : Bool} (h : LoaderOnly s t) : LoaderOnly s (t.setOn f b) := h.setFld

theorem raise (h : LoaderOnly s t) : LoaderOnly s (t.raise i n) :=
  h.trans ⟨_, _, _, _, (t.raise_spec i n).2.2⟩

theorem setLdr {l : LoaderState} (h : LoaderOnly s t) : LoaderOnly s { t with ldr := l } := by
  obtain ⟨_, _, _, _, rfl⟩ := h
  exact ⟨_, _, _, _, rfl⟩

theorem setFlash {x : FlashState} (h : LoaderOnly s t) : LoaderOnly s { t with flash := x } := by
  obtain ⟨_, _, _, _, rfl⟩ := h
  exact ⟨_, _, _, _, rfl⟩

theorem eq (h : LoaderOnly s t) : t = { s with regs := t.regs, flt := t.flt, ldr := t.ldr, flash := t.flash } := by
  obtain ⟨_, _, _, _, rfl⟩ := h
  rfl

/-- The flash is as before. -/
theorem eq_flash (h : LoaderOnly s t) (flash : t.flash = s.flash) :
    t = { s with regs := t.regs, flt := t.flt, ldr := t.ldr } := by
  conv => lhs; rw [h.eq, flash]

/-- The events are as before. -/
theorem eq_flt (h : LoaderOnly s t) (flt : t.flt = s.flt) :
    t = { s with regs := t.regs, ldr := t.ldr, flash := t.flash } := by
  conv => lhs; rw [h.eq, flt]

theorem eq_flt_flash (h : LoaderOnly s t) (flt : t.flt = s.flt) (flash : t.flash = s.flash) :
    t = { s with regs := t.regs, ldr := t.ldr } := by
  conv => lhs; rw [h.eq, flt, flash]

theorem eq_ldr_flash (h : LoaderOnly s t) (ldr : t.ldr = s.ldr) (flash : t.flash = s.flash) :
    t = { s with regs := t.regs, flt := t.flt } := by
  conv => lhs; rw [h.eq, ldr, flash]

/-- Only registers differ. -/
theorem eq_regs (h : LoaderOnly s t) (flt : t.flt = s.flt) (ldr : t.ldr = s.ldr) (flash : t.flash = s.flash) :
    t = { s with regs := t.regs } := by
  conv => lhs; rw [h.eq, flt, ldr, flash]

end LoaderOnly

@[simp] theorem State.raise_ldr : (s.raise i n).ldr = s.ldr := by rw [(s.raise_spec i n).2.2]

@[simp] theorem State.raise_flash : (s.raise i n).flash = s.flash := by rw [(s.raise_spec i n).2.2]

/-! ## Loader states -/

/-- PENDING shows an admitted commit or image that waits (R57). -/
theorem State.on_cfgPending : s.cfgPending.on F.CFG_STATUS_PENDING = (s.ldr.commit == .arrived || s.ldrState == 5) :=
  State.on_setOn_same (by decide) _

theorem onlyFields_cfgPending : OnlyFields [F.CFG_STATUS_PENDING] s s.cfgPending := onlyFields_setOn (by decide) _

/-- The fields that a change of the loader state sets. -/
abbrev stateFields : List Fld := [F.CFG_STATUS_STATE, F.CFG_STATUS_PENDING]

/-- The loader in another state. -/
def State.ldrSet (s : State) (st : Nat) : State := (s.setFld F.CFG_STATUS_STATE st).cfgPending

section
variable {st : Nat}

@[simp] theorem State.cfgPending_ldr : s.cfgPending.ldr = s.ldr := by rw [State.cfgPending, State.setOn_ldr]

@[simp] theorem State.cfgPending_flt : s.cfgPending.flt = s.flt := by rw [State.cfgPending, State.setOn_flt]

@[simp] theorem State.cfgPending_flash : s.cfgPending.flash = s.flash := by rw [State.cfgPending, State.setOn_flash]

@[simp] theorem State.ldrSet_ldr : (s.ldrSet st).ldr = s.ldr := by
  rw [State.ldrSet, State.cfgPending_ldr, State.setFld_ldr]

@[simp] theorem State.ldrSet_flt : (s.ldrSet st).flt = s.flt := by
  rw [State.ldrSet, State.cfgPending_flt, State.setFld_flt]

@[simp] theorem State.ldrSet_flash : (s.ldrSet st).flash = s.flash := by
  rw [State.ldrSet, State.cfgPending_flash, State.setFld_flash]

theorem LoaderOnly.cfgPending (h : LoaderOnly s t) : LoaderOnly s t.cfgPending := h.setOn

theorem LoaderOnly.ldrSet (h : LoaderOnly s t) : LoaderOnly s (t.ldrSet st) := h.setFld.cfgPending

theorem State.ldrSet_spec (h : st ≤ 6) : (s.ldrSet st).ldrState = st ∧
    (s.ldrSet st).on F.CFG_STATUS_PENDING = (s.ldr.commit == .arrived || st == 5) ∧
    OnlyFields stateFields s (s.ldrSet st) := by
  have state : (s.setFld F.CFG_STATUS_STATE st).ldrState = st :=
    State.fld_setFld_fits (by decide) (h.trans (by decide))
  refine ⟨?_, ?_, onlyFields_app (onlyFields_setFld (by decide)) onlyFields_cfgPending⟩
  · exact (onlyFields_cfgPending _ (by decide) (by decide)).trans state
  · exact State.on_cfgPending.trans (by rw [state, State.setFld_ldr])

theorem State.ldrGo_busy (h : st ≠ 0) : s.ldrGo st = s.ldrSet st := if_neg h

end

/-- What the loader keeps of a load that has ended. -/
def LoaderState.idle (l : LoaderState) : LoaderState :=
  { l with boot := false, paused := false, img := [], secs := [], partialWait := false }

/-- The loader forgets its load, and hardware clears LOAD and ABORT (R56). -/
def State.forgetLoad (s : State) : State :=
  ({ s with ldr := s.ldr.idle }.setOn F.CFG_CTRL_LOAD false).setOn F.CFG_CTRL_ABORT false

@[simp] theorem State.forgetLoad_ldr : s.forgetLoad.ldr = s.ldr.idle := rfl

@[simp] theorem State.forgetLoad_flt : s.forgetLoad.flt = s.flt := rfl

@[simp] theorem State.forgetLoad_flash : s.forgetLoad.flash = s.flash := rfl

theorem State.forgetLoad_spec : s.forgetLoad.on F.CFG_CTRL_LOAD = false ∧ s.forgetLoad.on F.CFG_CTRL_ABORT = false ∧
    OnlyFields [F.CFG_CTRL_LOAD, F.CFG_CTRL_ABORT] s s.forgetLoad := by
  have load : OnlyFields [F.CFG_CTRL_LOAD] s ({ s with ldr := s.ldr.idle }.setOn F.CFG_CTRL_LOAD false) :=
    onlyFields_setOn (by decide) false
  have abort : OnlyFields [F.CFG_CTRL_ABORT] ({ s with ldr := s.ldr.idle }.setOn F.CFG_CTRL_LOAD false) s.forgetLoad :=
    onlyFields_setOn (by decide) false
  refine ⟨?_, State.on_setOn_same (by decide) false, onlyFields_app load abort⟩
  exact (abort.on (by decide) (by decide)).trans (State.on_setOn_same (by decide) false)

theorem State.ldrGo_idle : s.ldrGo 0 = (s.ldrSet 0).forgetLoad := by
  unfold State.ldrGo State.ldrSet State.forgetLoad LoaderState.idle
  exact if_pos rfl

@[simp] theorem State.ldrGo_idle_ldr : (s.ldrGo 0).ldr = s.ldr.idle := by
  rw [State.ldrGo_idle, State.forgetLoad_ldr, State.ldrSet_ldr]

@[simp] theorem State.ldrGo_flt {st : Nat} : (s.ldrGo st).flt = s.flt := by
  by_cases h : st = 0
  · rw [h, State.ldrGo_idle, State.forgetLoad_flt, State.ldrSet_flt]
  · rw [State.ldrGo_busy h, State.ldrSet_flt]

@[simp] theorem State.ldrGo_flash {st : Nat} : (s.ldrGo st).flash = s.flash := by
  by_cases h : st = 0
  · rw [h, State.ldrGo_idle, State.forgetLoad_flash, State.ldrSet_flash]
  · rw [State.ldrGo_busy h, State.ldrSet_flash]

theorem LoaderOnly.ldrGo {st : Nat} (h : LoaderOnly s t) : LoaderOnly s (t.ldrGo st) := by
  by_cases idle : st = 0
  · rw [idle, State.ldrGo_idle]
    exact h.ldrSet.setLdr.setOn.setOn
  · rw [State.ldrGo_busy idle]
    exact h.ldrSet

/-- The fields that the end of a load sets. -/
abbrev idleFields : List Fld := stateFields ++ [F.CFG_CTRL_LOAD, F.CFG_CTRL_ABORT]

theorem State.ldrGo_idle_spec (s : State) : (s.ldrGo 0).ldrState = 0 ∧ (s.ldrGo 0).on F.CFG_CTRL_LOAD = false ∧
    (s.ldrGo 0).on F.CFG_CTRL_ABORT = false ∧
    (s.ldrGo 0).on F.CFG_STATUS_PENDING = decide (s.ldr.commit = .arrived) ∧ OnlyFields idleFields s (s.ldrGo 0) := by
  obtain ⟨state, pending, fields⟩ := s.ldrSet_spec (st := 0) (by decide)
  obtain ⟨load, abort, forgets⟩ := (s.ldrSet 0).forgetLoad_spec
  rw [State.ldrGo_idle]
  refine ⟨(forgets _ (by decide) (by decide)).trans state, load, abort, ?_, onlyFields_app fields forgets⟩
  rw [forgets.on (by decide) (by decide), pending, Bool.beq_eq_decide_eq, show ((0 : Nat) == 5) = false from rfl,
    Bool.or_false]

/-! ## Refusals -/

/-- The word that CFG_ADMIT shows (R58). -/
def admitWord (origin reason item : Nat) : Word :=
  BitVec.ofNat 32 (origin % 2 ^ 4 * 2 ^ 28 + reason % 2 ^ 8 * 2 ^ 20 + item % 2 ^ 20)

section
variable {origin reason item : Nat}

@[simp] theorem State.setAdmit_ldr : (s.setAdmit origin reason item).ldr = s.ldr := by
  rw [State.setAdmit, State.setFld_ldr, State.setFld_ldr, State.setFld_ldr]

@[simp] theorem State.setAdmit_flt : (s.setAdmit origin reason item).flt = s.flt := by
  rw [State.setAdmit, State.setFld_flt, State.setFld_flt, State.setFld_flt]

@[simp] theorem State.setAdmit_flash : (s.setAdmit origin reason item).flash = s.flash := by
  rw [State.setAdmit, State.setFld_flash, State.setFld_flash, State.setFld_flash]

/-- Its three fields fill the register. -/
theorem State.reg_setAdmit : (s.setAdmit origin reason item).reg R.CFG_ADMIT = admitWord origin reason item := by
  have word : (s.setAdmit origin reason item).reg R.CFG_ADMIT = F.CFG_ADMIT_ITEM.put (F.CFG_ADMIT_REASON.put
      (F.CFG_ADMIT_ORIGIN.put (s.reg R.CFG_ADMIT) origin) reason) item := by
    simp only [State.setAdmit, State.setFld, State.reg_setReg_same]
  have lt := (s.reg R.CFG_ADMIT).isLt
  rw [word]
  refine BitVec.eq_of_toNat_eq ?_
  simp only [Fld.put, admitWord, BitVec.toNat_ofNat]
  omega

theorem fields_of_admitWord (h : t.reg R.CFG_ADMIT = admitWord origin reason item) :
    t.fld F.CFG_ADMIT_ORIGIN = origin % 16 ∧ t.fld F.CFG_ADMIT_REASON = reason % 256 ∧
    t.fld F.CFG_ADMIT_ITEM = item % 2 ^ 20 := by
  simp only [State.fld, h, Fld.of, bits, admitWord, BitVec.toNat_ofNat]
  omega

theorem onlyFields_setAdmit : OnlyFields [whole R.CFG_ADMIT] s (s.setAdmit origin reason item) :=
  onlyFields_trans (onlyFields_trans onlyFields_setReg onlyFields_setReg) onlyFields_setReg

theorem LoaderOnly.setAdmit (h : LoaderOnly s t) : LoaderOnly s (t.setAdmit origin reason item) := h.setFld.setFld.setFld

theorem LoaderOnly.refuse (h : LoaderOnly s t) : LoaderOnly s (t.refuse origin reason item) := h.setAdmit.raise

/-- The event of a refusal carries the word of CFG_ADMIT (R52). -/
theorem State.refuse_eq : s.refuse origin reason item =
    (s.setAdmit origin reason item).raise 19 (admitWord origin reason item).toNat := by
  rw [State.refuse, State.reg_setAdmit]

@[simp] theorem State.refuse_ldr : (s.refuse origin reason item).ldr = s.ldr := by
  rw [State.refuse_eq, State.raise_ldr, State.setAdmit_ldr]

@[simp] theorem State.refuse_flash : (s.refuse origin reason item).flash = s.flash := by
  rw [State.refuse_eq, State.raise_flash, State.setAdmit_flash]

/-- The fields that a refusal sets. -/
abbrev refuseFields : List Fld := [whole R.CFG_ADMIT, F.FLT_STAT_LOSTOCC]

/-- A refusal shows in CFG_ADMIT, and its event carries that word (R52, R58). -/
theorem State.refuse_spec (s : State) (origin reason item : Nat) :
    (s.refuse origin reason item).reg R.CFG_ADMIT = admitWord origin reason item ∧
    Raised 19 (admitWord origin reason item) s (s.refuse origin reason item) ∧
    OnlyFields refuseFields s (s.refuse origin reason item) := by
  obtain ⟨raised, lost, -⟩ := (s.setAdmit origin reason item).raise_spec 19 (admitWord origin reason item).toNat
  rw [BitVec.ofNat_toNat, BitVec.setWidth_eq] at raised
  rw [State.refuse_eq]
  refine ⟨(lost.reg (by decide)).trans State.reg_setAdmit, ?_, onlyFields_app onlyFields_setAdmit lost⟩
  exact raised.of_same (onlyFields_setAdmit _ (by decide) (by decide)) fun _ => State.events_of_flt State.setAdmit_flt

end

/-! ## Flash transfers -/

theorem State.flashNext_frame : s.flashNext = { s with flash := s.flashNext.flash } := by
  unfold State.flashNext
  split
  · rfl
  · extract_lets due _ key reqs
    split
    · rfl
    · split
      · rfl
      · split
        · rfl
        · split
          · rfl
          · rfl

/-- A transfer that waits runs next, or goes on waiting. -/
theorem State.flashNext_waits {j : FlashJob} (h : j ∈ s.flash.waiting) :
    s.flashNext.flash.running = some j ∨ j ∈ s.flashNext.flash.waiting := by
  unfold State.flashNext
  split
  · exact .inr h
  · extract_lets due _ key reqs
    split
    · exact .inr h
    · split
      · exact .inr h
      · split
        · exact .inr h
        · split
          · exact .inr h
          next k _ =>
            by_cases e : k = j
            · exact .inl (congrArg some e)
            · exact .inr ((List.mem_erase_of_ne (Ne.symm e)).2 h)

theorem State.flashAsk_frame {j : FlashJob} : s.flashAsk j = { s with flash := (s.flashAsk j).flash } :=
  State.flashNext_frame

theorem State.flashAsk_waits {j : FlashJob} :
    (s.flashAsk j).flash.running = some j ∨ j ∈ (s.flashAsk j).flash.waiting :=
  State.flashNext_waits (List.mem_append_right _ (.head _))

theorem LoaderOnly.flashNext (h : LoaderOnly s t) : LoaderOnly s t.flashNext := by
  rw [State.flashNext_frame]
  exact h.setFlash

theorem LoaderOnly.flashAsk {j : FlashJob} (h : LoaderOnly s t) : LoaderOnly s (t.flashAsk j) := by
  rw [State.flashAsk_frame]
  exact h.setFlash

theorem State.flashNext_regs : s.flashNext.regs = s.regs := by rw [State.flashNext_frame]

theorem State.flashNext_ldr : s.flashNext.ldr = s.ldr := by rw [State.flashNext_frame]

theorem State.flashNext_flt : s.flashNext.flt = s.flt := by rw [State.flashNext_frame]

theorem State.flashAsk_regs {j : FlashJob} : (s.flashAsk j).regs = s.regs := by rw [State.flashAsk_frame]

theorem State.flashAsk_ldr {j : FlashJob} : (s.flashAsk j).ldr = s.ldr := by rw [State.flashAsk_frame]

theorem State.flashAsk_flt {j : FlashJob} : (s.flashAsk j).flt = s.flt := by rw [State.flashAsk_frame]

/-! ## A load begins -/

section
variable {src st : Nat} {boot : Bool}

/-- What the loader keeps of a load that begins. -/
def LoaderState.begun (l : LoaderState) (src : Nat) (boot dry : Bool) : LoaderState :=
  { l with src := src, boot := boot, dry := dry, paused := false }

/-- The load that begins. -/
def State.startLoad (s : State) (src : Nat) (boot : Bool) : State :=
  { s with ldr := s.ldr.begun src boot (s.on F.CFG_CTRL_DRYRUN) }.setFld F.CFG_STATUS_AUTH 0

theorem State.loadBegin_flash (h : src = 1 ∨ src = 2) :
    s.loadBegin src boot = ((s.startLoad src boot).ldrSet 1).flashAsk .fetch := by
  unfold State.loadBegin State.startLoad LoaderState.begun
  rw [← State.ldrGo_busy (by decide)]
  exact if_pos h

theorem State.loadBegin_host (h : ¬ (src = 1 ∨ src = 2)) : s.loadBegin src boot = (s.startLoad src boot).ldrSet 2 := by
  unfold State.loadBegin State.startLoad LoaderState.begun
  rw [← State.ldrGo_busy (by decide)]
  exact if_neg h

theorem State.startLoad_ldr : (s.startLoad src boot).ldr = s.ldr.begun src boot (s.on F.CFG_CTRL_DRYRUN) := rfl

theorem State.startLoad_flt : (s.startLoad src boot).flt = s.flt := rfl

theorem State.startLoad_flash : (s.startLoad src boot).flash = s.flash := rfl

theorem LoaderOnly.startLoad (h : LoaderOnly s t) : LoaderOnly s (t.startLoad src boot) := h.setLdr.setFld

/-- The fields that a load's start sets. -/
abbrev startFields : List Fld := F.CFG_STATUS_AUTH :: stateFields

theorem State.startLoad_spec (h : st ≤ 6) : ((s.startLoad src boot).ldrSet st).ldrState = st ∧
    ((s.startLoad src boot).ldrSet st).on F.CFG_STATUS_PENDING = (s.ldr.commit == .arrived || st == 5) ∧
    ((s.startLoad src boot).ldrSet st).fld F.CFG_STATUS_AUTH = 0 ∧
    OnlyFields startFields s ((s.startLoad src boot).ldrSet st) := by
  obtain ⟨state, pending, fields⟩ := (s.startLoad src boot).ldrSet_spec h
  have auth : OnlyFields [F.CFG_STATUS_AUTH] s (s.startLoad src boot) := onlyFields_setFld (by decide)
  refine ⟨state, pending, (fields _ (by decide) (by decide)).trans ?_, onlyFields_app auth fields⟩
  exact State.fld_setFld_fits (by decide) (by decide)

end

/-! ## A load is refused -/

section
variable {r i src : Nat} {boot : Bool}

/-- A load that is refused, before a boot load goes on. -/
def State.endLoad (s : State) (r i : Nat) : State := (s.refuse (if s.ldr.dry then 2 else 0) r i).ldrGo 0

theorem State.endLoad_ldr : (s.endLoad r i).ldr = s.ldr.idle := by
  rw [State.endLoad, State.ldrGo_idle_ldr, State.refuse_ldr]

theorem State.endLoad_flash : (s.endLoad r i).flash = s.flash := by
  rw [State.endLoad, State.ldrGo_flash, State.refuse_flash]

theorem LoaderOnly.endLoad (h : LoaderOnly s t) : LoaderOnly s (t.endLoad r i) := h.refuse.ldrGo

/-- The fields that a load's refusal sets. -/
abbrev endFields : List Fld := refuseFields ++ idleFields

theorem State.endLoad_spec (s : State) (r i : Nat) :
    (s.endLoad r i).reg R.CFG_ADMIT = admitWord (if s.ldr.dry then 2 else 0) r i ∧
    Raised 19 ((s.endLoad r i).reg R.CFG_ADMIT) s (s.endLoad r i) ∧ OnlyFields endFields s (s.endLoad r i) ∧
    (s.endLoad r i).ldrState = 0 ∧ (s.endLoad r i).on F.CFG_CTRL_LOAD = false ∧
    (s.endLoad r i).on F.CFG_CTRL_ABORT = false ∧
    (s.endLoad r i).on F.CFG_STATUS_PENDING = decide (s.ldr.commit = .arrived) := by
  obtain ⟨word, raised, fields⟩ := s.refuse_spec (if s.ldr.dry then 2 else 0) r i
  obtain ⟨state, load, abort, pending, idle⟩ := (s.refuse (if s.ldr.dry then 2 else 0) r i).ldrGo_idle_spec
  rw [State.refuse_ldr] at pending
  have word' : (s.endLoad r i).reg R.CFG_ADMIT = admitWord (if s.ldr.dry then 2 else 0) r i :=
    (idle.reg (by decide)).trans word
  refine ⟨word', ⟨fun en len => ?_, fun j hj => ?_⟩, onlyFields_app fields idle, state, load, abort, pending⟩
  · rw [word']
    exact (State.events_of_flt State.ldrGo_flt).trans (raised.1 en len)
  · exact (State.events_of_flt State.ldrGo_flt).trans (raised.2 j hj)

theorem State.loadRefuse_eq : s.loadRefuse r i = (s.endLoad r i).bootNext s.ldr.boot s.ldr.src := by
  unfold State.loadRefuse State.endLoad
  rfl

theorem State.bootNext_off : s.bootNext false src = s := rfl

/-- The secondary follows the primary (R51). -/
theorem State.bootNext_second (hs : src = 1) (hb : s.ldr.bootSrc = 0) :
    s.bootNext true src = ((s.startLoad 2 true).ldrSet 1).flashAsk .fetch :=
  ((if_pos rfl).trans (if_pos ⟨hs, hb⟩)).trans (State.loadBegin_flash (.inr rfl))

/-- No image is left to boot (R51). -/
theorem State.bootNext_fails (h : src ≠ 1 ∨ s.ldr.bootSrc ≠ 0) :
    s.bootNext true src = s.raise 7 (s.reg R.CFG_ADMIT).toNat :=
  (if_pos rfl).trans (if_neg fun both => h.elim (absurd both.1) (absurd both.2))

/-- What a boot load that goes on keeps. -/
theorem State.bootNext_spec : (s.bootNext boot src).reg R.CFG_ADMIT = s.reg R.CFG_ADMIT ∧
    (∀ j, j ≠ 7 → (s.bootNext boot src).events j = s.events j) ∧ LoaderOnly s (s.bootNext boot src) := by
  cases boot with
  | false => exact ⟨rfl, fun _ _ => rfl, .refl s⟩
  | true =>
    by_cases second : src = 1 ∧ s.ldr.bootSrc = 0
    · obtain ⟨-, -, -, fields⟩ := s.startLoad_spec (src := 2) (boot := true) (st := 1) (by decide)
      rw [State.bootNext_second second.1 second.2]
      refine ⟨(State.reg_congr State.flashAsk_regs).trans (fields.reg (by decide)), fun j _ => ?_,
        (LoaderOnly.refl s).startLoad.ldrSet.flashAsk⟩
      exact State.events_of_flt (by rw [State.flashAsk_flt, State.ldrSet_flt, State.startLoad_flt])
    · obtain ⟨raised, lost, -⟩ := s.raise_spec 7 (s.reg R.CFG_ADMIT).toNat
      rw [State.bootNext_fails (not_and_or.1 second)]
      exact ⟨lost.reg (by decide), raised.2, (LoaderOnly.refl s).raise⟩

theorem LoaderOnly.loadRefuse (h : LoaderOnly s t) : LoaderOnly s (t.loadRefuse r i) := by
  rw [State.loadRefuse_eq]
  exact h.endLoad.trans State.bootNext_spec.2.2

/-- A load that is no boot load just ends. -/
theorem State.loadRefuse_host (h : s.ldr.boot = false) : s.loadRefuse r i = s.endLoad r i := by
  rw [State.loadRefuse_eq, h, State.bootNext_off]

theorem State.loadRefuse_word (s : State) (r i : Nat) :
    (s.loadRefuse r i).reg R.CFG_ADMIT = admitWord (if s.ldr.dry then 2 else 0) r i := by
  rw [State.loadRefuse_eq]
  exact State.bootNext_spec.1.trans (s.endLoad_spec r i).1

/-- Its events are those of a refusal and of a boot that fails. -/
theorem State.loadRefuse_events {j : Nat} (h : j ≠ 7) : (s.loadRefuse r i).events j = (s.endLoad r i).events j := by
  rw [State.loadRefuse_eq]
  exact State.bootNext_spec.2.1 j h

theorem State.loadRefuse_spec (s : State) (r i : Nat) : LoadRefused r i s (s.loadRefuse r i) := by
  obtain ⟨-, raised, fields, state, load, -, -⟩ := s.endLoad_spec r i
  have word : (s.loadRefuse r i).reg R.CFG_ADMIT = (s.endLoad r i).reg R.CFG_ADMIT := by
    rw [State.loadRefuse_eq]
    exact State.bootNext_spec.1
  obtain ⟨origin, reason, item⟩ := fields_of_admitWord (s.loadRefuse_word r i)
  refine ⟨reason, item, ?_, fun en len => ?_, fun host => ?_, fun boot src bootSrc => ?_, fun boot last => ?_⟩
  · rw [origin]
    split
    · rfl
    · rfl
  · rw [State.loadRefuse_events (by decide), word]
    exact raised.1 en len
  · rw [State.loadRefuse_host host]
    exact ⟨state, load⟩
  · obtain ⟨state, -⟩ := (s.endLoad r i).startLoad_spec (src := 2) (boot := true) (st := 1) (by decide)
    rw [State.loadRefuse_eq, boot, State.bootNext_second src (by rw [State.endLoad_ldr]; exact bootSrc)]
    refine ⟨(State.fld_congr State.flashAsk_regs).trans state, ?_, ?_⟩
    · rw [State.flashAsk_ldr, State.ldrSet_ldr, State.startLoad_ldr, LoaderState.begun]
    · rw [State.flashAsk_ldr, State.ldrSet_ldr, State.startLoad_ldr, LoaderState.begun]
  · obtain ⟨raised7, lost, -⟩ := (s.endLoad r i).raise_spec 7 ((s.endLoad r i).reg R.CFG_ADMIT).toNat
    rw [word]
    rw [State.loadRefuse_eq, boot, State.bootNext_fails (by rw [State.endLoad_ldr]; exact last)]
    rw [BitVec.ofNat_toNat, BitVec.setWidth_eq] at raised7
    refine ⟨(lost _ (by decide) (by decide)).trans state, ?_⟩
    rw [← fields.on (f := F.FLT_SRCi_EN 7) (by decide) (by decide), ← raised.2 7 (by decide)]
    exact raised7.1

/-- A refusal of another state with the same load, and with the same events of the loader. -/
theorem LoadRefused.of_same (h : LoadRefused r i u t) (ldr : u.ldr = s.ldr)
    (en : ∀ j ∈ [7, 19], u.on (F.FLT_SRCi_EN j) = s.on (F.FLT_SRCi_EN j))
    (pend : ∀ j ∈ [7, 19], u.events j = s.events j) : LoadRefused r i s t := by
  unfold LoadRefused at h ⊢
  rw [← ldr, ← en 7 (by decide), ← en 19 (by decide), ← pend 7 (by decide), ← pend 19 (by decide)]
  exact h

/-- What follows a refusal and changes neither the loader nor the events. -/
theorem LoadRefused.then_flash (h : LoadRefused r i s t) (regs : u.regs = t.regs) (flt : u.flt = t.flt)
    (ldr : u.ldr = t.ldr) : LoadRefused r i s u := by
  unfold LoadRefused State.ldrState at h ⊢
  simpa only [State.fld_congr regs, State.on_congr (State.fld_congr regs), State.reg_congr (a := R.CFG_ADMIT) regs,
    State.events_of_flt flt, ldr] using h

end

end Sys2Proof.Machine

end

section

/-!
# Load requests, ABORT and REVERT

LOAD by loader state and source, ABORT and REVERT (R50 to R53, R56, R447).
-/

namespace Sys2Proof.Machine

variable {s t : State} {src : Nat} {dry : Bool}

/-! ## LOAD -/

/-- A LOAD names its source and DRYRUN (R56). -/
def State.loadReq (s : State) (src : Nat) (dry : Bool) : State := (s.setFld F.CFG_CTRL_SRC src).setOn F.CFG_CTRL_DRYRUN dry

/-- The fields that a LOAD names. -/
abbrev reqFields : List Fld := [F.CFG_CTRL_SRC, F.CFG_CTRL_DRYRUN]

theorem State.loadReq_ldr : (s.loadReq src dry).ldr = s.ldr := rfl

theorem State.loadReq_flt : (s.loadReq src dry).flt = s.flt := rfl

theorem State.loadReq_flash : (s.loadReq src dry).flash = s.flash := rfl

theorem LoaderOnly.loadReq (h : LoaderOnly s t) : LoaderOnly s (t.loadReq src dry) := h.setFld.setOn

theorem onlyFields_loadReq : OnlyFields reqFields s (s.loadReq src dry) :=
  onlyFields_app (onlyFields_setFld (by decide)) (onlyFields_setOn (by decide) dry)

theorem State.loadReq_dry : (s.loadReq src dry).on F.CFG_CTRL_DRYRUN = dry := State.on_setOn_same (by decide) dry

theorem State.loadReq_src (h : src ≤ 3) : (s.loadReq src dry).fld F.CFG_CTRL_SRC = src :=
  (State.fld_setFld_apart (by decide) (by decide)).trans (State.fld_setFld_fits (by decide) (h.trans (by decide)))

theorem State.loadReq_shut : (s.loadReq src dry).on F.THM_STAT_SHUT = s.on F.THM_STAT_SHUT :=
  onlyFields_loadReq.on (by decide) (by decide)

theorem State.loadReq_stopping : (s.loadReq src dry).stopping 10 = s.stopping 10 := by
  have gated : (s.loadReq src dry).isGated 10 = s.isGated 10 :=
    State.isGated_congr (onlyFields_loadReq _ (by decide) (by decide))
  rw [State.stopping, gated]
  rfl

theorem State.loadReq_busy : ((s.loadReq src dry).ldrState ≠ 0 ∨ (s.loadReq src dry).on F.SPN_MC_RX_ACTIVE = true) ↔
    (s.ldrState ≠ 0 ∨ s.on F.SPN_MC_RX_ACTIVE = true) := by
  have state : (s.loadReq src dry).ldrState = s.ldrState := onlyFields_loadReq _ (by decide) (by decide)
  rw [state, onlyFields_loadReq.on (f := F.SPN_MC_RX_ACTIVE) (by decide) (by decide)]

/-- A loader that is stopped takes no load (R367). -/
theorem State.load_stopped (stop : s.stopping 10 = true) : s.load src dry = s.loadReq src dry :=
  if_pos (.inr (State.loadReq_stopping.trans stop))

section
variable (shut : s.on F.THM_STAT_SHUT = false) (runs : s.stopping 10 = false)
include shut runs

theorem State.load_takes : ¬ ((s.loadReq src dry).on F.THM_STAT_SHUT = true ∨ (s.loadReq src dry).stopping 10 = true) := by
  rw [State.loadReq_shut, State.loadReq_stopping, shut, runs]
  decide

/-- A busy loader counts the load (R53). -/
theorem State.load_busy (busy : s.ldrState ≠ 0 ∨ s.on F.SPN_MC_RX_ACTIVE = true) : s.load src dry =
    ((s.loadReq src dry).incSat F.CFG_STATUS_BUSY_REJ).raise 22 (if src = 3 then 0 else src) :=
  (if_neg (State.load_takes shut runs)).trans (if_pos (State.loadReq_busy.2 busy))

section
variable (idle : s.ldrState = 0) (alone : s.on F.SPN_MC_RX_ACTIVE = false)
include idle alone

omit shut runs in
theorem State.load_idle :
    ¬ ((s.loadReq src dry).ldrState ≠ 0 ∨ (s.loadReq src dry).on F.SPN_MC_RX_ACTIVE = true) := fun busy =>
  (State.loadReq_busy.1 busy).elim (absurd idle) fun on => Bool.false_ne_true (alone.symm.trans on)

/-- The reserved source is refused. -/
theorem State.load_reserved (h : src = 3) : s.load src dry = (s.loadReq src dry).refuse (if dry then 2 else 0) 1 0 :=
  (if_neg (State.load_takes shut runs)).trans ((if_neg (State.load_idle idle alone)).trans (if_pos h))

/-- Any other load begins. -/
theorem State.load_begins (h : src ≠ 3) :
    s.load src dry = ((s.loadReq src dry).setOn F.CFG_CTRL_LOAD true).loadBegin src false :=
  (if_neg (State.load_takes shut runs)).trans ((if_neg (State.load_idle idle alone)).trans (if_neg h))

end
end

/-- The load that a LOAD begins, in the loader state that its source asks for. -/
def State.loadStarted (s : State) (src : Nat) (dry : Bool) (st : Nat) : State :=
  (((s.loadReq src dry).setOn F.CFG_CTRL_LOAD true).startLoad src false).ldrSet st

section
variable {st : Nat}

theorem State.loadStarted_ldr : (s.loadStarted src dry st).ldr = s.ldr.begun src false dry := by
  have dryrun : ((s.loadReq src dry).setOn F.CFG_CTRL_LOAD true).on F.CFG_CTRL_DRYRUN = dry :=
    (State.on_setOn_apart (by decide) (by decide) true).trans State.loadReq_dry
  rw [State.loadStarted, State.ldrSet_ldr, State.startLoad_ldr, dryrun, State.setOn_ldr, State.loadReq_ldr]

theorem State.loadStarted_flt : (s.loadStarted src dry st).flt = s.flt := by
  rw [State.loadStarted, State.ldrSet_flt, State.startLoad_flt, State.setOn_flt, State.loadReq_flt]

theorem State.loadStarted_flash : (s.loadStarted src dry st).flash = s.flash := by
  rw [State.loadStarted, State.ldrSet_flash, State.startLoad_flash, State.setOn_flash, State.loadReq_flash]

theorem LoaderOnly.loadStarted (h : LoaderOnly s t) : LoaderOnly s (t.loadStarted src dry st) :=
  h.loadReq.setOn.startLoad.ldrSet

theorem State.loadStarted_spec (hs : src ≤ 3) (h : st < 5) : (s.loadStarted src dry st).ldrState = st ∧
    (s.loadStarted src dry st).on F.CFG_CTRL_LOAD = true ∧ (s.loadStarted src dry st).fld F.CFG_STATUS_AUTH = 0 ∧
    (s.loadStarted src dry st).on F.CFG_CTRL_DRYRUN = dry ∧ (s.loadStarted src dry st).fld F.CFG_CTRL_SRC = src ∧
    (s.loadStarted src dry st).on F.CFG_STATUS_PENDING = decide (s.ldr.commit = .arrived) ∧
    OnlyFields [F.CFG_CTRL_SRC, F.CFG_CTRL_DRYRUN, F.CFG_CTRL_LOAD, F.CFG_STATUS_AUTH, F.CFG_STATUS_STATE,
      F.CFG_STATUS_PENDING] s (s.loadStarted src dry st) := by
  have load : OnlyFields [F.CFG_CTRL_LOAD] (s.loadReq src dry) ((s.loadReq src dry).setOn F.CFG_CTRL_LOAD true) :=
    onlyFields_setOn (by decide) true
  obtain ⟨state, pending, auth, starts⟩ := ((s.loadReq src dry).setOn F.CFG_CTRL_LOAD true).startLoad_spec (src := src)
    (boot := false) (st := st) (by omega)
  have after := onlyFields_app load starts
  refine ⟨state, ?_, auth, ?_, ?_, ?_, onlyFields_app (onlyFields_app onlyFields_loadReq load) starts⟩
  · exact (starts.on (by decide) (by decide)).trans (State.on_setOn_same (by decide) true)
  · exact (after.on (by decide) (by decide)).trans State.loadReq_dry
  · exact (after _ (by decide) (by decide)).trans (State.loadReq_src hs)
  · rw [State.loadStarted, pending, State.setOn_ldr, State.loadReq_ldr, Bool.beq_eq_decide_eq,
      beq_eq_false_iff_ne.2 (Nat.ne_of_lt h), Bool.or_false]

end

/-! ## ABORT -/

/-- The transfer of a load that is aborted goes on to its end without it, or never starts (R447). -/
def State.dropFetch (s : State) : State :=
  { s with flash := { s.flash with
    running := if s.flash.running = some .fetch then some .dropped else s.flash.running,
    waiting := s.flash.waiting.filter fun j => decide (j ≠ FlashJob.fetch) } }

/-- A commit that is not held does not go on when a load ends. -/
theorem State.commitResume_none (h : s.ldr.commit ≠ .held) : s.commitResume = s := if_neg h

theorem State.abort_ends (first : 1 ≤ s.ldrState) (last : s.ldrState ≤ 4) (host : s.ldr.boot = false)
    (free : s.ldr.commit ≠ .held) : s.abort = s.dropFetch.endLoad 7 0 := by
  have ended : s.abort = (s.dropFetch.loadRefuse 7 0).commitResume := if_pos ⟨first, last⟩
  rw [ended, State.loadRefuse_host (s := s.dropFetch) host, State.commitResume_none]
  rw [State.endLoad_ldr]
  exact free

/-! ## The obligation -/

section
variable (shut : s.on F.THM_STAT_SHUT = false) (runs : s.stopping 10 = false)
include shut runs

/-- A busy loader counts the load and raises EV_CFG_BUSY (R53). -/
theorem State.load_busy_spec (busy : s.ldrState ≠ 0 ∨ s.on F.SPN_MC_RX_ACTIVE = true) :
    (s.load src dry).fld F.CFG_STATUS_BUSY_REJ = min 255 (s.fld F.CFG_STATUS_BUSY_REJ + 1) ∧
    (s.load src dry).ldrState = s.ldrState ∧
    Raised 22 (BitVec.ofNat 32 (if src = 3 then 0 else src)) s (s.load src dry) ∧
    OnlyFields (reqFields ++ [F.CFG_STATUS_BUSY_REJ, F.FLT_STAT_LOSTOCC]) s (s.load src dry) ∧
    s.load src dry = { s with regs := (s.load src dry).regs, flt := (s.load src dry).flt } := by
  obtain ⟨count, raised, fields, -⟩ := (s.loadReq src dry).counted_spec (f := F.CFG_STATUS_BUSY_REJ) (i := 22)
    (n := if src = 3 then 0 else src) (by decide) (by decide) (by decide)
  have both := onlyFields_app onlyFields_loadReq fields
  rw [onlyFields_loadReq F.CFG_STATUS_BUSY_REJ (by decide) (by decide)] at count
  rw [State.load_busy shut runs busy]
  refine ⟨count, both _ (by decide) (by decide), ?_, both, ?_⟩
  · exact raised.of_same (onlyFields_loadReq _ (by decide) (by decide)) fun _ => State.events_of_flt State.loadReq_flt
  · refine (LoaderOnly.refl s).loadReq.setFld.raise.eq_ldr_flash ?_ ?_
    · rw [State.raise_ldr, State.setFld_ldr, State.loadReq_ldr]
    · rw [State.raise_flash, State.setFld_flash, State.loadReq_flash]

section
variable (idle : s.ldrState = 0) (alone : s.on F.SPN_MC_RX_ACTIVE = false)
include idle alone

theorem State.load_reserved_spec : (s.load 3 dry).ldrState = 0 ∧ (s.load 3 dry).fld F.CFG_ADMIT_REASON = 1 ∧
    (s.load 3 dry).fld F.CFG_ADMIT_ITEM = 0 ∧ (s.load 3 dry).fld F.CFG_ADMIT_ORIGIN = (if dry then 2 else 0) ∧
    Raised 19 ((s.load 3 dry).reg R.CFG_ADMIT) s (s.load 3 dry) ∧
    s.load 3 dry = { s with regs := (s.load 3 dry).regs, flt := (s.load 3 dry).flt } := by
  obtain ⟨word, raised, fields⟩ := (s.loadReq 3 dry).refuse_spec (if dry then 2 else 0) 1 0
  obtain ⟨origin, reason, item⟩ := fields_of_admitWord word
  have both := onlyFields_app onlyFields_loadReq fields
  rw [State.load_reserved shut runs idle alone rfl]
  refine ⟨(both _ (by decide) (by decide)).trans idle, reason, item, ?_, ?_, ?_⟩
  · rw [origin]
    cases dry
    · rfl
    · rfl
  · rw [word]
    exact raised.of_same (onlyFields_loadReq _ (by decide) (by decide)) fun _ => State.events_of_flt State.loadReq_flt
  · exact (LoaderOnly.refl s).loadReq.refuse.eq_ldr_flash (by rw [State.refuse_ldr, State.loadReq_ldr])
      (by rw [State.refuse_flash, State.loadReq_flash])

end
end

theorem State.dropFetch_endLoad_spec (s : State) : (s.dropFetch.endLoad 7 0).ldrState = 0 ∧
    (s.dropFetch.endLoad 7 0).fld F.CFG_ADMIT_REASON = 7 ∧
    (s.dropFetch.endLoad 7 0).fld F.CFG_ADMIT_ORIGIN = (if s.ldr.dry then 2 else 0) ∧
    (s.dropFetch.endLoad 7 0).on F.CFG_CTRL_LOAD = false ∧ (s.dropFetch.endLoad 7 0).on F.CFG_CTRL_ABORT = false ∧
    Raised 19 ((s.dropFetch.endLoad 7 0).reg R.CFG_ADMIT) s (s.dropFetch.endLoad 7 0) := by
  obtain ⟨word, raised, -, state, load, abort, -⟩ := s.dropFetch.endLoad_spec 7 0
  obtain ⟨origin, reason, -⟩ := fields_of_admitWord word
  refine ⟨state, reason, ?_, load, abort, raised⟩
  rw [origin, State.dropFetch]
  cases s.ldr.dry
  · rfl
  · rfl

/-- Settles O3: each case of LOAD, of ABORT and of REVERT by its equation. -/
theorem loader_LoadAbortRevert : Obligations.Loader_LoadAbortRevert := by
  intro s live
  refine ⟨fun src dry _ stop => ?_, fun src dry shut runs => ⟨fun busy => ?_, fun idle alone host => ?_,
    fun idle alone flash => ?_, fun idle alone reserved => ?_⟩, fun first last host free => ?_, fun other => ?_, ?_⟩
  · exact runs_effect (op := (·.load src.toNat dry)) live rfl (State.load_stopped stop)
      ⟨onlyFields_loadReq _ (by decide) (by decide), onlyFields_loadReq,
        (LoaderOnly.refl s).loadReq.eq_regs State.loadReq_flt State.loadReq_ldr State.loadReq_flash⟩
  · have code : (if src.toNat = 3 then 0 else src.toNat) = if src = 3 then 0 else src.toNat := by
      simp only [← BitVec.toNat_inj]
      rfl
    rw [← code]
    exact runs_effect (op := (·.load src.toNat dry)) live rfl rfl (State.load_busy_spec shut runs busy)
  · subst host
    have begun : s.load 0 dry = s.loadStarted 0 dry 2 :=
      (State.load_begins shut runs idle alone (by decide)).trans (State.loadBegin_host (by decide))
    obtain ⟨state, load, auth, dryrun, source, pending, fields⟩ :=
      s.loadStarted_spec (src := 0) (dry := dry) (st := 2) (by decide) (by decide)
    refine runs_effect (op := (·.load 0 dry)) live rfl begun ⟨state, load, auth, ?_, ?_, dryrun, source, pending, fields, ?_⟩
    · rw [State.loadStarted_ldr, LoaderState.begun]
    · rw [State.loadStarted_ldr, LoaderState.begun]
    · exact (LoaderOnly.refl s).loadStarted.eq_flt_flash State.loadStarted_flt State.loadStarted_flash
  · have code : src.toNat = 1 ∨ src.toNat = 2 := flash.imp (congrArg BitVec.toNat) (congrArg BitVec.toNat)
    have begun : s.load src.toNat dry = (s.loadStarted src.toNat dry 1).flashAsk .fetch :=
      (State.load_begins shut runs idle alone (by omega)).trans (State.loadBegin_flash code)
    obtain ⟨state, load, -, -, -, pending, fields⟩ :=
      s.loadStarted_spec (src := src.toNat) (dry := dry) (st := 1) (by omega) (by decide)
    refine runs_effect (op := (·.load src.toNat dry)) live rfl begun ⟨(State.fld_congr State.flashAsk_regs).trans state,
      (State.on_congr (State.fld_congr State.flashAsk_regs)).trans load, ?_, ?_, State.flashAsk_waits,
      (State.on_congr (State.fld_congr State.flashAsk_regs)).trans pending,
      onlyFields_trans fields (onlyFields_of_regs _ State.flashAsk_regs), ?_⟩
    · rw [State.flashAsk_ldr, State.loadStarted_ldr, LoaderState.begun]
    · rw [State.flashAsk_ldr, State.loadStarted_ldr, LoaderState.begun]
    · exact (LoaderOnly.refl s).loadStarted.flashAsk.eq_flt (State.flashAsk_flt.trans State.loadStarted_flt)
  · subst reserved
    exact runs_effect (op := (·.load 3 dry)) live rfl rfl (State.load_reserved_spec shut runs idle alone)
  · obtain ⟨state, reason, origin, load, abort, raised⟩ := s.dropFetch_endLoad_spec
    refine runs_effect (op := State.abort) live rfl (State.abort_ends first last host free)
      ⟨state, reason, origin, load, abort, raised, ?_, ?_, (LoaderOnly.refl s).setFlash.endLoad.eq⟩
    · rw [State.endLoad_flash]
      simp [State.dropFetch]
    · rw [State.endLoad_flash, State.dropFetch]
  · exact runs_unchanged (op := State.abort) live rfl (if_neg fun h => by omega)
  · exact runs_effect (op := State.revert) live rfl rfl
      ⟨fun a r f hr hf sh => bits_withShadows (regs := s.shad) (snap := s.regs) hr hf sh, rfl⟩

end Sys2Proof.Machine

end

section

/-!
# FETCH, CHECK and AUTH

How a load goes on from FETCH to ADMIT, and how it is refused on the way (R40 to R49, R51, R52, R447, R468).
-/

namespace Sys2Proof.Machine

variable {s t u : State} {f : Fld} {r i : Nat} {im : Option (List Byte)}

/-! ## What stays aside -/

theorem Aside.fld (h : Aside s t) (hf : loaderReg f.addr = true) : t.fld f = s.fld f :=
  State.fld_of_reg (h.reg _ hf)

theorem Aside.on (h : Aside s t) (hf : loaderReg f.addr = true) : t.on f = s.on f :=
  State.on_congr (h.fld hf)

theorem Aside.ldrState (h : Aside s t) : t.ldrState = s.ldrState := h.fld (loaderReg_own (by decide))

theorem Aside.active (h : Aside s t) : t.active = s.active := h.on (loaderReg_own (by decide))

/-- The loader's events are enabled as before. -/
theorem Aside.enabled (h : Aside s t) : ∀ j ∈ loaderEvents, t.on (F.FLT_SRCi_EN j) = s.on (F.FLT_SRCi_EN j) := by
  have regs : ∀ j ∈ loaderEvents, loaderReg (F.FLT_SRCi_EN j).addr = true := fun j hj =>
    loaderReg_own (by decide +revert)
  exact fun j hj => h.on (regs j hj)

/-- A refusal after something aside of the loader. -/
theorem LoadRefused.of_aside (h : LoadRefused r i u t) (aside : Aside s u) : LoadRefused r i s t := by
  have event : ∀ j ∈ [7, 19], j ∈ loaderEvents := by decide
  exact h.of_same aside.ldr (fun j hj => aside.enabled j (event j hj)) fun j hj => aside.events j (event j hj)

theorem LoaderOnly.mem (h : LoaderOnly s t) : t.mem = s.mem := by rw [h.eq]

theorem LoaderOnly.conf (h : LoaderOnly s t) : t.conf = s.conf := by rw [h.eq]

/-- A loader that runs is not paused. -/
theorem State.paused_of_ldrRuns (h : s.ldrRuns = true) : s.ldr.paused = false := by
  simp only [State.ldrRuns, Bool.and_eq_true, Bool.not_eq_true'] at h
  exact h.1.1

/-! ## FETCH_DONE -/

theorem Aside.fetchEnds : Aside s (s.fetchEnds im) := (Aside.refl s).frame.snoop.snoopBoundary

theorem State.fetchDone_dropped (h : s.flash.running = some .dropped) : s.fetchDone im = (s.fetchEnds im).flashNext := if_pos h

/-- Outside FETCH only the transfer of an aborted load ends. -/
theorem State.fetchDone_other (state : s.ldrState ≠ 1) (h : s.flash.running ≠ some .dropped) : s.fetchDone im = s :=
  (if_neg h).trans (if_neg fun all => state all.1)

section
variable (state : s.ldrState = 1) (run : s.flash.running = some .fetch) (goes : s.ldr.paused = false)
include state run goes

theorem State.fetching : s.ldrState = 1 ∧ s.flash.running = some .fetch ∧ (!s.ldr.paused) = true :=
  ⟨state, run, by rw [goes]; rfl⟩

theorem State.fetchDone_none : s.fetchDone none = ((s.fetchEnds none).loadRefuse 1 0).flashNext := by
  unfold State.fetchDone
  rw [if_neg (by rw [run]; decide), if_pos (State.fetching state run goes)]

theorem State.fetchDone_stages {b : List Byte} (magic : leAt b 0 4 = 0x31424C47) (low : 64 ≤ leAt b 8 4)
    (high : leAt b 8 4 ≤ 0x1000000) (addr4 : s.ldr.src = 2 → s.on F.SYS_FLCFG_ADDR4 = true) :
    s.fetchDone (some b) = (((s.fetchEnds (some b)).writeFlat 24 (s.fetchEnds (some b)).stageBase
      (slice b 0 (leAt b 8 4))).ldrSet 2).flashNext := by
  have ends : ChkOnly { s with flash := { s.flash with running := none } } (s.fetchEnds (some b)) :=
    (ChkOnly.refl _).snoop.snoopBoundary
  have good : ¬ ((!(leAt b 0 4 == 0x31424C47 && decide (64 ≤ leAt b 8 4) && decide (leAt b 8 4 ≤ 0x1000000))) = true ∨
      (s.fetchEnds (some b)).ldr.src = 2 ∧ (!(s.fetchEnds (some b)).on F.SYS_FLCFG_ADDR4) = true) := by
    have same : (s.fetchEnds (some b)).on F.SYS_FLCFG_ADDR4 = s.on F.SYS_FLCFG_ADDR4 :=
      State.on_congr (ends.fld (by decide))
    rw [Aside.fetchEnds.ldr, same, magic, decide_eq_true low, decide_eq_true high]
    rintro (bad | ⟨second, no⟩)
    · cases bad
    · rw [addr4 second] at no
      cases no
  unfold State.fetchDone
  rw [if_neg (by rw [run]; decide), if_pos (State.fetching state run goes)]
  dsimp only
  rw [if_neg good, State.ldrGo_busy (by decide)]

end

/-! ## CHECK_DONE -/

section
variable {v : State} {d : Delivered} {ds : List Delivered} {n : Nat} {img : List Byte} {bad : List Nat}

/-- What CHECK has read passes check unit stream 0x0C (R411). -/
def State.checkPassed (v : State) (img : List Byte) : State := (v.snoop 0x0C img).snoopBoundary 0x0C

theorem State.checkPassed_mem : (v.checkPassed img).mem = v.mem := by
  rw [State.checkPassed, ((ChkOnly.refl v).snoop.snoopBoundary).eq]

/-- The load goes on to AUTH with the staged image, or is refused (R52). -/
def State.judged (s : State) (img : List Byte) : Finding → State
  | some (r, i) => s.loadRefuse r i
  | none => ({ s with ldr := { s.ldr with img := img, secs := imageSecs img } } : State).ldrGo 3

theorem State.judged_passes : s.judged img none =
    ({ s with ldr := { s.ldr with img := img, secs := imageSecs img } } : State).ldrSet 3 := by
  rw [State.judged, State.ldrGo_busy (by decide)]

/-- CHECK judges the image that it reads, with what the reads find (R52, R254, R260). -/
theorem State.checkDone_judges (state : s.ldrState = 2) (runs : s.ldrRuns = true) (free : s.engineFree 24 = true)
    (head : (u, d) = s.lineRead 24 s.stageBase)
    (len : n = if 64 ≤ leAt d.data 8 4 ∧ leAt d.data 8 4 ≤ 0x1000000 then leAt d.data 8 4 else 64)
    (rest : (v, ds) = u.readLines 24 (s.stageBase + 64) (n - 64)) (himg : img = spanBytes (d :: ds) s.stageBase n)
    (hbad : bad = ((d :: ds).filter (·.poisoned)).map (fun x => x.flat - s.stageBase)) :
    s.checkDone = (v.checkPassed img).judged img (v.checkFinding img bad) := by
  subst himg hbad
  unfold State.checkDone State.checkPassed
  rw [if_pos ⟨state, runs, free⟩]
  dsimp only
  rw [← head]
  dsimp only
  rw [← len, ← rest]
  cases v.checkFinding (spanBytes (d :: ds) s.stageBase n)
    (((d :: ds).filter (·.poisoned)).map (fun x => x.flat - s.stageBase))
  · rfl
  · rfl

theorem Aside.checkPassed (head : (u, d) = s.lineRead 24 s.stageBase)
    (rest : (v, ds) = u.readLines 24 (s.stageBase + 64) (n - 64)) : Aside s (v.checkPassed img) :=
  (((Aside.refl s).lineRead.of_eq head.symm).readLines.of_eq rest.symm).snoop.snoopBoundary

end

/-! ## AUTH_DONE -/

section
variable (state : s.ldrState = 3) (runs : s.ldrRuns = true)
include state runs

/-- The next state of an authentication that passes. -/
theorem State.authDone_passes {v : Nat} (h : (s.ldr.sec = false ∧ v = 0) ∨
    (s.ldr.sec = true ∧ authentic s.ldr.img s.ldr.keyHash.toNat = true ∧ v = 1)) :
    s.authDone = (s.setFld F.CFG_STATUS_AUTH v).ldrSet 4 := by
  unfold State.authDone
  rw [if_pos ⟨state, runs⟩, ← State.ldrGo_busy (by decide)]
  rcases h with ⟨open_, rfl⟩ | ⟨sec, good, rfl⟩
  · rw [open_]
    exact if_pos rfl
  · rw [sec, good]
    exact (if_neg (by decide)).trans (if_pos rfl)

omit state runs in
theorem State.authPasses_spec {v : Nat} (s : State) (h : v ≤ 3) :
    ((s.setFld F.CFG_STATUS_AUTH v).ldrSet 4).ldrState = 4 ∧
    ((s.setFld F.CFG_STATUS_AUTH v).ldrSet 4).fld F.CFG_STATUS_AUTH = v ∧
    OnlyFields (F.CFG_STATUS_AUTH :: stateFields) s ((s.setFld F.CFG_STATUS_AUTH v).ldrSet 4) ∧
    (s.setFld F.CFG_STATUS_AUTH v).ldrSet 4 = { s with regs := ((s.setFld F.CFG_STATUS_AUTH v).ldrSet 4).regs } := by
  have auth : OnlyFields [F.CFG_STATUS_AUTH] s (s.setFld F.CFG_STATUS_AUTH v) := onlyFields_setFld (by decide)
  obtain ⟨state, -, fields⟩ := (s.setFld F.CFG_STATUS_AUTH v).ldrSet_spec (st := 4) (by decide)
  refine ⟨state, (fields _ (by decide) (by decide)).trans (State.fld_setFld_fits (by decide) (h.trans (by decide))),
    onlyFields_app auth fields, (LoaderOnly.refl s).setFld.ldrSet.eq_regs ?_ ?_ ?_⟩
  · rw [State.ldrSet_flt, State.setFld_flt]
  · rw [State.ldrSet_ldr, State.setFld_ldr]
  · rw [State.ldrSet_flash, State.setFld_flash]

/-- What AUTH shows before it refuses (R49, R57). -/
def State.authFails (s : State) : State :=
  ((s.setFld F.CFG_STATUS_AUTH 2).setAdmit (if s.ldr.dry then 2 else 0) 4 0).raise 20
    (admitWord (if s.ldr.dry then 2 else 0) 4 0).toNat

theorem State.authDone_fails (sec : s.ldr.sec = true) (bad : authentic s.ldr.img s.ldr.keyHash.toNat = false) :
    s.authDone = s.authFails.loadRefuse 4 0 := by
  unfold State.authDone State.authFails
  rw [if_pos ⟨state, runs⟩, if_neg (by rw [sec]; decide), if_neg (by rw [bad]; decide)]
  dsimp only
  rw [State.setFld_ldr, State.reg_setAdmit]

end

theorem State.authFails_ldr : s.authFails.ldr = s.ldr := by
  rw [State.authFails, State.raise_ldr, State.setAdmit_ldr, State.setFld_ldr]

theorem LoaderOnly.authFails (h : LoaderOnly s t) : LoaderOnly s t.authFails := h.setFld.setAdmit.raise

theorem State.authFails_spec (s : State) : s.authFails.fld F.CFG_STATUS_AUTH = 2 ∧
    OnlyFields [F.CFG_STATUS_AUTH, whole R.CFG_ADMIT, F.FLT_STAT_LOSTOCC] s s.authFails ∧
    Raised 20 (admitWord (if s.ldr.dry then 2 else 0) 4 0) s s.authFails := by
  have auth : OnlyFields [F.CFG_STATUS_AUTH] s (s.setFld F.CFG_STATUS_AUTH 2) := onlyFields_setFld (by decide)
  have shows : OnlyFields [whole R.CFG_ADMIT] (s.setFld F.CFG_STATUS_AUTH 2)
      ((s.setFld F.CFG_STATUS_AUTH 2).setAdmit (if s.ldr.dry then 2 else 0) 4 0) := onlyFields_setAdmit
  have both := onlyFields_app auth shows
  obtain ⟨raised, lost, -⟩ := ((s.setFld F.CFG_STATUS_AUTH 2).setAdmit (if s.ldr.dry then 2 else 0) 4 0).raise_spec 20
    (admitWord (if s.ldr.dry then 2 else 0) 4 0).toNat
  rw [BitVec.ofNat_toNat, BitVec.setWidth_eq] at raised
  refine ⟨?_, onlyFields_app both lost, raised.of_same (both _ (by decide) (by decide)) fun _ => State.events_of_flt ?_⟩
  · exact ((onlyFields_app shows lost) _ (by decide) (by decide)).trans (State.fld_setFld_fits (by decide) (by decide))
  · rw [State.setAdmit_flt, State.setFld_flt]

/-- A load that AUTH refuses (R49). -/
theorem State.authFails_refused (s : State) : LoadRefused 4 0 s (s.authFails.loadRefuse 4 0) ∧
    (s.ldr.boot = false → (s.authFails.loadRefuse 4 0).fld F.CFG_STATUS_AUTH = 2) ∧
    (s.on (F.FLT_SRCi_EN 20) = true → (s.events 20).length < 15 → (s.authFails.loadRefuse 4 0).events 20 =
      s.events 20 ++ [⟨(s.authFails.loadRefuse 4 0).reg R.CFG_ADMIT, false⟩]) := by
  obtain ⟨auth, fields, raised⟩ := s.authFails_spec
  obtain ⟨-, raised19, endFields, -⟩ := s.authFails.endLoad_spec 4 0
  refine ⟨(s.authFails.loadRefuse_spec 4 0).of_same State.authFails_ldr ?_ ?_, fun host => ?_, fun en len => ?_⟩
  · have apart : ∀ j ∈ [7, 19], (F.FLT_SRCi_EN j).ok ∧
        ∀ g ∈ [F.CFG_STATUS_AUTH, whole R.CFG_ADMIT, F.FLT_STAT_LOSTOCC], g.apart (F.FLT_SRCi_EN j) := by decide
    exact fun j hj => fields.on (apart j hj).1 (apart j hj).2
  · have other : ∀ j ∈ [7, 19], j ≠ 20 := by decide
    exact fun j hj => raised.2 j (other j hj)
  · rw [State.loadRefuse_host (by rw [State.authFails_ldr]; exact host)]
    exact (endFields _ (by decide) (by decide)).trans auth
  · rw [State.loadRefuse_events (by decide), raised19.2 20 (by decide), State.loadRefuse_word, State.authFails_ldr]
    exact raised.1 en len

/-! ## The obligation -/

/-- Settles O4: each of the three commands by its equation, the rest is aside of the loader. -/
theorem loader_FetchCheckAuth : Obligations.Loader_FetchCheckAuth := by
  intro s live
  refine ⟨fun im state run => ?_, fun im run => ?_, fun state => ?_, fun state => ?_, fun runs =>
    ⟨fun b state run magic low high addr4 => ?_, fun state run => ?_,
      fun u v d ds m n img bad state free head hm hn rest himg hbad => ⟨fun passes => ?_, fun r i finds => ?_⟩,
      fun state sec => ?_, fun state sec good => ?_, fun state sec bad => ?_⟩⟩
  · exact runs_unchanged (op := (·.fetchDone im)) live rfl (State.fetchDone_other state run)
  · exact runs_effect (op := (·.fetchDone im)) live rfl (State.fetchDone_dropped run)
      ⟨State.flashNext_ldr.trans Aside.fetchEnds.ldr,
        (State.fld_congr State.flashNext_regs).trans Aside.fetchEnds.ldrState⟩
  · exact runs_unchanged (op := State.checkDone) live rfl (if_neg fun all => state all.1)
  · exact runs_unchanged (op := State.authDone) live rfl (if_neg fun all => state all.1)
  · have goes := State.paused_of_ldrRuns runs
    refine runs_effect (op := (·.fetchDone (some b))) live rfl
      (State.fetchDone_stages state run goes magic low high addr4) ⟨?_, fun u hu => ?_⟩
    · exact (State.fld_congr State.flashNext_regs).trans (State.ldrSet_spec (by decide)).1
    · subst hu
      exact (LoaderOnly.refl _).ldrSet.flashNext.mem
  · have goes := State.paused_of_ldrRuns runs
    refine runs_effect (op := (·.fetchDone none)) live rfl (State.fetchDone_none state run goes) ?_
    exact (((s.fetchEnds none).loadRefuse_spec 1 0).of_aside Aside.fetchEnds).then_flash State.flashNext_regs
      State.flashNext_flt State.flashNext_ldr
  · subst hm
    have judges := State.checkDone_judges state runs free head hn rest himg hbad
    rw [passes, State.judged_passes] at judges
    have aside : Aside s (v.checkPassed img) := Aside.checkPassed head rest
    have after : LoaderOnly (v.checkPassed img) (State.ldrSet { v.checkPassed img with ldr :=
      { (v.checkPassed img).ldr with img := img, secs := imageSecs img } } 3) := (LoaderOnly.refl _).setLdr.ldrSet
    refine runs_effect (op := State.checkDone) live rfl judges
      ⟨(State.ldrSet_spec (by decide)).1, ?_, ?_, after.mem.trans State.checkPassed_mem, after.conf.trans aside.conf⟩
    · rw [State.ldrSet_ldr]
    · rw [State.ldrSet_ldr]
  · subst hm
    have judges := State.checkDone_judges state runs free head hn rest himg hbad
    rw [finds] at judges
    have aside : Aside s (v.checkPassed img) := Aside.checkPassed head rest
    have after : LoaderOnly (v.checkPassed img) ((v.checkPassed img).loadRefuse r i) := (LoaderOnly.refl _).loadRefuse
    exact runs_effect (op := State.checkDone) live rfl judges ⟨((v.checkPassed img).loadRefuse_spec r i).of_aside aside,
      after.mem.trans State.checkPassed_mem, after.conf.trans aside.conf⟩
  · exact runs_effect (op := State.authDone) live rfl (State.authDone_passes state runs (.inl ⟨sec, rfl⟩))
      (s.authPasses_spec (by decide))
  · exact runs_effect (op := State.authDone) live rfl (State.authDone_passes state runs (.inr ⟨sec, good, rfl⟩))
      (s.authPasses_spec (by decide))
  · obtain ⟨refused, auth, event⟩ := s.authFails_refused
    exact runs_effect (op := State.authDone) live rfl (State.authDone_fails state runs sec bad)
      ⟨refused, auth, event, (LoaderOnly.refl s).authFails.loadRefuse.eq⟩

end Sys2Proof.Machine

end

section

/-!
# Commits

A commit that ends, is refused, arrives or is applied (R54, R70, R71, R105, R172, R173).
-/

namespace Sys2Proof.Machine

variable {s t u : State} {f : Fld} {a i r reason item : Nat} {snap : Tab Word}

/-! ## The end of a commit -/

/-- What the loader keeps of a commit that has ended. -/
def LoaderState.noCommit (l : LoaderState) : LoaderState := { l with commit := .idle, snap := [] }

/-- The loader forgets its commit. -/
def State.forgetCommit (s : State) : State := { s with ldr := s.ldr.noCommit }

/-- The fields that the end of a commit sets. -/
abbrev commitFields : List Fld := [F.TIM_COMMIT_COMMIT, F.TIM_COMMIT_PENDING, F.CFG_STATUS_PENDING]

theorem State.commitEnd_eq : s.commitEnd =
    ((s.forgetCommit.setOn F.TIM_COMMIT_COMMIT false).setOn F.TIM_COMMIT_PENDING false).cfgPending := by
  unfold State.commitEnd State.forgetCommit LoaderState.noCommit
  rfl

@[simp] theorem State.commitEnd_ldr : s.commitEnd.ldr = s.ldr.noCommit := by
  rw [State.commitEnd_eq, State.cfgPending_ldr, State.setOn_ldr, State.setOn_ldr, State.forgetCommit]

@[simp] theorem State.commitEnd_flt : s.commitEnd.flt = s.flt := by
  rw [State.commitEnd_eq, State.cfgPending_flt, State.setOn_flt, State.setOn_flt, State.forgetCommit]

@[simp] theorem State.commitEnd_flash : s.commitEnd.flash = s.flash := by
  rw [State.commitEnd_eq, State.cfgPending_flash, State.setOn_flash, State.setOn_flash, State.forgetCommit]

theorem LoaderOnly.commitEnd (h : LoaderOnly s t) : LoaderOnly s t.commitEnd := by
  rw [State.commitEnd_eq]
  exact h.setLdr.setOn.setOn.cfgPending

theorem LoaderOnly.shad (h : LoaderOnly s t) : t.shad = s.shad := by rw [h.eq]

theorem LoaderOnly.tabs (h : LoaderOnly s t) : t.tabs = s.tabs := by rw [h.eq]

/-- COMMIT and PENDING read 0; PENDING of the loader shows an image that waits. -/
theorem State.commitEnd_spec (s : State) : s.commitEnd.on F.TIM_COMMIT_COMMIT = false ∧
    s.commitEnd.on F.TIM_COMMIT_PENDING = false ∧ OnlyFields commitFields s s.commitEnd := by
  have commit : OnlyFields [F.TIM_COMMIT_COMMIT] s (s.forgetCommit.setOn F.TIM_COMMIT_COMMIT false) :=
    onlyFields_setOn (by decide) false
  have wait : OnlyFields [F.TIM_COMMIT_PENDING] (s.forgetCommit.setOn F.TIM_COMMIT_COMMIT false)
      ((s.forgetCommit.setOn F.TIM_COMMIT_COMMIT false).setOn F.TIM_COMMIT_PENDING false) := onlyFields_setOn (by decide) false
  rw [State.commitEnd_eq]
  refine ⟨?_, ?_, onlyFields_app (onlyFields_app commit wait) onlyFields_cfgPending⟩
  · rw [onlyFields_cfgPending.on (by decide) (by decide), wait.on (by decide) (by decide)]
    exact State.on_setOn_same (by decide) false
  · rw [onlyFields_cfgPending.on (by decide) (by decide)]
    exact State.on_setOn_same (by decide) false

/-! ## A commit is refused -/

@[simp] theorem State.commitRefuse_ldr : (s.commitRefuse reason item).ldr = s.ldr.noCommit := by
  rw [State.commitRefuse, State.commitEnd_ldr, State.refuse_ldr]

@[simp] theorem State.commitRefuse_flash : (s.commitRefuse reason item).flash = s.flash := by
  rw [State.commitRefuse, State.commitEnd_flash, State.refuse_flash]

theorem LoaderOnly.commitRefuse (h : LoaderOnly s t) : LoaderOnly s (t.commitRefuse reason item) := h.refuse.commitEnd

theorem State.commitRefuse_spec (s : State) (reason item : Nat) :
    (s.commitRefuse reason item).on F.TIM_COMMIT_COMMIT = false ∧
    (s.commitRefuse reason item).reg R.CFG_ADMIT = admitWord 1 reason item ∧
    Raised 19 ((s.commitRefuse reason item).reg R.CFG_ADMIT) s (s.commitRefuse reason item) ∧
    OnlyFields (refuseFields ++ commitFields) s (s.commitRefuse reason item) := by
  obtain ⟨word, raised, fields⟩ := s.refuse_spec 1 reason item
  obtain ⟨commit, -, ends⟩ := (s.refuse 1 reason item).commitEnd_spec
  have word' : (s.commitRefuse reason item).reg R.CFG_ADMIT = admitWord 1 reason item := (ends.reg (by decide)).trans word
  refine ⟨commit, word', ⟨fun en len => ?_, fun j hj => ?_⟩, onlyFields_app fields ends⟩
  · rw [word']
    exact (State.events_of_flt State.commitEnd_flt).trans (raised.1 en len)
  · exact (State.events_of_flt State.commitEnd_flt).trans (raised.2 j hj)

/-! ## A commit arrives -/

/-- The loader with a commit that has arrived. -/
def State.commitWaits (s : State) : State :=
  ({ s with ldr := { s.ldr with commit := .arrived } }.setOn F.TIM_COMMIT_PENDING true).cfgPending

@[simp] theorem State.commitWaits_ldr : s.commitWaits.ldr = { s.ldr with commit := .arrived } := by
  rw [State.commitWaits, State.cfgPending_ldr, State.setOn_ldr]

@[simp] theorem State.commitWaits_flt : s.commitWaits.flt = s.flt := by
  rw [State.commitWaits, State.cfgPending_flt, State.setOn_flt]

@[simp] theorem State.commitWaits_flash : s.commitWaits.flash = s.flash := by
  rw [State.commitWaits, State.cfgPending_flash, State.setOn_flash]

theorem LoaderOnly.commitWaits (h : LoaderOnly s t) : LoaderOnly s t.commitWaits := h.setLdr.setOn.cfgPending

theorem State.commitWaits_tim : s.commitWaits.tim = s.tim := by rw [((LoaderOnly.refl s).commitWaits).eq]

theorem State.commitWaits_spec (s : State) : s.commitWaits.on F.TIM_COMMIT_PENDING = true ∧
    s.commitWaits.on F.CFG_STATUS_PENDING = true ∧
    OnlyFields [F.TIM_COMMIT_PENDING, F.CFG_STATUS_PENDING] s s.commitWaits := by
  have wait : OnlyFields [F.TIM_COMMIT_PENDING] s
      ({ s with ldr := { s.ldr with commit := .arrived } }.setOn F.TIM_COMMIT_PENDING true) := onlyFields_setOn (by decide) true
  refine ⟨?_, ?_, onlyFields_app wait onlyFields_cfgPending⟩
  · exact (onlyFields_cfgPending.on (by decide) (by decide)).trans (State.on_setOn_same (by decide) true)
  · rw [State.commitWaits, State.on_cfgPending, State.setOn_ldr]
    rfl

/-- The event of a commit that comes after the window (R173). -/
def State.commitLate (s : State) : State :=
  (s.setOn F.TIM_STAT_COMMIT_LATE true).raise 102 (s.fld F.TIM_FRAME_COUNT)

/-- With a configuration running, outside the window, a commit waits. -/
theorem State.commitArrive_waits (active : s.active = true) (closed : s.on F.TIM_STAT_WINDOW = false) :
    s.commitArrive = if s.tim.winClosed then s.commitWaits.commitLate else s.commitWaits := by
  have waits : ¬ ((!s.active) = true ∨ s.on F.TIM_STAT_WINDOW = true) := by
    rw [active, closed]
    decide
  rw [← State.commitWaits_tim]
  unfold State.commitArrive State.commitWaits State.commitLate
  rw [if_neg waits]

/-- Otherwise it is applied. -/
theorem State.commitArrive_applies (h : s.active = false ∨ s.on F.TIM_STAT_WINDOW = true) : s.commitArrive = s.commitApply := by
  refine if_pos (h.imp_left fun off => ?_)
  rw [off]
  rfl

/-! ## A commit is applied -/

/-- The registers of the loader and of commits have no shadowed fields. -/
theorem shadowed_commit : ∀ a ∈ [R.TIM_COMMIT, R.TIM_STAT, R.CFG_CTRL, R.CFG_STATUS, R.CFG_ADMIT, R.CFG_OCC_MAX, R.CFG_IMG,
    R.FLT_STAT], shadowed a = false := by
  decide +kernel

theorem loaderReg_of_shadowed (h : shadowed a = true) : loaderReg a = true := by
  rw [loaderReg, h]
  rfl

/-- The exchange of the dirty tables depends on the tables alone. -/
theorem State.swapTables_tabs (h : t.tabs = s.tabs) : t.swapTables.tabs = s.swapTables.tabs := by
  unfold State.swapTables State.tableCopyDone
  rw [h]
  split
  · dsimp only
    rw [h]
  · dsimp only

theorem State.swapTables_frame : s.swapTables = { s with tabs := s.swapTables.tabs } := by
  unfold State.swapTables State.tableCopyDone
  split
  · rfl
  · rfl

/-- The active registers with the snapshot copied in. -/
def State.copied (s : State) : State := { s with regs := withShadows s.regs s.ldr.snap }

/-- The commit is in the registers and in the tables. -/
def State.committed (s : State) : State := s.copied.commitEnd.swapTables

/-- A register other than the number of the occupancy. -/
theorem State.reg_occShow {v : Nat} (h : a ≠ R.CFG_OCC_MAX) : (s.occShow v).reg a = s.reg a := State.reg_setReg_other h

/-- With a configuration running the occupancy is shown anew. -/
def State.reshown (s : State) : State :=
  if s.active then
    ({ s with tim := { s.tim with commitSince := true } }).occShow (occMax (s.candidate s.conf.secs s.regs))
  else s

theorem State.reshown_reg (h : a ≠ R.CFG_OCC_MAX) : s.reshown.reg a = s.reg a := by
  unfold State.reshown
  split
  · exact State.reg_occShow h
  · rfl

theorem State.reshown_spec (s : State) : s.reshown.ldr = s.ldr ∧ s.reshown.shad = s.shad ∧ s.reshown.tabs = s.tabs := by
  unfold State.reshown
  split
  · unfold State.occShow
    exact ⟨by rw [State.setReg_ldr], by rw [State.setReg_shad], by rw [State.setReg_tabs]⟩
  · exact ⟨rfl, rfl, rfl⟩

theorem State.commitApply_eq : s.commitApply = (s.committed.regsChanged s.regs).reshown := by
  unfold State.commitApply State.reshown State.committed State.copied
  rfl

/-- The fields that a commit sets beside shadowed ones. -/
abbrev applyFields : List Fld := commitFields ++ [whole R.CFG_OCC_MAX]

theorem State.committed_regs : s.committed.regs = s.copied.commitEnd.regs := by rw [State.committed, State.swapTables_frame]

theorem State.committed_ldr : s.committed.ldr = s.ldr.noCommit := by
  have same : s.committed.ldr = s.copied.commitEnd.ldr := by rw [State.committed, State.swapTables_frame]
  rw [same, State.commitEnd_ldr, State.copied]

theorem State.committed_shad : s.committed.shad = s.shad := by
  have same : s.committed.shad = s.copied.commitEnd.shad := by rw [State.committed, State.swapTables_frame]
  rw [same, ((LoaderOnly.refl s.copied).commitEnd).shad, State.copied]

theorem State.committed_tabs : s.committed.tabs = s.swapTables.tabs :=
  State.swapTables_tabs ((LoaderOnly.refl s.copied).commitEnd).tabs

/-- Of the registers of the loader and of commits, only the number of the occupancy is not as the snapshot gives it. -/
theorem State.commitApply_reg (h : loaderReg a = true) (occ : a ≠ R.CFG_OCC_MAX) :
    s.commitApply.reg a = s.copied.commitEnd.reg a := by
  have aside : Aside s.committed (s.committed.regsChanged s.regs) := (Aside.refl _).regsChanged
  have changed := (aside.reg a h).trans (State.reg_congr State.committed_regs)
  rw [State.commitApply_eq]
  exact (State.reshown_reg occ).trans changed

theorem State.commitApply_aside : s.commitApply.ldr = s.ldr.noCommit ∧ s.commitApply.shad = s.shad ∧
    s.commitApply.tabs = s.swapTables.tabs ∧
    s.commitApply.fld F.TIM_STAT_WINDOW = s.copied.commitEnd.fld F.TIM_STAT_WINDOW := by
  have aside : Aside s.committed (s.committed.regsChanged s.regs) := (Aside.refl _).regsChanged
  obtain ⟨ldr, shad, tabs⟩ := (s.committed.regsChanged s.regs).reshown_spec
  rw [State.commitApply_eq]
  refine ⟨ldr.trans (aside.ldr.trans State.committed_ldr), shad.trans (aside.shad.trans State.committed_shad),
    tabs.trans (aside.tabs.trans State.committed_tabs), ?_⟩
  exact (State.fld_of_reg (State.reshown_reg (by decide))).trans (aside.window.trans (State.fld_congr State.committed_regs))

/-- A register of the loader and of commits without shadowed fields keeps its other fields. -/
theorem State.commitApply_fld (hf : loaderReg f.addr = true ∧ shadowed f.addr = false ∧ f.addr ≠ R.CFG_OCC_MAX)
    (ok : f.ok) (apart : ∀ g ∈ commitFields, g.apart f) : s.commitApply.fld f = s.fld f := by
  obtain ⟨own, plain, occ⟩ := hf
  refine (State.fld_of_reg (State.commitApply_reg own occ)).trans ((s.copied.commitEnd_spec.2.2 f ok apart).trans ?_)
  exact State.fld_of_reg (get_withShadows_plain plain)

theorem State.commitApply_ldrState : s.commitApply.ldrState = s.ldrState :=
  State.commitApply_fld ⟨loaderReg_own (by decide), shadowed_commit _ (by decide), by decide⟩ (by decide) (by decide)

theorem State.commitApply_window : s.commitApply.on F.TIM_STAT_WINDOW = s.on F.TIM_STAT_WINDOW := by
  refine State.on_congr (State.commitApply_aside.2.2.2.trans ?_)
  refine (s.copied.commitEnd_spec.2.2 _ (by decide) (by decide)).trans ?_
  exact State.fld_of_reg (get_withShadows_plain (shadowed_commit _ (by decide)))

theorem State.commitApply_spec (s : State) : CommitApplied s.ldr.snap s s.commitApply := by
  obtain ⟨ldr, shad, tabs, -⟩ := s.commitApply_aside
  obtain ⟨commit, wait, ends⟩ := s.copied.commitEnd_spec
  refine ⟨fun a r f hr hf sh => ?_, shad, tabs, ?_, ?_, by rw [ldr]; rfl⟩
  · have own : shadowed a = true := shadowed_of_field hr hf sh
    have plain : ∀ g ∈ applyFields, shadowed g.addr = false := fun g hg =>
      shadowed_commit _ (by decide +revert)
    have other {g : Fld} (hg : g ∈ applyFields) : g.addr ≠ a := fun e => by
      have := plain g hg
      rw [e, own] at this
      cases this
    have same : s.commitApply.reg a = s.copied.reg a :=
      (State.commitApply_reg (loaderReg_of_shadowed own) (other (g := whole R.CFG_OCC_MAX) (by decide)).symm).trans
        (ends.reg fun g hg => other (List.mem_append_left _ hg))
    rw [same]
    exact bits_withShadows (regs := s.regs) hr hf sh
  · rw [State.on_of_reg (State.commitApply_reg (loaderReg_own (by decide)) (by decide)), commit]
  · rw [State.on_of_reg (State.commitApply_reg (loaderReg_own (by decide)) (by decide)), wait]

/-- A commit of another state with the same shadows and tables. -/
theorem CommitApplied.of_same (h : CommitApplied snap u t) (shad : u.shad = s.shad) (tabs : u.tabs = s.tabs) :
    CommitApplied snap s t := by
  unfold CommitApplied at h ⊢
  rw [← shad, ← State.swapTables_tabs tabs]
  exact h

/-- What follows a commit and leaves its registers, tables and shadows. -/
theorem CommitApplied.then_same (h : CommitApplied snap s t) (regs : ∀ a, shadowed a = true → u.reg a = t.reg a)
    (commit : u.reg R.TIM_COMMIT = t.reg R.TIM_COMMIT) (shad : u.shad = t.shad) (tabs : u.tabs = t.tabs)
    (ldr : u.ldr.commit = t.ldr.commit) : CommitApplied snap s u := by
  obtain ⟨copied, hshad, htabs, hcommit, hwait, hldr⟩ := h
  refine ⟨fun a r f hr hf sh => ?_, shad.trans hshad, tabs.trans htabs, ?_, ?_, ldr.trans hldr⟩
  · rw [regs a (shadowed_of_field hr hf sh)]
    exact copied a r f hr hf sh
  · rw [State.on_of_reg (f := F.TIM_COMMIT_COMMIT) commit, hcommit]
  · rw [State.on_of_reg (f := F.TIM_COMMIT_PENDING) commit, hwait]

/-! ## A commit begins -/

/-- COMMIT reads 1. -/
def State.commitAsked (s : State) : State := s.setOn F.TIM_COMMIT_COMMIT true

/-- The snapshot is taken. -/
def State.snapped (s : State) : State := { s with ldr := { s.ldr with snap := s.shad } }

theorem onlyFields_commitAsked : OnlyFields [F.TIM_COMMIT_COMMIT] s s.commitAsked := onlyFields_setOn (by decide) true

theorem State.commitAsked_ldrState : s.commitAsked.ldrState = s.ldrState := onlyFields_commitAsked _ (by decide) (by decide)

theorem State.commitAsked_active : s.commitAsked.snapped.active = s.active := onlyFields_commitAsked.on (by decide) (by decide)

theorem State.commitAsked_window : s.commitAsked.snapped.on F.TIM_STAT_WINDOW = s.on F.TIM_STAT_WINDOW :=
  onlyFields_commitAsked.on (by decide) (by decide)

theorem State.commitAsked_on : s.commitAsked.on F.TIM_COMMIT_COMMIT = true := State.on_setOn_same (by decide) true

theorem State.commitAsked_ldr : s.commitAsked.ldr = s.ldr := by rw [State.commitAsked, State.setOn_ldr]

theorem State.commitAsked_flt : s.commitAsked.flt = s.flt := by rw [State.commitAsked, State.setOn_flt]

theorem State.commitAsked_flash : s.commitAsked.flash = s.flash := by rw [State.commitAsked, State.setOn_flash]

theorem State.commitAsked_shad : s.commitAsked.shad = s.shad := by rw [State.commitAsked, State.setOn_shad]

theorem LoaderOnly.commitAsked (h : LoaderOnly s t) : LoaderOnly s t.commitAsked := h.setOn

/-- COMMIT itself is no admitted field. -/
theorem State.changesAdmitted_commitAsked :
    changesAdmitted s.commitAsked.regs s.commitAsked.shad = changesAdmitted s.regs s.shad := by
  have plain : shadowed R.TIM_COMMIT = false := shadowed_commit _ (by decide)
  rw [State.commitAsked_shad]
  refine changesAdmitted_congr fun a ha => ?_
  refine State.reg_setReg_other fun e => ?_
  rw [e, plain] at ha
  cases ha

section
variable (shut : s.on F.THM_STAT_SHUT = false)
include shut

theorem State.commit_ignored (h : s.on F.TIM_COMMIT_COMMIT = true) : s.commit = s.incSat F.TIM_COMMIT_IGNORED := by
  unfold State.commit
  rw [if_neg (by rw [shut]; decide), if_pos h]

section
variable (free : s.on F.TIM_COMMIT_COMMIT = false)
include free

theorem State.commit_refused (state : 5 ≤ s.ldrState) : s.commit = s.commitAsked.commitRefuse 0x33 0 := by
  unfold State.commit
  rw [if_neg (by rw [shut]; decide), if_neg (by rw [free]; decide)]
  exact if_pos (State.commitAsked_ldrState.symm ▸ state)

theorem State.commit_held (state : s.ldrState = 4) :
    s.commit = { s.commitAsked with ldr := { s.commitAsked.ldr with commit := .held } } := by
  have asked := (State.commitAsked_ldrState (s := s)).trans state
  unfold State.commit
  rw [if_neg (by rw [shut]; decide), if_neg (by rw [free]; decide)]
  exact (if_neg fun late => absurd late (by rw [← State.commitAsked, asked]; decide)).trans (if_pos asked)

theorem State.commit_goes (state : s.ldrState < 4) : s.commit = s.commitAsked.commitGo := by
  have asked : s.commitAsked.ldrState < 4 := State.commitAsked_ldrState.symm ▸ state
  unfold State.commit
  rw [if_neg (by rw [shut]; decide), if_neg (by rw [free]; decide)]
  exact (if_neg (Nat.not_le_of_lt (Nat.lt_succ_of_lt asked))).trans (if_neg (Nat.ne_of_lt asked))

end
end

/-- What the loader keeps of a commit that asks for admission. -/
def LoaderState.asks (l : LoaderState) (snap : Tab Word) (paused : Bool) : LoaderState :=
  { l with snap := snap, commit := .admitting, paused := paused }

/-- A change of an admitted field goes to admission, and pauses a load (R70). -/
theorem State.commitGo_asks (active : s.active = true) (changes : changesAdmitted s.regs s.shad = true) :
    s.commitGo = { s with ldr := s.ldr.asks s.shad (decide (1 ≤ s.ldrState) && decide (s.ldrState ≤ 3)) } :=
  if_pos (Bool.and_eq_true_iff.2 ⟨active, changes⟩)

/-- Any other commit arrives at once. -/
theorem State.commitGo_arrives (h : s.active = false ∨ changesAdmitted s.regs s.shad = false) :
    s.commitGo = s.snapped.commitArrive := by
  refine if_neg fun both => ?_
  obtain ⟨active, changes⟩ := Bool.and_eq_true_iff.1 both
  exact h.elim (fun off => Bool.false_ne_true (off.symm.trans active)) fun no => Bool.false_ne_true (no.symm.trans changes)

end Sys2Proof.Machine

end

section

/-!
# COMMIT and the commit window

COMMIT by the state that it meets, and the commit window (R54, R55, R70, R71, R105, R171 to R173).
-/

namespace Sys2Proof.Machine

variable {s t u : State}

/-! ## COMMIT -/

/-- In WAIT and APPLY a commit is refused (R54). -/
theorem State.commit_refused_spec (s : State) : (s.commitAsked.commitRefuse 0x33 0).on F.TIM_COMMIT_COMMIT = false ∧
    (s.commitAsked.commitRefuse 0x33 0).ldr.commit = .idle ∧
    (s.commitAsked.commitRefuse 0x33 0).fld F.CFG_ADMIT_REASON = 0x33 ∧
    (s.commitAsked.commitRefuse 0x33 0).fld F.CFG_ADMIT_ORIGIN = 1 ∧
    Raised 19 ((s.commitAsked.commitRefuse 0x33 0).reg R.CFG_ADMIT) s (s.commitAsked.commitRefuse 0x33 0) := by
  obtain ⟨commit, word, raised, -⟩ := s.commitAsked.commitRefuse_spec 0x33 0
  obtain ⟨origin, reason, -⟩ := fields_of_admitWord word
  refine ⟨commit, ?_, reason, origin, ?_⟩
  · rw [State.commitRefuse_ldr, LoaderState.noCommit]
  · exact raised.of_same (onlyFields_commitAsked _ (by decide) (by decide)) fun _ => State.events_of_flt State.commitAsked_flt

/-- The state in which a commit that no admission holds up arrives. -/
abbrev State.commitReady (s : State) : State := s.commitAsked.snapped

theorem LoaderOnly.commitReady (h : LoaderOnly s t) : LoaderOnly s t.commitReady := h.commitAsked.setLdr

theorem State.commitReady_ldr : s.commitReady.ldr = { s.ldr with snap := s.shad } := by
  unfold State.commitReady State.snapped
  rw [State.commitAsked_ldr, State.commitAsked_shad]

theorem State.commitReady_flt : s.commitReady.flt = s.flt := State.commitAsked_flt

theorem State.commitReady_flash : s.commitReady.flash = s.flash := State.commitAsked_flash

theorem State.commitReady_tim : s.commitReady.tim = s.tim := by rw [((LoaderOnly.refl s).commitReady).eq]

theorem onlyFields_commitReady : OnlyFields [F.TIM_COMMIT_COMMIT] s s.commitReady := onlyFields_commitAsked

/-- A commit that waits for the window; after it, it is late. -/
def State.commitStays (s : State) : State :=
  if s.tim.winClosed then s.commitReady.commitWaits.commitLate else s.commitReady.commitWaits

theorem State.commitLate_ldr : s.commitLate.ldr = s.ldr := by
  rw [State.commitLate, State.raise_ldr, State.setOn_ldr]

theorem State.commitLate_flash : s.commitLate.flash = s.flash := by
  rw [State.commitLate, State.raise_flash, State.setOn_flash]

theorem State.commitLate_spec (s : State) : s.commitLate.on F.TIM_STAT_COMMIT_LATE = true ∧
    Raised 102 (BitVec.ofNat 32 (s.fld F.TIM_FRAME_COUNT)) s s.commitLate ∧
    OnlyFields [F.TIM_STAT_COMMIT_LATE, F.FLT_STAT_LOSTOCC] s s.commitLate := by
  have late : OnlyFields [F.TIM_STAT_COMMIT_LATE] s (s.setOn F.TIM_STAT_COMMIT_LATE true) := onlyFields_setOn (by decide) true
  obtain ⟨raised, lost, -⟩ := (s.setOn F.TIM_STAT_COMMIT_LATE true).raise_spec 102 (s.fld F.TIM_FRAME_COUNT)
  refine ⟨?_, raised.of_same (late _ (by decide) (by decide)) fun _ => State.events_of_flt (State.setOn_flt ..),
     onlyFields_app late lost⟩
  exact (lost.on (by decide) (by decide)).trans (State.on_setOn_same (by decide) true)

theorem LoaderOnly.commitStays (h : LoaderOnly s t) : LoaderOnly s t.commitStays := by
  unfold State.commitStays
  split
  · exact h.commitReady.commitWaits.setOn.raise
  · exact h.commitReady.commitWaits

theorem State.commitStays_late (closed : s.tim.winClosed = true) : s.commitStays = s.commitReady.commitWaits.commitLate :=
  if_pos closed

theorem State.commitStays_early (early : s.tim.winClosed = false) : s.commitStays = s.commitReady.commitWaits :=
  if_neg (by rw [early]; decide)

theorem State.commitStays_ldr : s.commitStays.ldr = { s.ldr with snap := s.shad, commit := .arrived } := by
  have waits : s.commitReady.commitWaits.ldr = { s.ldr with snap := s.shad, commit := .arrived } := by
    rw [State.commitWaits_ldr, State.commitReady_ldr]
  unfold State.commitStays
  split
  · exact State.commitLate_ldr.trans waits
  · exact waits

theorem State.commitStays_flash : s.commitStays.flash = s.flash := by
  have waits : s.commitReady.commitWaits.flash = s.flash := by
    rw [State.commitWaits_flash, State.commitReady_flash]
  unfold State.commitStays
  split
  · exact State.commitLate_flash.trans waits
  · exact waits

theorem State.commitStays_spec (s : State) : s.commitStays.on F.TIM_COMMIT_COMMIT = true ∧
    s.commitStays.on F.TIM_COMMIT_PENDING = true ∧ s.commitStays.on F.CFG_STATUS_PENDING = true ∧
    (s.tim.winClosed = true → s.commitStays.on F.TIM_STAT_COMMIT_LATE = true ∧
      Raised 102 (BitVec.ofNat 32 (s.fld F.TIM_FRAME_COUNT)) s s.commitStays) ∧
    (s.tim.winClosed = false → s.commitStays.flt = s.flt) := by
  obtain ⟨wait, pending, fields⟩ := s.commitReady.commitWaits_spec
  obtain ⟨late, raised, after⟩ := s.commitReady.commitWaits.commitLate_spec
  have before := onlyFields_app onlyFields_commitReady fields
  have commit : s.commitReady.commitWaits.on F.TIM_COMMIT_COMMIT = true :=
    (fields.on (by decide) (by decide)).trans State.commitAsked_on
  cases closed : s.tim.winClosed with
  | false =>
    rw [State.commitStays_early closed]
    refine ⟨commit, wait, pending, fun h => absurd h Bool.false_ne_true, fun _ => ?_⟩
    rw [State.commitWaits_flt, State.commitReady_flt]
  | true =>
    rw [State.commitStays_late closed]
    refine ⟨(after.on (by decide) (by decide)).trans commit, (after.on (by decide) (by decide)).trans wait,
      (after.on (by decide) (by decide)).trans pending, fun _ => ⟨late, ?_⟩, fun h => absurd h.symm Bool.false_ne_true⟩
    rw [before F.TIM_FRAME_COUNT (by decide) (by decide)] at raised
    refine raised.of_same (before _ (by decide) (by decide)) fun _ => State.events_of_flt ?_
    rw [State.commitWaits_flt, State.commitReady_flt]

section
variable (shut : s.on F.THM_STAT_SHUT = false) (free : s.on F.TIM_COMMIT_COMMIT = false) (state : s.ldrState < 4)
include shut free state

/-- A change of an admitted field asks for admission. -/
theorem State.commit_asks (active : s.active = true) (changes : changesAdmitted s.regs s.shad = true) :
    s.commit = { s.commitAsked with ldr := s.ldr.asks s.shad (decide (1 ≤ s.ldrState)) } := by
  have on : s.commitAsked.active = true := State.commitAsked_active.trans active
  have low : decide (s.ldrState ≤ 3) = true := decide_eq_true (Nat.le_of_lt_succ state)
  have asks : s.commitAsked.ldr.asks s.commitAsked.shad
      (decide (1 ≤ s.commitAsked.ldrState) && decide (s.commitAsked.ldrState ≤ 3)) =
      s.ldr.asks s.shad (decide (1 ≤ s.ldrState)) := by
    rw [State.commitAsked_ldrState, State.commitAsked_ldr, State.commitAsked_shad, low, Bool.and_true]
  rw [State.commit_goes shut free state, State.commitGo_asks on (State.changesAdmitted_commitAsked.trans changes), asks]

/-- Any other commit arrives. -/
theorem State.commit_arrives (h : s.active = false ∨ changesAdmitted s.regs s.shad = false) :
    s.commit = s.commitReady.commitArrive := by
  rw [State.commit_goes shut free state]
  exact State.commitGo_arrives (h.imp State.commitAsked_active.trans State.changesAdmitted_commitAsked.trans)

theorem State.commit_waits (active : s.active = true) (plain : changesAdmitted s.regs s.shad = false)
    (closed : s.on F.TIM_STAT_WINDOW = false) : s.commit = s.commitStays := by
  rw [State.commit_arrives shut free state (.inr plain),
    State.commitArrive_waits (State.commitAsked_active.trans active) (State.commitAsked_window.trans closed),
    State.commitStays, State.commitReady_tim]

theorem State.commit_applies (now : s.active = false ∨ s.on F.TIM_STAT_WINDOW = true)
    (h : s.active = false ∨ changesAdmitted s.regs s.shad = false) : CommitApplied s.shad s s.commit := by
  have applied := s.commitReady.commitApply_spec
  rw [State.commitReady_ldr] at applied
  rw [State.commit_arrives shut free state h,
    State.commitArrive_applies (now.imp State.commitAsked_active.trans State.commitAsked_window.trans)]
  exact applied.of_same ((LoaderOnly.refl s).commitReady).shad ((LoaderOnly.refl s).commitReady).tabs

end

/-! ## The commit window -/

/-- The window opens; what was recalibrated in the last one may be again (R406). -/
def State.windowOn (s : State) : State := { s with mem := { s.mem with recalMade := false } }.setOn F.TIM_STAT_WINDOW true

theorem State.windowOn_ldr : s.windowOn.ldr = s.ldr := by rw [State.windowOn, State.setOn_ldr]

theorem State.windowOn_shad : s.windowOn.shad = s.shad := by rw [State.windowOn, State.setOn_shad]

theorem State.windowOn_tabs : s.windowOn.tabs = s.tabs := by rw [State.windowOn, State.setOn_tabs]

theorem State.windowOn_on : s.windowOn.on F.TIM_STAT_WINDOW = true := State.on_setOn_same (by decide) true

theorem State.windowOn_ldrState : s.windowOn.ldrState = s.ldrState :=
  onlyFields_setOn (f := F.TIM_STAT_WINDOW) (by decide) true _ (by decide) (by decide)

/-- A commit that has arrived is applied. -/
def State.windowCommits (s : State) : State :=
  if s.windowOn.ldr.commit = .arrived then s.windowOn.commitApply else s.windowOn

theorem State.windowCommits_spec (s : State) : s.windowCommits.on F.TIM_STAT_WINDOW = true ∧
    s.windowCommits.ldrState = s.ldrState ∧ s.windowCommits.ldr.partialWait = s.ldr.partialWait := by
  unfold State.windowCommits
  split
  · rw [State.commitApply_window, State.commitApply_ldrState, State.commitApply_aside.1, State.windowOn_ldr]
    exact ⟨State.windowOn_on, State.windowOn_ldrState, rfl⟩
  · rw [State.windowOn_ldr]
    exact ⟨State.windowOn_on, State.windowOn_ldrState, rfl⟩

theorem State.windowCommits_applied (h : s.ldr.commit = .arrived) : CommitApplied s.ldr.snap s s.windowCommits := by
  have applied := s.windowOn.commitApply_spec
  rw [State.windowOn_ldr] at applied
  have arrived : s.windowOn.ldr.commit = .arrived := by rw [State.windowOn_ldr, h]
  rw [State.windowCommits, if_pos arrived]
  exact applied.of_same State.windowOn_shad State.windowOn_tabs

/-- A commit that the window applies, whatever follows it in the window. -/
theorem CommitApplied.ldrSet {snap : Tab Word} {st : Nat} (h : CommitApplied snap s t) : CommitApplied snap s (t.ldrSet st) := by
  have fields : OnlyFields stateFields t (t.ldrSet st) := onlyFields_app (onlyFields_setFld (by decide)) onlyFields_cfgPending
  have plain : ∀ f ∈ stateFields, shadowed f.addr = false := fun f hf => shadowed_commit _ (by decide +revert)
  refine h.then_same (fun a ha => fields.reg fun f hf e => ?_) (fields.reg (by decide))
    ((LoaderOnly.refl t).ldrSet).shad ((LoaderOnly.refl t).ldrSet).tabs (congrArg _ State.ldrSet_ldr)
  rw [← e, plain f hf] at ha
  cases ha

theorem CommitApplied.aside {snap : Tab Word} (h : CommitApplied snap s t) (aside : Aside t u) : CommitApplied snap s u :=
  h.then_same (fun _ ha => aside.reg _ (loaderReg_of_shadowed ha)) (aside.reg _ (loaderReg_own (by decide))) aside.shad
    aside.tabs (congrArg _ aside.ldr)

/-- A partial image that waits goes on to APPLY (R72). -/
def State.imageGoes (s : State) : State := if s.ldrState = 5 ∧ s.ldr.partialWait = true then s.ldrGo 6 else s

theorem State.imageGoes_spec (s : State) : s.imageGoes.on F.TIM_STAT_WINDOW = s.on F.TIM_STAT_WINDOW ∧
    s.imageGoes.ldrState = (if s.ldrState = 5 ∧ s.ldr.partialWait = true then 6 else s.ldrState) ∧
    (∀ snap u, CommitApplied snap u s → CommitApplied snap u s.imageGoes) := by
  unfold State.imageGoes
  split
  · obtain ⟨state, -, fields⟩ := s.ldrSet_spec (st := 6) (by decide)
    rw [State.ldrGo_busy (by decide)]
    exact ⟨fields.on (by decide) (by decide), state, fun _ _ applied => applied.ldrSet⟩
  · exact ⟨rfl, rfl, fun _ _ applied => applied⟩

section
variable (runs : s.framesRun = true) (closed : s.on F.TIM_STAT_WINDOW = false) (early : s.tim.winClosed = false)
include runs closed early

theorem State.windowOpen_eq : s.windowOpen = s.windowCommits.calDeferred.imageGoes := by
  have opens : ¬ ((!s.framesRun) = true ∨ s.on F.TIM_STAT_WINDOW = true ∨ s.tim.winClosed = true) := by
    rw [runs, closed, early]
    decide
  exact if_neg opens

theorem State.windowOpen_spec : s.windowOpen.on F.TIM_STAT_WINDOW = true ∧
    s.windowOpen.ldrState = (if s.ldrState = 5 ∧ s.ldr.partialWait = true then 6 else s.ldrState) ∧
    (s.ldr.commit = .arrived → CommitApplied s.ldr.snap s s.windowOpen) := by
  obtain ⟨window, state, waits⟩ := s.windowCommits_spec
  have aside : Aside s.windowCommits s.windowCommits.calDeferred := (Aside.refl _).calDeferred
  obtain ⟨sameWindow, goes, applied⟩ := s.windowCommits.calDeferred.imageGoes_spec
  rw [aside.ldrState, aside.ldr, state, waits] at goes
  rw [State.windowOpen_eq runs closed early]
  exact ⟨sameWindow.trans ((State.on_congr aside.window).trans window), goes,
    fun arrived => applied _ _ ((State.windowCommits_applied arrived).aside aside)⟩

end

/-! ## The obligation -/

/-- Settles O6: each case of COMMIT by its equation, and the window by what it applies. -/
theorem commit_HeldRefusedArrived : Obligations.Commit_HeldRefusedArrived := by
  intro s live
  refine ⟨fun shut => ⟨fun taken => ?_, fun free state => ?_, fun free state => ?_, fun free state active changes => ?_,
    fun free state active plain closed => ?_, fun free state idle _ => ?_, fun free state active plain window _ => ?_⟩,
    fun runs closed early => ?_, fun runs => ?_, fun stands => ⟨?_, ?_⟩⟩
  · exact runs_effect (op := State.commit) live rfl (State.commit_ignored shut taken)
      ⟨State.fld_incSat_same (by decide), onlyFields_incSat (by decide), rfl⟩
  · obtain ⟨commit, idle, reason, origin, raised⟩ := s.commit_refused_spec
    refine runs_effect (op := State.commit) live rfl (State.commit_refused shut free state)
      ⟨commit, idle, reason, origin, raised, (LoaderOnly.refl s).commitAsked.commitRefuse.eq_flash ?_⟩
    rw [State.commitRefuse_flash, State.commitAsked_flash]
  · refine runs_effect (op := State.commit) live rfl (State.commit_held shut free state) ⟨State.commitAsked_on, ?_⟩
    rw [State.commitAsked_ldr]
    rfl
  · refine runs_effect (op := State.commit) live rfl (State.commit_asks shut free state active changes)
      ⟨State.commitAsked_on, rfl, rfl, rfl, ?_⟩
    exact (LoaderOnly.refl s).commitAsked.setLdr.eq_flt_flash State.commitAsked_flt State.commitAsked_flash
  · obtain ⟨commit, wait, pending, late, on_time⟩ := s.commitStays_spec
    refine runs_effect (op := State.commit) live rfl (State.commit_waits shut free state active plain closed)
      ⟨commit, wait, pending, ?_, ?_, late, on_time, (LoaderOnly.refl s).commitStays.eq_flash State.commitStays_flash⟩
    · rw [State.commitStays_ldr]
    · rw [State.commitStays_ldr]
  · exact runs_effect (op := State.commit) live rfl rfl (State.commit_applies shut free state (.inl idle) (.inl idle))
  · exact runs_effect (op := State.commit) live rfl rfl (State.commit_applies shut free state (.inr window) (.inr plain))
  · obtain ⟨window, state, applied⟩ := State.windowOpen_spec runs closed early
    exact runs_effect (op := State.windowOpen) live rfl rfl ⟨window, state, fun arrived _ _ => applied arrived⟩
  · exact runs_effect (op := State.windowClose) live rfl (if_pos runs)
      ⟨State.on_setOn_same (by decide) false, rfl, onlyFields_setOn (by decide) false, rfl⟩
  · exact runs_unchanged (op := State.windowOpen) live rfl (if_pos (.inl (by rw [stands]; rfl)))
  · exact runs_unchanged (op := State.windowClose) live rfl (if_neg (by rw [stands]; decide))

end Sys2Proof.Machine

end

section

/-!
# Admission

The admission of an image and of a commit (R51, R52, R54, R55, R58, R60, R69 to R72).
-/

namespace Sys2Proof.Machine

variable {s t u : State} {f : Fld} {r i : Nat} {W : List Fld}

/-! ## PENDING -/

/-- The loader waits with nothing that a frame start or a window will take, but for a commit that has arrived. -/
theorem State.on_cfgPending_busy (h : s.ldrState ≠ 5) :
    s.cfgPending.on F.CFG_STATUS_PENDING = decide (s.ldr.commit = .arrived) := by
  rw [State.on_cfgPending, beq_eq_false_iff_ne.2 h, Bool.or_false, Bool.beq_eq_decide_eq]

/-- An image waits. -/
theorem State.on_cfgPending_waits (h : s.ldrState = 5) : s.cfgPending.on F.CFG_STATUS_PENDING = true := by
  rw [State.on_cfgPending, h, beq_self_eq_true, Bool.or_true]

theorem State.cfgPending_ldrState : s.cfgPending.ldrState = s.ldrState := onlyFields_cfgPending _ (by decide) (by decide)

theorem State.cfgPending_word : s.cfgPending.reg R.CFG_ADMIT = s.reg R.CFG_ADMIT := onlyFields_cfgPending.reg (by decide)

/-- A refusal, and PENDING. -/
theorem LoadRefused.cfgPending (h : LoadRefused r i s t) : LoadRefused r i s t.cfgPending := by
  have admitFld {f : Fld} (hf : f.addr = R.CFG_ADMIT) : t.cfgPending.fld f = t.fld f :=
    State.fld_of_reg (hf ▸ State.cfgPending_word)
  have load : t.cfgPending.on F.CFG_CTRL_LOAD = t.on F.CFG_CTRL_LOAD := onlyFields_cfgPending.on (by decide) (by decide)
  have events (j : Nat) : t.cfgPending.events j = t.events j := State.events_of_flt State.cfgPending_flt
  unfold LoadRefused at h ⊢
  rw [admitFld rfl, admitFld rfl, admitFld rfl, State.cfgPending_word, events, events, State.cfgPending_ldrState, load,
    State.cfgPending_ldr]
  exact h

/-- A load that is refused does not wait. -/
theorem LoadRefused.ldrState_ne (h : LoadRefused r i s t) : t.ldrState ≠ 5 := by
  obtain ⟨-, -, -, -, host, second, last⟩ := h
  cases boot : s.ldr.boot with
  | false => rw [(host boot).1]; decide
  | true =>
    by_cases both : s.ldr.src = 1 ∧ s.ldr.bootSrc = 0
    · rw [(second boot both.1 both.2).1]; decide
    · rw [(last boot (not_and_or.1 both)).1]; decide

theorem State.bootNext_commit {boot : Bool} {src : Nat} : (s.bootNext boot src).ldr.commit = s.ldr.commit := by
  cases boot with
  | false => rfl
  | true =>
    by_cases second : src = 1 ∧ s.ldr.bootSrc = 0
    · rw [State.bootNext_second second.1 second.2, State.flashAsk_ldr, State.ldrSet_ldr, State.startLoad_ldr, LoaderState.begun]
    · rw [State.bootNext_fails (not_and_or.1 second), State.raise_ldr]

theorem State.loadRefuse_commit : (s.loadRefuse r i).ldr.commit = s.ldr.commit := by
  rw [State.loadRefuse_eq, State.bootNext_commit, State.endLoad_ldr, LoaderState.idle]

/-! ## Frames run -/

/-- Whether frames run depends on the clocks, the timing and two registers. -/
theorem State.framesRun_congr (tim : t.tim = s.tim) (clk : t.clk = s.clk) (lock : t.reg R.CLK_STAT = s.reg R.CLK_STAT)
    (gate : t.reg R.CLK_GSTAT = s.reg R.CLK_GSTAT) (shut : t.reg R.THM_STAT = s.reg R.THM_STAT) :
    t.framesRun = s.framesRun := by
  have locked : t.locked 3 = s.locked 3 := by
    rw [State.locked, State.fld_of_reg (f := F.CLK_STAT_LOCK) lock, State.locked]
  have gated : t.isGated 12 = s.isGated 12 := State.isGated_congr (State.fld_of_reg gate)
  rw [State.framesRun, tim, clk, locked, gated, State.on_of_reg (f := F.THM_STAT_SHUT) shut, State.framesRun]

/-! ## The image under admission -/

/-- What the loader keeps of an image that is admitted. -/
def LoaderState.taken (l : LoaderState) (occ : Nat) (waits : Bool) : LoaderState := { l with occ := occ, partialWait := waits }

/-- The same state with another loader. -/
def State.withLdr (s : State) (l : LoaderState) : State := { s with ldr := l }

section
variable {l : LoaderState}

theorem State.withLdr_ldr : (s.withLdr l).ldr = l := rfl

theorem State.withLdr_regs : (s.withLdr l).regs = s.regs := rfl

theorem State.withLdr_flt : (s.withLdr l).flt = s.flt := rfl

theorem State.withLdr_flash : (s.withLdr l).flash = s.flash := rfl

theorem LoaderOnly.withLdr (h : LoaderOnly s t) : LoaderOnly s (t.withLdr l) := h.setLdr

theorem onlyFields_withLdr (h : OnlyFields W s t) : OnlyFields W s (t.withLdr l) :=
  onlyFields_trans h (onlyFields_of_regs W State.withLdr_regs)

end

/-- CFG_ADMIT shows that the image is admitted. -/
def State.admitShown (s : State) : State := s.setAdmit (if s.ldr.dry then 2 else 0) 0 0

/-- The image is admitted, and is no dry run. -/
def State.imageTaken (s : State) : State :=
  s.admitShown.withLdr (s.admitShown.ldr.taken (occMax s.admitShown.imageCandidate) (isPartial s.admitShown.ldr.img))

theorem onlyFields_admitShown : OnlyFields [whole R.CFG_ADMIT] s s.admitShown := onlyFields_setAdmit

theorem State.admitShown_ldr : s.admitShown.ldr = s.ldr := by rw [State.admitShown, State.setAdmit_ldr]

theorem State.admitShown_flt : s.admitShown.flt = s.flt := by rw [State.admitShown, State.setAdmit_flt]

theorem State.admitShown_flash : s.admitShown.flash = s.flash := by rw [State.admitShown, State.setAdmit_flash]

theorem LoaderOnly.admitShown (h : LoaderOnly s t) : LoaderOnly s t.admitShown := h.setAdmit

theorem State.admitShown_word : s.admitShown.reg R.CFG_ADMIT = admitWord (if s.ldr.dry then 2 else 0) 0 0 := State.reg_setAdmit

theorem onlyFields_imageTaken : OnlyFields [whole R.CFG_ADMIT] s s.imageTaken := onlyFields_withLdr onlyFields_admitShown

theorem State.imageTaken_word (dry : s.ldr.dry = false) : s.imageTaken.reg R.CFG_ADMIT = admitWord 0 0 0 := by
  rw [State.imageTaken, State.reg_congr State.withLdr_regs, State.admitShown_word, dry, if_neg Bool.false_ne_true]

theorem State.imageTaken_commit : s.imageTaken.ldr.commit = s.ldr.commit := by
  rw [State.imageTaken, State.withLdr_ldr, LoaderState.taken, State.admitShown_ldr]

theorem State.imageTaken_waits : s.imageTaken.ldr.partialWait = isPartial s.ldr.img := by
  rw [State.imageTaken, State.withLdr_ldr, LoaderState.taken, State.admitShown_ldr]

theorem State.imageTaken_flt : s.imageTaken.flt = s.flt := by
  rw [State.imageTaken, State.withLdr_flt, State.admitShown_flt]

theorem State.imageTaken_flash : s.imageTaken.flash = s.flash := by
  rw [State.imageTaken, State.withLdr_flash, State.admitShown_flash]

theorem LoaderOnly.imageTaken (h : LoaderOnly s t) : LoaderOnly s t.imageTaken := h.admitShown.withLdr

theorem State.imageTaken_active : s.imageTaken.active = s.active := onlyFields_imageTaken.on (by decide) (by decide)

theorem State.imageTaken_window : s.imageTaken.on F.TIM_STAT_WINDOW = s.on F.TIM_STAT_WINDOW :=
  onlyFields_imageTaken.on (by decide) (by decide)

theorem State.imageTaken_framesRun : s.imageTaken.framesRun = s.framesRun := by
  have only : LoaderOnly s s.imageTaken := (LoaderOnly.refl s).imageTaken
  exact State.framesRun_congr (by rw [only.eq]) (by rw [only.eq]) (onlyFields_imageTaken.reg (by decide))
    (onlyFields_imageTaken.reg (by decide)) (onlyFields_imageTaken.reg (by decide))

/-- The loader with a restructure that waits for its frame start. -/
def State.restructWaits (s : State) : State := s.withLdr { s.ldr with restruct := .waiting }

/-! ## The admission of an image ends -/

theorem State.imageAdmitted_refused (h : s.imageFinding = some (r, i)) : s.imageAdmitted = s.loadRefuse r i := by
  unfold State.imageAdmitted
  rw [h]

section
variable (found : s.imageFinding = none)
include found

/-- A dry run ends (R52). -/
theorem State.imageAdmitted_dry (dry : s.ldr.dry = true) : s.imageAdmitted = s.admitShown.ldrGo 0 := by
  unfold State.imageAdmitted
  rw [found]
  exact if_pos ((congrArg LoaderState.dry State.admitShown_ldr).trans dry)

section
variable (real : s.ldr.dry = false)
include real

theorem State.imageAdmitted_taken : s.imageAdmitted =
    if (!s.imageTaken.active) = true then s.imageTaken.ldrGo 6
    else if isPartial s.ldr.img = true then
      (if s.imageTaken.on F.TIM_STAT_WINDOW = true then s.imageTaken.ldrGo 6 else s.imageTaken.ldrGo 5)
    else if s.imageTaken.framesRun = true then s.imageTaken.restructWaits.ldrGo 5
    else s.imageTaken.restructBegin := by
  have dry : ¬ s.admitShown.ldr.dry = true := by
    rw [State.admitShown_ldr, real]
    decide
  rw [← State.admitShown_ldr (s := s)]
  unfold State.imageAdmitted
  rw [found]
  exact if_neg dry

/-- With no configuration running the image goes to APPLY. -/
theorem State.imageAdmitted_first (off : s.active = false) : s.imageAdmitted = s.imageTaken.ldrSet 6 := by
  rw [State.imageAdmitted_taken found real, State.imageTaken_active, off, if_pos (by decide), State.ldrGo_busy (by decide)]

section
variable (active : s.active = true)
include active

/-- A partial image waits for the commit window. -/
theorem State.imageAdmitted_partial (part : isPartial s.ldr.img = true) :
    s.imageAdmitted = s.imageTaken.ldrSet (if s.on F.TIM_STAT_WINDOW then 6 else 5) := by
  rw [State.imageAdmitted_taken found real, State.imageTaken_active, active, if_neg (by decide), if_pos part,
    State.imageTaken_window, State.ldrGo_busy (by decide), State.ldrGo_busy (by decide)]
  split
  · rfl
  · rfl

/-- A full image waits for its frame start. -/
theorem State.imageAdmitted_full (full : isPartial s.ldr.img = false) (runs : s.framesRun = true) :
    s.imageAdmitted = s.imageTaken.restructWaits.ldrSet 5 := by
  rw [State.imageAdmitted_taken found real, State.imageTaken_active, active, if_neg (by decide), full, if_neg (by decide),
    State.imageTaken_framesRun, runs, if_pos rfl, State.ldrGo_busy (by decide)]

/-- With no frames it begins its restructure at once. -/
theorem State.imageAdmitted_stands (full : isPartial s.ldr.img = false) (stands : s.framesRun = false) :
    s.imageAdmitted = s.imageTaken.restructBegin := by
  rw [State.imageAdmitted_taken found real, State.imageTaken_active, active, if_neg (by decide), full, if_neg (by decide),
    State.imageTaken_framesRun, stands, if_neg (by decide)]

end
end
end

/-! ## The restructure begins -/

/-- The loader writes. -/
def State.restructWrites (s : State) : State := s.withLdr { s.ldr with restruct := .writing }

/-- A restructure that the blanked tile waits for. -/
def State.restructBlanks (s : State) : State :=
  ((s.whenDo s.imageRelocks (·.setOn F.TIM_STAT_RELOCK true)).restructWrites.allDrop).blankOn 4

theorem State.restructBegin_eq : s.restructBegin = s.restructBlanks.ldrSet 6 := by
  rw [← State.ldrGo_busy (by decide)]
  rfl

/-- A request to blank that is on (R186). -/
theorem State.blankSync_src : s.blankSync.fld F.CHN_STAT_BLANK_SRC = s.fld F.CHN_STAT_BLANK_SRC := by
  have shown {a b : Bool} : ((s.setOn F.CHN_STAT_BLANK_E0 a).setOn F.CHN_STAT_BLANK_E1 b).fld F.CHN_STAT_BLANK_SRC =
      s.fld F.CHN_STAT_BLANK_SRC :=
    (onlyFields_app (onlyFields_setOn (by decide) a) (onlyFields_setOn (by decide) b)) _ (by decide) (by decide)
  unfold State.blankSync
  extract_lets on s1
  have h1 : s1.fld F.CHN_STAT_BLANK_SRC = s.fld F.CHN_STAT_BLANK_SRC := shown
  clear_value s1
  split
  · exact h1
  · exact (State.fld_setFld_apart (by decide) (by decide)).trans h1

/-- The ports send the frame that blanks them. -/
def State.blankSends (s : State) : State := s.each (blankPorts 4) fun s p => s.sendFrame p 10 (2 ^ 19) true

theorem State.blankSends_regs : s.blankSends.regs = s.regs :=
  State.each_keeps (P := fun u => u.regs = s.regs) rfl fun _ _ _ hu => ite_keeps (P := fun u => u.regs = s.regs) hu hu

theorem State.holdLoops_regs : s.holdLoops.regs = s.regs :=
  State.each_keeps (P := fun u => u.regs = s.regs) rfl fun _ _ _ hu => hu

theorem State.blankOn_src : (s.blankOn 4).fld F.CHN_STAT_BLANK_SRC / 2 ^ 4 % 2 = 1 := by
  have bound : s.fld F.CHN_STAT_BLANK_SRC ≤ 255 := State.fld_le_max
  by_cases on : s.fld F.CHN_STAT_BLANK_SRC / 2 ^ 4 % 2 = 1
  · have same : s.blankOn 4 = s := if_pos on
    rw [same, on]
  · have blanks : s.blankOn 4 =
        (s.setFld F.CHN_STAT_BLANK_SRC (s.fld F.CHN_STAT_BLANK_SRC + 2 ^ 4)).blankSends.blankSync.holdLoops := if_neg on
    have fits : s.fld F.CHN_STAT_BLANK_SRC + 2 ^ 4 ≤ F.CHN_STAT_BLANK_SRC.max := by
      show _ ≤ 255
      omega
    rw [blanks, State.fld_congr State.holdLoops_regs, State.blankSync_src, State.fld_congr State.blankSends_regs,
      State.fld_setFld_fits (by decide) fits]
    omega

theorem State.restructBlanks_spec (s : State) : s.restructBlanks.ldr = { s.ldr with restruct := .writing } ∧
    s.restructBlanks.fld F.CHN_STAT_BLANK_SRC / 2 ^ 4 % 2 = 1 ∧
    s.restructBlanks.reg R.CFG_ADMIT = s.reg R.CFG_ADMIT := by
  have relock : Aside s (s.whenDo s.imageRelocks (·.setOn F.TIM_STAT_RELOCK true)) :=
    (Aside.refl s).whenDo fun h => h.setOn (by decide)
  have blanks : Aside (s.whenDo s.imageRelocks (·.setOn F.TIM_STAT_RELOCK true)).restructWrites s.restructBlanks :=
    (Aside.refl _).allDrop.blankOn
  refine ⟨blanks.ldr.trans ?_, State.blankOn_src, (blanks.reg _ (loaderReg_own (by decide))).trans
    (relock.reg _ (loaderReg_own (by decide)))⟩
  rw [State.restructWrites, State.withLdr_ldr, relock.ldr]

end Sys2Proof.Machine

end

section

/-!
# ADMISSION_DONE

What an admission that ends does, of an image and of a commit (R51, R52, R54, R55, R57, R58, R71, R72).
-/

namespace Sys2Proof.Machine

variable {s t u : State} {r i st : Nat}

/-! ## Where the image goes -/

/-- The loader in another state, and PENDING. -/
theorem State.ldrSet_shown (s : State) (h : st ≤ 6) : (s.ldrSet st).cfgPending.ldrState = st ∧
    (s.ldrSet st).cfgPending.reg R.CFG_ADMIT = s.reg R.CFG_ADMIT ∧
    (st ≠ 5 → (s.ldrSet st).cfgPending.on F.CFG_STATUS_PENDING = decide (s.ldr.commit = .arrived)) ∧
    (st = 5 → (s.ldrSet st).cfgPending.on F.CFG_STATUS_PENDING = true) ∧ (s.ldrSet st).cfgPending.ldr = s.ldr := by
  obtain ⟨state, -, fields⟩ := s.ldrSet_spec h
  refine ⟨State.cfgPending_ldrState.trans state, State.cfgPending_word.trans (fields.reg (by decide)), fun busy => ?_,
    fun waits => State.on_cfgPending_waits (state.trans waits), by rw [State.cfgPending_ldr, State.ldrSet_ldr]⟩
  rw [State.on_cfgPending_busy (state.trans_ne busy), State.ldrSet_ldr]

theorem State.ldrSet_cfgPending_flt : (s.ldrSet st).cfgPending.flt = s.flt := by
  rw [State.cfgPending_flt, State.ldrSet_flt]

theorem State.ldrSet_cfgPending_flash : (s.ldrSet st).cfgPending.flash = s.flash := by
  rw [State.cfgPending_flash, State.ldrSet_flash]

theorem State.ldrSet_ldrState (h : st ≤ 6) : (s.ldrSet st).ldrState = st := (s.ldrSet_spec h).1

theorem State.restructWaits_ldr : s.restructWaits.ldr = { s.ldr with restruct := .waiting } := by
  rw [State.restructWaits, State.withLdr_ldr]

theorem State.restructBegin_commit : s.restructBegin.ldr.commit = s.ldr.commit := by
  rw [State.restructBegin_eq, State.ldrSet_ldr, s.restructBlanks_spec.1]

/-- The admission of an image leaves a commit as it is. -/
theorem State.imageAdmitted_commit : s.imageAdmitted.ldr.commit = s.ldr.commit := by
  cases found : s.imageFinding with
  | some x =>
    rw [State.imageAdmitted_refused found]
    exact State.loadRefuse_commit
  | none =>
    cases dry : s.ldr.dry with
    | true => rw [State.imageAdmitted_dry found dry, State.ldrGo_idle_ldr, LoaderState.idle, State.admitShown_ldr]
    | false =>
      cases active : s.active with
      | false => rw [State.imageAdmitted_first found dry active, State.ldrSet_ldr, State.imageTaken_commit]
      | true =>
        cases part : isPartial s.ldr.img with
        | true => rw [State.imageAdmitted_partial found dry active part, State.ldrSet_ldr, State.imageTaken_commit]
        | false =>
          cases runs : s.framesRun with
          | true => rw [State.imageAdmitted_full found dry active part runs, State.ldrSet_ldr, State.restructWaits_ldr,
              State.imageTaken_commit]
          | false => rw [State.imageAdmitted_stands found dry active part runs, State.restructBegin_commit,
              State.imageTaken_commit]

/-- An image that is admitted waits or is applied. -/
theorem State.imageAdmitted_waits (found : s.imageFinding = none) (dry : s.ldr.dry = false) : 5 ≤ s.imageAdmitted.ldrState := by
  cases active : s.active with
  | false =>
    rw [State.imageAdmitted_first found dry active, State.ldrSet_ldrState (by decide)]
    decide
  | true =>
    cases part : isPartial s.ldr.img with
    | true =>
      rw [State.imageAdmitted_partial found dry active part]
      split
      · rw [State.ldrSet_ldrState (by decide)]
        decide
      · exact (State.ldrSet_ldrState (by decide)).ge
    | false =>
      cases runs : s.framesRun with
      | true =>
        rw [State.imageAdmitted_full found dry active part runs]
        exact (State.ldrSet_ldrState (by decide)).ge
      | false =>
        rw [State.imageAdmitted_stands found dry active part runs, State.restructBegin_eq, State.ldrSet_ldrState (by decide)]
        decide

/-! ## The admission of an image -/

section
variable (gated : s.isGated 10 = false) (clocked : s.hubRuns = true)
include gated clocked

theorem State.admissionDone_runs : ¬ (s.isGated 10 = true ∨ (!s.hubRuns) = true) := by
  rw [gated, clocked]
  decide

theorem State.admissionDone_image (state : s.ldrState = 4) (free : s.ldr.commit ≠ .admitting) :
    s.admissionDone = s.imageAdmitted.cfgPending.commitResume :=
  (if_neg (State.admissionDone_runs gated clocked)).trans ((if_neg free).trans (if_pos state))

/-- No commit waits for the image. -/
theorem State.admissionDone_free (state : s.ldrState = 4) (free : s.ldr.commit = .idle ∨ s.ldr.commit = .arrived) :
    s.admissionDone = s.imageAdmitted.cfgPending := by
  have admitting : s.ldr.commit ≠ .admitting := fun e => by simp [e] at free
  have held : s.imageAdmitted.cfgPending.ldr.commit ≠ .held := fun e => by
    rw [State.cfgPending_ldr, State.imageAdmitted_commit] at e
    simp [e] at free
  rw [State.admissionDone_image gated clocked state admitting, State.commitResume_none held]

/-- A commit that was held meets an image that waits (R54). -/
theorem State.admissionDone_held (state : s.ldrState = 4) (held : s.ldr.commit = .held) (found : s.imageFinding = none)
    (dry : s.ldr.dry = false) : s.admissionDone = s.imageAdmitted.cfgPending.commitRefuse 0x33 0 := by
  have stays : s.imageAdmitted.cfgPending.ldr.commit = .held := by
    rw [State.cfgPending_ldr, State.imageAdmitted_commit, held]
  have waits : 5 ≤ s.imageAdmitted.cfgPending.ldrState := by
    rw [State.cfgPending_ldrState]
    exact State.imageAdmitted_waits found dry
  rw [State.admissionDone_image gated clocked state (by rw [held]; decide)]
  exact (if_pos stays).trans (if_pos waits)

theorem State.admissionDone_other (state : s.ldrState ≠ 4) (free : s.ldr.commit ≠ .admitting) : s.admissionDone = s :=
  (if_neg (State.admissionDone_runs gated clocked)).trans ((if_neg free).trans (if_neg state))

end

/-- A load that admission refuses (R51). -/
theorem State.imageRefused_spec (found : s.imageFinding = some (r, i)) : LoadRefused r i s s.imageAdmitted.cfgPending ∧
    s.imageAdmitted.cfgPending.on F.CFG_STATUS_PENDING = decide (s.ldr.commit = .arrived) ∧
    (s.ldr.boot = false → s.imageAdmitted.cfgPending = { s with
      regs := s.imageAdmitted.cfgPending.regs, flt := s.imageAdmitted.cfgPending.flt,
      ldr := s.imageAdmitted.cfgPending.ldr }) := by
  have refused := s.loadRefuse_spec r i
  rw [State.imageAdmitted_refused found]
  refine ⟨refused.cfgPending, ?_, fun host => ?_⟩
  · rw [State.on_cfgPending_busy refused.ldrState_ne, State.loadRefuse_commit]
  · rw [State.loadRefuse_host host]
    refine (LoaderOnly.refl s).endLoad.cfgPending.eq_flash ?_
    rw [State.cfgPending_flash, State.endLoad_flash]

/-- A dry run that passes. -/
theorem State.imageDry_spec (found : s.imageFinding = none) (dry : s.ldr.dry = true) :
    s.imageAdmitted.cfgPending.ldrState = 0 ∧ s.imageAdmitted.cfgPending.fld F.CFG_ADMIT_REASON = 0 ∧
    s.imageAdmitted.cfgPending.fld F.CFG_ADMIT_ORIGIN = 2 ∧
    s.imageAdmitted.cfgPending.on F.CFG_STATUS_PENDING = decide (s.ldr.commit = .arrived) ∧
    s.imageAdmitted.cfgPending = { s with
      regs := s.imageAdmitted.cfgPending.regs, ldr := s.imageAdmitted.cfgPending.ldr } := by
  obtain ⟨state, -, -, -, fields⟩ := s.admitShown.ldrGo_idle_spec
  rw [State.imageAdmitted_dry found dry]
  have word : (s.admitShown.ldrGo 0).cfgPending.reg R.CFG_ADMIT = admitWord 2 0 0 := by
    rw [State.cfgPending_word, fields.reg (by decide), State.admitShown_word, dry, if_pos rfl]
  obtain ⟨origin, reason, -⟩ := fields_of_admitWord word
  refine ⟨State.cfgPending_ldrState.trans state, reason, origin, ?_, ?_⟩
  · rw [State.on_cfgPending_busy (state.trans_ne (by decide)), State.ldrGo_idle_ldr, LoaderState.idle, State.admitShown_ldr]
  · refine (LoaderOnly.refl s).admitShown.ldrGo.cfgPending.eq_flt_flash ?_ ?_
    · rw [State.cfgPending_flt, State.ldrGo_flt, State.admitShown_flt]
    · rw [State.cfgPending_flash, State.ldrGo_flash, State.admitShown_flash]

section
variable (found : s.imageFinding = none) (dry : s.ldr.dry = false)
include found dry

/-- The first image. -/
theorem State.imageFirst_spec (off : s.active = false) :
    s.imageAdmitted.cfgPending.ldrState = 6 ∧ s.imageAdmitted.cfgPending.fld F.CFG_ADMIT_REASON = 0 ∧
    s.imageAdmitted.cfgPending.fld F.CFG_ADMIT_ORIGIN = 0 ∧
    s.imageAdmitted.cfgPending.on F.CFG_STATUS_PENDING = decide (s.ldr.commit = .arrived) ∧
    s.imageAdmitted.cfgPending = { s with
      regs := s.imageAdmitted.cfgPending.regs, ldr := s.imageAdmitted.cfgPending.ldr } := by
  rw [State.imageAdmitted_first found dry off]
  obtain ⟨state, word, busy, -, -⟩ := s.imageTaken.ldrSet_shown (st := 6) (by decide)
  obtain ⟨origin, reason, -⟩ := fields_of_admitWord (word.trans (State.imageTaken_word dry))
  refine ⟨state, reason, origin, (busy (by decide)).trans (by rw [State.imageTaken_commit]), ?_⟩
  exact (LoaderOnly.refl s).imageTaken.ldrSet.cfgPending.eq_flt_flash
    (State.ldrSet_cfgPending_flt.trans State.imageTaken_flt) (State.ldrSet_cfgPending_flash.trans State.imageTaken_flash)

section
variable (active : s.active = true)
include active

/-- A partial image. -/
theorem State.imagePartial_spec (part : isPartial s.ldr.img = true) :
    s.imageAdmitted.cfgPending.ldrState = (if s.on F.TIM_STAT_WINDOW then 6 else 5) ∧
    s.imageAdmitted.cfgPending.ldr.partialWait = true ∧
    s.imageAdmitted.cfgPending = { s with
      regs := s.imageAdmitted.cfgPending.regs, ldr := s.imageAdmitted.cfgPending.ldr } := by
  have low : (if s.on F.TIM_STAT_WINDOW then 6 else 5) ≤ 6 := by
    split
    · exact Nat.le_refl 6
    · decide
  rw [State.imageAdmitted_partial found dry active part]
  obtain ⟨state, -, -, -, ldr⟩ := s.imageTaken.ldrSet_shown low
  refine ⟨state, ?_, ?_⟩
  · rw [ldr, State.imageTaken_waits, part]
  · exact (LoaderOnly.refl s).imageTaken.ldrSet.cfgPending.eq_flt_flash
      (State.ldrSet_cfgPending_flt.trans State.imageTaken_flt) (State.ldrSet_cfgPending_flash.trans State.imageTaken_flash)

section
variable (full : isPartial s.ldr.img = false)
include full

/-- A full image that its frame start takes. -/
theorem State.imageWaits_spec (runs : s.framesRun = true) :
    s.imageAdmitted.cfgPending.ldrState = 5 ∧ s.imageAdmitted.cfgPending.ldr.restruct = .waiting ∧
    s.imageAdmitted.cfgPending.on F.CFG_STATUS_PENDING = true ∧
    s.imageAdmitted.cfgPending.fld F.CFG_ADMIT_REASON = 0 ∧
    s.imageAdmitted.cfgPending = { s with
      regs := s.imageAdmitted.cfgPending.regs, ldr := s.imageAdmitted.cfgPending.ldr } := by
  have shown : s.imageTaken.restructWaits.reg R.CFG_ADMIT = admitWord 0 0 0 := by
    rw [State.restructWaits, State.reg_congr State.withLdr_regs, State.imageTaken_word dry]
  rw [State.imageAdmitted_full found dry active full runs]
  obtain ⟨state, word, -, waits, ldr⟩ := s.imageTaken.restructWaits.ldrSet_shown (st := 5) (by decide)
  obtain ⟨-, reason, -⟩ := fields_of_admitWord (word.trans shown)
  refine ⟨state, by rw [ldr, State.restructWaits_ldr], waits rfl, reason, ?_⟩
  refine (LoaderOnly.refl s).imageTaken.withLdr.ldrSet.cfgPending.eq_flt_flash ?_ ?_
  · rw [State.ldrSet_cfgPending_flt, State.withLdr_flt, State.imageTaken_flt]
  · rw [State.ldrSet_cfgPending_flash, State.withLdr_flash, State.imageTaken_flash]

/-- A full image that no frame start takes (R72). -/
theorem State.imageStands_spec (stands : s.framesRun = false) :
    s.imageAdmitted.cfgPending.ldrState = 6 ∧ s.imageAdmitted.cfgPending.ldr.restruct = .writing ∧
    s.imageAdmitted.cfgPending.fld F.CHN_STAT_BLANK_SRC / 2 ^ 4 % 2 = 1 ∧
    s.imageAdmitted.cfgPending.on F.CFG_STATUS_PENDING = decide (s.ldr.commit = .arrived) ∧
    s.imageAdmitted.cfgPending.fld F.CFG_ADMIT_REASON = 0 := by
  obtain ⟨writes, blanked, shown⟩ := s.imageTaken.restructBlanks_spec
  obtain ⟨state, word, busy, -, ldr⟩ := s.imageTaken.restructBlanks.ldrSet_shown (st := 6) (by decide)
  obtain ⟨-, -, fields⟩ := s.imageTaken.restructBlanks.ldrSet_spec (st := 6) (by decide)
  obtain ⟨-, reason, -⟩ := fields_of_admitWord ((word.trans shown).trans (State.imageTaken_word dry))
  rw [State.imageAdmitted_stands found dry active full stands, State.restructBegin_eq]
  refine ⟨state, by rw [ldr, writes], ?_, ?_, reason⟩
  · rw [onlyFields_cfgPending F.CHN_STAT_BLANK_SRC (by decide) (by decide), fields F.CHN_STAT_BLANK_SRC (by decide) (by decide)]
    exact blanked
  · rw [busy (by decide), writes, State.imageTaken_commit]

end
end

/-- The commit that was held is refused; the image waits on. -/
theorem State.heldRefused_spec : 5 ≤ (s.imageAdmitted.cfgPending.commitRefuse 0x33 0).ldrState ∧
    (s.imageAdmitted.cfgPending.commitRefuse 0x33 0).ldr.commit = .idle ∧
    (s.imageAdmitted.cfgPending.commitRefuse 0x33 0).on F.TIM_COMMIT_COMMIT = false ∧
    (s.imageAdmitted.cfgPending.commitRefuse 0x33 0).fld F.CFG_ADMIT_REASON = 0x33 ∧
    (s.imageAdmitted.cfgPending.commitRefuse 0x33 0).fld F.CFG_ADMIT_ORIGIN = 1 := by
  obtain ⟨commit, word, -, fields⟩ := s.imageAdmitted.cfgPending.commitRefuse_spec 0x33 0
  obtain ⟨origin, reason, -⟩ := fields_of_admitWord word
  have state : (s.imageAdmitted.cfgPending.commitRefuse 0x33 0).ldrState = s.imageAdmitted.ldrState :=
    (fields _ (by decide) (by decide)).trans State.cfgPending_ldrState
  refine ⟨?_, ?_, commit, reason, origin⟩
  · rw [state]
    exact State.imageAdmitted_waits found dry
  · rw [State.commitRefuse_ldr, LoaderState.noCommit]

end

/-! ## The admission of a commit -/

/-- A load that a commit's admission paused goes on. -/
def State.unpaused (s : State) : State := s.withLdr { s.ldr with paused := false }

theorem State.unpaused_regs : s.unpaused.regs = s.regs := State.withLdr_regs

theorem State.unpaused_shad : s.unpaused.shad = s.shad := rfl

theorem State.unpaused_tabs : s.unpaused.tabs = s.tabs := rfl

theorem State.unpaused_commit : s.unpaused.ldr.commit = s.ldr.commit := by rw [State.unpaused, State.withLdr_ldr]

theorem State.unpaused_paused : s.unpaused.ldr.paused = false := by rw [State.unpaused, State.withLdr_ldr]

/-- A commit is refused, or arrives, as its admission finds (R54). -/
def State.commitJudged (s : State) : Finding → State
  | some (r, i) => s.commitRefuse r i
  | none => (s.setAdmit 1 0 0).commitArrive

theorem State.admissionDone_commit (gated : s.isGated 10 = false) (clocked : s.hubRuns = true)
    (asks : s.ldr.commit = .admitting) : s.admissionDone =
      (s.commitJudged (admission (s.candidate s.conf.secs (withShadows s.regs s.ldr.snap)))).unpaused :=
  (if_neg (State.admissionDone_runs gated clocked)).trans (if_pos asks)

/-- The finding refuses the commit alone. -/
theorem State.commitRefused_spec (s : State) (r i : Nat) : (s.commitRefuse r i).unpaused.ldr.commit = .idle ∧
    (s.commitRefuse r i).unpaused.on F.TIM_COMMIT_COMMIT = false ∧
    (s.commitRefuse r i).unpaused.fld F.CFG_ADMIT_REASON = r % 256 ∧
    (s.commitRefuse r i).unpaused.fld F.CFG_ADMIT_ORIGIN = 1 ∧
    (s.commitRefuse r i).unpaused.shad = s.shad ∧ (s.commitRefuse r i).unpaused.ldr.paused = false ∧
    (s.commitRefuse r i).unpaused = { s with
      regs := (s.commitRefuse r i).unpaused.regs, flt := (s.commitRefuse r i).unpaused.flt,
      ldr := (s.commitRefuse r i).unpaused.ldr } := by
  obtain ⟨commit, word, -, -⟩ := s.commitRefuse_spec r i
  obtain ⟨origin, reason, -⟩ := fields_of_admitWord ((State.reg_congr State.unpaused_regs).trans word)
  have only : LoaderOnly s (s.commitRefuse r i).unpaused := (LoaderOnly.refl s).commitRefuse.withLdr
  refine ⟨?_, (State.on_congr (State.fld_congr State.unpaused_regs)).trans commit, reason, origin, only.shad,
    State.unpaused_paused, only.eq_flash ?_⟩
  · rw [State.unpaused_commit, State.commitRefuse_ldr, LoaderState.noCommit]
  · rw [State.unpaused, State.withLdr_flash, State.commitRefuse_flash]

/-- What a commit that passes admission shows. -/
abbrev State.commitShown (s : State) : State := s.setAdmit 1 0 0

theorem State.commitShown_active : s.commitShown.active = s.active := onlyFields_setAdmit.on (by decide) (by decide)

theorem State.commitShown_window : s.commitShown.on F.TIM_STAT_WINDOW = s.on F.TIM_STAT_WINDOW :=
  onlyFields_setAdmit.on (by decide) (by decide)

/-- A commit that is admitted waits for the window. -/
theorem State.commitAdmitted_waits (active : s.active = true) (closed : s.on F.TIM_STAT_WINDOW = false) :
    s.commitShown.commitArrive.reg R.CFG_ADMIT = admitWord 1 0 0 ∧ s.commitShown.commitArrive.ldr.commit = .arrived ∧
    s.commitShown.commitArrive.on F.TIM_COMMIT_PENDING = true ∧
    s.commitShown.commitArrive.on F.CFG_STATUS_PENDING = true ∧ s.commitShown.commitArrive.shad = s.shad := by
  obtain ⟨wait, pending, fields⟩ := s.commitShown.commitWaits_spec
  obtain ⟨-, -, after⟩ := s.commitShown.commitWaits.commitLate_spec
  have word : s.commitShown.commitWaits.reg R.CFG_ADMIT = admitWord 1 0 0 := (fields.reg (by decide)).trans State.reg_setAdmit
  have only : LoaderOnly s s.commitShown.commitWaits := (LoaderOnly.refl s).setAdmit.commitWaits
  rw [State.commitArrive_waits (State.commitShown_active.trans active) (State.commitShown_window.trans closed)]
  split
  · refine ⟨(after.reg (by decide)).trans word, ?_, (after.on (by decide) (by decide)).trans wait,
      (after.on (by decide) (by decide)).trans pending, only.setOn.raise.shad⟩
    rw [State.commitLate_ldr, State.commitWaits_ldr]
  · exact ⟨word, by rw [State.commitWaits_ldr], wait, pending, only.shad⟩

/-- A commit that is admitted in an open window, or with no configuration running, is applied. -/
theorem State.commitAdmitted_applies (now : s.active = false ∨ s.on F.TIM_STAT_WINDOW = true) :
    s.commitShown.commitArrive.reg R.CFG_ADMIT = admitWord 1 0 0 ∧
    CommitApplied s.ldr.snap s s.commitShown.commitArrive := by
  have applied := s.commitShown.commitApply_spec
  have only : LoaderOnly s s.commitShown := (LoaderOnly.refl s).setAdmit
  rw [State.setAdmit_ldr] at applied
  rw [State.commitArrive_applies (now.imp State.commitShown_active.trans State.commitShown_window.trans)]
  refine ⟨(State.reg_of_whole ?_).trans (State.reg_setAdmit (s := s)), applied.of_same only.shad only.tabs⟩
  exact State.commitApply_fld ⟨loaderReg_own (by decide), shadowed_commit _ (by decide), by decide⟩ (by decide) (by decide)

theorem State.commitAdmitted_spec (s : State) : s.commitShown.commitArrive.unpaused.fld F.CFG_ADMIT_REASON = 0 ∧
    s.commitShown.commitArrive.unpaused.fld F.CFG_ADMIT_ORIGIN = 1 ∧
    s.commitShown.commitArrive.unpaused.ldr.paused = false ∧
    (s.active = true → s.on F.TIM_STAT_WINDOW = false → s.commitShown.commitArrive.unpaused.ldr.commit = .arrived ∧
      s.commitShown.commitArrive.unpaused.on F.TIM_COMMIT_PENDING = true ∧
      s.commitShown.commitArrive.unpaused.on F.CFG_STATUS_PENDING = true ∧
      s.commitShown.commitArrive.unpaused.shad = s.shad) ∧
    (s.active = false ∨ s.on F.TIM_STAT_WINDOW = true →
      CommitApplied s.ldr.snap s s.commitShown.commitArrive.unpaused) := by
  have word : s.commitShown.commitArrive.reg R.CFG_ADMIT = admitWord 1 0 0 := by
    by_cases now : s.active = false ∨ s.on F.TIM_STAT_WINDOW = true
    · exact (State.commitAdmitted_applies now).1
    · rw [not_or, Bool.not_eq_false, Bool.not_eq_true] at now
      exact (State.commitAdmitted_waits now.1 now.2).1
  obtain ⟨origin, reason, -⟩ := fields_of_admitWord ((State.reg_congr State.unpaused_regs).trans word)
  have on {f : Fld} : s.commitShown.commitArrive.unpaused.on f = s.commitShown.commitArrive.on f :=
    State.on_congr (State.fld_congr State.unpaused_regs)
  refine ⟨reason, origin, State.unpaused_paused, fun active closed => ?_, fun now => ?_⟩
  · obtain ⟨-, commit, wait, pending, shad⟩ := State.commitAdmitted_waits active closed
    exact ⟨State.unpaused_commit.trans commit, on.trans wait, on.trans pending, State.unpaused_shad.trans shad⟩
  · exact (State.commitAdmitted_applies now).2.then_same (fun _ _ => State.reg_congr State.unpaused_regs)
      (State.reg_congr State.unpaused_regs) State.unpaused_shad State.unpaused_tabs State.unpaused_commit

end Sys2Proof.Machine

end

section

/-!
# Blocks that a full image starts again

What the zone model, Clasp, the Spine, the clocks, the timing and the DRAM leave of the loader at APPLY (R72, R73, R136,
R219, R244, R376).
-/

namespace Sys2Proof.Machine

namespace Aside

variable {s t : State} {b n p : Nat}

/-! ## The zone model -/

theorem zoneTemps (h : Aside s t) : Aside s t.zoneTemps := by
  unfold State.zoneTemps
  extract_lets all tz _ s1 s2
  have h1 : Aside s s1 := h.frame
  have h2 : Aside s s2 := .ite (h1.incSat (by decide)) h1
  split
  · exact h2
  · exact h2.raise (by decide)

theorem zoneGains {first : Bool} (h : Aside s t) : Aside s (t.zoneGains first) := by
  unfold State.zoneGains
  extract_lets s1 _ step new sat _ s2 low
  have h1 : Aside s s1 := h.zoneTemps
  have h2 : Aside s s2 := h1.frame.addSat (by decide)
  split
  · exact h2
  · exact h2.raise (by decide)

theorem zoneProbe (h : Aside s t) : Aside s t.zoneProbe :=
  (((h.setFld (by decide)).setFld (by decide)).setFld (by decide)).setFld (by decide)

theorem zoneBlock {update : Bool} {dose : Nat → Nat} (h : Aside s t) : Aside s (t.zoneBlock update dose b) := by
  unfold State.zoneBlock
  extract_lets base idx doses shown
  refine .ite h ?_
  split
  next s1 _ e1 =>
    have h1 : Aside s s1 := h.lineRead.of_eq e1
    refine .ite ((h1.frame.setOn (by decide)).raise (by decide)) (h1.each fun h => ?_)
    extract_lets i o v s2 _
    have h2 : Aside s s2 := .ite h h.writeFlat
    exact .ite h2.frame h2

theorem zonePass {update : Bool} {dose : Nat → Nat} (h : Aside s t) : Aside s (t.zonePass update dose) := h.each (·.zoneBlock)

theorem zoneRun {update first : Bool} {dose : Nat → Nat} (h : Aside s t) : Aside s (t.zoneRun update first dose) :=
  .ite h.zonePass.zoneGains.zoneProbe h.zonePass

theorem zoneAsk {update first : Bool} (h : Aside s t) : Aside s (t.zoneAsk update first) := .ite h.zoneRun h.frame

theorem zoneApply (h : Aside s t) : Aside s t.zoneApply := by
  unfold State.zoneApply
  extract_lets en _ s1
  have h1 : Aside s s1 := h.frame
  exact .ite h1 (.ite h1.zoneGains.zoneProbe h1.zoneAsk)

theorem ageClear (h : Aside s t) : Aside s t.ageClear := h.each fun h => h.each fun h => h.each (·.writeFlat)

theorem applyDram (h : Aside s t) : Aside s t.applyDram := h.ageClear.zoneApply

/-! ## Clasp -/

theorem loadLk {c : List Byte} (h : Aside s t) : Aside s (t.loadLk c) :=
  ((((h.setReg (by decide)).setReg (by decide)).setReg (by decide)).setReg (by decide)).setReg (by decide)

theorem sdkEnter (h : Aside s t) : Aside s t.sdkEnter := h.frame.blankOn.holdLoops

theorem sdkExit (h : Aside s t) : Aside s t.sdkExit := h.frame

theorem lceEnter (h : Aside s t) : Aside s t.lceEnter := .curAll (h.frame.each (·.frame))

theorem claspEnter {st : Nat} (h : Aside s t) : Aside s (t.claspEnter st) := by
  unfold State.claspEnter
  extract_lets unused sdk lce s1 _ s2
  have h1 : Aside s s1 := .ite h (.ite h.sdkEnter h.sdkExit)
  have h2 : Aside s s2 := .ite h1 (.ite h1.lceEnter h1.frame.curAll)
  exact (h2.setFld (by decide)).setFld (by decide)

theorem claspArm (h : Aside s t) : Aside s t.claspArm := by
  unfold State.claspArm
  extract_lets c _ s1 bad ok s2 start _ s3 s4 s5
  have h1 : Aside s s1 := h.frame
  have h2 : Aside s s2 := .ite h1.loadLk h1
  have h3 : Aside s s3 := h2.frame
  have h4 : Aside s s4 := h2.claspEnter.setOn (by decide)
  have h5 : Aside s s5 := h4.setFld (by decide)
  exact .ite (((h3.setOn (by decide)).setOn (by decide)).claspEnter.raise (by decide)) (h5.raise (by decide))

theorem claspApply (h : Aside s t) : Aside s t.claspApply := .ite h (.ite h.claspArm h.claspEnter)

/-! ## The Spine -/

theorem addrCheck (h : Aside s t) : Aside s t.addrCheck := .ite ((h.setOn (by decide)).raise (by decide)) h

theorem roleApply (h : Aside s t) : Aside s t.roleApply := by
  unfold State.roleApply
  extract_lets b s1 s2 s3
  have h1 : Aside s s1 := ((h.setOn (by decide)).setFld (by decide)).setFld (by decide)
  have h2 : Aside s s2 := (h1.setFld (by decide)).setFld (by decide)
  have h3 : Aside s s3 := .ite ((h2.setOn (by decide)).raise (by decide)) h2
  exact h3.linkCheckAll.addrCheck

theorem lockSections (h : Aside s t) : Aside s t.lockSections := h.frame.frame

/-! ## Clocks and blocks -/

theorem pllStart {l : Nat} (h : Aside s t) : Aside s (t.pllStart l) := .ite h h.frame

theorem adcNext (h : Aside s t) : Aside s t.adcNext := by
  unfold State.adcNext
  split
  · exact h
  · extract_lets req captures runs w cal _
    split
    · exact h
    · exact h.frame

theorem pushReq {q : Nat} {e : MemEntry} (h : Aside s t) : Aside s (t.pushReq q e) := .ite h.frame h

theorem chkAsk (h : Aside s t) : Aside s t.chkAsk := by
  unfold State.chkAsk
  split
  · exact h
  · split
    · exact h
    · exact .ite h.pushReq.frame h

theorem flashNext (h : Aside s t) : Aside s t.flashNext := by
  rw [State.flashNext_frame]
  exact h.frame

theorem pmbNext {bus : Nat} (h : Aside s t) : Aside s (t.pmbNext bus) := by
  unfold State.pmbNext
  split
  · exact h
  · extract_lets due reqs _
    split
    · exact h
    · split
      · exact h
      · exact h.frame

theorem blockGoesOn (h : Aside s t) : Aside s (t.blockGoesOn b) := by
  unfold State.blockGoesOn
  split
  · exact h.adcNext
  · exact h.chkAsk
  · exact h.flashNext
  · exact h.pmbNext.pmbNext
  · exact h

theorem blockStarts (h : Aside s t) : Aside s (t.blockStarts b) := by
  unfold State.blockStarts
  extract_lets s1 _
  have gated : Aside s (t.gated b false) := h.setBit (by decide)
  have h1 : Aside s s1 := gated.blockGoesOn
  split
  · exact h1.linkCheckAll
  · exact h1.linkCheckAll
  · exact h1.linkCheckAll
  · exact h1.linkCheckAll
  · exact h1.frame
  · exact h1.frame
  · exact h1

theorem applyAfterWake (h : Aside s t) : Aside s t.applyAfterWake := by
  unfold State.applyAfterWake
  refine .ite ?_ h
  extract_lets _ s1 s2 s3
  have h1 : Aside s s1 := h.frame
  have h2 : Aside s s2 := h1.each fun h => .ite h h.pllStart
  have h3 : Aside s s3 := h2.each (·.blockStarts)
  exact h3.blankOff

/-! ## Timing -/

theorem takeSet (h : Aside s t) : Aside s t.takeSet := by
  unfold State.takeSet
  extract_lets _ fresh shown _ s1 s2
  have h1 : Aside s s1 := h.frame
  have h2 : Aside s s2 := h1.setFld (by decide)
  exact (h2.setFld (by decide)).setFld (by decide)

theorem relockBegin (h : Aside s t) : Aside s t.relockBegin := (h.frame.blankOn.setOn (by decide)).raise (by decide)

theorem acquire {clear : Bool} (h : Aside s t) : Aside s (t.acquire clear) := by
  unfold State.acquire
  extract_lets _ s1 s2
  have h1 : Aside s s1 := h.frame
  have h2 : Aside s s2 := (h1.setFld (by decide)).setOn (by decide)
  exact .ite (h2.setFld (by decide)) h2

theorem applyTiming {was differs : Bool} {oldM : Nat} (h : Aside s t) : Aside s (t.applyTiming was differs oldM) := by
  unfold State.applyTiming
  extract_lets s1 _ s2 m _ s3
  have h1 : Aside s s1 := h.takeSet
  have h2 : Aside s s2 := h1.frame
  have start : Aside s ((s2.setBit F.CLK_STAT_LOCK 3 false).pllStart 3) := (h2.setBit (by decide)).pllStart
  have h3 : Aside s s3 := .ite start (.ite ((Aside.ite h2.relockBegin h2.frame).setBit (by decide)) h2)
  exact h3.acquire

/-! ## DRAM and feeds -/

theorem dramApply {d : List Byte} (h : Aside s t) : Aside s (t.dramApply d) := by
  have marks : ∀ c ∈ [0, 1], (F.MEM_Mc_WB_HWM c).aside ∧ (F.MEM_Mc_WB_LWM c).aside := by decide
  unfold State.dramApply
  extract_lets s1 s2 s3 s4 s5 _
  have h1 : Aside s s1 := h.eachOf fun hc h => (h.setFld (marks _ hc).1).setFld (marks _ hc).2
  have h2 : Aside s s2 := (h1.setFld (by decide)).setFld (by decide)
  have h3 : Aside s s3 := (h2.setFld (by decide)).setFld (by decide)
  have h4 : Aside s s4 := (h3.setOn (by decide)).setFld (by decide)
  have h5 : Aside s s5 := (h4.setOn (by decide)).setFld (by decide)
  exact .ite h5.frame h5

theorem feedsReset (h : Aside s t) : Aside s t.feedsReset := by
  unfold State.feedsReset
  extract_lets s1 s2 _ _ _ _ s3 s4 s5
  have h1 : Aside s s1 := h.allDrop
  have h2 : Aside s s2 := h1.each fun h => h.whenDo (·.snoopBoundary)
  have h3 : Aside s s3 := h2.frame
  have h4 : Aside s s4 := (h3.setFld (by decide)).setReg (by decide)
  have h5 : Aside s s5 := h4.eachBelow fun {u k} hk h => by
    obtain ⟨guard, att, feed⟩ := feedReg k hk
    have h' : Aside s (((u.setFld (F.COR_Fk_GSTAT_NL k) 0).setFld (F.COR_Fk_GSTAT_NR k) 0).setFld (F.COR_Fk_GSTAT_STATE k) 0) :=
      ((h.setFld (Fld.aside_status guard (by decide))).setFld (Fld.aside_status guard (by decide))).setFld
        (Fld.aside_status guard (by decide))
    exact ((h'.setFld (Fld.aside_status feed (by decide))).setFld (Fld.aside_status feed (by decide))).setFld
      (Fld.aside_status att (by decide))
  exact h5.eachBelow fun hm h => h.slotEnabled hm

end Aside

end Sys2Proof.Machine

end

section

/-!
# What an image writes

The sections, the words of STAGE and TIMING, and the tables of LUTCOEF (R72, R118, R120, R160).
-/

namespace Sys2Proof.Machine

variable {s t u : State} {a : Nat} {regs : Tab Word} {l : List (Nat × Word)}

/-! ## The words of STAGE and TIMING -/

/-- A register that no word is loaded into is as before. -/
theorem get_loadWords_other (h : ∀ x ∈ l, x.1 ≠ a) : Tab.get resetWord (loadWords regs l) a = Tab.get resetWord regs a := by
  induction l generalizing regs with
  | nil => rfl
  | cons x l ih =>
    have later := ih (regs := loadWords regs [x]) fun y hy => h y (.tail _ hy)
    refine later.trans ?_
    show Tab.get resetWord (if rwMask x.1 == 0 then regs else _) a = _
    split
    · rfl
    · exact Tab.get_put_other (h x (.head _)).symm

/-- Words from a base address on lie at or above it. -/
theorem le_of_mem_words {n base low : Nat} {w : Nat → Word} {x : Nat × Word} (hb : low ≤ base)
    (hx : x ∈ (List.range n).map fun i => (base + 4 * i, w i)) : low ≤ x.1 := by
  obtain ⟨i, -, rfl⟩ := List.mem_map.1 hx
  exact hb.trans (Nat.le_add_right base _)

/-- STAGE loads no register of the loader (R118). -/
theorem stageLoads_high {stage : List Byte} {cs : List Ctx} {x : Nat × Word} (hx : x ∈ stageLoads stage cs) : 0x80000 ≤ x.1 := by
  unfold stageLoads at hx
  rcases List.mem_append.1 hx with hx | hx
  · exact le_of_mem_words (by decide) hx
  · obtain ⟨words, hw, hx⟩ := List.mem_flatten.1 hx
    obtain ⟨c, -, rfl⟩ := List.mem_map.1 hw
    split at hx
    · exact le_of_mem_words (Nat.le_add_right _ _) hx
    · exact le_of_mem_words (Nat.le_add_right _ _) hx
    · exact le_of_mem_words (Nat.le_add_right _ _) hx
    · exact le_of_mem_words (Nat.le_add_right _ _) hx
    · exact le_of_mem_words (Nat.le_add_right_of_le (by decide)) hx
    · exact le_of_mem_words (Nat.le_add_right_of_le (by decide)) hx
    · exact le_of_mem_words (by decide) hx
    · exact le_of_mem_words (Nat.le_add_right_of_le (by decide)) hx
    · exact le_of_mem_words (Nat.le_add_right_of_le (by decide)) hx
    · cases hx

/-- TIMING loads no register of the loader (R160). -/
theorem timingLoads_high {n : Nat} {b : List Byte} {x : Nat × Word} (hx : x ∈ timingLoads n b) : 0x80000 ≤ x.1 :=
  le_of_mem_words (Nat.le_add_right_of_le (by decide)) hx

theorem imageLoads_high {new merged : Secs} {p : Bool} {x : Nat × Word} (hx : x ∈ imageLoads new merged p) : 0x80000 ≤ x.1 := by
  unfold imageLoads at hx
  rcases List.mem_append.1 hx with hx | hx
  · split at hx
    · exact stageLoads_high hx
    · cases hx
  · obtain ⟨words, hw, hx⟩ := List.mem_flatten.1 hx
    obtain ⟨n, -, rfl⟩ := List.mem_map.1 hw
    split at hx
    · exact timingLoads_high hx
    · split at hx
      · cases hx
      · exact timingLoads_high hx

/-! ## The tables of LUTCOEF -/

/-- A word of LUTCOEF goes to the tables, to a locket bank, or nowhere. -/
theorem State.lutWrite_tabs {w : Word} (h : t.tabs = s.tabs) : (t.lutWrite a w).tabs = (s.lutWrite a w).tabs := by
  unfold State.lutWrite
  split
  · rw [h]
  · split
    · exact h
    · exact h

theorem State.lutWrite_frame {w : Word} :
    s.lutWrite a w = { s with tabs := (s.lutWrite a w).tabs, locket := (s.lutWrite a w).locket } := by
  unfold State.lutWrite
  split
  · rfl
  · split
    · rfl
    · rfl

/-- What LUTCOEF does to the tables depends on the tables alone. -/
theorem State.each_lutWrite_tabs (h : t.tabs = s.tabs) :
    (t.each l fun s x => s.lutWrite x.1 x.2).tabs = (s.each l fun s x => s.lutWrite x.1 x.2).tabs := by
  induction l generalizing s t with
  | nil => exact h
  | cons x l ih => exact ih (State.lutWrite_tabs h)

theorem State.each_lutWrite_frame : ∃ x k, (s.each l fun s x => s.lutWrite x.1 x.2) = { s with tabs := x, locket := k } := by
  refine State.each_keeps (P := fun u => ∃ x k, u = { s with tabs := x, locket := k }) ⟨s.tabs, s.locket, rfl⟩ ?_
  rintro u w - ⟨x, k, rfl⟩
  exact ⟨_, _, State.lutWrite_frame⟩

/-- The tables are at rest. -/
def State.tablesReady (s : State) : State := if s.tabs.copying.isEmpty then s else s.tableCopyDone

theorem State.tablesReady_tabs (h : t.tabs = s.tabs) : t.tablesReady.tabs = s.tablesReady.tabs := by
  unfold State.tablesReady State.tableCopyDone
  rw [h]
  split
  · exact h
  · rfl

theorem State.tablesReady_frame : ∃ x, s.tablesReady = { s with tabs := x } := by
  unfold State.tablesReady
  split
  · exact ⟨s.tabs, rfl⟩
  · exact ⟨_, rfl⟩

theorem State.lutApply_eq {b : List Byte} :
    s.lutApply b = s.tablesReady.each (lutWords b.length b) fun s x => s.lutWrite x.1 x.2 := rfl

theorem State.lutApply_tabs {b : List Byte} (h : t.tabs = s.tabs) : (t.lutApply b).tabs = (s.lutApply b).tabs := by
  rw [State.lutApply_eq, State.lutApply_eq]
  exact State.each_lutWrite_tabs (State.tablesReady_tabs h)

theorem State.lutApply_frame {b : List Byte} : ∃ x k, s.lutApply b = { s with tabs := x, locket := k } := by
  obtain ⟨x, ready⟩ := s.tablesReady_frame
  rw [State.lutApply_eq, ready]
  exact State.each_lutWrite_frame

/-! ## The image -/

/-- The sections in force after the image in the loader. -/
def State.imageMerged (s : State) : Secs := mergedSecs s.conf.secs s.ldr.secs (isPartial s.ldr.img)

/-- The words that the image in the loader loads. -/
def State.imageWords (s : State) : List (Nat × Word) := imageLoads s.ldr.secs s.imageMerged (isPartial s.ldr.img)

/-- The words and sections are in place. -/
def State.wordsWritten (s : State) : State :=
  { s with regs := loadWords s.regs s.imageWords, shad := loadWords s.shad s.imageWords,
           conf := { s.conf with secs := s.imageMerged } }

theorem State.writeImage_eq : s.writeImage = s.wordsWritten.lutApply (Secs.get s.ldr.secs 3 0) := rfl

theorem State.writeImage_spec (s : State) : s.writeImage.regs = loadWords s.regs s.imageWords ∧
    s.writeImage.shad = loadWords s.shad s.imageWords ∧ s.writeImage.conf.secs = s.imageMerged ∧
    s.writeImage.tabs = (s.lutApply (Secs.get s.ldr.secs 3 0)).tabs ∧ s.writeImage.ldr = s.ldr ∧
    s.writeImage.flt = s.flt := by
  have tabs : s.writeImage.tabs = (s.lutApply (Secs.get s.ldr.secs 3 0)).tabs := by
    rw [State.writeImage_eq]
    exact State.lutApply_tabs rfl
  obtain ⟨x, k, written⟩ := s.wordsWritten.lutApply_frame (b := Secs.get s.ldr.secs 3 0)
  rw [← State.writeImage_eq] at written
  refine ⟨?_, ?_, ?_, tabs, ?_, ?_⟩
  · rw [written, State.wordsWritten]
  · rw [written, State.wordsWritten]
  · rw [written, State.wordsWritten]
  · rw [written, State.wordsWritten]
  · rw [written, State.wordsWritten]

/-- An image loads no register of the loader. -/
theorem State.writeImage_active : s.writeImage.active = s.active := by
  refine State.on_of_reg ?_
  show Tab.get resetWord s.writeImage.regs R.CFG_STATUS = _
  rw [s.writeImage_spec.1]
  refine get_loadWords_other fun x hx e => ?_
  have high := imageLoads_high hx
  rw [e] at high
  exact absurd high (by decide)

/-! ## What stays of it -/

/-- What an image has put into place: tables, sections, and the words of the shadows and of the registers with shadowed
fields, but for that of CHN_CUR, which CHAIN writes (R210). -/
structure ImageIn (s t : State) : Prop where
  tabs : t.tabs = s.tabs
  conf : t.conf = s.conf
  shad : ∀ a, a ≠ R.CHN_CUR → t.shadReg a = s.shadReg a
  reg : ∀ a, a ≠ R.CHN_CUR → shadowed a = true → t.reg a = s.reg a
  event : t.events 21 = s.events 21

namespace ImageIn

theorem trans (h : ImageIn s t) (h' : ImageIn t u) : ImageIn s u where
  tabs := h'.tabs.trans h.tabs
  conf := h'.conf.trans h.conf
  shad a ha := (h'.shad a ha).trans (h.shad a ha)
  reg a ha sh := (h'.reg a ha sh).trans (h.reg a ha sh)
  event := h'.event.trans h.event

theorem of_aside (h : Aside s t) : ImageIn s t where
  tabs := h.tabs
  conf := h.conf
  shad a _ := by rw [State.shadReg, h.shad, State.shadReg]
  reg a _ sh := h.reg a (loaderReg_of_shadowed sh)
  event := h.events 21 (by decide)

/-- What the loader shows at the end of a load. -/
theorem of_loader {W : List Fld} (only : LoaderOnly s t) (fields : OnlyFields W s t)
    (plain : ∀ f ∈ W, shadowed f.addr = false) (flt : t.flt = s.flt) : ImageIn s t where
  tabs := only.tabs
  conf := only.conf
  shad a _ := by rw [State.shadReg, only.shad, State.shadReg]
  reg a _ sh := fields.reg fun f hf e => by
    rw [← e, plain f hf] at sh
    cases sh
  event := State.events_of_flt flt

end ImageIn

end Sys2Proof.Machine

end

section

/-!
# APPLY

What APPLY makes of the image in the loader (R52, R72, R118, R120, R160, R210).
-/

namespace Sys2Proof.Machine

variable {s t u : State} {a n : Nat}

/-! ## CHAIN -/

/-- The currents that CHAIN sets, active and shadow alike (R210). -/
def State.setCurrents (s : State) (w : Word) : State := (s.setReg R.CHN_CUR w).setShad R.CHN_CUR w

/-- What the clock rates of the chains leave. -/
def State.setRates (s : State) (b : List Byte) : State :=
  (s.setFld F.CHN_DCLK_RATE_E0 (byteOf b 0)).setFld F.CHN_DCLK_RATE_E1 (byteOf b 1)

/-- The word of a port's configuration. -/
def portWord (b : List Byte) (p : Nat) : Word :=
  let o := 16 + 8 * p
  let x := byteOf b (o + 2)
  BitVec.ofNat 32 (x / 8 % 8 * 2 ^ 19 + x % 8 * 2 ^ 16 + byteOf b (o + 1) * 2 ^ 8 + x / 64 % 2 * 2 ^ 6 + byteOf b o)

theorem State.chainApply_eq {b : List Byte} : s.chainApply b =
    ((s.setRates b).setCurrents (BitVec.ofNat 32 (leAt b 2 3))).each (List.range 64) fun s p =>
      s.setReg (R.CHN_Cnn_CFG p) (portWord b p) := rfl

theorem ImageIn.setCurrents {w : Word} (s : State) : ImageIn s (s.setCurrents w) where
  tabs := rfl
  conf := rfl
  shad _ ha := State.shadReg_setShad_other ha
  reg _ ha _ := State.reg_setReg_other ha
  event := rfl

theorem Aside.setRates {b : List Byte} (h : Aside s t) : Aside s (t.setRates b) :=
  (h.setFld (by decide)).setFld (by decide)

theorem ImageIn.chainApply {b : List Byte} (s : State) : ImageIn s (s.chainApply b) := by
  have regs : ∀ p < 64, R.CHN_Cnn_CFG p ∈ statusRegs ∧ R.CHN_Cnn_CFG p ≠ R.TIM_STAT := fun p hp =>
    ⟨List.mem_append_right _ (List.mem_map_of_mem (List.mem_range.2 hp)), fun e => by
      dsimp only [R.CHN_Cnn_CFG, R.TIM_STAT] at e
      omega⟩
  have ports : Aside ((s.setRates b).setCurrents (BitVec.ofNat 32 (leAt b 2 3))) (s.chainApply b) := by
    rw [State.chainApply_eq]
    exact (Aside.refl _).eachBelow fun hp h => h.setReg (Fld.aside_status (regs _ hp) (by decide))
  exact (ImageIn.of_aside (Aside.refl s).setRates).trans ((ImageIn.setCurrents _).trans (ImageIn.of_aside ports))

/-! ## A full and a partial image -/

/-- CHAIN and DRAM are in place, and a configuration runs. -/
def State.imageRuns (s : State) : State :=
  ((s.writeImage.feedsReset.chainApply (Secs.get s.writeImage.feedsReset.conf.secs 7 0)).dramApply
    (Secs.get s.writeImage.feedsReset.conf.secs 8 0)).setOn F.CFG_STATUS_ACTIVE true

/-- The blocks that the image sets to work. -/
def State.imageStarts (s : State) (was differs : Bool) (oldM : Nat) (old : Tab Word) : State :=
  ((((s.applyTiming was differs oldM).regsChanged old).roleApply).claspApply).lockSections

/-- The DRAM follows, then the bring-up and what a failed wake did not start. -/
def State.imageBrings (s : State) (was : Bool) : State :=
  ((if s.mem.reconfig.isNone then s.applyDram else s).bringUpAsk (!was)).applyAfterWake

theorem State.applyFull_eq : ∃ differs oldM,
    s.applyFull = (s.imageRuns.imageStarts s.active differs oldM s.regs).imageBrings s.active :=
  ⟨_, _, rfl⟩

theorem Aside.imageStarts {was differs : Bool} {oldM : Nat} {old : Tab Word} (h : Aside s t) :
    Aside s (t.imageStarts was differs oldM old) := h.applyTiming.regsChanged.roleApply.claspApply.lockSections

theorem Aside.imageBrings {was : Bool} (h : Aside s t) : Aside s (t.imageBrings was) :=
  (Aside.ite h.applyDram h).bringUpAsk.applyAfterWake

theorem ImageIn.imageRuns (s : State) : ImageIn s.writeImage s.imageRuns := by
  have reset : Aside s.writeImage s.writeImage.feedsReset := (Aside.refl _).feedsReset
  have chain := ImageIn.chainApply (b := Secs.get s.writeImage.feedsReset.conf.secs 7 0) s.writeImage.feedsReset
  have dram := (Aside.refl (s.writeImage.feedsReset.chainApply (Secs.get s.writeImage.feedsReset.conf.secs 7 0))).dramApply
    (d := Secs.get s.writeImage.feedsReset.conf.secs 8 0)
  have plain : ∀ f ∈ [F.CFG_STATUS_ACTIVE], shadowed f.addr = false := fun f hf => shadowed_commit _ (by decide +revert)
  exact (((ImageIn.of_aside reset).trans chain).trans (ImageIn.of_aside dram)).trans
    (ImageIn.of_loader (LoaderOnly.refl _).setOn (onlyFields_setOn (by decide) true) plain (State.setOn_flt ..))

theorem State.applyFull_spec (s : State) : ImageIn s.writeImage s.applyFull ∧ s.applyFull.active = true := by
  obtain ⟨differs, oldM, full⟩ := s.applyFull_eq
  have rest : Aside s.imageRuns ((s.imageRuns.imageStarts s.active differs oldM s.regs).imageBrings s.active) :=
    (Aside.refl _).imageStarts.imageBrings
  rw [full]
  exact ⟨(ImageIn.imageRuns s).trans (ImageIn.of_aside rest), rest.active.trans (State.on_setOn_same (by decide) true)⟩

theorem State.applyPartial_spec (s : State) : ImageIn s.writeImage s.applyPartial ∧ s.applyPartial.active = s.active := by
  have changed : Aside s.writeImage s.applyPartial := (Aside.refl _).regsChanged.frame
  exact ⟨ImageIn.of_aside changed, changed.active.trans State.writeImage_active⟩

/-- The image is in place. -/
def State.imagePlaced (s : State) : State := if isPartial s.ldr.img = true then s.applyPartial else s.applyFull

theorem State.imagePlaced_spec (s : State) : ImageIn s.writeImage s.imagePlaced ∧
    s.imagePlaced.active = (s.active || !isPartial s.ldr.img) := by
  unfold State.imagePlaced
  cases part : isPartial s.ldr.img with
  | true =>
    obtain ⟨image, active⟩ := s.applyPartial_spec
    exact ⟨image, active.trans (Bool.or_false _).symm⟩
  | false =>
    obtain ⟨image, active⟩ := s.applyFull_spec
    exact ⟨image, active.trans (Bool.or_true _).symm⟩

/-! ## The loader shows the image and is idle -/

/-- What the registers of the loader show of an image. -/
def State.imageShown (s : State) (occ src : Nat) (seq : Word) : State :=
  ((s.occShow occ).setReg R.CFG_IMG seq).setFld F.CFG_STATUS_LAST_SRC src

/-- The fields in which an image shows. -/
abbrev shownFields : List Fld := [whole R.CFG_OCC_MAX] ++ [whole R.CFG_IMG] ++ [F.CFG_STATUS_LAST_SRC]

/-- The fields that the end of APPLY sets. -/
abbrev endedFields : List Fld := shownFields ++ (idleFields ++ [F.CFG_STATUS_PENDING])

section
variable {occ src : Nat} {seq : Word}

theorem onlyFields_imageShown : OnlyFields shownFields s (s.imageShown occ src seq) :=
  onlyFields_app (onlyFields_app onlyFields_setReg onlyFields_setReg) (onlyFields_setFld (by decide))

theorem State.imageShown_flt : (s.imageShown occ src seq).flt = s.flt := by
  rw [State.imageShown, State.setFld_flt, State.setReg_flt, State.occShow, State.setReg_flt]

theorem LoaderOnly.setReg {w : Word} (h : LoaderOnly s t) : LoaderOnly s (t.setReg a w) := by
  obtain ⟨_, _, _, _, rfl⟩ := h
  exact ⟨_, _, _, _, rfl⟩

theorem LoaderOnly.imageShown (h : LoaderOnly s t) : LoaderOnly s (t.imageShown occ src seq) := h.setReg.setReg.setFld

theorem State.imageShown_spec (s : State) : (s.imageShown occ src seq).reg R.CFG_IMG = seq ∧
    (s.imageShown occ src seq).fld F.CFG_STATUS_LAST_SRC = src % 8 := by
  have source : OnlyFields [F.CFG_STATUS_LAST_SRC] ((s.occShow occ).setReg R.CFG_IMG seq) (s.imageShown occ src seq) :=
    onlyFields_setFld (by decide)
  exact ⟨(source.reg (by decide)).trans State.reg_setReg_same, State.fld_setFld_same (by decide)⟩

/-- The end of APPLY, before its event. -/
def State.imageEnds (s : State) (occ src : Nat) (seq : Word) : State := ((s.imageShown occ src seq).ldrGo 0).cfgPending

theorem State.imageEnds_flt : (s.imageEnds occ src seq).flt = s.flt := by
  rw [State.imageEnds, State.cfgPending_flt, State.ldrGo_flt, State.imageShown_flt]

theorem LoaderOnly.imageEnds (h : LoaderOnly s t) : LoaderOnly s (t.imageEnds occ src seq) := h.imageShown.ldrGo.cfgPending

theorem State.imageEnds_spec (s : State) (occ src : Nat) (seq : Word) : (s.imageEnds occ src seq).ldrState = 0 ∧
    (s.imageEnds occ src seq).reg R.CFG_IMG = seq ∧ (s.imageEnds occ src seq).fld F.CFG_STATUS_LAST_SRC = src % 8 ∧
    (s.imageEnds occ src seq).on F.CFG_CTRL_LOAD = false ∧ OnlyFields endedFields s (s.imageEnds occ src seq) := by
  obtain ⟨state, load, -, -, fields⟩ := (s.imageShown occ src seq).ldrGo_idle_spec
  obtain ⟨image, source⟩ := s.imageShown_spec (occ := occ) (src := src) (seq := seq)
  have after := onlyFields_app fields (onlyFields_cfgPending (s := (s.imageShown occ src seq).ldrGo 0))
  refine ⟨State.cfgPending_ldrState.trans state, (after.reg (by decide)).trans image,
    (after _ (by decide) (by decide)).trans source, ?_, onlyFields_app onlyFields_imageShown after⟩
  exact (onlyFields_cfgPending.on (by decide) (by decide)).trans load

theorem ImageIn.imageEnds (s : State) : ImageIn s (s.imageEnds occ src seq) := by
  have plain : ∀ f ∈ endedFields, shadowed f.addr = false := fun f hf => shadowed_commit _ (by decide +revert)
  exact ImageIn.of_loader (LoaderOnly.refl s).imageEnds (s.imageEnds_spec occ src seq).2.2.2.2 plain State.imageEnds_flt

end

/-! ## APPLY -/

/-- The image is in place, and the loader is idle. -/
def State.imageDone (s : State) : State :=
  s.imagePlaced.imageEnds s.ldr.occ s.ldr.src (BitVec.ofNat 32 (leAt s.ldr.img 16 4))

theorem State.applyImage_eq (state : s.ldrState = 6) (gated : s.isGated 10 = false) (clocked : s.hubRuns = true) :
    s.applyImage = s.imageDone.raise 21 (leAt s.ldr.img 16 4) := by
  have acts : ¬ (s.ldrState ≠ 6 ∨ s.isGated 10 = true ∨ (!s.hubRuns) = true) := by
    rw [state, gated, clocked]
    decide
  exact if_neg acts

/-- Where the image stands before the event. -/
theorem State.imageDone_spec (s : State) : s.imageDone.ldrState = 0 ∧
    s.imageDone.reg R.CFG_IMG = BitVec.ofNat 32 (leAt s.ldr.img 16 4) ∧
    s.imageDone.fld F.CFG_STATUS_LAST_SRC = s.ldr.src % 8 ∧ s.imageDone.on F.CFG_CTRL_LOAD = false ∧
    s.imageDone.active = (s.active || !isPartial s.ldr.img) ∧ ImageIn s.writeImage s.imageDone := by
  obtain ⟨image, active⟩ := s.imagePlaced_spec
  obtain ⟨state, seq, source, load, fields⟩ := s.imagePlaced.imageEnds_spec s.ldr.occ s.ldr.src
    (BitVec.ofNat 32 (leAt s.ldr.img 16 4))
  have same : s.imageDone.active = s.imagePlaced.active := fields.on (by decide) (by decide)
  exact ⟨state, seq, source, load, same.trans active, image.trans (ImageIn.imageEnds _)⟩

/-- The words of the image are where `writeImage` put them. -/
theorem ImageIn.words (h : ImageIn s.writeImage t) (ha : a ≠ R.CHN_CUR) :
    t.shadReg a = Tab.get resetWord (loadWords s.shad s.imageWords) a ∧
    (shadowed a = true → t.reg a = Tab.get resetWord (loadWords s.regs s.imageWords) a) := by
  obtain ⟨regs, shad, -⟩ := s.writeImage_spec
  refine ⟨(h.shad a ha).trans ?_, fun sh => (h.reg a ha sh).trans ?_⟩
  · rw [State.shadReg, shad]
  · rw [State.reg, regs]

theorem State.applyImage_spec (state : s.ldrState = 6) (gated : s.isGated 10 = false) (clocked : s.hubRuns = true) :
    s.applyImage.ldrState = 0 ∧ s.applyImage.reg R.CFG_IMG = BitVec.ofNat 32 (leAt s.ldr.img 16 4) ∧
    s.applyImage.fld F.CFG_STATUS_LAST_SRC = s.ldr.src % 8 ∧ s.applyImage.on F.CFG_CTRL_LOAD = false ∧
    s.applyImage.active = (s.active || !isPartial s.ldr.img) ∧ s.applyImage.conf.secs = s.imageMerged ∧
    s.applyImage.tabs = (s.lutApply (Secs.get s.ldr.secs 3 0)).tabs ∧
    (∀ a, a ≠ R.CHN_CUR → s.applyImage.shadReg a = Tab.get resetWord (loadWords s.shad s.imageWords) a) ∧
    (∀ (a : Nat) (r : RegRow) (f : FieldRow), a ≠ R.CHN_CUR → regRow? a = some r → f ∈ r.fields → f.shadow = true →
      bits f.msb f.lsb (s.applyImage.reg a).toNat =
        bits f.msb f.lsb (Tab.get resetWord (loadWords s.regs s.imageWords) a).toNat) ∧
    (s.applyImage.on (F.FLT_SRCi_EN 21) = true → (s.events 21).length < 15 →
      s.applyImage.events 21 = s.events 21 ++ [⟨BitVec.ofNat 32 (leAt s.ldr.img 16 4), false⟩]) := by
  obtain ⟨idle, seq, source, load, active, image⟩ := s.imageDone_spec
  obtain ⟨-, -, secs, tabs, -, flt⟩ := s.writeImage_spec
  obtain ⟨raised, lost, -⟩ := s.imageDone.raise_spec 21 (leAt s.ldr.img 16 4)
  have only : LoaderOnly s.imageDone (s.imageDone.raise 21 (leAt s.ldr.img 16 4)) := (LoaderOnly.refl _).raise
  have before : s.imageDone.events 21 = s.events 21 := image.event.trans (State.events_of_flt flt)
  rw [State.applyImage_eq state gated clocked]
  refine ⟨(lost _ (by decide) (by decide)).trans idle, (lost.reg (by decide)).trans seq,
    (lost _ (by decide) (by decide)).trans source, (lost.on (by decide) (by decide)).trans load,
    (lost.on (by decide) (by decide)).trans active, ?_, ?_, fun a ha => ?_, fun a r f ha hr hf sh => ?_, fun en len => ?_⟩
  · rw [only.conf, image.conf, secs]
  · rw [only.tabs, image.tabs, tabs]
  · rw [State.shadReg, only.shad]
    exact (image.words ha).1
  · have own : shadowed a = true := shadowed_of_field hr hf sh
    have kept : (s.imageDone.raise 21 (leAt s.ldr.img 16 4)).reg a = s.imageDone.reg a := lost.reg fun g hg e => by
      rw [List.mem_singleton.1 hg] at e
      rw [← e, shadowed_commit R.FLT_STAT (by decide)] at own
      cases own
    rw [kept, (image.words ha).2 own]
  · rw [← before] at len ⊢
    exact raised.1 ((lost.on (by decide) (by decide)).symm.trans en) len

/-! ## The obligation -/

/-- Settles O5: each case of ADMISSION_DONE by its equation, and APPLY by what stays of the image. -/
theorem loader_AdmissionApply : Obligations.Loader_AdmissionApply := by
  intro s live gated clocked
  refine ⟨fun state free => ⟨fun r i found => ?_, fun found dry => ?_, fun found dry off => ?_,
    fun found dry active stands full => ?_, fun found dry active runs full => ?_, fun found dry active part => ?_⟩,
    fun state held found dry => ?_, fun r i asks finds => ?_, fun asks passes => ?_, fun state free => ?_,
    fun p merged l state hp hm hl => ?_, fun state => ?_⟩
  · exact runs_effect (op := State.admissionDone) live rfl (State.admissionDone_free gated clocked state free)
      (State.imageRefused_spec found)
  · exact runs_effect (op := State.admissionDone) live rfl (State.admissionDone_free gated clocked state free)
      (State.imageDry_spec found dry)
  · exact runs_effect (op := State.admissionDone) live rfl (State.admissionDone_free gated clocked state free)
      (State.imageFirst_spec found dry off)
  · exact runs_effect (op := State.admissionDone) live rfl (State.admissionDone_free gated clocked state free)
      (State.imageStands_spec found dry active full stands)
  · exact runs_effect (op := State.admissionDone) live rfl (State.admissionDone_free gated clocked state free)
      (State.imageWaits_spec found dry active full runs)
  · exact runs_effect (op := State.admissionDone) live rfl (State.admissionDone_free gated clocked state free)
      (State.imagePartial_spec found dry active part)
  · exact runs_effect (op := State.admissionDone) live rfl (State.admissionDone_held gated clocked state held found dry)
      (State.heldRefused_spec found dry)
  · have refused := State.admissionDone_commit gated clocked asks
    rw [finds, State.commitJudged] at refused
    exact runs_effect (op := State.admissionDone) live rfl refused (s.commitRefused_spec r i)
  · have arrives := State.admissionDone_commit gated clocked asks
    rw [passes, State.commitJudged] at arrives
    obtain ⟨reason, origin, goes, waits, applied⟩ := s.commitAdmitted_spec
    exact runs_effect (op := State.admissionDone) live rfl arrives
      ⟨reason, origin, goes, waits, fun now _ _ => applied now⟩
  · exact runs_unchanged (op := State.admissionDone) live rfl (State.admissionDone_other gated clocked state free)
  · subst hl hm hp
    exact runs_effect (op := State.applyImage) live rfl rfl (State.applyImage_spec state gated clocked)
  · exact runs_unchanged (op := State.applyImage) live rfl (if_pos (.inl state))

end Sys2Proof.Machine

end

section

/-!
# Copies of tables

What a copy of tables reads afterwards (R105, R106), and the publication of a host surface (R83) (O11).
-/

namespace Sys2Proof.Machine

variable {s : State} {f : Fld} {src dst t : Tab Word} {p : Nat → Bool} {a n : Nat}

/-! ## Words of a copy -/

theorem Tab.word_filter (p : Nat → Bool) :
    Tab.word (t.filter fun x => p x.1) a = if p a = true then Tab.word t a else 0 := by
  induction t with
  | nil => simp [Tab.word]
  | cons x t ih =>
    have step : Tab.word (x :: t) a = if x.1 = a then x.2 else Tab.word t a := rfl
    rw [step, List.filter_cons]
    by_cases hx : x.1 = a
    · subst hx
      by_cases hp : p x.1 = true
      · simp [hp, Tab.word, Tab.get]
      · simpa [hp] using ih
    · have keep : Tab.word (x :: t.filter fun x => p x.1) a = Tab.word (t.filter fun x => p x.1) a := if_neg hx
      rw [if_neg hx, ← ih]
      split
      · exact keep
      · rfl

/-- Words that are set one after another, no address twice. -/
theorem Tab.word_merge (rising : src.Pairwise fun x y => x.1 < y.1) : Tab.word (copyTables.merge src dst) a =
    if a ∈ src.map Prod.fst then Tab.word src a else Tab.word dst a := by
  induction src generalizing dst with
  | nil => rfl
  | cons x src ih =>
    obtain ⟨above, rising⟩ := List.pairwise_cons.1 rising
    have step : Tab.word (copyTables.merge (x :: src) dst) a =
        if a ∈ src.map Prod.fst then Tab.word src a else Tab.word (Tab.setWord dst x.1 x.2) a := ih rising
    have head : Tab.word (x :: src) a = if x.1 = a then x.2 else Tab.word src a := rfl
    simp only [step, head, List.map_cons, List.mem_cons]
    by_cases later : a ∈ src.map Prod.fst
    · obtain ⟨y, hy, rfl⟩ := List.mem_map.1 later
      have other : x.1 ≠ y.1 := (above y hy).ne
      rw [if_pos later, if_pos (.inr later), if_neg other]
    · by_cases here : x.1 = a
      · subst here
        rw [if_neg later, if_pos (.inl rfl), if_pos rfl, Tab.word_setWord_same]
      · have neither : ¬ (a = x.1 ∨ a ∈ src.map Prod.fst) := by
          rintro (e | e)
          · exact here e.symm
          · exact later e
        rw [if_neg later, if_neg neither, Tab.word_setWord_other (Ne.symm here)]

/-- Whether a word belongs to a table that `p` picks. -/
def picks (p : Nat → Bool) (a : Nat) : Bool := (tableOf a).any p

theorem copyTables_eq : copyTables p src dst =
    copyTables.merge (src.filter fun x => picks p x.1) (dst.filter fun x => !picks p x.1) := by
  have hit (x : Nat × Word) : (match tableOf x.1 with
      | some t => p t
      | none => false) = picks p x.1 := by
    unfold picks
    cases tableOf x.1 <;> rfl
  exact congrArg₂ copyTables.merge (List.filter_congr fun x _ => hit x)
    (List.filter_congr fun x _ => congrArg (!·) (hit x))

/-- A copy brings the words of the tables picked and leaves all others. -/
theorem Tab.word_copyTables (h : Tab.wf (fun _ => (0 : Word)) src = true) :
    Tab.word (copyTables p src dst) a = if picks p a = true then Tab.word src a else Tab.word dst a := by
  have rising : (src.filter fun x => picks p x.1).Pairwise fun x y => x.1 < y.1 := ((Tab.wf_iff src).1 h).1.filter _
  have kept : Tab.word (dst.filter fun x => !picks p x.1) a = if picks p a = true then 0 else Tab.word dst a := by
    rw [Tab.word_filter fun a => !picks p a]
    cases picks p a <;> rfl
  rw [copyTables_eq, Tab.word_merge rising, Tab.word_filter (picks p), kept]
  by_cases listed : a ∈ (src.filter fun x => picks p x.1).map Prod.fst
  · obtain ⟨x, hx, rfl⟩ := List.mem_map.1 listed
    have picked : picks p x.1 = true := (List.mem_filter.1 hx).2
    rw [if_pos listed, if_pos picked, if_pos picked]
  · rw [if_neg listed]
    have none : (if picks p a = true then Tab.word src a else 0) = 0 :=
      (Tab.word_filter (picks p)).symm.trans (Tab.get_of_not_mem listed)
    by_cases picked : picks p a = true
    · rw [if_pos picked, if_pos picked, ← none, if_pos picked]
    · rw [if_neg picked, if_neg picked]

theorem picks_beq : picks (· == n) a = true ↔ tableOf a = some n := by
  unfold picks
  cases tableOf a <;> simp

/-! ## A publication -/

/-- A publication sets the idle reference again (R371). -/
def State.restartIdle (s : State) : State :=
  { s with pwr := { s.pwr with leave := s.pwr.leave || (s.fld F.PWR_STAT_STATE == 1 && !s.pwr.forced) } }.setFld
    F.PWR_IDLECNT_MS 0

theorem State.restartIdle_spec (s : State) : s.restartIdle.fld F.PWR_IDLECNT_MS = 0 ∧
    s.restartIdle.pwr.leave = (s.pwr.leave || (s.fld F.PWR_STAT_STATE == 1 && !s.pwr.forced)) ∧
    OnlyFields [F.PWR_IDLECNT_MS] s s.restartIdle ∧
    s.restartIdle = { s with regs := s.restartIdle.regs, pwr := { s.pwr with leave := s.restartIdle.pwr.leave } } :=
  ⟨State.fld_setFld_fits (by decide) (Nat.zero_le _), rfl, onlyFields_setFld (s := { s with pwr := _ }) (by decide), rfl⟩

/-- A publication that is counted. -/
theorem State.countPublish_spec (s : State) (ok : f.ok) (idle : F.PWR_IDLECNT_MS.apart f) (state : f.apart F.PWR_STAT_STATE) :
    (s.incSat f).restartIdle.fld f = min f.max (s.fld f + 1) ∧ (s.incSat f).restartIdle.fld F.PWR_IDLECNT_MS = 0 ∧
    (s.incSat f).restartIdle.pwr.leave = (s.pwr.leave || (s.fld F.PWR_STAT_STATE == 1 && !s.pwr.forced)) ∧
    OnlyFields [f, F.PWR_IDLECNT_MS] s (s.incSat f).restartIdle ∧
    (s.incSat f).restartIdle = { s with regs := (s.incSat f).restartIdle.regs,
                                        pwr := { s.pwr with leave := (s.incSat f).restartIdle.pwr.leave } } := by
  have power : (s.incSat f).fld F.PWR_STAT_STATE = s.fld F.PWR_STAT_STATE := State.fld_setFld_apart ok state
  obtain ⟨restarts, leave, fields, frame⟩ := (s.incSat f).restartIdle_spec
  refine ⟨(fields _ ok (List.forall_mem_singleton.2 idle)).trans (State.fld_incSat_same ok), restarts, ?_,
    onlyFields_app (onlyFields_incSat ok) fields, frame⟩
  rw [leave, power, State.incSat_pwr]

theorem layerSig_ok : ∀ n : Fin 8, (F.LAY_x_SIG_SIG n).ok ∧ (F.LAY_x_SIG_SIG n).max = 2 ^ 32 - 1 ∧
    F.PWR_IDLECNT_MS.apart (F.LAY_x_SIG_SIG n) ∧ (F.LAY_x_SIG_SIG n).apart F.PWR_STAT_STATE := by decide

theorem State.hostPublish_eq : s.hostPublish n = (s.incSat (F.LAY_x_SIG_SIG n)).restartIdle := rfl

/-! ## The obligation -/

/-- Settles O11: a copy of tables brings the words of its tables alone (`Tab.word_copyTables`). -/
theorem tables_CopyAndRewrite : Obligations.Tables_CopyAndRewrite := by
  intro s live
  refine ⟨fun front => ⟨?_, fun n waits => ?_⟩, fun n done => ?_, fun n => ?_⟩
  · exact runs_effect (op := State.tableCopyDone) live rfl rfl ⟨fun a => Tab.word_copyTables front, rfl, rfl⟩
  · have rewritten : Tab.on (Tab.setOn s.tabs.rewrite n false) n = false := Tab.on_setOn_same
    refine runs_effect (op := (·.rewriteTable n)) live rfl (if_pos waits) ⟨fun a => ?_, rewritten, rfl⟩
    exact (Tab.word_copyTables front).trans (if_congr picks_beq rfl rfl)
  · exact runs_unchanged (op := (·.rewriteTable n)) live rfl (if_neg (by rw [done]; decide))
  · obtain ⟨ok, max, idle, state⟩ := layerSig_ok n
    have counted := s.countPublish_spec ok idle state
    rw [max] at counted
    exact runs_effect (op := (·.hostPublish n.val)) live rfl State.hostPublish_eq counted

end Sys2Proof.Machine

end

section

/-!
# A bank load starts

The values that a load takes for the whole of it, and what later steps of its start leave of them (O7).
-/

namespace Sys2Proof.Machine

variable {s t u : State} {f : Fld} {a k n p q : Nat} {l : Load}

/-! ## What the start of a load does, step by step -/

/-- The load is due no more, and each die whose strait is not up skips its part (R28). -/
def State.loadClaimed (s : State) (k : Nat) : State :=
  { s with tim := { s.tim with
    due := Tab.setOn s.tim.due k false,
    skipped := [0, 1].foldl (fun t die => Tab.setOn t (dieFeed die k) (s.straitSkips die)) s.tim.skipped } }

/-- The attenuation that waits for a load of the feed comes into force. -/
def State.takeAtt (s : State) (k : Nat) : State :=
  if Tab.num s.cor.attNext k = 0 then s
  else { s with cor := { s.cor with attNext := Tab.setNum s.cor.attNext k 0 } }.setFld (F.COR_Fk_GATT_ATT k)
    (Tab.num s.cor.attNext k - 1)

/-- What is in force for the load: the tables in the beads and the attenuation besides what was. -/
def State.loadInForce (s : State) (k : Nat) : State := (s.loadClaimed k).rewriteAll.takeAtt k

/-- The source of a layer for a load, and whether its format is at fault. -/
def State.layerPick (s : State) (k n : Nat) : Option LaySource × Bool :=
  if (stackLayers s.signRegs k).contains n then s.selectSource s.signRegs n else (none, false)

/-- A load that has formed no line, with the values in force. -/
def State.newLoad (s : State) (k bank bankE1 : Nat) : Load where
  bank := bank
  bankE1 := bankE1
  regs := s.signRegs
  tables := s.tabs.beads
  front := s.tabs.front
  srcs := (List.range 8).map fun n => (s.layerPick k n).1
  gains := s.cor.gains
  att := s.fld (F.COR_Fk_GATT_ATT k)
  phase := Tab.num s.pix.phase k
  cap := if s.clasp.lce then some (s.fld F.CLS_LCEG_GREY) else none
  done := []
  lines := []
  packed := []
  dose := []
  sums := []
  shifted := []
  under := []
  empty := []
  sigs := s.feedSigs k
  sent := false
  rowsIn := []
  rowCount := []

/-- The layers at fault show it. -/
def State.showFaults (s : State) (fault : Nat → Bool) : State :=
  s.each (List.range 8) fun s n => if fault n then s.setOn (F.LAY_x_STAT_FMT_ERR n) true else s

/-- A load runs; sums that have not come by now are late (R150). -/
def State.enterLoad (s : State) (k phase : Nat) (l : Load) : State :=
  { s with
    pix := { s.pix with loads := Tab.setOpt s.pix.loads k (some l), phase := Tab.setNum s.pix.phase k ((phase + 1) % 4) }
    cor := { s.cor with overdue := Tab.setNum s.cor.overdue k (Tab.lst s.cor.waiting k).length } }

/-- A load of a feed waits at the end of each of these ports' order. -/
def State.joinPorts (s : State) (k : Nat) (l : List Nat) : State :=
  s.each l fun s p => s.setPort p { s.port p with loads := (s.port p).loads ++ [k] }

/-- The line buffers that no other load takes from are emptied. -/
def State.clearBufs (s : State) (k : Nat) (l : List Nat) : State :=
  s.each l fun s n => if s.bufTaken k n then s else s.setBuf n []

/-- The load of a feed as it starts in the drivers' banks `bank` and `bankE1`, its line buffers still as they were. -/
def State.loadPlaced (s : State) (k bank bankE1 : Nat) : State :=
  (s.showFaults fun n => (s.layerPick k n).2).enterLoad k (Tab.num s.pix.phase k) (s.newLoad k bank bankE1)

/-- The ports that a load waits on. -/
def State.loadPorts (s : State) (k : Nat) : List Nat := s.chains.filter fun p => !s.skips (p / 32) k

/-- The load runs: its ports and its line buffers take it up. -/
def State.loadRun (s : State) (k bank bankE1 : Nat) : State :=
  let t := s.loadPlaced k bank bankE1
  ((t.joinPorts k (t.loadPorts k)).clearBufs k (stackLayers s.signRegs k ++ [8])).captureStart s.signRegs k

theorem State.loadStart_held (h : s.loadHeld k = true) : s.loadStart k = s := if_pos h

theorem State.loadStart_skipped (h : s.loadHeld k = false) (skips : (s.loadClaimed k).skipsAll k = true) :
    s.loadStart k = s.loadClaimed k :=
  (if_neg (by rw [h]; decide)).trans (if_pos skips)

theorem State.loadStart_eq (h : s.loadHeld k = false) (skips : (s.loadClaimed k).skipsAll k = false) :
    s.loadStart k = (s.loadInForce k).loadRun k (s.loadBank 0 k) (s.loadBank 1 k) := by
  have acts : ¬ s.loadHeld k = true := by rw [h]; decide
  have some : ¬ (s.loadClaimed k).skipsAll k = true := by rw [skips]; decide
  unfold State.loadStart
  rw [if_neg acts]
  extract_lets +onlyGivenNames bank bankE1 tim s1
  have e1 : s1 = s.loadClaimed k := rfl
  clear_value s1
  subst e1
  rw [if_neg some]
  extract_lets +onlyGivenNames s2 att cor s3
  have e2 : s2 = (s.loadClaimed k).rewriteAll := rfl
  clear_value s2
  have e3 : s3 = s2.takeAtt k := rfl
  clear_value s3
  rw [State.loadInForce, ← e2, ← e3]
  rfl

/-! ## What is in force -/

theorem State.rewriteAll_frame (s : State) : ∃ x, s.rewriteAll = { s with tabs := x } := by
  refine State.each_keeps (P := fun u => ∃ x, u = { s with tabs := x }) ⟨s.tabs, rfl⟩ ?_
  rintro _ n - ⟨x, rfl⟩
  unfold State.rewriteTable
  split
  · exact ⟨_, rfl⟩
  · exact ⟨x, rfl⟩

theorem State.takeAtt_spec : s.takeAtt k =
      { s with regs := (s.takeAtt k).regs, cor := { s.cor with attNext := (s.takeAtt k).cor.attNext } } ∧
    OnlyFields [F.COR_Fk_GATT_ATT k] s (s.takeAtt k) := by
  unfold State.takeAtt
  split
  · exact ⟨rfl, onlyFields_refl _ s⟩
  · exact ⟨rfl, onlyFields_setFld (s := { s with cor := _ }) (Fld.ok_mk rfl)⟩

theorem State.loadInForce_spec (s : State) (k : Nat) : s.loadInForce k =
      { s with regs := (s.loadInForce k).regs, tim := (s.loadClaimed k).tim, tabs := (s.loadInForce k).tabs,
               cor := { s.cor with attNext := (s.loadInForce k).cor.attNext } } ∧
    OnlyFields [F.COR_Fk_GATT_ATT k] s (s.loadInForce k) := by
  obtain ⟨x, tables⟩ := (s.loadClaimed k).rewriteAll_frame
  obtain ⟨frame, fields⟩ := State.takeAtt_spec (s := (s.loadClaimed k).rewriteAll) (k := k)
  unfold State.loadInForce
  generalize (s.loadClaimed k).rewriteAll.takeAtt k = v at *
  rw [tables] at frame fields
  have tabs : v.tabs = x := by rw [frame]
  rw [tabs]
  exact ⟨frame, fields⟩

theorem State.due_loadClaimed : Tab.on (s.loadClaimed k).tim.due k = false :=
  (Tab.on_setOn_same : Tab.on (Tab.setOn s.tim.due k false) k = false)

theorem State.skips_loadClaimed (die : Fin 2) : (s.loadClaimed k).skips die k = s.straitSkips die := by
  have other : dieFeed 0 k ≠ dieFeed 1 k := by
    unfold dieFeed
    omega
  match die with
  | 0 => exact (Tab.on_setOn_other other).trans Tab.on_setOn_same
  | 1 => exact Tab.on_setOn_same

/-! ## What the later steps leave -/

/-- What a load has taken, its ports, the feed's phase and the registers between those of the layers and of the check
units are as before. -/
structure LoadStays (s t : State) : Prop where
  tim : t.tim = s.tim
  tabs : t.tabs = s.tabs
  chn : t.chn = s.chn
  loads : t.pix.loads = s.pix.loads
  phase : t.pix.phase = s.pix.phase
  reg : ∀ a, 0x90000 ≤ a → a < 0x100000 → t.reg a = s.reg a

namespace LoadStays

theorem refl (s : State) : LoadStays s s := ⟨rfl, rfl, rfl, rfl, rfl, fun _ _ _ => rfl⟩

theorem fld (h : LoadStays s t) (low : 0x90000 ≤ f.addr) (high : f.addr < 0x100000) : t.fld f = s.fld f :=
  State.fld_of_reg (h.reg _ low high)

theorem each {α : Type} {l : List α} {op : State → α → State} (h : LoadStays s t)
    (hop : ∀ {u a}, a ∈ l → LoadStays s u → LoadStays s (op u a)) : LoadStays s (t.each l op) :=
  State.each_keeps h fun _ _ ha => hop ha

theorem setFld {v : Nat} (h : LoadStays s t) (hf : f.addr < 0x90000) : LoadStays s (t.setFld f v) :=
  ⟨h.tim, h.tabs, h.chn, h.loads, h.phase,
    fun a low high => (State.reg_setReg_other (by omega)).trans (h.reg a low high)⟩

theorem setBuf {b : List Delivered} (h : LoadStays s t) : LoadStays s (t.setBuf q b) :=
  ⟨h.tim, h.tabs, h.chn, h.loads, h.phase, h.reg⟩

theorem withCapture {c : Option Capture} (h : LoadStays s t) : LoadStays s (t.withCapture k c) :=
  ⟨h.tim, h.tabs, h.chn, h.loads, h.phase, h.reg⟩

theorem snoopBoundary {stream : Nat} (h : LoadStays s t) : LoadStays s (t.snoopBoundary stream) := by
  have snooped := (ChkOnly.refl t).snoopBoundary (stream := stream)
  have reg (a) (low : 0x90000 ≤ a) (high : a < 0x100000) : (t.snoopBoundary stream).reg a = s.reg a :=
    (snooped.reg a high).trans (h.reg a low high)
  generalize t.snoopBoundary stream = v at *
  have frame := snooped.eq
  exact ⟨by rw [frame]; exact h.tim, by rw [frame]; exact h.tabs, by rw [frame]; exact h.chn,
    by rw [frame]; exact h.loads, by rw [frame]; exact h.phase, reg⟩

theorem showFaults {fault : Nat → Bool} (h : LoadStays s t) : LoadStays s (t.showFaults fault) :=
  h.each fun {_ n} hn h => by
    have below := List.mem_range.1 hn
    have status : R.LAY_x_STAT n < 0x90000 := by
      show 0x8005c + 0x80 * n < _
      omega
    exact ite_keeps (h.setFld status) h

theorem clearBufs {l : List Nat} (h : LoadStays s t) : LoadStays s (t.clearBufs k l) :=
  h.each fun _ h => ite_keeps h h.setBuf

theorem captureStart {r : Tab Word} (h : LoadStays s t) (hk : k < 4) : LoadStays s (t.captureStart r k) := by
  unfold State.captureStart
  extract_lets +onlyGivenNames pix s1 cs taps
  have status : (F.LAY_Fk_WBSTAT_INCOMPLETE k).addr < 0x90000 := by
    show 0x8041c + 0x40 * k < _
    omega
  have h1 : LoadStays s s1 := ite_keeps (h.withCapture.setFld status).snoopBoundary h
  clear_value s1
  split
  · extract_lets free
    split
    · exact h1
    · exact h1.withCapture
  · exact h1

end LoadStays

/-! ## The ports -/

/-- A load comes last in the order of each of the ports named. -/
theorem State.port_joinPorts {l : List Nat} (once : l.Nodup) :
    ((s.joinPorts k l).port p).loads = (s.port p).loads ++ if p ∈ l then [k] else [] := by
  induction l generalizing s with
  | nil => simp [State.joinPorts, State.each]
  | cons a l ih =>
    obtain ⟨fresh, once⟩ := List.nodup_cons.1 once
    have first : ((s.joinPorts k (a :: l)).port p).loads =
        ((s.setPort a { s.port a with loads := (s.port a).loads ++ [k] }).port p).loads ++ if p ∈ l then [k] else [] := ih once
    rw [first]
    by_cases here : p = a
    · subst here
      have set : (s.setPort p { s.port p with loads := (s.port p).loads ++ [k] }).port p =
          { s.port p with loads := (s.port p).loads ++ [k] } := Tab.get_put_same
      simp [set, fresh]
    · have kept : (s.setPort a { s.port a with loads := (s.port a).loads ++ [k] }).port p = s.port p :=
        Tab.get_put_other here
      simp [kept, here]

theorem State.joinPorts_frame (s : State) (k : Nat) (l : List Nat) : ∃ x, s.joinPorts k l = { s with chn := x } := by
  refine State.each_keeps (P := fun u => ∃ x, u = { s with chn := x }) ⟨s.chn, rfl⟩ ?_
  rintro _ p - ⟨x, rfl⟩
  exact ⟨_, rfl⟩

theorem State.loadPorts_nodup : (s.loadPorts k).Nodup := (List.nodup_range.filter _).filter _

theorem State.loadPorts_congr (skipped : t.tim.skipped = s.tim.skipped) (nic : ∀ p < 64, t.nic p = s.nic p) :
    t.loadPorts k = s.loadPorts k := by
  have chains : t.chains = s.chains := by
    unfold State.chains below
    exact List.filter_congr fun p hp => by rw [nic p (List.mem_range.1 hp)]
  unfold State.loadPorts State.skips
  rw [chains, skipped]

theorem State.mem_loadPorts (hp : p < 64) : p ∈ s.loadPorts k ↔ s.nic p ≠ 0 ∧ s.skips (p / 32) k = false := by
  simp [State.loadPorts, State.chains, below, hp, and_comm]

/-! ## The load as it starts -/

theorem State.loadHeld_iff : s.loadHeld k = true ↔ Tab.on s.tim.due k = false ∨ (Tab.opt s.pix.loads k).isSome = true ∨
    s.mayLoad = false ∨ s.turnOf k = false ∨ s.bankShown 0 k (s.loadBank 0 k) = true ∨
    s.bankShown 1 k (s.loadBank 1 k) = true := by
  simp [State.loadHeld, or_assoc]

theorem State.skipsAll_iff : s.skipsAll k = true ↔ s.skips 0 k = true ∧ s.skips 1 k = true := Bool.and_eq_true_iff

/-- The load is there, the phase of the feed has moved on, and the ports are as they were. -/
theorem State.loadPlaced_spec (u : State) (k b0 b1 : Nat) :
    (u.loadPlaced k b0 b1).tim = u.tim ∧ (u.loadPlaced k b0 b1).tabs = u.tabs ∧ (u.loadPlaced k b0 b1).chn = u.chn ∧
    (u.loadPlaced k b0 b1).pix.loads = Tab.setOpt u.pix.loads k (some (u.newLoad k b0 b1)) ∧
    (u.loadPlaced k b0 b1).pix.phase = Tab.setNum u.pix.phase k ((Tab.num u.pix.phase k + 1) % 4) ∧
    ∀ a, 0x90000 ≤ a → a < 0x100000 → (u.loadPlaced k b0 b1).reg a = u.reg a := by
  have shown := (LoadStays.refl u).showFaults (fault := fun n => (u.layerPick k n).2)
  unfold State.loadPlaced
  generalize u.showFaults (fun n => (u.layerPick k n).2) = v at *
  have loads : Tab.setOpt v.pix.loads k (some (u.newLoad k b0 b1)) = Tab.setOpt u.pix.loads k (some (u.newLoad k b0 b1)) := by
    rw [shown.loads]
  have phase : Tab.setNum v.pix.phase k ((Tab.num u.pix.phase k + 1) % 4) =
      Tab.setNum u.pix.phase k ((Tab.num u.pix.phase k + 1) % 4) := by
    rw [shown.phase]
  exact ⟨shown.tim, shown.tabs, shown.chn, loads, phase, shown.reg⟩

theorem State.loadRun_spec (u : State) (hk : k < 4) (b0 b1 : Nat) :
    (u.loadRun k b0 b1).tim = u.tim ∧ (u.loadRun k b0 b1).tabs = u.tabs ∧
    (u.loadRun k b0 b1).pix.loads = Tab.setOpt u.pix.loads k (some (u.newLoad k b0 b1)) ∧
    (u.loadRun k b0 b1).pix.phase = Tab.setNum u.pix.phase k ((Tab.num u.pix.phase k + 1) % 4) ∧
    (∀ p, ((u.loadRun k b0 b1).port p).loads = (u.port p).loads ++ if p ∈ u.loadPorts k then [k] else []) ∧
    (u.loadRun k b0 b1).fld (F.COR_Fk_GATT_ATT k) = u.fld (F.COR_Fk_GATT_ATT k) := by
  obtain ⟨tim, tabs, chn, loads, phase, reg⟩ := u.loadPlaced_spec k b0 b1
  unfold State.loadRun
  generalize u.loadPlaced k b0 b1 = v at *
  have ports : v.loadPorts k = u.loadPorts k := State.loadPorts_congr (by rw [tim]) fun p hp => by
    have high : R.CHN_Cnn_CFG p < 0x100000 := by
      show 0xb0100 + 0x10 * p < _
      omega
    exact State.fld_of_reg (reg _ (Nat.le_add_right_of_le (by decide)) high)
  have order (p : Nat) := v.port_joinPorts (p := p) (k := k) (v.loadPorts_nodup (k := k))
  obtain ⟨x, joined⟩ := v.joinPorts_frame k (v.loadPorts k)
  dsimp only
  generalize v.joinPorts k (v.loadPorts k) = w at *
  have stays : LoadStays w ((w.clearBufs k (stackLayers u.signRegs k ++ [8])).captureStart u.signRegs k) :=
    (LoadStays.refl w).clearBufs.captureStart hk
  generalize (w.clearBufs k (stackLayers u.signRegs k ++ [8])).captureStart u.signRegs k = t at *
  have low : 0x90000 ≤ R.COR_Fk_GATT k := Nat.le_add_right_of_le (by decide)
  have high : R.COR_Fk_GATT k < 0x100000 := by
    show 0x9005c + 0x100 * k < _
    omega
  refine ⟨by rw [stays.tim, joined, tim], by rw [stays.tabs, joined, tabs], by rw [stays.loads, joined, loads],
    by rw [stays.phase, joined, phase], fun p => ?_, ?_⟩
  · rw [State.port, stays.chn, ← State.port, order, ports, State.port, chn, ← State.port]
  · rw [stays.fld low high, joined]
    exact State.fld_of_reg (reg _ low high)

/-- What a load that starts takes, and what it leaves (R84, R124, R164). -/
theorem State.loadStart_spec (hk : k < 4) (h : s.loadHeld k = false) (some : (s.loadClaimed k).skipsAll k = false) :
    (s.loadStart k).tim = (s.loadClaimed k).tim ∧
    Tab.num (s.loadStart k).pix.phase k = (Tab.num s.pix.phase k + 1) % 4 ∧
    (∀ p, p < 64 → ((s.loadStart k).port p).loads =
      (s.port p).loads ++ if s.nic p ≠ 0 ∧ (s.loadClaimed k).skips (p / 32) k = false then [k] else []) ∧
    (∀ j, j ≠ k → Tab.opt (s.loadStart k).pix.loads j = Tab.opt s.pix.loads j) ∧
    ∃ l, Tab.opt (s.loadStart k).pix.loads k = Option.some l ∧ l.bank = s.loadBank 0 k ∧ l.bankE1 = s.loadBank 1 k ∧
      l.gains = s.cor.gains ∧ l.att = (s.loadStart k).fld (F.COR_Fk_GATT_ATT k) ∧ l.phase = Tab.num s.pix.phase k ∧
      l.tables = (s.loadStart k).tabs.beads ∧ l.cap = (if s.clasp.lce then Option.some (s.fld F.CLS_LCEG_GREY) else none) ∧
      l.done = [] ∧ l.lines = [] ∧ l.packed = [] ∧ l.shifted = [] := by
  obtain ⟨frame, fields⟩ := s.loadInForce_spec k
  rw [State.loadStart_eq h some]
  generalize s.loadInForce k = u at *
  obtain ⟨tim, tabs, loads, phase, ports, att⟩ := u.loadRun_spec hk (s.loadBank 0 k) (s.loadBank 1 k)
  generalize u.loadRun k (s.loadBank 0 k) (s.loadBank 1 k) = t at *
  have pix : u.pix = s.pix := by rw [frame]
  have gains : u.cor.gains = s.cor.gains := by rw [frame]
  have clasp : u.clasp = s.clasp := by rw [frame]
  have utim : u.tim = (s.loadClaimed k).tim := by rw [frame]
  have below : R.COR_Fk_GATT k < 0xb0000 := by
    show 0x9005c + 0x100 * k < _
    omega
  have same {g : Fld} (ok : g.ok) (above : 0xb0000 ≤ g.addr) : u.fld g = s.fld g :=
    fields g ok (List.forall_mem_singleton.2 (.inl (Nat.lt_of_lt_of_le below above).ne))
  rw [pix] at loads phase
  refine ⟨tim.trans utim, by rw [phase, Tab.num_setNum_same], fun p hp => ?_,
    fun j hj => by rw [loads, Tab.opt_setOpt_other hj], _, by rw [loads, Tab.opt_setOpt_same], rfl, rfl, gains, att.symm,
    congrArg (Tab.num ·.phase k) pix, by rw [tabs]; rfl, ?_, rfl, rfl, rfl, rfl⟩
  · have nic : u.nic p = s.nic p := same (Fld.ok_mk rfl) (Nat.le_add_right_of_le (by decide))
    have uport : u.port p = s.port p := by rw [frame]; rfl
    have skips : u.skips (p / 32) k = (s.loadClaimed k).skips (p / 32) k := by rw [State.skips, utim, State.skips]
    rw [ports, uport]
    simp only [State.mem_loadPorts hp, nic, skips]
  · show (if u.clasp.lce then Option.some (u.fld F.CLS_LCEG_GREY) else none) = _
    rw [clasp, same (by decide) (by decide)]

/-! ## The obligation -/

/-- What the command does where commands act: sums that have come are decided on before a load that may start (R150). -/
def State.bankLoadStart (s : State) (k : Nat) : State :=
  State.loadStart (if Tab.on s.cor.sumsIn k && !s.loadHeld k then s.guardClassify k true false else s) k

theorem State.bankLoadStart_eq (h : Tab.on s.cor.sumsIn k = false ∨ s.loadHeld k = true) : s.bankLoadStart k = s.loadStart k := by
  have none : ¬ (Tab.on s.cor.sumsIn k && !s.loadHeld k) = true := by
    rcases h with h | h <;> simp [h]
  rw [State.bankLoadStart, if_neg none]

/-- Settles O7: `State.loadHeld` says when a load may not start, and `State.loadStart_spec` what one that starts takes. -/
theorem pixels_BankLoadStart : Obligations.Pixels_BankLoadStart := by
  intro s k live
  have skips0 : (s.loadClaimed k).skips 0 k = s.straitSkips 0 := s.skips_loadClaimed 0
  have skips1 : (s.loadClaimed k).skips 1 k = s.straitSkips 1 := s.skips_loadClaimed 1
  refine ⟨fun held => ?_, fun isDue free may turn clear0 clear1 sums => ?_⟩
  · have held := State.loadHeld_iff.2 held
    exact runs_unchanged (op := (·.bankLoadStart k)) live rfl
      ((State.bankLoadStart_eq (.inr held)).trans (State.loadStart_held held))
  have acts : s.loadHeld k = false := by
    rw [← Bool.not_eq_true, State.loadHeld_iff]
    simp [isDue, free, may, turn, clear0, clear1]
  have starts := State.bankLoadStart_eq (.inl sums)
  refine ⟨fun down0 down1 => ?_, fun up => ?_⟩
  · have all : (s.loadClaimed k).skipsAll k = true := State.skipsAll_iff.2 ⟨skips0.trans down0, skips1.trans down1⟩
    exact runs_effect (op := (·.bankLoadStart k)) live rfl (starts.trans (State.loadStart_skipped acts all))
      ⟨State.due_loadClaimed, skips0.trans down0, skips1.trans down1, rfl⟩
  · have some : (s.loadClaimed k).skipsAll k = false := by
      rw [← Bool.not_eq_true, State.skipsAll_iff, skips0, skips1]
      rintro ⟨down0, down1⟩
      simp [down0, down1] at up
    obtain ⟨tim, phase, ports, others, load⟩ := State.loadStart_spec k.isLt acts some
    refine runs_effect (op := (·.bankLoadStart k)) live rfl starts ⟨by rw [tim]; exact State.due_loadClaimed, phase,
      fun die => ?_, fun p hp => ?_, others, load⟩
    · rw [State.skips, tim]
      exact s.skips_loadClaimed die
    · have die : (s.loadClaimed k).skips (p / 32) k = s.straitSkips (p / 32) := s.skips_loadClaimed ⟨p / 32, by omega⟩
      rw [ports p hp, die]

end Sys2Proof.Machine

end

section

/-!
# Accesses to memory from two states

An access to memory reads neither the pixel path nor the links, and changes no register outside the blocks of the memory
controllers but the status of the fault collector. The lemmas about `TwinAccess` follow the model's operations in order, as
those about `MemOnly` do.
-/

namespace Sys2Proof.Machine

/-- A register that no access to memory changes. -/
abbrev offMemory (a : Nat) : Prop := a / 0x10000 ≠ 7 ∧ a ≠ R.FLT_STAT

/-- One access has led to `t` and, with another pixel path and other links, to `u`; it began with the registers of `s`. -/
structure TwinAccess (s : State) (x : PixelState) (l : LinkState) (t u : State) : Prop where
  twin : { t with pix := x, lnk := l } = u
  reg : ∀ a, offMemory a → t.reg a = s.reg a

namespace TwinAccess

variable {s t u t' u' : State} {x : PixelState} {l : LinkState} {f : Fld} {q line rank flat : Nat}

theorem refl (s : State) : TwinAccess s x l s { s with pix := x, lnk := l } := ⟨rfl, fun _ _ => rfl⟩

theorem ite {c c' : Prop} {_ : Decidable c} {_ : Decidable c'} (same : c = c') (ht : TwinAccess s x l t u)
    (ht' : TwinAccess s x l t' u') : TwinAccess s x l (if c then t else t') (if c' then u else u') := by
  subst same
  by_cases hc : c
  · rw [if_pos hc, if_pos hc]
    exact ht
  · rw [if_neg hc, if_neg hc]
    exact ht'

theorem each {α : Type} {k : List α} {op : State → α → State} (h : TwinAccess s x l t u)
    (hop : ∀ {t u a}, TwinAccess s x l t u → TwinAccess s x l (op t a) (op u a)) :
    TwinAccess s x l (t.each k op) (u.each k op) := by
  induction k generalizing t u with
  | nil => exact h
  | cons a k ih => exact ih (hop h)

theorem whenDo {b b' : Bool} {op : State → State} (same : b = b') (h : TwinAccess s x l t u)
    (hop : ∀ {t u}, TwinAccess s x l t u → TwinAccess s x l (op t) (op u)) :
    TwinAccess s x l (t.whenDo b op) (u.whenDo b' op) :=
  .ite (congrArg (· = true) same) (hop h) h

theorem frame {fl m n} (h : TwinAccess s x l t u) : TwinAccess s x l { t with flt := fl, mem := m, freeCtr := n }
    { u with flt := fl, mem := m, freeCtr := n } := by
  obtain ⟨rfl, reg⟩ := h
  exact ⟨rfl, reg⟩

theorem memFrame {m} (h : TwinAccess s x l t u) : TwinAccess s x l { t with mem := m } { u with mem := m } := by
  obtain ⟨rfl, reg⟩ := h
  exact ⟨rfl, reg⟩

theorem setFld {v : Nat} (h : TwinAccess s x l t u) (hf : ¬ offMemory f.addr) :
    TwinAccess s x l (t.setFld f v) (u.setFld f v) := by
  obtain ⟨rfl, reg⟩ := h
  refine ⟨rfl, fun a ha => (State.reg_setReg_other ?_).trans (reg a ha)⟩
  rintro rfl
  exact hf ha

theorem incSat (h : TwinAccess s x l t u) (hf : ¬ offMemory f.addr) : TwinAccess s x l (t.incSat f) (u.incSat f) := by
  obtain rfl := h.twin
  exact h.setFld hf

theorem raise {i n : Nat} (h : TwinAccess s x l t u) : TwinAccess s x l (t.raise i n) (u.raise i n) := by
  obtain rfl := h.twin
  exact .ite rfl (.ite rfl h.frame (.incSat h.frame (by decide))) h

theorem outOfRange (h : TwinAccess s x l t u) : TwinAccess s x l (t.outOfRange q) (u.outOfRange q) :=
  (h.incSat (by decide)).raise

theorem migStart (h : TwinAccess s x l t u) : TwinAccess s x l (t.migStart rank) (u.migStart rank) :=
  (((h.setFld (by decide)).setFld (by decide)).setFld (by decide)).raise

theorem memFinding (h : TwinAccess s x l t u) : TwinAccess s x l (t.memFinding rank) (u.memFinding rank) := by
  obtain rfl := h.twin
  unfold State.memFinding
  refine .ite rfl ?_ h
  rw [show State.fld { t with pix := x, lnk := l } F.MEM_STAT_MIG_STATE = t.fld F.MEM_STAT_MIG_STATE from rfl]
  split
  · exact .ite rfl h.migStart (h.setFld (by decide)).raise
  · exact .ite rfl h h.raise
  · exact (h.setFld (by decide)).raise
  · exact h

/-- A register of a rank. -/
theorem rank_register {a : Nat} (hr : rank < 0x800) (ha : 0x70000 ≤ a ∧ a < 0x70100) : ¬ offMemory (a + 0x10 * rank) := by
  rintro ⟨block, _⟩
  omega

theorem countCE (h : TwinAccess s x l t u) (hr : rank < 0x800) : TwinAccess s x l (t.countCE rank) (u.countCE rank) := by
  obtain rfl := h.twin
  have h1 := h.incSat (f := F.MEM_RKj_ERR_CE rank) (rank_register hr (by decide))
  exact .ite rfl (.memFinding (.raise (.memFrame h1.memFrame))) h1.memFrame

theorem countUE (h : TwinAccess s x l t u) (hr : line / 2 ^ 25 < 0x800) :
    TwinAccess s x l (t.countUE line) (u.countUE line) := by
  obtain rfl := h.twin
  exact .memFinding (.raise (((h.incSat (rank_register hr (by decide))).setFld (rank_register hr (by decide))).setFld
    (rank_register hr (by decide))))

theorem writeBack {data : List Byte} {p : Bool} (h : TwinAccess s x l t u) :
    TwinAccess s x l (t.writeBack line data p) (u.writeBack line data p) := by
  obtain rfl := h.twin
  exact h.memFrame

theorem handleRead {c : LineClass × List Byte} {o : Bool} (h : TwinAccess s x l t u) (hr : line / 2 ^ 25 < 0x800) :
    TwinAccess s x l (t.handleRead line c o).1 (u.handleRead line c o).1 ∧
    (t.handleRead line c o).2 = (u.handleRead line c o).2 := by
  obtain rfl := h.twin
  unfold State.handleRead
  split
  · exact ⟨h, rfl⟩
  · exact ⟨.countCE (.ite rfl h h.writeBack) hr, rfl⟩
  · exact ⟨h.incSat (rank_register hr (by decide)), rfl⟩
  · exact ⟨.countUE (.ite rfl h.frame (.writeBack h.frame)) hr, rfl⟩

theorem queueWrite {e : MemEntry} (h : TwinAccess s x l t u) : TwinAccess s x l (t.queueWrite q e) (u.queueWrite q e) := by
  obtain rfl := h.twin
  exact .ite rfl (.ite rfl h.memFrame h) h.memFrame

theorem reserve (h : TwinAccess s x l t u) : TwinAccess s x l (t.reserve q line) (u.reserve q line) := by
  obtain rfl := h.twin
  exact .ite rfl h.memFrame h

theorem activate (h : TwinAccess s x l t u) : TwinAccess s x l (t.activate q line) (u.activate q line) := by
  obtain rfl := h.twin
  have h1 {m} : TwinAccess s x l { t with mem := m } { t with pix := x, lnk := l, mem := m } := h.memFrame
  exact .ite rfl (.raise (.setFld (.incSat (.setFld (.setFld (.setFld (.setFld (h1.memFrame) (by decide)) (by decide))
    (by decide)) (by decide)) (by decide)) (by decide))) h1

theorem openRow (h : TwinAccess s x l t u) : TwinAccess s x l (t.whenDo (t.activates line) (·.activate q line))
    (u.whenDo (u.activates line) (·.activate q line)) := by
  obtain rfl := h.twin
  exact h.whenDo rfl (·.activate)

theorem passEcc {key : Nat} {w : Bool} (h : TwinAccess s x l t u) :
    TwinAccess s x l { t with mem := t.mem.touchEcc (lineCtl line) key w }
      { u with mem := u.mem.touchEcc (lineCtl line) key w } := by
  obtain rfl := h.twin
  exact h.memFrame

theorem touchLine {w : Bool} (h : TwinAccess s x l t u) : TwinAccess s x l (t.touchLine q line w) (u.touchLine q line w) := by
  obtain rfl := h.twin
  have first {out : Option (Nat × Bool)} : TwinAccess s x l
      (match out with
        | some (old, true) => t.whenDo (t.activates (t.eccRow old)) (·.activate q (t.eccRow old))
        | _ => t)
      (match out with
        | some (old, true) => { t with pix := x, lnk := l }.whenDo (t.activates (t.eccRow old)) (·.activate q (t.eccRow old))
        | _ => { t with pix := x, lnk := l }) := by
    split
    · exact h.openRow
    · exact h
  exact first.openRow.passEcc

theorem putLine {data : List Byte} {p : Bool} {e : ReadNoise} (h : TwinAccess s x l t u) :
    TwinAccess s x l (t.putLine line data p e) (u.putLine line data p e) := by
  obtain rfl := h.twin
  unfold State.putLine
  dsimp only
  split
  · exact h.memFrame
  · rw [show State.reachedLine { t with pix := x, lnk := l } = t.reachedLine from rfl]
    split
    · exact h
    · exact h.memFrame

theorem dramWrite {bytes : List (Option Byte)} {r w : ReadNoise} (h : TwinAccess s x l t u) (hr : line / 2 ^ 25 < 0x800) :
    TwinAccess s x l (t.dramWrite q line bytes r w) (u.dramWrite q line bytes r w) := by
  have h1 := h.touchLine (q := q) (line := line) (w := true)
  unfold State.dramWrite
  extract_lets s1 c s1' c'
  change TwinAccess s x l s1 s1' at h1
  clear_value s1 s1'
  obtain rfl := h1.twin
  obtain ⟨h2, flag⟩ := h1.handleRead (c := c) (o := true) hr
  have merged {data : List Byte} {p : Bool} (e : (s1.handleRead line c true).2 = p) : TwinAccess s x l
      ((s1.handleRead line c true).1.putLine line data (s1.handleRead line c true).2 w)
      ((State.handleRead { s1 with pix := x, lnk := l } line c true).1.putLine line data p w) := by
    rw [e]
    exact h2.putLine
  exact .ite rfl h1.putLine (merged flag)

theorem passWrite {bytes : List (Option Byte)} {r w : ReadNoise} (h : TwinAccess s x l t u) (hr : line / 2 ^ 25 < 0x800) :
    TwinAccess s x l ({ t with mem := t.mem.overtake line }.dramWrite q line bytes r w)
      ({ u with mem := u.mem.overtake line }.dramWrite q line bytes r w) := by
  obtain rfl := h.twin
  exact .dramWrite h.memFrame hr

theorem awaitThrottle (h : TwinAccess s x l t u) : TwinAccess s x l (t.awaitThrottle q line) (u.awaitThrottle q line) := by
  obtain rfl := h.twin
  exact .reserve (.ite rfl h.memFrame h)

theorem lineStore {bytes : List (Option Byte)} (h : TwinAccess s x l t u) :
    TwinAccess s x l (t.lineStore q flat bytes) (u.lineStore q flat bytes) := by
  obtain rfl := h.twin
  unfold State.lineStore
  refine .ite rfl h.queueWrite ?_
  by_cases above : t.flatTop ≤ flat
  · rw [if_pos above, if_pos (show State.flatTop { t with pix := x, lnk := l } ≤ flat from above)]
    exact h.outOfRange
  · rw [if_neg above, if_neg (show ¬ State.flatTop { t with pix := x, lnk := l } ≤ flat from above)]
    have rank := Aside.lineOf_rank (Nat.lt_of_not_le above)
    exact .ite rfl h.memFrame (h.awaitThrottle.passWrite rank)

theorem writeFlat {bytes : List Byte} (h : TwinAccess s x l t u) :
    TwinAccess s x l (t.writeFlat q flat bytes) (u.writeFlat q flat bytes) := h.each (·.lineStore)

end TwinAccess
end Sys2Proof.Machine
end

section

/-!
# Forwarding of a packet

What a packet that has been checked leaves in the queues of the ports that it is forwarded to (R287 to R291).
-/

namespace Sys2Proof.Machine

variable {s t u : State} {f : Fld} {p d q age : Nat}

/-! ## What a packet counts -/

/-- The counters of the packets of a port, beside RXDROP and FMTERR, and that of lost occurrences. -/
abbrev packetCounters (p : Nat) : List Fld :=
  [F.LNK_Px_PKT_CRCERR p, F.LNK_Px_PKT_ABTRX p, F.LNK_Px_PKT_LENERR p, F.LNK_Px_DROP_FWDDROP p, F.FLT_STAT_LOSTOCC]

/-- The counters of a packet of port `p` have gone on, with events, and forward queues have changed. -/
structure Counting (p : Nat) (s t : State) : Prop where
  rest : { t with regs := s.regs, flt := s.flt, lnk := s.lnk } = s
  link : { t.lnk with queues := s.lnk.queues, bSince := s.lnk.bSince, dropAt := s.lnk.dropAt } = s.lnk
  fields : OnlyFields (packetCounters p) s t

/-- The room that a queue had for the longest packet `age` cycles of REF ago (R291). -/
abbrev State.hadRoom (s : State) (q age : Nat) : Prop := s.queueFill q + s.drainedSince q age + 18452 ≤ 65536

namespace Counting

theorem refl (s : State) : Counting p s s := ⟨rfl, rfl, onlyFields_refl _ s⟩

theorem mem (h : Counting p s t) : t.mem = s.mem := by rw [← h.rest]

theorem pix (h : Counting p s t) : t.pix = s.pix := by rw [← h.rest]

theorem rxVideo (h : Counting p s t) : t.lnk.rxVideo = s.lnk.rxVideo := by rw [← h.link]

theorem ports (h : Counting p s t) : t.lnk.ports = s.lnk.ports := by rw [← h.link]

theorem drainedSince (h : Counting p s t) : t.drainedSince q age = s.drainedSince q age := by
  rw [State.drainedSince, State.drainedSince, ← h.link]

theorem hadRoom (h : Counting p s t) (queue : Tab.lst t.lnk.queues q = Tab.lst s.lnk.queues q) :
    t.hadRoom q age ↔ s.hadRoom q age := by
  unfold State.hadRoom State.queueFill
  rw [h.drainedSince, queue]

theorem trans (h : Counting p s t) (h' : Counting p t u) : Counting p s u := by
  refine ⟨?_, ?_, onlyFields_trans h.fields h'.fields⟩
  · have rest := h.rest
    rw [← h'.rest] at rest
    exact rest
  · have link := h.link
    rw [← h'.link] at link
    exact link

theorem incSat (h : Counting p s t) (ok : f.ok) (hf : f ∈ packetCounters p) : Counting p s (t.incSat f) :=
  h.trans ⟨rfl, rfl, onlyFields_mono (List.forall_mem_singleton.2 hf) (onlyFields_incSat ok)⟩

/-- Only the links differ, in what a packet changes. -/
theorem frame {queues bSince dropAt} (h : Counting p s t) :
    Counting p s { t with lnk := { t.lnk with queues := queues, bSince := bSince, dropAt := dropAt } } :=
  h.trans ⟨rfl, rfl, onlyFields_of_regs _ rfl⟩

theorem raise {i n : Nat} (h : Counting p s t) : Counting p s (t.raise i n) := by
  obtain ⟨_, fields, frame⟩ := t.raise_spec i n
  refine h.trans ⟨?_, ?_, onlyFields_mono (List.forall_mem_singleton.2 (by simp)) fields⟩
  · rw [frame]
  · rw [frame]

theorem dropEvent (h : Counting p s t) : Counting p s (t.dropEvent p) := by
  unfold State.dropEvent
  extract_lets quiet
  clear_value quiet
  exact ite_keeps h h.frame.raise

theorem forward {x : TxPkt} (h : Counting p s t) : Counting p s (t.forward p d age x) := by
  unfold State.forward
  extract_lets q
  split
  · exact h.frame
  · have counted := h.incSat (f := F.LNK_Px_DROP_FWDDROP p) (Fld.ok_mk (by decide)) (by simp)
    exact counted.dropEvent

end Counting

/-! ## One forward queue -/

theorem State.dropEvent_queues : (s.dropEvent p).lnk.queues = s.lnk.queues := by
  unfold State.dropEvent
  extract_lets quiet
  clear_value quiet
  split
  · rfl
  · rw [(State.raise_spec _ _ _).2.2]

theorem State.dropEvent_fld (ok : f.ok) (apart : F.FLT_STAT_LOSTOCC.apart f) : (s.dropEvent p).fld f = s.fld f := by
  unfold State.dropEvent
  extract_lets quiet
  clear_value quiet
  split
  · rfl
  · exact (State.fld_raise ok apart).trans (State.fld_congr rfl)

/-- The count of lost occurrences is none of a port. -/
theorem lostOcc_apart (hp : p < 3) {m l : Nat} : F.FLT_STAT_LOSTOCC.apart ⟨R.LNK_Px_DROP p, m, l⟩ := by
  refine .inl ?_
  show 0x110004 ≠ 0x50110 + 0x40 * p
  omega

/-- A packet waits where its queue had room, and nowhere else. -/
theorem State.forward_queues {x : TxPkt} : (s.forward p d age x).lnk.queues =
    if s.hadRoom (forwardQueue p d) age then
      Tab.setLst s.lnk.queues (forwardQueue p d) (Tab.lst s.lnk.queues (forwardQueue p d) ++ [x]) else s.lnk.queues := by
  unfold State.forward
  extract_lets q
  split
  · rfl
  · rw [State.dropEvent_queues, State.incSat_lnk]

/-- Without room, the packet counts in FWDDROP. -/
theorem State.forward_dropped {x : TxPkt} (hp : p < 3) (full : ¬ s.hadRoom (forwardQueue p d) age) :
    (s.forward p d age x).fld (F.LNK_Px_DROP_FWDDROP p) =
      min (F.LNK_Px_DROP_FWDDROP p).max (s.fld (F.LNK_Px_DROP_FWDDROP p) + 1) := by
  have ok : (F.LNK_Px_DROP_FWDDROP p).ok := Fld.ok_mk (by decide)
  have lost : (s.forward p d age x).fld (F.LNK_Px_DROP_FWDDROP p) =
      (s.incSat (F.LNK_Px_DROP_FWDDROP p)).fld (F.LNK_Px_DROP_FWDDROP p) := by
    unfold State.forward
    extract_lets q
    rw [if_neg full]
    exact State.dropEvent_fld ok (lostOcc_apart hp)
  rw [lost, State.fld_incSat_same ok]

/-! ## Where a packet goes -/

/-- A register of the links that counts no packet of theirs. -/
abbrev routeReg (a : Nat) : Prop :=
  a / 0x10000 = 5 ∧ ∀ p, p < 3 → a ≠ R.LNK_Px_PKT p ∧ a ≠ R.LNK_Px_DROP p

/-- The registers and lanes that say where a packet goes are the same. -/
structure SameRoute (s t : State) : Prop where
  reg : ∀ a, routeReg a → t.reg a = s.reg a
  ports : t.lnk.ports = s.lnk.ports

namespace SameRoute

/-- A register at a fixed place among those of the links. -/
theorem control (h : SameRoute s t) {a : Nat} (ha : a / 0x10000 = 5 ∧ a < 0x50100 ∨ 0x50200 ≤ a ∧ a < 0x60000) :
    t.reg a = s.reg a := by
  refine h.reg a ⟨by omega, fun p hp => ⟨?_, ?_⟩⟩
  · show a ≠ 0x5010c + 0x40 * p
    omega
  · show a ≠ 0x50110 + 0x40 * p
    omega

theorem forwardBits (h : SameRoute s t) {stream : Nat} : t.forwardBits stream = s.forwardBits stream := by
  have entry (i) (hi : i ∈ List.range 32) : t.reg (R.LNK_FWDi i) = s.reg (R.LNK_FWDi i) := by
    have := List.mem_range.1 hi
    refine h.control (.inr ?_)
    show 0x50200 ≤ 0x50400 + 4 * i ∧ 0x50400 + 4 * i < 0x60000
    omega
  have bit {m l : Nat} (i) (hi : i ∈ List.range 32) : t.on ⟨R.LNK_FWDi i, m, l⟩ = s.on ⟨R.LNK_FWDi i, m, l⟩ :=
    State.on_of_reg (entry i hi)
  have found : ((List.range 32).find? fun i => t.on (F.LNK_FWDi_VALID i) && t.fld (F.LNK_FWDi_STREAM_ID i) == stream) =
      (List.range 32).find? fun i => s.on (F.LNK_FWDi_VALID i) && s.fld (F.LNK_FWDi_STREAM_ID i) == stream := by
    refine List.find?_congr fun i hi => ?_
    rw [bit i hi, State.fld_of_reg (entry i hi)]
  unfold State.forwardBits
  rw [found]
  split
  next i e => rw [bit i (List.mem_of_find?_eq_some e), bit i (List.mem_of_find?_eq_some e)]
  next => rw [State.on_of_reg (h.control (by decide)), State.on_of_reg (h.control (by decide))]

theorem upstream (h : SameRoute s t) : t.upstream = s.upstream := by
  rw [State.upstream, State.fld_of_reg (h.control (by decide)), State.upstream]

theorem isUp (h : SameRoute s t) : t.isUp p = s.isUp p := by
  rw [State.isUp, State.fld_of_reg (h.control (by decide)), State.isUp]

theorem forwardTo (h : SameRoute s t) {part : UpPart} {toD toB : Bool} :
    t.forwardTo p part toD toB = s.forwardTo p part toD toB := by
  unfold State.forwardTo
  rw [h.upstream, State.fld_of_reg (h.control (by decide))]
  simp only [h.isUp]

theorem linkSpeed (h : SameRoute s t) (hd : d < 3) : t.linkSpeed d = s.linkSpeed d := by
  have stat : t.reg (R.LNK_Px_STAT d) = s.reg (R.LNK_Px_STAT d) := by
    refine h.reg _ ⟨?_, fun p hp => ⟨?_, ?_⟩⟩
    · show (0x50104 + 0x40 * d) / 0x10000 = 5
      omega
    · show 0x50104 + 0x40 * d ≠ 0x5010c + 0x40 * p
      omega
    · show 0x50104 + 0x40 * d ≠ 0x50110 + 0x40 * p
      omega
  have rate : t.fld (linkRateF d) = s.fld (linkRateF d) := by
    refine State.fld_of_reg ?_
    rw [linkRateF, if_pos hd]
    exact stat
  rw [State.linkSpeed, State.linkSpeed, rate, State.link, State.link, h.ports]

end SameRoute

theorem Counting.route (h : Counting p s t) (hp : p < 3) : SameRoute s t := by
  refine ⟨fun a ha => h.fields.reg fun f hf => ?_, h.ports⟩
  obtain ⟨block, other⟩ := ha
  obtain ⟨pkt, drop⟩ := other p hp
  simp only [List.mem_cons, List.not_mem_nil, or_false] at hf
  rcases hf with rfl | rfl | rfl | rfl | rfl
  · exact pkt.symm
  · exact pkt.symm
  · exact pkt.symm
  · exact drop.symm
  · rintro rfl
    exact absurd block (by decide)

/-! ## All that a packet is forwarded to -/

/-- A packet is forwarded to one port of the Weandi ports, or to D and B. -/
theorem State.forwardTo_mem {part : UpPart} {toD toB : Bool} :
    s.forwardTo p part toD toB ∈ [[], [0], [1], [2], [1, 2]] := by
  unfold State.forwardTo
  generalize (s.fld F.LNK_CTRL_BMODE == 1) = bdown
  dsimp only
  split
  · cases toD <;> cases toB <;> cases bdown <;> decide
  · split
    · unfold State.upstream
      split
      next u e =>
        split
        · decide
        · split at e
          · cases e
            decide
          · cases e
            decide
          · cases e
      · decide
    · decide

/-- The ports that a packet is forwarded to have queues of their own. -/
theorem forwardQueues_apart : ∀ ds ∈ [[], [0], [1], [2], [1, 2]], ∀ p : Fin 3, (∀ d ∈ ds, d < 3) ∧
    ds.Pairwise fun d e => forwardQueue p d ≠ forwardQueue p e := by decide

/-- A packet is forwarded to one port; one that fails only where the forwarding is cut-through (R289). -/
def State.forwardOne (s : State) (p age : Nat) (control good : Bool) (bytes : List Byte) (d : Nat) : State :=
  if good = true ∨ s.linkSpeed d ≤ s.linkSpeed p then s.forward p d age ⟨control, bytes, !good⟩ else s

section
variable {control good : Bool} {bytes : List Byte} {ds : List Nat}

theorem State.forwardAll_eq : s.forwardAll p age ds control good bytes =
    s.each ds fun s d => s.forwardOne p age control good bytes d := by
  cases good <;> simp [State.forwardAll, State.forwardOne]

/-- A good packet for one port. -/
theorem State.forwardAll_one : s.forwardAll p age [d] control true bytes = s.forward p d age ⟨control, bytes, false⟩ := by
  rw [State.forwardAll_eq, State.each, List.foldl_cons, List.foldl_nil, State.forwardOne, if_pos (.inl rfl), Bool.not_true]

theorem Counting.forwardOne (h : Counting p s t) : Counting p s (t.forwardOne p age control good bytes d) :=
  ite_keeps h.forward h

/-- What a packet adds to the queue towards one port. -/
def State.forwarded (s : State) (p age : Nat) (control good : Bool) (bytes : List Byte) (d : Nat) : List TxPkt :=
  if (good = true ∨ s.linkSpeed d ≤ s.linkSpeed p) ∧ s.hadRoom (forwardQueue p d) age then [⟨control, bytes, !good⟩] else []

theorem State.forwarded_good : s.forwarded p age control true bytes d =
    if s.hadRoom (forwardQueue p d) age then [⟨control, bytes, false⟩] else [] :=
  if_congr (and_iff_right (.inl rfl)) rfl rfl

theorem State.forwarded_failing : s.forwarded p age control false bytes d =
    if s.linkSpeed d ≤ s.linkSpeed p ∧ s.hadRoom (forwardQueue p d) age then [⟨control, bytes, true⟩] else [] :=
  if_congr (and_congr_left fun _ => or_iff_right Bool.false_ne_true) rfl rfl

theorem State.forwardOne_same : Tab.lst (s.forwardOne p age control good bytes d).lnk.queues (forwardQueue p d) =
    Tab.lst s.lnk.queues (forwardQueue p d) ++ s.forwarded p age control good bytes d := by
  unfold State.forwardOne State.forwarded
  by_cases goes : good = true ∨ s.linkSpeed d ≤ s.linkSpeed p
  · rw [if_pos goes, State.forward_queues]
    by_cases room : s.hadRoom (forwardQueue p d) age
    · rw [if_pos room, if_pos ⟨goes, room⟩, Tab.lst_setLst_same]
    · rw [if_neg room, if_neg fun h => room h.2, List.append_nil]
  · rw [if_neg goes, if_neg fun h => goes h.1, List.append_nil]

theorem State.forwardOne_other (other : q ≠ forwardQueue p d) :
    Tab.lst (s.forwardOne p age control good bytes d).lnk.queues q = Tab.lst s.lnk.queues q := by
  unfold State.forwardOne
  by_cases goes : good = true ∨ s.linkSpeed d ≤ s.linkSpeed p
  · rw [if_pos goes, State.forward_queues]
    by_cases room : s.hadRoom (forwardQueue p d) age
    · rw [if_pos room, Tab.lst_setLst_other other]
    · rw [if_neg room]
  · rw [if_neg goes]

/-- What a packet adds to a queue depends on the room of that queue and the speeds alone. -/
theorem Counting.forwarded (h : Counting p s t) (hp : p < 3) (hd : d < 3)
    (queue : Tab.lst t.lnk.queues (forwardQueue p d) = Tab.lst s.lnk.queues (forwardQueue p d)) :
    t.forwarded p age control good bytes d = s.forwarded p age control good bytes d := by
  unfold State.forwarded
  rw [(h.route hp).linkSpeed hd, (h.route hp).linkSpeed hp]
  exact if_congr (and_congr_right fun _ => h.hadRoom queue) rfl rfl

theorem Counting.forwardAll (h : Counting p s t) : Counting p s (t.forwardAll p age ds control good bytes) := by
  rw [State.forwardAll_eq]
  exact State.each_keeps h fun _ _ _ h => h.forwardOne

theorem State.forwardAll_other (other : ∀ d ∈ ds, q ≠ forwardQueue p d) :
    Tab.lst (s.forwardAll p age ds control good bytes).lnk.queues q = Tab.lst s.lnk.queues q := by
  rw [State.forwardAll_eq]
  exact State.each_keeps (P := fun t => Tab.lst t.lnk.queues q = Tab.lst s.lnk.queues q) rfl
    fun _ d hd h => (State.forwardOne_other (other d hd)).trans h

/-- A packet waits once for each port that it is forwarded to and whose queue had room. -/
theorem State.forwardAll_same (hp : p < 3) (ports : ∀ d ∈ ds, d < 3)
    (distinct : ds.Pairwise fun d e => forwardQueue p d ≠ forwardQueue p e) (hd : d ∈ ds) :
    Tab.lst (s.forwardAll p age ds control good bytes).lnk.queues (forwardQueue p d) =
      Tab.lst s.lnk.queues (forwardQueue p d) ++ s.forwarded p age control good bytes d := by
  induction ds generalizing s with
  | nil => nomatch hd
  | cons e ds ih =>
    obtain ⟨others, rest⟩ := List.pairwise_cons.1 distinct
    have first : s.forwardAll p age (e :: ds) control good bytes =
        (s.forwardOne p age control good bytes e).forwardAll p age ds control good bytes := by
      rw [State.forwardAll_eq, State.forwardAll_eq]
      rfl
    rw [first]
    rcases List.mem_cons.1 hd with rfl | later
    · rw [State.forwardAll_other others, State.forwardOne_same]
    · have apart := State.forwardOne_other (s := s) (age := age) (control := control) (good := good) (bytes := bytes)
        (others d later).symm
      rw [ih (fun d hd => ports d (.tail _ hd)) rest later, apart,
        (Counting.refl s).forwardOne.forwarded hp (ports d hd) apart]

end

end Sys2Proof.Machine
end

section

/-!
# Lines and frames of the input writer

A line stored in the frame buffer of its slot, and the end of a frame with its publication (R76 to R78).
-/

namespace Sys2Proof.Machine

variable {s t u : State} {f : InFrame} {lines : Tab Bool} {bytes payload : List Byte} {m b y npix stream : Nat}

/-! ## The flat space -/

/-- What memory reads depends on its registers. -/
theorem State.readFlat_congr {a n : Nat} (mem : t.mem = s.mem) (reg : ∀ a, a / 0x10000 = 7 → t.reg a = s.reg a) :
    t.readFlat a n = s.readFlat a n := by
  have fld {g : Fld} (hg : g.addr / 0x10000 = 7) : t.fld g = s.fld g := State.fld_of_reg (reg _ hg)
  have cap : t.rankCap = s.rankCap := by rw [State.rankCap, State.rankCap, fld (by decide)]
  have rank : t.posRank = s.posRank := funext fun p => by rw [State.posRank, State.posRank, fld (by decide)]
  have positions : t.positions = s.positions := by rw [State.positions, State.positions, fld (by decide), rank]
  have top : t.flatTop = s.flatTop := by rw [State.flatTop, State.flatTop, cap, positions]
  have pos : t.flatPos = s.flatPos := funext fun a => by rw [State.flatPos, State.flatPos, cap, rank]
  have copied : t.lineRank = s.lineRank := funext fun r => funext fun n => by
    rw [State.lineRank, State.lineRank, fld (by decide), fld (by decide), fld (by decide), fld (by decide)]
  have line : t.lineOf = s.lineOf := funext fun a => by rw [State.lineOf, State.lineOf, pos, copied, rank]
  have byte : t.byteAt = s.byteAt := funext fun a => by rw [State.byteAt, State.byteAt, top, line, mem]
  rw [State.readFlat, State.readFlat, byte]

/-! ## Check units that snoop nothing -/

/-- No check unit snoops a stream. -/
abbrev State.unheard (s : State) (stream : Nat) : Prop := ∀ n, n < 8 → s.chkSnoops stream n = false

theorem State.snoop_unheard (h : s.unheard stream) : s.snoop stream bytes = s :=
  State.each_keeps (P := (· = s)) rfl fun t n hn same => by
    rw [same, h n (List.mem_range.1 hn), Bool.false_and, Bool.false_and, if_neg Bool.false_ne_true]

theorem State.snoopBoundary_unheard (h : s.unheard stream) : s.snoopBoundary stream = s :=
  State.each_keeps (P := (· = s)) rfl fun t n hn same => by
    rw [same, h n (List.mem_range.1 hn), if_neg Bool.false_ne_true]

/-- What a unit snoops depends on its registers and those of the clocks. -/
theorem State.unheard_congr (h : s.unheard stream) (reg : ∀ a, a / 0x10000 = 1 ∨ a / 0x10000 = 16 → t.reg a = s.reg a) :
    t.unheard stream := fun n hn => by
  rw [← h n hn]
  have stat : t.reg (R.CHKn_STAT n) = s.reg (R.CHKn_STAT n) := by
    refine reg _ (.inr ?_)
    show (0x100004 + 0x40 * n) / 0x10000 = 16
    omega
  have ctrl : t.reg (R.CHKn_CTRL n) = s.reg (R.CHKn_CTRL n) := by
    refine reg _ (.inr ?_)
    show (0x100000 + 0x40 * n) / 0x10000 = 16
    omega
  have gated : t.isGated 1 = s.isGated 1 := by rw [State.isGated, State.fld_of_reg (reg _ (.inl (by decide))), State.isGated]
  unfold State.chkSnoops
  rw [gated, State.on_of_reg (f := F.CHKn_STAT_BUSY n) stat, State.on_of_reg (f := F.CHKn_STAT_PWR n) stat,
    State.on_of_reg (f := F.CHKn_CTRL_FEED n) ctrl, State.fld_of_reg (f := F.CHKn_CTRL_SNOOP n) ctrl]

/-! ## A publication -/

/-- A publication with a signature, before it restarts the idle count. -/
def State.showFrame (s : State) (m b : Nat) (sig : Word) : State :=
  (((s.setFld (F.LAY_Wm_STAT_PUBLISHED m) (s.fld (F.LAY_Wm_STAT_PUBLISHED m) + 1)).setFld (F.LAY_Wm_STAT_LAST m) b).setOn
    (F.LAY_Wm_STAT_NONE m) false).setReg (R.LAY_Wm_SIG m) sig

theorem State.publishFrame_eq : s.publishFrame m b lines = (s.showFrame m b (crc32c (s.signedBytes m b lines))).restartIdle :=
  rfl

theorem slotStat_ok : (F.LAY_Wm_STAT_PUBLISHED m).ok ∧ (F.LAY_Wm_STAT_LAST m).ok ∧ (F.LAY_Wm_STAT_NONE m).ok :=
  ⟨Fld.ok_mk (by decide), Fld.ok_mk (by decide), Fld.ok_mk (by decide)⟩

theorem slotStat_apart {k l : Nat} : (whole (R.LAY_Wm_SIG m)).apart ⟨R.LAY_Wm_STAT m, k, l⟩ := by
  refine .inl ?_
  show 0x80618 + 0x20 * m ≠ 0x80614 + 0x20 * m
  omega

theorem State.showFrame_pix {sig : Word} : (s.showFrame m b sig).pix = s.pix := by
  rw [State.showFrame, State.setReg_pix, State.setOn_pix, State.setFld_pix, State.setFld_pix]

theorem State.showFrame_mem {sig : Word} : (s.showFrame m b sig).mem = s.mem := by
  rw [State.showFrame, State.setReg_mem, State.setOn_mem, State.setFld_mem, State.setFld_mem]

theorem State.showFrame_lnk {sig : Word} : (s.showFrame m b sig).lnk = s.lnk := by
  rw [State.showFrame, State.setReg_lnk, State.setOn_lnk, State.setFld_lnk, State.setFld_lnk]

theorem State.showFrame_spec {sig : Word} (t : State) (ht : s.showFrame m b sig = t) :
    t.fld (F.LAY_Wm_STAT_PUBLISHED m) = (s.fld (F.LAY_Wm_STAT_PUBLISHED m) + 1) % 65536 ∧
    t.fld (F.LAY_Wm_STAT_LAST m) = b % 4 ∧ t.on (F.LAY_Wm_STAT_NONE m) = false ∧ t.reg (R.LAY_Wm_SIG m) = sig ∧
    (∀ a, a ≠ R.LAY_Wm_STAT m → a ≠ R.LAY_Wm_SIG m → t.reg a = s.reg a) := by
  obtain ⟨count, last, none⟩ := slotStat_ok (m := m)
  have signed {g : Fld} (hg : g.ok) (at' : (whole (R.LAY_Wm_SIG m)).apart g) {u : State} :
      (u.setReg (R.LAY_Wm_SIG m) sig).fld g = u.fld g :=
    onlyFields_setReg g hg (List.forall_mem_singleton.2 at')
  subst ht
  unfold State.showFrame
  refine ⟨?_, ?_, ?_, State.reg_setReg_same, fun a hs hg => ?_⟩
  · rw [signed count slotStat_apart, State.setOn, State.fld_setFld_apart none (Fld.apart_mk (by decide)),
      State.fld_setFld_apart last (Fld.apart_mk (by decide)), State.fld_setFld_same count]
    rfl
  · rw [signed last slotStat_apart, State.setOn, State.fld_setFld_apart none (Fld.apart_mk (by decide)),
      State.fld_setFld_same last]
    rfl
  · rw [State.on_congr (signed none slotStat_apart)]
    exact State.on_setOn_same none false
  · rw [State.reg_setReg_other hg, State.setOn, State.setFld, State.reg_setReg_other hs, State.setFld,
      State.reg_setReg_other hs, State.setFld, State.reg_setReg_other hs]


/-- The registers that the end of a frame of a slot changes. -/
abbrev frameReg (m a : Nat) : Prop :=
  a = R.LAY_Wm_STAT m ∨ a = R.LAY_Wm_SIG m ∨ a = R.LAY_Wm_ERR m ∨ a = R.FLT_STAT ∨ a = R.PWR_IDLECNT

/-- The end of a frame of a slot changes its registers, events and the idle count. -/
structure FrameShown (m : Nat) (s t : State) : Prop where
  pix : t.pix = s.pix
  mem : t.mem = s.mem
  lnk : t.lnk = s.lnk
  reg : ∀ a, ¬ frameReg m a → t.reg a = s.reg a

/-- A register of a slot that no end of a frame changes. -/
theorem slotReg_kept {k : Nat} (hk : k < 5) (hm : m < 8) : ¬ frameReg m (0x80600 + 4 * k + 0x20 * m) := by
  rintro (e | e | e | e | e)
  · have : 0x80600 + 4 * k + 0x20 * m = 0x80614 + 0x20 * m := e
    omega
  · have : 0x80600 + 4 * k + 0x20 * m = 0x80618 + 0x20 * m := e
    omega
  · have : 0x80600 + 4 * k + 0x20 * m = 0x8061c + 0x20 * m := e
    omega
  · have : 0x80600 + 4 * k + 0x20 * m = 0x110004 := e
    omega
  · have : 0x80600 + 4 * k + 0x20 * m = 0x20018 := e
    omega

/-- A register of a block that no end of a frame changes. -/
theorem blockReg_kept {a : Nat} (hm : m < 8) (ha : a / 0x10000 ∈ [1, 5, 7, 16]) : ¬ frameReg m a := by
  rintro (rfl | rfl | rfl | rfl | rfl)
  · have : (0x80614 + 0x20 * m) / 0x10000 = 8 := by omega
    rw [show R.LAY_Wm_STAT m / 0x10000 = 8 from this] at ha
    revert ha
    decide
  · have : (0x80618 + 0x20 * m) / 0x10000 = 8 := by omega
    rw [show R.LAY_Wm_SIG m / 0x10000 = 8 from this] at ha
    revert ha
    decide
  · have : (0x8061c + 0x20 * m) / 0x10000 = 8 := by omega
    rw [show R.LAY_Wm_ERR m / 0x10000 = 8 from this] at ha
    revert ha
    decide
  · revert ha
    decide
  · revert ha
    decide

namespace FrameShown

theorem trans (h : FrameShown m s t) (h' : FrameShown m t u) : FrameShown m s u :=
  ⟨h'.pix.trans h.pix, h'.mem.trans h.mem, h'.lnk.trans h.lnk, fun a ha => (h'.reg a ha).trans (h.reg a ha)⟩

variable (hm : m < 8)
include hm

theorem height (h : FrameShown m s t) : t.slotH m = s.slotH m := by
  rw [State.slotH, State.fld_of_reg (h.reg _ (slotReg_kept (k := 2) (by decide) hm)), State.slotH]

theorem unheard (h : FrameShown m s t) (quiet : s.unheard stream) : t.unheard stream :=
  State.unheard_congr quiet fun a ha => h.reg a (blockReg_kept hm (by rcases ha with e | e <;> rw [e] <;> decide))

/-- The bytes that a signature covers. -/
theorem signed (h : FrameShown m s t) : t.signedBytes m b lines = s.signedBytes m b lines := by
  have kept {g : Fld} {k : Nat} (hk : k < 5) (hg : g.addr = 0x80600 + 4 * k + 0x20 * m) : t.fld g = s.fld g :=
    State.fld_of_reg (h.reg _ (hg ▸ slotReg_kept hk hm))
  have line (y) : t.lineBase m b y = s.lineBase m b y := by
    rw [State.lineBase, State.lineBase, State.bufBase, State.bufBase, kept (k := 1) (by decide) rfl,
      kept (k := 4) (by decide) rfl, kept (k := 3) (by decide) rfl]
  have read (a n) : t.readFlat a n = s.readFlat a n :=
    State.readFlat_congr h.mem fun a ha => h.reg a (blockReg_kept hm (by rw [ha]; decide))
  unfold State.signedBytes
  rw [h.height hm, State.slotW, State.slotW, kept (g := F.LAY_Wm_SIZE_WIDTH m) (k := 2) (by decide) rfl,
    kept (g := F.LAY_Wm_CTRL_FORMAT m) (k := 0) (by decide) rfl]
  simp only [line, read]

end FrameShown

/-- What the slot's registers tell after a line: a publication, or none (R77, R78). -/
structure FrameTold (m b : Nat) (lines : Tab Bool) (pub : Bool) (s t : State) : Prop where
  count : t.fld (F.LAY_Wm_STAT_PUBLISHED m) = (s.fld (F.LAY_Wm_STAT_PUBLISHED m) + b2n pub) % 65536
  shown : pub = true → t.fld (F.LAY_Wm_STAT_LAST m) = b % 4 ∧ t.on (F.LAY_Wm_STAT_NONE m) = false ∧
    t.reg (R.LAY_Wm_SIG m) = crc32c (t.signedBytes m b lines) ∧ t.fld F.PWR_IDLECNT_MS = 0
  kept : pub = false → t.fld (F.LAY_Wm_STAT_LAST m) = s.fld (F.LAY_Wm_STAT_LAST m) ∧
    t.reg (R.LAY_Wm_SIG m) = s.reg (R.LAY_Wm_SIG m)

/-- Without a publication the slot's registers stay. -/
theorem FrameTold.of_same (stat : t.reg (R.LAY_Wm_STAT m) = s.reg (R.LAY_Wm_STAT m))
    (sig : t.reg (R.LAY_Wm_SIG m) = s.reg (R.LAY_Wm_SIG m)) : FrameTold m b lines false s t := by
  have small : s.fld (F.LAY_Wm_STAT_PUBLISHED m) ≤ 65535 := State.fld_le_max
  refine ⟨?_, fun h => (Bool.false_ne_true h).elim, fun _ => ⟨State.fld_of_reg stat, sig⟩⟩
  rw [State.fld_of_reg (f := F.LAY_Wm_STAT_PUBLISHED m) stat]
  exact (Nat.mod_eq_of_lt (Nat.lt_succ_of_le small)).symm

/-- What is told goes by the slot's registers before. -/
theorem FrameTold.of_before {pub : Bool} (h : FrameTold m b lines pub s t)
    (stat : s.reg (R.LAY_Wm_STAT m) = u.reg (R.LAY_Wm_STAT m)) (sig : s.reg (R.LAY_Wm_SIG m) = u.reg (R.LAY_Wm_SIG m)) :
    FrameTold m b lines pub u t := by
  obtain ⟨count, shown, kept⟩ := h
  rw [State.fld_of_reg (f := F.LAY_Wm_STAT_PUBLISHED m) stat] at count
  rw [State.fld_of_reg (f := F.LAY_Wm_STAT_LAST m) stat, sig] at kept
  exact ⟨count, shown, kept⟩

theorem State.publishFrame_spec (hm : m < 8) : FrameShown m s (s.publishFrame m b lines) ∧
    FrameTold m b lines true s (s.publishFrame m b lines) ∧
    (s.publishFrame m b lines).reg (R.LAY_Wm_ERR m) = s.reg (R.LAY_Wm_ERR m) := by
  obtain ⟨count, last, none, signed, other⟩ := State.showFrame_spec (s := s) _
    (rfl : s.showFrame m b (crc32c (s.signedBytes m b lines)) = _)
  have pix := State.showFrame_pix (s := s) (m := m) (b := b) (sig := crc32c (s.signedBytes m b lines))
  have mem := State.showFrame_mem (s := s) (m := m) (b := b) (sig := crc32c (s.signedBytes m b lines))
  have lnk := State.showFrame_lnk (s := s) (m := m) (b := b) (sig := crc32c (s.signedBytes m b lines))
  rw [State.publishFrame_eq]
  generalize s.showFrame m b (crc32c (s.signedBytes m b lines)) = u at *
  obtain ⟨idle, _, fields, frame⟩ := u.restartIdle_spec
  generalize u.restartIdle = t at *
  have reg (a) (ha : a ≠ R.PWR_IDLECNT) : t.reg a = u.reg a := fields.reg (List.forall_mem_singleton.2 ha.symm)
  have slot {k : Nat} : 0x80614 + 4 * k + 0x20 * m ≠ 0x20018 := by omega
  have stat : t.reg (R.LAY_Wm_STAT m) = u.reg (R.LAY_Wm_STAT m) := reg _ (slot (k := 0))
  have sig : t.reg (R.LAY_Wm_SIG m) = u.reg (R.LAY_Wm_SIG m) := reg _ (slot (k := 1))
  have err : t.reg (R.LAY_Wm_ERR m) = u.reg (R.LAY_Wm_ERR m) := reg _ (slot (k := 2))
  have shown : FrameShown m s t := by
    refine ⟨by rw [frame, ← pix], by rw [frame, ← mem], by rw [frame, ← lnk], fun a ha => ?_⟩
    rw [frameReg, not_or, not_or, not_or, not_or] at ha
    obtain ⟨noStat, noSig, _, _, noIdle⟩ := ha
    exact (reg a noIdle).trans (other a noStat noSig)
  refine ⟨shown, ⟨?_, fun _ => ⟨?_, ?_, ?_, idle⟩, fun h => (Bool.false_ne_true h.symm).elim⟩, err.trans (other _ ?_ ?_)⟩
  · exact (State.fld_of_reg stat).trans count
  · exact (State.fld_of_reg stat).trans last
  · exact (State.on_of_reg stat).trans none
  · rw [sig, signed, shown.signed hm]
  · show 0x8061c + 0x20 * m ≠ 0x80614 + 0x20 * m
    omega
  · show 0x8061c + 0x20 * m ≠ 0x80618 + 0x20 * m
    omega

/-! ## The end of a frame -/

/-- A frame of a slot, or none, is being received. -/
def State.withFrame (s : State) (m : Nat) (f : InFrame) : State :=
  { s with pix := { s.pix with inFrame := Tab.setOpt s.pix.inFrame m (some f) } }

theorem State.withFrame_opt : Tab.opt (s.withFrame m f).pix.inFrame m = some f := by
  show Tab.opt (Tab.setOpt s.pix.inFrame m (some f)) m = some f
  exact Tab.opt_setOpt_same

/-- A frame with a line missing counts. -/
def State.frameTorn (s : State) (m : Nat) : State := (s.incSat (F.LAY_Wm_ERR_INCOMPLETE m)).raise 76 m

theorem State.frameTorn_spec (hm : m < 8) : FrameShown m s (s.frameTorn m) ∧
    (s.frameTorn m).fld (F.LAY_Wm_ERR_INCOMPLETE m) =
      min (F.LAY_Wm_ERR_INCOMPLETE m).max (s.fld (F.LAY_Wm_ERR_INCOMPLETE m) + 1) ∧
    (s.frameTorn m).reg (R.LAY_Wm_STAT m) = s.reg (R.LAY_Wm_STAT m) ∧
    (s.frameTorn m).reg (R.LAY_Wm_SIG m) = s.reg (R.LAY_Wm_SIG m) := by
  have ok : (F.LAY_Wm_ERR_INCOMPLETE m).ok := Fld.ok_mk (by decide)
  have counts := State.fld_incSat_same (s := s) ok
  have pix := State.incSat_pix (s := s) (F.LAY_Wm_ERR_INCOMPLETE m)
  have mem := State.incSat_mem (s := s) (F.LAY_Wm_ERR_INCOMPLETE m)
  have lnk := State.incSat_lnk (s := s) (F.LAY_Wm_ERR_INCOMPLETE m)
  unfold State.frameTorn
  have only := onlyFields_incSat (s := s) ok
  generalize s.incSat (F.LAY_Wm_ERR_INCOMPLETE m) = u at *
  obtain ⟨_, lost, frame⟩ := u.raise_spec 76 m
  generalize u.raise 76 m = t at *
  have reg (a) (ha : a ≠ R.LAY_Wm_ERR m) (hf : a ≠ R.FLT_STAT) : t.reg a = s.reg a :=
    (lost.reg (List.forall_mem_singleton.2 hf.symm)).trans (only.reg (List.forall_mem_singleton.2 ha.symm))
  have slot {k : Nat} (hk : k < 3) : 0x80614 + 4 * k + 0x20 * m ≠ 0x110004 := by
    have := hm
    omega
  have stat : R.LAY_Wm_STAT m ≠ R.LAY_Wm_ERR m := by
    show 0x80614 + 0x20 * m ≠ 0x8061c + 0x20 * m
    omega
  have sig : R.LAY_Wm_SIG m ≠ R.LAY_Wm_ERR m := by
    show 0x80618 + 0x20 * m ≠ 0x8061c + 0x20 * m
    omega
  have shown : FrameShown m s t := by
    refine ⟨by rw [frame, ← pix], by rw [frame, ← mem], by rw [frame, ← lnk], fun a ha => ?_⟩
    rw [frameReg, not_or, not_or, not_or, not_or] at ha
    obtain ⟨_, _, noErr, noFlt, _⟩ := ha
    exact reg a noErr noFlt
  have err : t.reg (R.LAY_Wm_ERR m) = u.reg (R.LAY_Wm_ERR m) :=
    lost.reg (List.forall_mem_singleton.2 (slot (k := 2) (by decide)).symm)
  exact ⟨shown, (State.fld_of_reg err).trans counts,
    reg _ stat (slot (k := 0) (by decide)), reg _ sig (slot (k := 1) (by decide))⟩

/-- The end of a frame in a buffer: with every line marked, or with DROP_INC clear, it is published (R77). -/
def State.frameClosed (s : State) (m b : Nat) (lines : Tab Bool) : State :=
  if (List.range (s.slotH m)).all (Tab.on lines) then s.publishFrame m b lines
  else if (s.frameTorn m).on (F.LAY_Wm_CTRL_DROP_INC m) then s.frameTorn m else (s.frameTorn m).publishFrame m b lines

theorem State.frameEnd_eq (hb : f.buf = some b) :
    s.frameEnd m f = ((s.withFrame m { f with ended := true }).frameClosed m b f.lines).snoopBoundary m := by
  unfold State.frameEnd State.frameClosed State.frameTorn State.withFrame
  rw [hb]

theorem State.frameClosed_spec (hm : m < 8) : FrameShown m s (s.frameClosed m b lines) ∧
    FrameTold m b lines ((List.range (s.slotH m)).all (Tab.on lines) || !s.on (F.LAY_Wm_CTRL_DROP_INC m)) s
      (s.frameClosed m b lines) ∧
    ((List.range (s.slotH m)).all (Tab.on lines) = false → (s.frameClosed m b lines).fld (F.LAY_Wm_ERR_INCOMPLETE m) =
      min (F.LAY_Wm_ERR_INCOMPLETE m).max (s.fld (F.LAY_Wm_ERR_INCOMPLETE m) + 1)) := by
  unfold State.frameClosed
  generalize whole : (List.range (s.slotH m)).all (Tab.on lines) = complete
  cases complete with
  | true =>
    obtain ⟨shown, told, _⟩ := State.publishFrame_spec (s := s) (b := b) (lines := lines) hm
    rw [if_pos rfl, Bool.true_or]
    exact ⟨shown, told, fun h => (Bool.false_ne_true h.symm).elim⟩
  | false =>
    obtain ⟨torn, counts, stat, sig⟩ := State.frameTorn_spec (s := s) hm
    have drop : (s.frameTorn m).on (F.LAY_Wm_CTRL_DROP_INC m) = s.on (F.LAY_Wm_CTRL_DROP_INC m) :=
      State.on_of_reg (torn.reg _ (slotReg_kept (k := 0) (by decide) hm))
    rw [if_neg Bool.false_ne_true, drop, Bool.false_or]
    generalize s.frameTorn m = u at *
    generalize s.on (F.LAY_Wm_CTRL_DROP_INC m) = dropped
    cases dropped with
    | true =>
      rw [if_pos rfl, Bool.not_true]
      exact ⟨torn, .of_same stat sig, fun _ => counts⟩
    | false =>
      rw [if_neg Bool.false_ne_true, Bool.not_false]
      obtain ⟨shown, told, err⟩ := State.publishFrame_spec (s := u) (b := b) (lines := lines) hm
      exact ⟨torn.trans shown, told.of_before stat sig, fun _ => (State.fld_of_reg err).trans counts⟩

/-! ## A line of a frame -/

/-- A line written to its buffer and marked. -/
def State.lineStored (s : State) (m b y : Nat) (f : InFrame) (bytes : List Byte) : State :=
  (s.withFrame m f).writeFlat (9 + m) (s.lineBase m b y) bytes

/-- The next line of a frame that its slot takes. -/
theorem State.inputPacket_eq {seq : Nat} (hf : Tab.opt s.pix.inFrame m = some f) (same : f.seq = seq)
    (running : f.ended = false) (hb : f.buf = some b) (fits : y < s.slotH m) (wide : npix ≤ s.slotW m)
    (hbytes : bytes = storedBytes (s.fld (F.LAY_Wm_CTRL_FORMAT m)) npix payload) :
    s.inputPacket m seq y npix payload =
      let f' := { f with lines := Tab.setOn f.lines y true }
      let t := (s.lineStored m b y f' bytes).snoop m bytes
      if y + 1 = t.slotH m then t.frameEnd m f' else t := by
  have size : ¬ (s.slotH m ≤ y ∨ s.slotW m < npix) := by omega
  unfold State.inputPacket
  rw [hf]
  dsimp only
  rw [if_pos same, if_neg size, hf]
  dsimp only
  rw [running, hb, hbytes]
  rfl

/-- A state after the write of a line: memory as after the write from `s`, the rest as before, but for the pixel path, the
links and the registers of the memory controllers. -/
structure LineWritten (s : State) (x : PixelState) (l : LinkState) (mem : MemState) (t : State) : Prop where
  pix : t.pix = x
  lnk : t.lnk = l
  mem : t.mem = mem
  reg : ∀ a, offMemory a → t.reg a = s.reg a

theorem TwinAccess.written {x : PixelState} {l : LinkState} (h : TwinAccess s x l t u) : LineWritten s x l t.mem u := by
  obtain rfl := h.twin
  exact ⟨rfl, rfl, rfl, h.reg⟩

/-- A register of a slot is none of the memory controllers. -/
theorem slotReg_offMemory {k : Nat} (hk : k < 8) (hm : m < 8) : offMemory (0x80600 + 4 * k + 0x20 * m) := by
  refine ⟨by omega, fun e => ?_⟩
  have : 0x80600 + 4 * k + 0x20 * m = 0x110004 := e
  omega

theorem blockReg_offMemory {a : Nat} (ha : a / 0x10000 = 1 ∨ a / 0x10000 = 5 ∨ a / 0x10000 = 16) : offMemory a := by
  refine ⟨by omega, fun e => ?_⟩
  have : a = 0x110004 := e
  omega

/-- What a line of a frame leaves, besides memory and the links: its frame, what the slot's registers tell, and the links'
registers. -/
structure LineTold (s : State) (m b y : Nat) (f : InFrame) (t : State) : Prop where
  frame : Tab.opt t.pix.inFrame m = some { f with ended := decide (y + 1 = s.slotH m) }
  told : FrameTold m b f.lines (decide (y + 1 = s.slotH m) &&
    ((List.range (s.slotH m)).all (Tab.on f.lines) || !s.on (F.LAY_Wm_CTRL_DROP_INC m))) s t
  torn : y + 1 = s.slotH m → (List.range (s.slotH m)).all (Tab.on f.lines) = false → t.fld (F.LAY_Wm_ERR_INCOMPLETE m) =
    min (F.LAY_Wm_ERR_INCOMPLETE m).max (s.fld (F.LAY_Wm_ERR_INCOMPLETE m) + 1)
  links : ∀ a, a / 0x10000 = 5 → t.reg a = s.reg a

section
variable (hm : m < 8) {l : LinkState} {mem : MemState} {w : State} (h : LineWritten s (s.withFrame m f).pix l mem w)
include hm h

theorem LineWritten.slot {k : Nat} (hk : k < 8) : w.reg (0x80600 + 4 * k + 0x20 * m) = s.reg (0x80600 + 4 * k + 0x20 * m) :=
  h.reg _ (slotReg_offMemory hk hm)

theorem LineWritten.height : w.slotH m = s.slotH m := by
  rw [State.slotH, State.fld_of_reg (h.slot hm (k := 2) (by decide)), State.slotH]

omit hm in
theorem LineWritten.unheard (quiet : s.unheard m) : w.unheard m :=
  State.unheard_congr quiet fun a ha => h.reg a (blockReg_offMemory (ha.imp_right .inr))

/-- A line that is not the last leaves its frame open. -/
theorem LineWritten.goesOn (running : f.ended = false) (next : y + 1 ≠ s.slotH m) : LineTold s m b y f w := by
  have open' : decide (y + 1 = s.slotH m) = false := decide_eq_false next
  refine ⟨?_, ?_, fun last => absurd last next, fun a ha => h.reg a (blockReg_offMemory (.inr (.inl ha)))⟩
  · rw [open', h.pix, ← running]
    exact State.withFrame_opt
  · rw [open', Bool.false_and]
    exact .of_same (h.slot hm (k := 5) (by decide)) (h.slot hm (k := 6) (by decide))

/-- The last line ends its frame. -/
theorem LineWritten.ends (quiet : s.unheard m) (hb : f.buf = some b) (last : y + 1 = s.slotH m) :
    LineTold s m b y f (w.frameEnd m f) ∧ (w.frameEnd m f).mem = mem ∧ (w.frameEnd m f).lnk = l := by
  have quiet' : (w.withFrame m { f with ended := true }).unheard m := h.unheard quiet
  have done : decide (y + 1 = s.slotH m) = true := decide_eq_true last
  have height : (w.withFrame m { f with ended := true }).slotH m = s.slotH m := h.height hm
  have drop : (w.withFrame m { f with ended := true }).on (F.LAY_Wm_CTRL_DROP_INC m) = s.on (F.LAY_Wm_CTRL_DROP_INC m) :=
    State.on_of_reg (h.slot hm (k := 0) (by decide))
  have frame : Tab.opt (w.withFrame m { f with ended := true }).pix.inFrame m = some { f with ended := true } :=
    State.withFrame_opt
  have mem' : (w.withFrame m { f with ended := true }).mem = mem := h.mem
  have lnk' : (w.withFrame m { f with ended := true }).lnk = l := h.lnk
  have kept {a} (ha : offMemory a) : (w.withFrame m { f with ended := true }).reg a = s.reg a := h.reg a ha
  rw [State.frameEnd_eq hb]
  generalize w.withFrame m { f with ended := true } = u at *
  obtain ⟨shown, told, torn⟩ := State.frameClosed_spec (s := u) (b := b) (lines := f.lines) hm
  rw [height] at told torn
  rw [drop] at told
  rw [State.snoopBoundary_unheard (shown.unheard hm quiet')]
  refine ⟨⟨?_, ?_, fun _ missing => ?_, fun a ha => ?_⟩, shown.mem.trans mem', shown.lnk.trans lnk'⟩
  · rw [shown.pix, frame, done]
  · rw [done, Bool.true_and]
    exact told.of_before (kept (slotReg_offMemory (k := 5) (by decide) hm)) (kept (slotReg_offMemory (k := 6) (by decide) hm))
  · have before := State.fld_of_reg (f := F.LAY_Wm_ERR_INCOMPLETE m) (kept (slotReg_offMemory (k := 7) (by decide) hm))
    rw [torn missing, before]
  · exact (shown.reg a (blockReg_kept hm (by rw [ha]; decide))).trans (kept (blockReg_offMemory (.inr (.inl ha))))

end

theorem State.lineStored_written {l : LinkState} : LineWritten s (s.withFrame m f).pix l
    (s.writeFlat (9 + m) (s.lineBase m b y) bytes).mem (State.lineStored { s with lnk := l } m b y f bytes) :=
  ((TwinAccess.refl s).writeFlat).written

/-- The next line of a frame that its slot takes, seen by no check unit, is stored and marked; the last one ends the frame. -/
theorem State.inputPacket_spec (hm : m < 8) {seq : Nat} {l : LinkState} (hf : Tab.opt s.pix.inFrame m = some f)
    (same : f.seq = seq) (running : f.ended = false) (hb : f.buf = some b) (fits : y < s.slotH m) (wide : npix ≤ s.slotW m)
    (quiet : s.unheard m) (hbytes : bytes = storedBytes (s.fld (F.LAY_Wm_CTRL_FORMAT m)) npix payload)
    (ht : State.inputPacket { s with lnk := l } m seq y npix payload = t) :
    LineTold s m b y { f with lines := Tab.setOn f.lines y true } t ∧
    t.mem = (s.writeFlat (9 + m) (s.lineBase m b y) bytes).mem ∧ t.lnk = l := by
  have steps := (State.inputPacket_eq (s := { s with lnk := l }) hf same running hb fits wide hbytes).symm.trans ht
  dsimp only at steps
  have running' : { f with lines := Tab.setOn f.lines y true }.ended = false := running
  have hb' : { f with lines := Tab.setOn f.lines y true }.buf = some b := hb
  generalize { f with lines := Tab.setOn f.lines y true } = f' at *
  have stored := State.lineStored_written (s := s) (l := l) (m := m) (b := b) (y := y) (f := f') (bytes := bytes)
  generalize State.lineStored { s with lnk := l } m b y f' bytes = w at *
  rw [State.snoop_unheard (stored.unheard quiet), stored.height hm] at steps
  by_cases last : y + 1 = s.slotH m
  · rw [if_pos last] at steps
    rw [← steps]
    exact stored.ends hm quiet hb' last
  · rw [if_neg last] at steps
    rw [← steps]
    exact ⟨stored.goesOn hm running' last, stored.mem, stored.lnk⟩

end Sys2Proof.Machine
end

section

/-!
# Video packets on a Weandi port

A received video packet is checked, goes to the slots of its port, and is forwarded (R272, R283 to R291) (O21).
-/

namespace Sys2Proof.Machine

variable {s t : State} {p q m : Nat} {v : VideoPkt} {P : State → Prop}

/-! ## The lanes -/

/-- The lanes have heard a packet. -/
def State.heard (s : State) (rd : Tab (Option Bool)) : State := { s with lnk := { s.lnk with rxRd := rd } }

theorem State.hearPacket_eq {w : Nat} {start : Sym} {bytes : List Byte} {e : PktEnd} :
    ∃ rd, s.hearPacket p w start bytes e = s.heard rd :=
  State.each_keeps (P := fun t => ∃ rd, t = s.heard rd) ⟨s.lnk.rxRd, rfl⟩ fun t n _ ⟨rd, h⟩ => by
    rw [h]
    exact ⟨_, rfl⟩

/-- A packet on an ACTIVE port, for whatever its lanes heard. -/
theorem runs_video {k : Fin 3} (live : s.live) (active : s.linkActive k = true) (h : ∀ rd, P ((s.heard rd).videoIn k v)) :
    Runs (.videoPacketReceive k v) s P := by
  obtain ⟨rd, heard⟩ := State.hearPacket_eq (s := s) (p := k) (w := (s.link k).width) (start := symSvp)
    (bytes := v.wire) (e := v.ending)
  have taken : s.video k v = (s.heard rd).videoIn k v := by rw [State.video, if_pos active, heard]
  exact runs_effect (op := (·.video k v)) live rfl taken (h rd)

/-! ## The input writer -/

theorem State.writerTake_stalled (h : s.writerRuns = false) : s.writerTake p = s := by
  unfold State.writerTake
  rw [h]
  split
  · rfl
  · exact if_neg Bool.false_ne_true

theorem State.writerTakeAll_stalled (h : s.writerRuns = false) : s.writerTakeAll = s :=
  State.each_keeps (P := (· = s)) rfl fun t _ _ same =>
    State.each_keeps (P := (· = s)) same fun u _ _ same => by rw [same, State.writerTake_stalled h]

/-- The input writer takes what waits in one receive queue. -/
def State.writerTakeOf (s : State) (p : Nat) : State := s.each (Tab.lst s.lnk.rxVideo p) fun s _ => s.writerTake p

theorem State.writerTakeAll_eq : s.writerTakeAll = (s.writerTakeOf 0).writerTakeOf 2 := rfl

theorem State.writerTakeOf_empty (h : Tab.lst s.lnk.rxVideo p = []) : s.writerTakeOf p = s := by
  rw [State.writerTakeOf, h]
  rfl

theorem State.writerTakeOf_one {x : List Nat × VideoPkt} (h : Tab.lst s.lnk.rxVideo p = [x]) :
    s.writerTakeOf p = s.writerTake p := by
  rw [State.writerTakeOf, h]
  rfl

theorem State.writerTakeAll_empty (u : Tab.lst s.lnk.rxVideo 0 = []) (b : Tab.lst s.lnk.rxVideo 2 = []) :
    s.writerTakeAll = s := by
  rw [State.writerTakeAll_eq, State.writerTakeOf_empty u, State.writerTakeOf_empty b]

/-- A good packet waits in its receive queue. -/
def State.rxWaits (s : State) (p : Nat) (ports : List Nat) (v : VideoPkt) : State :=
  { s with lnk := { s.lnk with rxVideo := Tab.setLst s.lnk.rxVideo p (Tab.lst s.lnk.rxVideo p ++ [(ports, v)]) } }

/-- The packet that waits alone in a receive queue is taken. -/
def State.rxTaken (s : State) (p : Nat) (ports : List Nat) (v : VideoPkt) : State :=
  { s.rxWaits p ports v with lnk := { (s.rxWaits p ports v).lnk with
      rxVideo := Tab.setLst (s.rxWaits p ports v).lnk.rxVideo p [] } }.drains (rxQueue p) (18 + v.payload.length)

theorem State.rxEnter_stalled (h : s.writerRuns = false) : s.rxEnter p [q] v = s.rxWaits p [q] v :=
  State.writerTakeAll_stalled (s := s.rxWaits p [q] v) h

theorem State.rxTaken_rxVideo (other : q ≠ p) {ports : List Nat} :
    Tab.lst (s.rxTaken p ports v).lnk.rxVideo q = Tab.lst s.lnk.rxVideo q := by
  show Tab.lst (Tab.setLst (Tab.setLst _ p _) p []) q = _
  rw [Tab.lst_setLst_other other, Tab.lst_setLst_other other]

theorem State.rxTaken_own {ports : List Nat} : Tab.lst (s.rxTaken p ports v).lnk.rxVideo p = [] := by
  show Tab.lst (Tab.setLst (Tab.setLst _ p _) p []) p = _
  rw [Tab.lst_setLst_same]

/-- A packet that enters alone is taken while the writer runs. -/
theorem State.rxEnter_runs (hp : p = 0 ∨ p = 2) (u : Tab.lst s.lnk.rxVideo 0 = []) (b : Tab.lst s.lnk.rxVideo 2 = [])
    (runs : s.writerRuns = true) (stays : ((s.rxTaken p [q] v).toSlots p [q] v).lnk = (s.rxTaken p [q] v).lnk) :
    s.rxEnter p [q] v = (s.rxTaken p [q] v).toSlots p [q] v := by
  have taken (own : Tab.lst (s.rxWaits p [q] v).lnk.rxVideo p = [([q], v)]) :
      (s.rxWaits p [q] v).writerTakeOf p = (s.rxTaken p [q] v).toSlots p [q] v := by
    rw [State.writerTakeOf_one own, State.writerTake, own]
    exact if_pos runs
  have waits {k : Nat} : Tab.lst (s.rxWaits p [q] v).lnk.rxVideo k =
      Tab.lst (Tab.setLst s.lnk.rxVideo p (Tab.lst s.lnk.rxVideo p ++ [([q], v)])) k := rfl
  show (s.rxWaits p [q] v).writerTakeAll = _
  rw [State.writerTakeAll_eq]
  rcases hp with rfl | rfl
  · have other : Tab.lst ((s.rxTaken 0 [q] v).toSlots 0 [q] v).lnk.rxVideo 2 = [] := by
      rw [stays, State.rxTaken_rxVideo (by decide), b]
    rw [taken (by rw [waits, Tab.lst_setLst_same, u, List.nil_append]), State.writerTakeOf_empty other]
  · have other : Tab.lst (s.rxWaits 2 [q] v).lnk.rxVideo 0 = [] := by
      rw [waits, Tab.lst_setLst_other (by decide), u]
    rw [State.writerTakeOf_empty other, taken (by rw [waits, Tab.lst_setLst_same, b, List.nil_append])]

/-! ## The check -/

/-- Which upstream the last good packet came on (R295). -/
def State.sinceUp (s : State) (p : Nat) : State := if p = 1 then s else { s with lnk := { s.lnk with bSince := p == 2 } }

/-- A packet is checked, and enters the receive queue of its port where it is good. -/
def State.videoChecked (s : State) (p : Nat) (here : List Nat) (room : Bool) (v : VideoPkt) : State :=
  if v.ending ≠ .good then s.badEnd p v.ending
  else if !v.framed then s.incSat (F.LNK_Px_PKT_LENERR p)
  else if !v.crcOk then s.incSat (F.LNK_Px_PKT_CRCERR p)
  else if room then (s.sinceUp p).rxEnter p here v else s.sinceUp p

/-- Whether nothing is wrong with a packet. -/
def soundVideo (v : VideoPkt) : Bool := v.ending == .good && v.framed && v.crcOk

theorem soundVideo_goes {part : UpPart} (e : v.ending = .good) (hf : v.framed = true) (hc : v.crcOk = true)
    (goes : part ≠ .cut) : (soundVideo v && part != .cut) = true := by
  rw [soundVideo, e, hf, hc]
  simpa using goes

theorem soundVideo_fails {part : UpPart}
    (h : v.ending = .abort ∨ v.ending = .good ∧ (v.framed = false ∨ v.crcOk = false ∨ part = .cut)) :
    (soundVideo v && part != .cut) = false := by
  rw [soundVideo]
  rcases h with e | ⟨_, hf | hc | cut⟩
  · rw [e]
    rfl
  · rw [hf, Bool.and_false, Bool.false_and, Bool.false_and]
  · rw [hc, Bool.and_false, Bool.false_and]
  · rw [cut]
    exact Bool.and_false _

/-- Whether a receive queue had room for the longest packet. -/
def State.rxHadRoom (s : State) (p age : Nat) : Bool :=
  decide (s.rxFill p + s.drainedSince (rxQueue p) age + 18452 ≤ 65536)

/-- A checked packet goes on. -/
def State.videoForward (s : State) (p : Nat) (part : UpPart) (v : VideoPkt) : State :=
  s.forwardAll p v.age (s.forwardTo p part (s.forwardBits v.streamId.toNat).1 (s.forwardBits v.streamId.toNat).2) false
    (soundVideo v && part != .cut) v.wire

theorem State.videoIn_misplaced (h : v.startLane ≠ 0) : s.videoIn p v = s.incSat (F.LNK_Px_PKT_LENERR p) := if_pos h

section
variable (lane : v.startLane = 0) (stays : s.lnk.revert = none) (idle : s.writerTakeAll = s)
include lane stays idle

/-- A packet for which no other waits and that moves no upstream. -/
theorem State.videoIn_eq : s.videoIn p v =
    State.videoForward (State.videoChecked
      (if (!s.rxHadRoom p v.age) = true ∧ s.slotPorts p (s.upPart p v.age) ≠ [] then s.rxDropped p (F.LNK_Px_DROP_RXDROP p)
        else s) p (s.slotPorts p (s.upPart p v.age)) (s.rxHadRoom p v.age) v) p (s.upPart p v.age) v := by
  have revert : s.revertAt p v = s := by
    unfold State.revertAt
    rw [stays]
    exact if_neg fun h => Bool.false_ne_true h.2.1
  unfold State.videoIn
  rw [if_neg (not_not_intro lane), revert, idle]
  unfold State.videoForward State.videoChecked State.sinceUp State.rxHadRoom soundVideo
  dsimp only

end

/-- The ports that a video packet is forwarded to. -/
abbrev State.videoPorts (s : State) (p : Nat) (part : UpPart) (v : VideoPkt) : List Nat :=
  s.forwardTo p part (s.forwardBits v.streamId.toNat).1 (s.forwardBits v.streamId.toNat).2

theorem SameRoute.videoPorts (h : SameRoute s t) {part : UpPart} : t.videoPorts p part v = s.videoPorts p part v := by
  unfold State.videoPorts
  rw [h.forwardBits, h.forwardTo]

theorem SameRoute.forwardsNone (h : SameRoute s t) {part : UpPart} (none : s.videoPorts p part v = []) :
    t.videoForward p part v = t := by
  unfold State.videoForward
  rw [show t.forwardTo p part _ _ = [] from h.videoPorts.trans none]
  rfl

/-- A packet that only counts. -/
theorem runs_counts {k : Fin 3} {f : Fld} (live : s.live) (active : s.linkActive k = true) (ok : f.ok)
    (h : ∀ rd, (s.heard rd).videoIn k v = (s.heard rd).incSat f) : Runs (.videoPacketReceive k v) s fun t =>
      t.fld f = min f.max (s.fld f + 1) ∧ OnlyFields [f] s t ∧
      t = { s with regs := t.regs, lnk := { s.lnk with rxRd := t.lnk.rxRd } } := by
  refine runs_video live active fun rd => ?_
  rw [h rd]
  exact ⟨State.fld_incSat_same (s := s.heard rd) ok, onlyFields_incSat (s := s.heard rd) ok, rfl⟩

/-! ### What a check finds -/

section
variable {here : List Nat} {room : Bool}

theorem State.videoChecked_aborted (e : v.ending = .abort) :
    s.videoChecked p here room v = s.incSat (F.LNK_Px_PKT_ABTRX p) := by
  unfold State.videoChecked
  rw [e]
  rfl

variable (e : v.ending = .good)
include e

theorem State.videoChecked_unframed (hf : v.framed = false) :
    s.videoChecked p here room v = s.incSat (F.LNK_Px_PKT_LENERR p) := by
  unfold State.videoChecked
  rw [if_neg (not_not_intro e), hf]
  rfl

theorem State.videoChecked_wrongCrc (hf : v.framed = true) (hc : v.crcOk = false) :
    s.videoChecked p here room v = s.incSat (F.LNK_Px_PKT_CRCERR p) := by
  unfold State.videoChecked
  rw [if_neg (not_not_intro e), hf, hc]
  rfl

theorem State.videoChecked_sound (hf : v.framed = true) (hc : v.crcOk = true) :
    s.videoChecked p here room v = if room then (s.sinceUp p).rxEnter p here v else s.sinceUp p := by
  unfold State.videoChecked
  rw [if_neg (not_not_intro e), hf, hc]
  rfl

end

/-- The fields that count what is wrong with a packet. -/
theorem packetCounter_ok {f : Fld} (h : f ∈ packetCounters p) : f.ok := by
  simp only [List.mem_cons, List.not_mem_nil, or_false] at h
  rcases h with rfl | rfl | rfl | rfl | rfl
  · exact Fld.ok_mk (by decide)
  · exact Fld.ok_mk (by decide)
  · exact Fld.ok_mk (by decide)
  · exact Fld.ok_mk (by decide)
  · decide

/-- A packet that is found wrong, with room in the receive queue and no port to forward to. -/
theorem runs_found {k : Fin 3} {f : Fld} (live : s.live) (active : s.linkActive k = true) (lane : v.startLane = 0)
    (stays : s.lnk.revert = none) (u : Tab.lst s.lnk.rxVideo 0 = []) (b : Tab.lst s.lnk.rxVideo 2 = [])
    (none : s.videoPorts k (s.upPart k v.age) v = []) (room : s.rxHadRoom k v.age = true) (hf : f ∈ packetCounters k)
    (found : ∀ (t : State) (here : List Nat), t.videoChecked k here true v = t.incSat f) :
    Runs (.videoPacketReceive k v) s fun t => t.fld f = min f.max (s.fld f + 1) ∧ OnlyFields [f] s t ∧
      t = { s with regs := t.regs, lnk := { s.lnk with rxRd := t.lnk.rxRd } } := by
  refine runs_counts live active (packetCounter_ok hf) fun rd => ?_
  have route : SameRoute (s.heard rd) ((s.heard rd).incSat f) := ((Counting.refl _).incSat (packetCounter_ok hf) hf).route k.isLt
  have room' : (s.heard rd).rxHadRoom k v.age = true := room
  have idle : (s.heard rd).writerTakeAll = s.heard rd := State.writerTakeAll_empty u b
  rw [State.videoIn_eq (s := s.heard rd) lane stays idle, room', Bool.not_true, if_neg fun h => Bool.false_ne_true h.1, found]
  exact route.forwardsNone none

/-! ### A good packet for the slots -/

/-- A good packet that enters its receive queue, with no port to forward to. -/
theorem State.videoIn_enters (lane : v.startLane = 0) (stays : s.lnk.revert = none) (u : Tab.lst s.lnk.rxVideo 0 = [])
    (b : Tab.lst s.lnk.rxVideo 2 = []) (none : s.videoPorts p (s.upPart p v.age) v = [])
    (room : s.rxHadRoom p v.age = true) (e : v.ending = .good) (hf : v.framed = true) (hc : v.crcOk = true)
    (here : s.slotPorts p (s.upPart p v.age) = [q]) (ht : (s.sinceUp p).rxEnter p [q] v = t) (route : SameRoute s t) :
    s.videoIn p v = t := by
  have idle : s.writerTakeAll = s := State.writerTakeAll_empty u b
  rw [State.videoIn_eq lane stays idle, room, Bool.not_true, if_neg fun h => Bool.false_ne_true h.1,
    State.videoChecked_sound e hf hc, if_pos rfl, here, ht]
  exact route.forwardsNone none

/-- Port D is no upstream. -/
theorem State.upPart_down {age : Nat} : s.upPart 1 age ≠ .taken := by
  have named : ¬ (s.isUp 1 && s.upstream == some 1) = true := Bool.false_ne_true
  unfold State.upPart
  dsimp only
  split
  · rw [if_neg named]
    decide
  · rw [if_neg named, if_neg named]
    split
    · decide
    · split
      · decide
      · decide

/-- Slots take packets of U and B. -/
theorem State.slotPorts_up {age : Nat} (hp : p < 3) (here : s.slotPorts p (s.upPart p age) = [q]) : p = 0 ∨ p = 2 := by
  match p, hp with
  | 0, _ => exact .inl rfl
  | 2, _ => exact .inr rfl
  | 1, _ =>
    have none : s.slotPorts 1 (s.upPart 1 age) = [] := by
      unfold State.slotPorts
      rw [if_neg State.upPart_down]
      rfl
    rw [none] at here
    cases here

theorem State.sinceUp_eq : ∃ since, s.sinceUp p = { s with lnk := { s.lnk with bSince := since } } := by
  unfold State.sinceUp
  split
  · exact ⟨s.lnk.bSince, rfl⟩
  · exact ⟨_, rfl⟩

theorem State.toSlots_one {k : Nat} (slot : s.slotOf q v.streamId.toNat = some k) : s.toSlots p [q] v =
    if s.fld (F.LAY_Wm_CTRL_FORMAT k) ≠ v.fmt.toNat % 16 then s.incSat (F.LNK_Px_PKT_FMTERR p)
    else s.inputPacket k v.fseq.toNat (v.line.toNat % 8192) v.pixels v.payload := by
  show (match s.slotOf q v.streamId.toNat with
    | none => s
    | some m => _) = _
  rw [slot]

theorem State.slotOf_lt {k n port : Nat} (slot : s.slotOf port n = some k) : k < 8 :=
  List.mem_range.1 (List.mem_of_find?_eq_some slot)

section
variable {k : Fin 3} (live : s.live) (active : s.linkActive k = true) (lane : v.startLane = 0)
  (stays : s.lnk.revert = none) (u : Tab.lst s.lnk.rxVideo 0 = []) (b : Tab.lst s.lnk.rxVideo 2 = [])
  (none : s.videoPorts k (s.upPart k v.age) v = []) (room : s.rxHadRoom k v.age = true) (e : v.ending = .good)
  (hf : v.framed = true) (hc : v.crcOk = true) (here : s.slotPorts k (s.upPart k v.age) = [q])
include live active lane stays u b none room e hf hc here

/-- While the input writer is stalled, a good packet waits. -/
theorem runs_waits (stalled : s.writerRuns = false) : Runs (.videoPacketReceive k v) s fun t =>
    Tab.lst t.lnk.rxVideo k = [([q], v)] ∧ t.mem = s.mem ∧ t.regs = s.regs ∧ Quiet s t := by
  refine runs_video live active fun rd => ?_
  obtain ⟨since, hs⟩ := State.sinceUp_eq (s := s.heard rd) (p := k)
  have waits : ((s.heard rd).sinceUp k).rxEnter k [q] v = ((s.heard rd).sinceUp k).rxWaits k [q] v := by
    rw [hs]
    exact State.rxEnter_stalled stalled
  have empty : Tab.lst s.lnk.rxVideo k = [] := by
    rcases State.slotPorts_up k.isLt here with h | h
    · rw [h]
      exact u
    · rw [h]
      exact b
  have frame : ((s.heard rd).sinceUp k).rxWaits k [q] v = { s with lnk := (((s.heard rd).sinceUp k).rxWaits k [q] v).lnk } ∧
      (((s.heard rd).sinceUp k).rxWaits k [q] v).lnk.ports = s.lnk.ports ∧
      Tab.lst (((s.heard rd).sinceUp k).rxWaits k [q] v).lnk.rxVideo k = [([q], v)] := by
    rw [hs]
    refine ⟨rfl, rfl, ?_⟩
    show Tab.lst (Tab.setLst s.lnk.rxVideo k (Tab.lst s.lnk.rxVideo k ++ [([q], v)])) k = _
    rw [Tab.lst_setLst_same, empty, List.nil_append]
  obtain ⟨frame, ports, waiting⟩ := frame
  generalize ((s.heard rd).sinceUp k).rxWaits k [q] v = t at *
  have route : SameRoute (s.heard rd) t := ⟨fun a _ => by rw [frame]; rfl, ports⟩
  rw [State.videoIn_enters (s := s.heard rd) lane stays u b none room e hf hc here waits route]
  exact ⟨waiting, by rw [frame], by rw [frame], fun j => by rw [frame]; rfl⟩

/-- While the input writer runs, a good packet goes from its receive queue to the slots of its port. -/
theorem runs_taken (runs : s.writerRuns = true)
    (h : ∀ l : LinkState, Tab.lst l.rxVideo k = [] → l.ports = s.lnk.ports →
      ∃ t, State.toSlots { s with lnk := l } k [q] v = t ∧ t.lnk = l ∧ SameRoute s t ∧ P t) :
    Runs (.videoPacketReceive k v) s P := by
  refine runs_video live active fun rd => ?_
  obtain ⟨since, hs⟩ := State.sinceUp_eq (s := s.heard rd) (p := k)
  have up := State.slotPorts_up k.isLt here
  have frame : ((s.heard rd).sinceUp k).rxTaken k [q] v = { s with lnk := (((s.heard rd).sinceUp k).rxTaken k [q] v).lnk } ∧
      (((s.heard rd).sinceUp k).rxTaken k [q] v).lnk.ports = s.lnk.ports := by
    rw [hs]
    exact ⟨rfl, rfl⟩
  obtain ⟨frame, ports⟩ := frame
  obtain ⟨t, slots, lnk, route, done⟩ := h (((s.heard rd).sinceUp k).rxTaken k [q] v).lnk State.rxTaken_own ports
  rw [← frame] at slots
  have enters : ((s.heard rd).sinceUp k).rxEnter k [q] v = t := by
    rw [← slots]
    refine State.rxEnter_runs up ?_ ?_ ?_ (by rw [slots, lnk])
    · rw [hs]
      exact u
    · rw [hs]
      exact b
    · rw [hs]
      exact runs
  rw [State.videoIn_enters (s := s.heard rd) lane stays u b none room e hf hc here enters ⟨route.reg, route.ports⟩]
  exact done

/-- A packet in another format than its slot's counts. -/
theorem runs_otherFormat (runs : s.writerRuns = true) (slot : s.slotOf q v.streamId.toNat = some m)
    (other : s.fld (F.LAY_Wm_CTRL_FORMAT m) ≠ v.fmt.toNat % 16) : Runs (.videoPacketReceive k v) s fun t =>
    t.fld (F.LNK_Px_PKT_FMTERR k) = min (F.LNK_Px_PKT_FMTERR k).max (s.fld (F.LNK_Px_PKT_FMTERR k) + 1) ∧
    OnlyFields [F.LNK_Px_PKT_FMTERR k] s t ∧ t.mem = s.mem ∧ t.pix = s.pix ∧ Quiet s t := by
  refine runs_taken live active lane stays u b none room e hf hc here runs fun l _ ports => ?_
  have ok : (F.LNK_Px_PKT_FMTERR k).ok := Fld.ok_mk (by decide)
  have counts : State.toSlots { s with lnk := l } k [q] v = State.incSat { s with lnk := l } (F.LNK_Px_PKT_FMTERR k) :=
    (State.toSlots_one (s := { s with lnk := l }) slot).trans (if_pos other)
  have counted := State.fld_incSat_same (s := { s with lnk := l }) ok
  have only := onlyFields_incSat (s := { s with lnk := l }) ok
  have mem := State.incSat_mem (s := { s with lnk := l }) (F.LNK_Px_PKT_FMTERR k)
  have pix := State.incSat_pix (s := { s with lnk := l }) (F.LNK_Px_PKT_FMTERR k)
  have lnk := State.incSat_lnk (s := { s with lnk := l }) (F.LNK_Px_PKT_FMTERR k)
  have flt := State.incSat_flt (s := { s with lnk := l }) (F.LNK_Px_PKT_FMTERR k)
  rw [counts]
  generalize State.incSat { s with lnk := l } (F.LNK_Px_PKT_FMTERR k) = t at *
  have route : SameRoute s t :=
    ⟨fun a ha => only.reg (List.forall_mem_singleton.2 (ha.2 k k.isLt).1.symm), by rw [lnk]; exact ports⟩
  exact ⟨t, rfl, lnk, route, counted, only, mem, pix, fun _ => State.events_of_flt flt⟩

/-- The next line of the frame that its slot receives is stored. -/
theorem runs_stored {f : InFrame} {line y : Nat} (runs : s.writerRuns = true) (slot : s.slotOf q v.streamId.toNat = some m)
    (format : s.fld (F.LAY_Wm_CTRL_FORMAT m) = v.fmt.toNat % 16) (frame : Tab.opt s.pix.inFrame m = some f)
    (same : f.seq = v.fseq.toNat) (running : f.ended = false) (buffer : f.buf = some line) (hy : y = v.line.toNat % 8192)
    (fits : y < s.slotH m) (wide : v.pixels ≤ s.slotW m) (quiet : s.unheard m) : Runs (.videoPacketReceive k v) s fun t =>
    t.mem = (s.writeFlat (9 + m) (s.lineBase m line y) (storedBytes (v.fmt.toNat % 16) v.pixels v.payload)).mem ∧
    Tab.lst t.lnk.rxVideo k = [] ∧ LineTold s m line y { f with lines := Tab.setOn f.lines y true } t := by
  refine runs_taken live active lane stays u b none room e hf hc here runs fun l empty ports => ?_
  have goes : State.toSlots { s with lnk := l } k [q] v =
      State.inputPacket { s with lnk := l } m v.fseq.toNat y v.pixels v.payload := by
    rw [hy]
    exact (State.toSlots_one (s := { s with lnk := l }) slot).trans (if_neg (not_not_intro format))
  obtain ⟨told, mem, lnk⟩ := State.inputPacket_spec (State.slotOf_lt slot) (l := l) (payload := v.payload) frame same running
    buffer fits wide quiet (by rw [format]) rfl
  rw [goes]
  generalize State.inputPacket { s with lnk := l } m v.fseq.toNat y v.pixels v.payload = t at *
  exact ⟨t, rfl, lnk, ⟨fun a ha => told.links a ha.1, by rw [lnk, ports]⟩, mem, by rw [lnk, empty], told⟩

end

/-! ### A packet for no slot, or for none with room -/

theorem State.rxEnter_none : s.rxEnter p [] v = s := if_pos rfl

theorem Counting.sinceUp (h : Counting p s t) : Counting p s (t.sinceUp p) := by
  obtain ⟨since, hs⟩ := State.sinceUp_eq (s := t) (p := p)
  rw [hs]
  exact h.frame

theorem State.sinceUp_queues : (s.sinceUp p).lnk.queues = s.lnk.queues := by
  obtain ⟨since, hs⟩ := State.sinceUp_eq (s := s) (p := p)
  rw [hs]

theorem State.sinceUp_regs : (s.sinceUp p).regs = s.regs := by
  obtain ⟨since, hs⟩ := State.sinceUp_eq (s := s) (p := p)
  rw [hs]

/-- A good packet that enters no receive queue. -/
theorem State.videoChecked_passes {here : List Nat} {room : Bool} (nowhere : here = [] ∨ room = false)
    (e : v.ending = .good) (hf : v.framed = true) (hc : v.crcOk = true) : s.videoChecked p here room v = s.sinceUp p := by
  rw [State.videoChecked_sound e hf hc]
  rcases nowhere with rfl | rfl
  · rw [State.rxEnter_none, ite_self]
  · exact if_neg Bool.false_ne_true

/-- The check of a packet that enters no receive queue counts what is wrong. -/
theorem State.videoChecked_counts {here : List Nat} {room : Bool} (nowhere : here = [] ∨ room = false)
    (e : v.ending = .abort ∨ v.ending = .good) : Counting p s (s.videoChecked p here room v) ∧
      (s.videoChecked p here room v).lnk.queues = s.lnk.queues := by
  have counts {f : Fld} (hf : f ∈ packetCounters p) : Counting p s (s.incSat f) ∧ (s.incSat f).lnk.queues = s.lnk.queues :=
    ⟨(Counting.refl s).incSat (packetCounter_ok hf) hf, by rw [State.incSat_lnk]⟩
  rcases e with e | e
  · rw [State.videoChecked_aborted e]
    exact counts (by simp)
  · cases hf : v.framed with
    | false =>
      rw [State.videoChecked_unframed e hf]
      exact counts (by simp)
    | true =>
      cases hc : v.crcOk with
      | false =>
        rw [State.videoChecked_wrongCrc e hf hc]
        exact counts (by simp)
      | true =>
        rw [State.videoChecked_passes nowhere e hf hc]
        exact ⟨(Counting.refl s).sinceUp, State.sinceUp_queues⟩

theorem Counting.videoForward {part : UpPart} (h : Counting p s t) : Counting p s (t.videoForward p part v) := h.forwardAll

/-- What a packet adds to the queues of the ports that it is forwarded to. -/
theorem State.videoForward_queues {part : UpPart} {d : Nat} (hp : p < 3) (h : Counting p s t)
    (queues : t.lnk.queues = s.lnk.queues) (hd : d ∈ s.videoPorts p part v) :
    Tab.lst (t.videoForward p part v).lnk.queues (forwardQueue p d) = Tab.lst s.lnk.queues (forwardQueue p d) ++
      s.forwarded p v.age false (soundVideo v && part != .cut) v.wire d := by
  obtain ⟨ports, distinct⟩ := forwardQueues_apart _ (State.forwardTo_mem (s := s)) ⟨p, hp⟩
  have same : t.videoForward p part v =
      t.forwardAll p v.age (s.videoPorts p part v) false (soundVideo v && part != .cut) v.wire :=
    congrArg (t.forwardAll p v.age · false (soundVideo v && part != .cut) v.wire) (h.route hp).videoPorts
  rw [same, State.forwardAll_same hp ports distinct hd, queues, h.forwarded hp (ports d hd) (by rw [queues])]

section
variable (hp : p < 3) (lane : v.startLane = 0) (stays : s.lnk.revert = none)
include hp lane stays

/-- A packet for no slot is counted where it is wrong, and forwarded. -/
theorem State.videoIn_passes (idle : s.writerTakeAll = s) (here : s.slotPorts p (s.upPart p v.age) = [])
    (e : v.ending = .abort ∨ v.ending = .good) : Counting p s (s.videoIn p v) ∧
    ∀ d ∈ s.videoPorts p (s.upPart p v.age) v, Tab.lst (s.videoIn p v).lnk.queues (forwardQueue p d) =
      Tab.lst s.lnk.queues (forwardQueue p d) ++
        s.forwarded p v.age false (soundVideo v && s.upPart p v.age != .cut) v.wire d := by
  obtain ⟨counts, queues⟩ := State.videoChecked_counts (s := s) (p := p) (room := s.rxHadRoom p v.age) (.inl rfl) e
  rw [State.videoIn_eq lane stays idle, here, if_neg fun h => h.2 rfl]
  exact ⟨counts.videoForward, fun d hd => State.videoForward_queues hp counts queues hd⟩

/-- A good packet for no slot whose one queue had no room counts in FWDDROP. -/
theorem State.videoIn_dropped {d : Nat} (idle : s.writerTakeAll = s) (here : s.slotPorts p (s.upPart p v.age) = [])
    (e : v.ending = .good) (hf : v.framed = true) (hc : v.crcOk = true) (goes : s.upPart p v.age ≠ .cut)
    (one : s.videoPorts p (s.upPart p v.age) v = [d]) (full : ¬ s.hadRoom (forwardQueue p d) v.age) :
    (s.videoIn p v).fld (F.LNK_Px_DROP_FWDDROP p) =
      min (F.LNK_Px_DROP_FWDDROP p).max (s.fld (F.LNK_Px_DROP_FWDDROP p) + 1) := by
  have counts : Counting p s (s.sinceUp p) := (Counting.refl s).sinceUp
  have full' : ¬ (s.sinceUp p).hadRoom (forwardQueue p d) v.age := by
    rwa [counts.hadRoom (by rw [State.sinceUp_queues])]
  have sound := soundVideo_goes e hf hc goes
  rw [State.videoIn_eq lane stays idle, here, if_neg fun h => h.2 rfl, State.videoChecked_passes (.inl rfl) e hf hc]
  have step : (s.sinceUp p).videoForward p (s.upPart p v.age) v = (s.sinceUp p).forward p d v.age ⟨false, v.wire, false⟩ := by
    unfold State.videoForward
    rw [show (s.sinceUp p).forwardTo p (s.upPart p v.age) _ _ = [d] from (counts.route hp).videoPorts.trans one, sound,
      State.forwardAll_one]
  rw [step, State.forward_dropped hp full', State.fld_congr State.sinceUp_regs]

/-- A packet for the slots without room in its receive queue counts in RXDROP. -/
theorem State.videoIn_rxDropped (stalled : s.writerRuns = false) (full : s.rxHadRoom p v.age = false)
    (here : s.slotPorts p (s.upPart p v.age) ≠ []) (e : v.ending = .good) : (s.videoIn p v).mem = s.mem ∧
    (s.videoIn p v).fld (F.LNK_Px_DROP_RXDROP p) =
      min (F.LNK_Px_DROP_RXDROP p).max (s.fld (F.LNK_Px_DROP_RXDROP p) + 1) ∧
    (s.videoIn p v).lnk.rxVideo = s.lnk.rxVideo := by
  have ok : (F.LNK_Px_DROP_RXDROP p).ok := Fld.ok_mk (by decide)
  have counted := State.fld_incSat_same (s := s) ok
  have mem := State.incSat_mem (s := s) (F.LNK_Px_DROP_RXDROP p)
  have lnk := State.incSat_lnk (s := s) (F.LNK_Px_DROP_RXDROP p)
  rw [State.videoIn_eq lane stays (State.writerTakeAll_stalled stalled), full, Bool.not_false, if_pos ⟨rfl, here⟩,
    State.rxDropped]
  generalize s.incSat (F.LNK_Px_DROP_RXDROP p) = w at *
  have dropped : Counting p w (w.dropEvent p) := (Counting.refl w).dropEvent
  have all := dropped.trans ((State.videoChecked_counts (s := w.dropEvent p)
    (here := s.slotPorts p (s.upPart p v.age)) (.inr rfl) (.inr e)).1.videoForward (part := s.upPart p v.age) (v := v))
  refine ⟨all.mem.trans mem, (all.fields _ ok fun f hf => ?_).trans counted, all.rxVideo.trans (by rw [lnk])⟩
  simp only [List.mem_cons, List.not_mem_nil, or_false] at hf
  rcases hf with rfl | rfl | rfl | rfl | rfl
  · exact .inl (by show 0x5010c + 0x40 * p ≠ 0x50110 + 0x40 * p; omega)
  · exact .inl (by show 0x5010c + 0x40 * p ≠ 0x50110 + 0x40 * p; omega)
  · exact .inl (by show 0x5010c + 0x40 * p ≠ 0x50110 + 0x40 * p; omega)
  · exact Fld.apart_mk (by decide)
  · exact lostOcc_apart hp

end

/-! ## The obligation -/

/-- Settles O21: a packet goes through the check, the receive queue, its slots and the forwarding, each of which keeps what
the others go by. -/
theorem video_PacketsStoredOrCounted : Obligations.Video_PacketsStoredOrCounted := by
  intro s p v live Heard Counts part dsts room
  refine ⟨fun down => ?_, fun active misplaced => ?_, fun active lane stays stalled full here e => ?_,
    fun active lane stays u b none roomy => ?_,
    fun active lane stays u b here => ⟨fun e hf hc goes => ?_, fun failing => ?_⟩⟩
  · exact runs_unchanged (op := (·.video p v)) live rfl (by rw [State.video, down, if_neg Bool.false_ne_true])
  · exact runs_counts live active (Fld.ok_mk (by decide)) fun rd => State.videoIn_misplaced misplaced
  · exact runs_video live active fun rd => State.videoIn_rxDropped (s := s.heard rd) p.isLt lane stays stalled
      (decide_eq_false (Nat.not_le_of_lt full)) here e
  · have roomy : s.rxHadRoom p v.age = true := decide_eq_true roomy
    refine ⟨fun e => ?_, fun e hf => ?_, fun e hf hc => ?_, fun q e hf hc here => ?_⟩
    · exact runs_found live active lane stays u b none roomy (by simp) fun _ _ => State.videoChecked_aborted e
    · exact runs_found live active lane stays u b none roomy (by simp) fun _ _ => State.videoChecked_unframed e hf
    · exact runs_found live active lane stays u b none roomy (by simp) fun _ _ => State.videoChecked_wrongCrc e hf hc
    · refine ⟨fun stalled => runs_waits live active lane stays u b none roomy e hf hc here stalled,
        fun m runs slot other => runs_otherFormat live active lane stays u b none roomy e hf hc here runs slot other,
        fun m line y f lines runs slot format frame same running buffer hy hlines fits wide quiet => ?_⟩
      subst hlines
      obtain ⟨t, does, mem, taken, told⟩ := runs_stored live active lane stays u b none roomy e hf hc here runs slot format frame
        same running buffer hy fits wide quiet
      refine ⟨t, does, mem, told.frame, taken, fun pub hpub => ?_, told.torn⟩
      subst hpub
      exact ⟨told.told.count, told.told.shown, told.told.kept⟩
  · refine runs_video live active fun rd => ?_
    have idle : (s.heard rd).writerTakeAll = s.heard rd := State.writerTakeAll_empty u b
    obtain ⟨counts, queues⟩ := State.videoIn_passes (s := s.heard rd) p.isLt lane stays idle here (.inr e)
    refine ⟨fun d hd => ?_, fun d one full =>
      State.videoIn_dropped (s := s.heard rd) p.isLt lane stays idle here e hf hc goes one full, counts.mem, counts.pix⟩
    have queue := queues d hd
    rw [show (soundVideo v && (s.heard rd).upPart p v.age != .cut) = true from soundVideo_goes e hf hc goes,
      State.forwarded_good] at queue
    exact queue
  · refine runs_video live active fun rd => ?_
    have idle : (s.heard rd).writerTakeAll = s.heard rd := State.writerTakeAll_empty u b
    obtain ⟨counts, queues⟩ := State.videoIn_passes (s := s.heard rd) p.isLt lane stays idle here (failing.imp_right And.left)
    refine ⟨fun d hd => ?_, counts.mem, counts.pix⟩
    have queue := queues d hd
    rw [show (soundVideo v && (s.heard rd).upPart p v.age != .cut) = false from soundVideo_fails failing,
      State.forwarded_failing] at queue
    exact queue

end Sys2Proof.Machine
end
